-- ==== Sys2Proof/Word.lean ====
section
/-! DEFINITION. The word types of the KV7316 and their plainest arithmetic. Bit vectors are used for what the manual
treats as bits: register words, addresses, counters that wrap, fields of records (R8, R9, R11). -/

namespace Sys2Proof

/-- One byte. -/
abbrev Byte := BitVec 8

/-- A 16-bit word. -/
abbrev W16 := BitVec 16

/-- A 32-bit word: a register, a mesh address, an argument word. -/
abbrev W32 := BitVec 32

/-- A 64-bit word: an EUI-64, a host address, Ephemeris nanoseconds. -/
abbrev W64 := BitVec 64

/-- A 32-bit counter that wraps (R74, R176, R210, R263, R292, R317, R350, R376, R402, R429, R459). -/
abbrev Ctr := BitVec 32

/-- A fixed-length row of wrapping counters, in the order of its table. -/
abbrev Ctrs := List Ctr

/-- A sparse table: pairs of a key and a value, keys strictly rising. -/
abbrev SMap (α : Type) := List (Nat × α)

end Sys2Proof
end

