-- ==== Sys2Proof/Syntax.lean ====
section
/-! DEFINITION. The commands the KV7316 takes: the host's commands, the host's and the manager's accesses, and the events of
the radio, the air, the links, the pins and time, one constructor for each row of the table; and the data they carry. -/

namespace Sys2Proof

/-- The three bands (R5): 0 A, 1 B, 2 C. -/
inductive Band where
  | bandA | bandB | bandC
deriving DecidableEq, Repr

/-- The two PCIe views (R6, R45): function 0 privileged, function 1 unprivileged. -/
inductive View where
  | priv | unpriv
deriving DecidableEq, Repr

/-- A session: one source of commands (R51). -/
inductive Session where
  /-- A view's mailbox (R52). -/
  | mbox (v : View)
  /-- A command channel of a view: 0 to 3 privileged, 0 to 11 unprivileged (R45). -/
  | chan (v : View) (n : Nat)
  /-- The SPI management target (R48, R49). -/
  | spi
deriving DecidableEq, Repr

/-- A ring register set of a view (R53, R54, R57). -/
inductive RingId where
  | event | chan (n : Nat) | rx (n : Nat) | tx (n : Nat) | ts
deriving DecidableEq, Repr

/-- A command entry of 64 bytes (R61), its session, and what the host's buffer at `buf_addr` holds. -/
structure CmdEntry where
  /-- The session that sends it (R51). -/
  session : Session
  /-- `command_word` (R69): tag[31:16], command[15:7], level[6], function[5:0]. -/
  word : W32
  /-- `length`: inline argument bytes. -/
  length : W16
  /-- `stage_id`: 0 for an immediate command. -/
  stageId : W16
  /-- `buf_addr`. -/
  bufAddr : W64
  /-- `buf_len`. -/
  bufLen : W32
  /-- The word at 0x14: reserved[31:1], `fence`[0]. -/
  ctl : W32
  /-- `args`: the 40 inline argument bytes, bit 0 the least significant bit of the first. -/
  args : BitVec 320
  /-- The bytes the part reads at `buf_addr` when the command uses the buffer for input (R62). -/
  buf : List Byte
deriving DecidableEq, Repr

/-- A buffer the host posts to a receive ring (R66). -/
structure PostedBuf where
  addr : W64
  len : W16
  /-- The reserved word at 0x0C. -/
  rsvd : W32
deriving DecidableEq, Repr

/-- The host's half of a transmit entry (R67): offsets 0x00 to 0x1F. -/
structure TxEntry where
  bufAddr : W64
  /-- The word at 0x08: reserved, `ts_req`[23], `ack_req`[22], `queue`[21:16], reserved[15:11], `length`[10:0]. -/
  ctl : W32
  destAddr : W32
  /-- The word at 0x10: `lifetime_ms`[31:16], `ts_id`[15:0]. -/
  life : W32
  /-- The 12 reserved bytes at 0x14. -/
  rsvd : BitVec 96
deriving DecidableEq, Repr

/-- The straps sampled at the rising edge of RESET_N (R543). -/
structure Straps where
  /-- BOOT_SRC[1:0]: 0 or 1; 2 and 3 are reserved and leave the part in BOOT. -/
  bootSrc : BitVec 2
  /-- UNIT_ID (R436). -/
  unitId : Bool
  /-- SPI_ONLY (R50). -/
  spiOnly : Bool
deriving DecidableEq, Repr

/-- The background calibrations of a transmit chain (R185), in row order. -/
inductive BgCal where
  | loIq | bias | dacOffset
deriving DecidableEq, Repr

/-- A PTP Sync with the Follow_Up it needs (R408, R417): ingress stamp t2, origin time t1 with corrections applied. -/
structure PtpSync where
  domain : Byte
  /-- The sender's port identity. -/
  sender : BitVec 80
  seqId : W16
  /-- Origin time of the Sync, from it or from its Follow_Up, corrections added. -/
  t1 : Int
  /-- Ingress stamp of the Sync (R416), before `eth_rx_ns` is subtracted. -/
  t2 : Int
  /-- Egress stamp of the Delay_Req the port answers it with, before `eth_tx_ns` is added. -/
  t3 : Int
  /-- A message R417 does not support: unicast negotiation, management, signalling, an authentication TLV. -/
  unsupported : Bool
deriving DecidableEq, Repr

/-- A PTP Announce (R417, R418): its dataset in the order the standard compares. -/
structure PtpAnnounce where
  domain : Byte
  sender : BitVec 80
  /-- priority1, clockClass, clockAccuracy, offsetScaledLogVariance, priority2, grandmaster identity, in this order. -/
  priority1 : Byte
  clockClass : Byte
  accuracy : Byte
  variance : W16
  priority2 : Byte
  gmIdentity : W64
  stepsRemoved : W16
  utcOffset : W16
  unsupported : Bool
deriving DecidableEq, Repr

/-- A PTP Delay_Resp (R408). -/
structure PtpDelayResp where
  domain : Byte
  sender : BitVec 80
  seqId : W16
  /-- Receive time of the Delay_Req at the master, corrections subtracted. -/
  t4 : Int
  unsupported : Bool
deriving DecidableEq, Repr

/-- A PTP Delay_Req that reaches a master port (R417). -/
structure PtpDelayReq where
  domain : Byte
  sender : BitVec 80
  seqId : W16
  /-- Ingress stamp of the Delay_Req, before `eth_rx_ns` is subtracted. -/
  ingress : Int
  unsupported : Bool
deriving DecidableEq, Repr

/-- The header of a pair-link message (R433) and whether its tag verifies (R434). -/
structure LinkHdr where
  seq : W32
  flags : Byte
  tagOk : Bool
deriving DecidableEq, Repr

/-- HELLO (R433, R440, R451). -/
structure HelloMsg where
  pairProto : W16
  stepping : Byte
  lifecycle : Byte
  unitId : Bool
  routerAddr : W32
  /-- Key check values: slot number and the 8 bytes of R451. -/
  kcvs : List (Nat × W64)
deriving DecidableEq, Repr

/-- A commit record (R445): `node_index`, `key_gen`, `mesh_addr`, the accepted counter, e and T. -/
structure CommitRec where
  node : Nat
  keyGen : Byte
  meshAddr : W32
  counter : W32
  /-- e of R236, nanoseconds. -/
  e : Int
  /-- T of R236, Ephemeris nanoseconds. -/
  t : W64
deriving DecidableEq, Repr

/-- A journal record (R288) with the full entry (R433). -/
structure JournalMsg where
  seq : W32
  kind : Byte
  index : Nat
  meshAddr : W32
  fromIndex : Nat
  entry : BitVec 512
deriving DecidableEq, Repr

/-- CONFIG (R433, R445): the effect of a completed command, a sealed stage, or an offer to a node. -/
inductive ConfigMsg where
  | command (e : CmdEntry)
  | sealedStage (id : Nat) (mask : W16) (mode : Nat) (point : Nat) (cmds : List CmdEntry)
  | offer (node : Nat) (payload : List Byte)
  | accepted (node : Nat)
deriving DecidableEq, Repr

/-- The epoch record (R372). -/
structure EpochRec where
  genCur : Byte
  epochCur : BitVec 12
  genPrev : Byte
  epochPrev : BitVec 12
deriving DecidableEq, Repr

/-- A piece of a bulk copy (R456). -/
inductive SyncPiece where
  /-- Step 2: occupied node-table entries by index. -/
  | entries (l : List (Nat × BitVec 512))
  /-- Step 3: a replicated setting, as the command that sets it. -/
  | setting (e : CmdEntry)
  /-- Step 4: a delta-log record: a journal record, a commit, a command's effect. -/
  | delta (r : JournalMsg)
  | deltaCommit (r : CommitRec)
  | deltaConfig (e : CmdEntry)
  /-- Step 5: the copy is complete. -/
  | done
deriving DecidableEq, Repr

/-- A block's answer to Tide's handshake (R465). -/
inductive BlockAnswer where
  | agree | delay | refuse
deriving DecidableEq, Repr

/-- The sensor readings of a telemetry record (R516). -/
structure Readings where
  pace : W16
  tempMaxQ : W16
  tempMinQ : W16
  vcoreMv : W16
  vaonMv : W16
deriving DecidableEq, Repr

/-- What RING_ENABLE brings: the word written to CTRL, and how many accesses to the ring's host memory succeed before one fails. -/
structure RingStart where
  ctrl : W32
  dma : Option Nat
deriving DecidableEq, Repr

/-- A frame on a busy context (R160): its power, 0.25 dBm, and the bytes of the reception under way so far, as received. -/
structure Overlap where
  rssiQ : Int
  bytes : List Byte
deriving DecidableEq, Repr

/-- A PHY header as received: the bits of a GFSK header, or the soft values of the signal symbol's four copies (R132). -/
structure HeaderHeard where
  hdr : BitVec 26
  soft : List Int
deriving DecidableEq, Repr

/-- A background calibration (R185) and the die temperature at it, 0.25 °C. -/
structure BgStart where
  which : BgCal
  tempQ : Int
deriving DecidableEq, Repr

/-- A work item (R379) as its producer writes it. -/
structure WorkItem where
  flowKey : W32
  kind : Byte
  prio : BitVec 3
  isAtomic : Bool
  arg : W64
deriving DecidableEq, Repr

/-- A FIFO of R384: shaping queue, ready list, deferred chain of a flow entry (numbered as in R386). -/
inductive FifoId where
  | shaping (q : Nat) | ready (p : Nat) | deferred (i : Nat)
deriving DecidableEq, Repr


/-- The host commands of the manual, one name per row of the command tables (R73, R87, R96, R100, R144, R177, R211, R264,
R291, R318, R349, R377, R403, R430, R460, R472, R490, R499, R519). -/
inductive CmdId where
  /-- `SYS_IDENTIFY` (R73). -/
  | sysIdentify
  /-- `SYS_GET_STATE` (R73). -/
  | sysGetState
  /-- `SYS_COUNTERS` (R74). -/
  | sysCounters
  /-- `SYS_PIN` (R72). -/
  | sysPin
  /-- `SYS_UNPIN` (R72). -/
  | sysUnpin
  /-- `SYS_PIN_QUERY` (R73). -/
  | sysPinQuery
  /-- `SYS_STAGE_OPEN` (R88). -/
  | sysStageOpen
  /-- `SYS_STAGE_CHECK` (R90). -/
  | sysStageCheck
  /-- `SYS_STAGE_COMMIT` (R91). -/
  | sysStageCommit
  /-- `SYS_STAGE_ABORT` (R94). -/
  | sysStageAbort
  /-- `SYS_STAGE_QUERY` (R554). -/
  | sysStageQuery
  /-- `SYS_FUNCTION_RESET` (R96). -/
  | sysFunctionReset
  /-- `SYS_QUIESCE` (R100). -/
  | sysQuiesce
  /-- `SYS_RESUME` (R100). -/
  | sysResume
  /-- `NODE_COUNTER_SNAPSHOT` (R100). -/
  | nodeCounterSnapshot
  /-- `NODE_COUNTER_RESTORE` (R102). -/
  | nodeCounterRestore
  /-- `NODE_COLD_CHALLENGE` (R100). -/
  | nodeColdChallenge
  /-- `AIR_PROFILE_LOAD` (R145). -/
  | airProfileLoad
  /-- `AIR_PROFILE_REMOVE` (R145). -/
  | airProfileRemove
  /-- `AIR_PROFILE_BIND` (R146). -/
  | airProfileBind
  /-- `AIR_PROFILE_QUERY` (R144). -/
  | airProfileQuery
  /-- `AIR_SET_ROUTER_ADDRESS` (R147). -/
  | airSetRouterAddress
  /-- `AIR_TONE_MAP_READ` (R144). -/
  | airToneMapRead
  /-- `AIR_SOUND` (R148). -/
  | airSound
  /-- `AIR_COUNTERS` (R144). -/
  | airCounters
  /-- `AIR_PROFILE_LOAD_RAW` (R145). -/
  | airProfileLoadRaw
  /-- `AIR_TONE_MAP_WRITE` (R148). -/
  | airToneMapWrite
  /-- `RADIO_WINDOW_SET` (R151). -/
  | radioWindowSet
  /-- `RADIO_WINDOW_QUERY` (R177). -/
  | radioWindowQuery
  /-- `RADIO_RX_COUNTERS` (R176). -/
  | radioRxCounters
  /-- `RADIO_CONTEXT_STATUS` (R156). -/
  | radioContextStatus
  /-- `RADIO_DIAG_RING` (R177). -/
  | radioDiagRing
  /-- `RADIO_SNAPSHOT_ARM` (R172). -/
  | radioSnapshotArm
  /-- `RADIO_SNAPSHOT_READ` (R178). -/
  | radioSnapshotRead
  /-- `RADIO_SNAPSHOT_RELEASE` (R178). -/
  | radioSnapshotRelease
  /-- `RADIO_WAKE_CONFIG` (R174). -/
  | radioWakeConfig
  /-- `RADIO_WAKE_STATUS` (R177). -/
  | radioWakeStatus
  /-- `RADIO_SYNC_TUNE` (R158). -/
  | radioSyncTune
  /-- `RADIO_CAPTURE_SET` (R161). -/
  | radioCaptureSet
  /-- `RADIO_AGC_SET` (R152). -/
  | radioAgcSet
  /-- `RADIO_RSSI_CAL` (R167). -/
  | radioRssiCal
  /-- `RADIO_RX_PATH_DELAY` (R168). -/
  | radioRxPathDelay
  /-- `RADIO_CONTEXT_RESERVE` (R178). -/
  | radioContextReserve
  /-- `RADIO_CONTEXT_RELEASE` (R177). -/
  | radioContextRelease
  /-- `RADIO_REGION_LOAD` (R201). -/
  | radioRegionLoad
  /-- `RADIO_REGION_REMOVE` (R201). -/
  | radioRegionRemove
  /-- `RADIO_REGION_BIND` (R201). -/
  | radioRegionBind
  /-- `RADIO_REGION_QUERY` (R213). -/
  | radioRegionQuery
  /-- `RADIO_BAND_ENABLE` (R204). -/
  | radioBandEnable
  /-- `RADIO_BAND_DISABLE` (R205). -/
  | radioBandDisable
  /-- `RADIO_BAND_STATUS` (R203). -/
  | radioBandStatus
  /-- `RADIO_TX_POWER_SET` (R180). -/
  | radioTxPowerSet
  /-- `RADIO_TX_COUNTERS` (R210). -/
  | radioTxCounters
  /-- `RADIO_COEX_CONFIG` (R197). -/
  | radioCoexConfig
  /-- `RADIO_TX_MODE_SET` (R182). -/
  | radioTxModeSet
  /-- `RADIO_TX_TIMING` (R211). -/
  | radioTxTiming
  /-- `RADIO_TX_PATH_DELAY` (R208). -/
  | radioTxPathDelay
  /-- `RADIO_FE_CONFIG` (R194). -/
  | radioFeConfig
  /-- `RADIO_TX_AT` (R212). -/
  | radioTxAt
  /-- `RADIO_TX_CAL_RUN` (R213). -/
  | radioTxCalRun
  /-- `ORBIT_START` (R217). -/
  | orbitStart
  /-- `ORBIT_STOP` (R218). -/
  | orbitStop
  /-- `ORBIT_STATUS` (R264). -/
  | orbitStatus
  /-- `ORBIT_FRAME_SET` (R215). -/
  | orbitFrameSet
  /-- `ORBIT_STAGE_CELLS` (R222). -/
  | orbitStageCells
  /-- `ORBIT_HOP_SET` (R219). -/
  | orbitHopSet
  /-- `ORBIT_PARENT_SET` (R253). -/
  | orbitParentSet
  /-- `ORBIT_CLASS_LOAD` (R224). -/
  | orbitClassLoad
  /-- `ORBIT_CLASS_REMOVE` (R265). -/
  | orbitClassRemove
  /-- `ORBIT_NODE_SCHEDULE` (R232). -/
  | orbitNodeSchedule
  /-- `ORBIT_NODE_STATUS` (R264). -/
  | orbitNodeStatus
  /-- `ORBIT_REPORT_SET` (R246). -/
  | orbitReportSet
  /-- `ORBIT_DWELL_STATUS` (R264). -/
  | orbitDwellStatus
  /-- `ORBIT_COUNTERS` (R263). -/
  | orbitCounters
  /-- `ORBIT_CLASS_LOAD_RAW` (R224). -/
  | orbitClassLoadRaw
  /-- `ORBIT_PREP_LEAD` (R43). -/
  | orbitPrepLead
  /-- `ORBIT_TIMING_SET` (R239). -/
  | orbitTimingSet
  /-- `ORBIT_DRIFT_SET` (R264). -/
  | orbitDriftSet
  /-- `NODE_ADD` (R291). -/
  | nodeAdd
  /-- `NODE_REMOVE` (R285). -/
  | nodeRemove
  /-- `NODE_READ` (R291). -/
  | nodeRead
  /-- `NODE_SET` (R291). -/
  | nodeSet
  /-- `NODE_TABLE_LOAD` (R291). -/
  | nodeTableLoad
  /-- `NODE_LEARN_SET` (R279). -/
  | nodeLearnSet
  /-- `NODE_AGE_SET` (R283). -/
  | nodeAgeSet
  /-- `NODE_SHADOW_SET` (R287). -/
  | nodeShadowSet
  /-- `NODE_JOURNAL_READ` (R288). -/
  | nodeJournalRead
  /-- `NODE_COUNTERS` (R292). -/
  | nodeCounters
  /-- `NODE_TABLE_STATUS` (R291). -/
  | nodeTableStatus
  /-- `NODE_HASH_SEED` (R291). -/
  | nodeHashSeed
  /-- `NODE_WRITE_RAW` (R291). -/
  | nodeWriteRaw
  /-- `NODE_SCRUB_SET` (R286). -/
  | nodeScrubSet
  /-- `ROUTE_ADD` (R311). -/
  | routeAdd
  /-- `ROUTE_REMOVE` (R319). -/
  | routeRemove
  /-- `ROUTE_LOOKUP` (R310). -/
  | routeLookup
  /-- `ROUTE_DEFAULT_SET` (R318). -/
  | routeDefaultSet
  /-- `ROUTE_MESH_SET` (R318). -/
  | routeMeshSet
  /-- `ROUTE_CONTEXT_SET` (R304). -/
  | routeContextSet
  /-- `ROUTE_NODE_SET` (R295). -/
  | routeNodeSet
  /-- `ROUTE_NODE_QUERY` (R294). -/
  | routeNodeQuery
  /-- `ROUTE_STATUS` (R311). -/
  | routeStatus
  /-- `ROUTE_COUNTERS` (R317). -/
  | routeCounters
  /-- `ROUTE_LOWPAN_SET` (R303). -/
  | routeLowpanSet
  /-- `ROUTE_TRIE_READ` (R310). -/
  | routeTrieRead
  /-- `ETH_PORT_CONFIG` (R318). -/
  | ethPortConfig
  /-- `ETH_PORT_STATUS` (R318). -/
  | ethPortStatus
  /-- `ETH_ADDR_SET` (R318). -/
  | ethAddrSet
  /-- `ETH_NEIGHBOUR_SET` (R314). -/
  | ethNeighbourSet
  /-- `ETH_HOST_SET` (R305). -/
  | ethHostSet
  /-- `ETH_COUNTERS` (R317). -/
  | ethCounters
  /-- `ETH_MAC_TUNE` (R318). -/
  | ethMacTune
  /-- `KEY_SLOT_QUERY` (R328). -/
  | keySlotQuery
  /-- `KEY_GENERATE` (R339). -/
  | keyGenerate
  /-- `KEY_BLOB_LOAD` (R325). -/
  | keyBlobLoad
  /-- `KEY_BLOB_EXPORT` (R340). -/
  | keyBlobExport
  /-- `KEY_REVOKE` (R336). -/
  | keyRevoke
  /-- `KEY_GEN_MAP` (R333). -/
  | keyGenMap
  /-- `KEY_GEN_QUERY` (R333). -/
  | keyGenQuery
  /-- `KEY_ATTEST` (R343). -/
  | keyAttest
  /-- `KEY_IDENTITY_GENERATE` (R342). -/
  | keyIdentityGenerate
  /-- `KEY_IDENTITY_READ` (R342). -/
  | keyIdentityRead
  /-- `KEY_LIFECYCLE_ADVANCE` (R321). -/
  | keyLifecycleAdvance
  /-- `KEY_TAMPER_STATUS` (R557). -/
  | keyTamperStatus
  /-- `KEY_TAMPER_CONFIG` (R345). -/
  | keyTamperConfig
  /-- `KEY_DEBUG_CHALLENGE` (R344). -/
  | keyDebugChallenge
  /-- `KEY_DEBUG_UNLOCK` (R344). -/
  | keyDebugUnlock
  /-- `KEY_COUNTERS` (R350). -/
  | keyCounters
  /-- `KEY_IMPORT_RAW` (R339). -/
  | keyImportRaw
  /-- `KEY_IMPORT_WRAPPED` (R339). -/
  | keyImportWrapped
  /-- `KEY_BLOB_WRAP_OUT` (R340). -/
  | keyBlobWrapOut
  /-- `KEY_KDF_VECTOR` (R332). -/
  | keyKdfVector
  /-- `KEY_SIGN` (R349). -/
  | keySign
  /-- `KEY_DEBUG_AUTH_SET` (R344). -/
  | keyDebugAuthSet
  /-- `CRYPT_STATUS` (R559). -/
  | cryptStatus
  /-- `CRYPT_COUNTERS` (R376). -/
  | cryptCounters
  /-- `CRYPT_ROUTER_EUI_SET` (R353). -/
  | cryptRouterEuiSet
  /-- `CRYPT_GEN_ROLL` (R373). -/
  | cryptGenRoll
  /-- `CRYPT_NODE_CHALLENGE` (R378). -/
  | cryptNodeChallenge
  /-- `CRYPT_RAW_BLOCK` (R367). -/
  | cryptRawBlock
  /-- `CRYPT_CUT_THROUGH_SET` (R360). -/
  | cryptCutThroughSet
  /-- `CRYPT_LANE_ASSIGN` (R364). -/
  | cryptLaneAssign
  /-- `CRYPT_CCM_VECTOR` (R377). -/
  | cryptCcmVector
  /-- `QUEUE_CONFIG` (R403). -/
  | queueConfig
  /-- `QUEUE_FLUSH` (R390). -/
  | queueFlush
  /-- `QUEUE_STATUS` (R403). -/
  | queueStatus
  /-- `QUEUE_OVERHEAD_SET` (R394). -/
  | queueOverheadSet
  /-- `QUEUE_GATE_SET` (R396). -/
  | queueGateSet
  /-- `QUEUE_SAMPLE_SET` (R397). -/
  | queueSampleSet
  /-- `QUEUE_SAMPLES_READ` (R397). -/
  | queueSamplesRead
  /-- `QUEUE_COUNTERS` (R402). -/
  | queueCounters
  /-- `QUEUE_FW_SET` (R387). -/
  | queueFwSet
  /-- `QUEUE_ARB_CLASS` (R400). -/
  | queueArbClass
  /-- `QUEUE_ARB_STARVE` (R400). -/
  | queueArbStarve
  /-- `QUEUE_WATCHDOG_SET` (R401). -/
  | queueWatchdogSet
  /-- `QUEUE_ARB_STATUS` (R403). -/
  | queueArbStatus
  /-- `QUEUE_WORK_STATUS` (R403). -/
  | queueWorkStatus
  /-- `TIME_STATUS` (R430). -/
  | timeStatus
  /-- `TIME_SET` (R411). -/
  | timeSet
  /-- `TIME_ADJUST` (R411). -/
  | timeAdjust
  /-- `TIME_SOURCE_SET` (R408). -/
  | timeSourceSet
  /-- `TIME_PTP_PORT` (R417). -/
  | timePtpPort
  /-- `TIME_PPS_CONFIG` (R424). -/
  | timePpsConfig
  /-- `TIME_PIN_CONFIG` (R420). -/
  | timePinConfig
  /-- `TIME_TRIGGER_CONFIG` (R423). -/
  | timeTriggerConfig
  /-- `TIME_CAPTURE_READ` (R422). -/
  | timeCaptureRead
  /-- `TIME_PARENT_DELAY` (R408). -/
  | timeParentDelay
  /-- `TIME_COUNTERS` (R429). -/
  | timeCounters
  /-- `TIME_SERVO_SET` (R410). -/
  | timeServoSet
  /-- `TIME_INCREMENT_SET` (R406). -/
  | timeIncrementSet
  /-- `TIME_UNC_CLEAR` (R427). -/
  | timeUncClear
  /-- `TIME_RTC_STATUS` (R425). -/
  | timeRtcStatus
  /-- `PAIR_CONFIG` (R461). -/
  | pairConfig
  /-- `PAIR_STATUS` (R558). -/
  | pairStatus
  /-- `PAIR_LOCAL_APPLY` (R461). -/
  | pairLocalApply
  /-- `PAIR_RELINQUISH` (R461). -/
  | pairRelinquish
  /-- `PAIR_COUNTERS` (R459). -/
  | pairCounters
  /-- `PAIR_FORCE_SOLO` (R461). -/
  | pairForceSolo
  /-- `PWR_POLICY_SET` (R464). -/
  | pwrPolicySet
  /-- `PWR_DOMAIN_SET` (R467). -/
  | pwrDomainSet
  /-- `PWR_STATUS` (R472). -/
  | pwrStatus
  /-- `PWR_REF_SET` (R470). -/
  | pwrRefSet
  /-- `PWR_BLOCK_QUERY` (R472). -/
  | pwrBlockQuery
  /-- `UPDATE_BEGIN` (R478). -/
  | updateBegin
  /-- `UPDATE_WRITE` (R479). -/
  | updateWrite
  /-- `UPDATE_VERIFY` (R480). -/
  | updateVerify
  /-- `UPDATE_ACTIVATE` (R481). -/
  | updateActivate
  /-- `UPDATE_CONFIRM` (R485). -/
  | updateConfirm
  /-- `UPDATE_REVERT` (R484). -/
  | updateRevert
  /-- `UPDATE_STATUS` (R490). -/
  | updateStatus
  /-- `CAMPAIGN_DEFINE` (R500). -/
  | campaignDefine
  /-- `CAMPAIGN_LOAD` (R500). -/
  | campaignLoad
  /-- `CAMPAIGN_TARGETS` (R500). -/
  | campaignTargets
  /-- `CAMPAIGN_START` (R500). -/
  | campaignStart
  /-- `CAMPAIGN_ACTIVATE` (R497). -/
  | campaignActivate
  /-- `CAMPAIGN_STOP` (R500). -/
  | campaignStop
  /-- `CAMPAIGN_STATUS` (R499). -/
  | campaignStatus
  /-- `CAMPAIGN_TARGET_READ` (R496). -/
  | campaignTargetRead
  /-- `CAMPAIGN_TUNE` (R495). -/
  | campaignTune
  /-- `TEST_LINK_START` (R503). -/
  | testLinkStart
  /-- `TEST_LINK_RESULT` (R504). -/
  | testLinkResult
  /-- `TEST_RADIO_START` (R505). -/
  | testRadioStart
  /-- `TEST_RADIO_RESULT` (R506). -/
  | testRadioResult
  /-- `TEST_STOP` (R502). -/
  | testStop
  /-- `TEST_STATUS` (R519). -/
  | testStatus
  /-- `TEST_TELEMETRY_READ` (R516). -/
  | testTelemetryRead
  /-- `TEST_TELEMETRY_SET` (R516). -/
  | testTelemetrySet
  /-- `TEST_WATCHDOG_SET` (R513). -/
  | testWatchdogSet
  /-- `TEST_FAULT_INJECT` (R518). -/
  | testFaultInject
deriving DecidableEq, Repr

/-- One constructor per row of the table of operations and events. A host command carries its command entry; an event
carries what the outside world presents with it. -/
inductive Instr where
  /-- `SYS_IDENTIFY` (R73): Returns the identity record inline; accepted in every part state. -/
  | sysIdentify (e : CmdEntry)
  /-- `SYS_GET_STATE` (R73): Returns the state record inline; accepted in every part state. -/
  | sysGetState (e : CmdEntry)
  /-- `SYS_COUNTERS` (R74): Returns the host-interface counters, optionally clearing them. -/
  | sysCounters (e : CmdEntry)
  /-- `SYS_PIN` (R72): Pins one command so that the unprivileged view is refused it. -/
  | sysPin (e : CmdEntry)
  /-- `SYS_UNPIN` (R72): Removes a pin. -/
  | sysUnpin (e : CmdEntry)
  /-- `SYS_PIN_QUERY` (R73): Returns up to 20 pin words inline. -/
  | sysPinQuery (e : CmdEntry)
  /-- `SYS_STAGE_OPEN` (R88): Creates a stage owned by the session and locks the functions in its mask. -/
  | sysStageOpen (e : CmdEntry)
  /-- `SYS_STAGE_CHECK` (R90): Validates all staged commands against a commit point. -/
  | sysStageCheck (e : CmdEntry)
  /-- `SYS_STAGE_COMMIT` (R91): Seals a checked stage and applies it now or at its point. -/
  | sysStageCommit (e : CmdEntry)
  /-- `SYS_STAGE_ABORT` (R94): Discards an open stage and releases its locks. -/
  | sysStageAbort (e : CmdEntry)
  /-- `SYS_STAGE_QUERY` (R554): Returns the stage record inline and renews the lease. -/
  | sysStageQuery (e : CmdEntry)
  /-- `SYS_FUNCTION_RESET` (R96): Resets one function, failing its in-flight commands and discarding stages that name it. -/
  | sysFunctionReset (e : CmdEntry)
  /-- `SYS_QUIESCE` (R100): Stops radio at the next slot boundary, computes the counter snapshot, writes the marker and enters QUIESCED. -/
  | sysQuiesce (e : CmdEntry)
  /-- `SYS_RESUME` (R100): Erases the snapshot marker and returns to RUN. -/
  | sysResume (e : CmdEntry)
  /-- `NODE_COUNTER_SNAPSHOT` (R100): Returns a byte range of the counter snapshot in QUIESCED. -/
  | nodeCounterSnapshot (e : CmdEntry)
  /-- `NODE_COUNTER_RESTORE` (R102): Takes one snapshot piece; on the last piece verifies it and enters RUN. -/
  | nodeCounterRestore (e : CmdEntry)
  /-- `NODE_COLD_CHALLENGE` (R100): Places every node under the cold-start challenge and enters RUN. -/
  | nodeColdChallenge (e : CmdEntry)
  /-- `AIR_PROFILE_LOAD` (R145): Loads an air profile with default sync word, tolerance and seed. -/
  | airProfileLoad (e : CmdEntry)
  /-- `AIR_PROFILE_REMOVE` (R145): Removes an unbound air profile. -/
  | airProfileRemove (e : CmdEntry)
  /-- `AIR_PROFILE_BIND` (R146): Binds an air profile to a band for beacon and join cells. -/
  | airProfileBind (e : CmdEntry)
  /-- `AIR_PROFILE_QUERY` (R144): Returns an air profile record in the buffer. -/
  | airProfileQuery (e : CmdEntry)
  /-- `AIR_SET_ROUTER_ADDRESS` (R147): Sets the router mesh address while every band is disabled. -/
  | airSetRouterAddress (e : CmdEntry)
  /-- `AIR_TONE_MAP_READ` (R144): Returns one 39-byte tone map of a node inline. -/
  | airToneMapRead (e : CmdEntry)
  /-- `AIR_SOUND` (R148): Requests sounding at the node's next contact and completes when the new receive map is active. -/
  | airSound (e : CmdEntry)
  /-- `AIR_COUNTERS` (R144): Returns the MAC-header and tone-map counters of a band. -/
  | airCounters (e : CmdEntry)
  /-- `AIR_PROFILE_LOAD_RAW` (R145): Loads an air profile with any sync word and tolerance meeting R107. -/
  | airProfileLoadRaw (e : CmdEntry)
  /-- `AIR_TONE_MAP_WRITE` (R148): Writes a tone map for a privileged node, at once or by offer at its next contact. -/
  | airToneMapWrite (e : CmdEntry)
  /-- `RADIO_WINDOW_SET` (R151): Moves a band's receive window, at once on a disabled band or at an ASN boundary. -/
  | radioWindowSet (e : CmdEntry)
  /-- `RADIO_WINDOW_QUERY` (R177): Returns the window centre in force and any pending centre. -/
  | radioWindowQuery (e : CmdEntry)
  /-- `RADIO_RX_COUNTERS` (R176): Returns the per-band receive counters. -/
  | radioRxCounters (e : CmdEntry)
  /-- `RADIO_CONTEXT_STATUS` (R156): Returns 16 bytes of state per demodulator context. -/
  | radioContextStatus (e : CmdEntry)
  /-- `RADIO_DIAG_RING` (R177): Names a band's diagnostic receive ring. -/
  | radioDiagRing (e : CmdEntry)
  /-- `RADIO_SNAPSHOT_ARM` (R172): Allocates free-pool units and arms a spectrum snapshot on a trigger. -/
  | radioSnapshotArm (e : CmdEntry)
  /-- `RADIO_SNAPSHOT_READ` (R178): Returns a byte range of a snapshot. -/
  | radioSnapshotRead (e : CmdEntry)
  /-- `RADIO_SNAPSHOT_RELEASE` (R178): Stops any capture and releases a snapshot's units. -/
  | radioSnapshotRelease (e : CmdEntry)
  /-- `RADIO_WAKE_CONFIG` (R174): Configures the wake receiver pattern, tolerance, frequency and domain mask. -/
  | radioWakeConfig (e : CmdEntry)
  /-- `RADIO_WAKE_STATUS` (R177): Returns wake receiver state and match count. -/
  | radioWakeStatus (e : CmdEntry)
  /-- `RADIO_SYNC_TUNE` (R158): Sets preamble qualification, sync RSSI minimum and OFDM detect threshold. -/
  | radioSyncTune (e : CmdEntry)
  /-- `RADIO_CAPTURE_SET` (R161): Sets capture policy, capture margin and carrier-drop threshold. -/
  | radioCaptureSet (e : CmdEntry)
  /-- `RADIO_AGC_SET` (R152): Sets AGC mode, fixed gain and release time. -/
  | radioAgcSet (e : CmdEntry)
  /-- `RADIO_RSSI_CAL` (R167): Sets the RSSI offset and external gain of a band. -/
  | radioRssiCal (e : CmdEntry)
  /-- `RADIO_RX_PATH_DELAY` (R168): Sets the receive path delay subtracted from time stamps. -/
  | radioRxPathDelay (e : CmdEntry)
  /-- `RADIO_CONTEXT_RESERVE` (R178): Reserves standing listener contexts on a channel and profile. -/
  | radioContextReserve (e : CmdEntry)
  /-- `RADIO_CONTEXT_RELEASE` (R177): Releases reserved contexts. -/
  | radioContextRelease (e : CmdEntry)
  /-- `RADIO_REGION_LOAD` (R201): Loads a region profile record. -/
  | radioRegionLoad (e : CmdEntry)
  /-- `RADIO_REGION_REMOVE` (R201): Removes an unbound region profile. -/
  | radioRegionRemove (e : CmdEntry)
  /-- `RADIO_REGION_BIND` (R201): Binds a region profile to a band. -/
  | radioRegionBind (e : CmdEntry)
  /-- `RADIO_REGION_QUERY` (R213): Returns a region profile record. -/
  | radioRegionQuery (e : CmdEntry)
  /-- `RADIO_BAND_ENABLE` (R204): Moves a band through PENDING_ON to ON at a slotframe boundary. -/
  | radioBandEnable (e : CmdEntry)
  /-- `RADIO_BAND_DISABLE` (R205): Moves a band to DRAINING at the next slot boundary and then OFF. -/
  | radioBandDisable (e : CmdEntry)
  /-- `RADIO_BAND_STATUS` (R203): Returns band state, LO channel and calibration ages. -/
  | radioBandStatus (e : CmdEntry)
  /-- `RADIO_TX_POWER_SET` (R180): Sets the band's drive level. -/
  | radioTxPowerSet (e : CmdEntry)
  /-- `RADIO_TX_COUNTERS` (R210): Returns the per-band transmit counters. -/
  | radioTxCounters (e : CmdEntry)
  /-- `RADIO_COEX_CONFIG` (R197): Configures coexistence enable, abort policy, lead and priority mask. -/
  | radioCoexConfig (e : CmdEntry)
  /-- `RADIO_TX_MODE_SET` (R182): Selects saturated or linear transmit mode. -/
  | radioTxModeSet (e : CmdEntry)
  /-- `RADIO_TX_TIMING` (R211): Sets ramp shape and time, PA lead and lag and late bound. -/
  | radioTxTiming (e : CmdEntry)
  /-- `RADIO_TX_PATH_DELAY` (R208): Sets the transmit path delay. -/
  | radioTxPathDelay (e : CmdEntry)
  /-- `RADIO_FE_CONFIG` (R194): Sets front-end line polarity and static LNA bypass. -/
  | radioFeConfig (e : CmdEntry)
  /-- `RADIO_TX_AT` (R212): Queues a direct unprotected PSDU launch at a given time. -/
  | radioTxAt (e : CmdEntry)
  /-- `RADIO_TX_CAL_RUN` (R213): Runs selected background calibrations in gaps. -/
  | radioTxCalRun (e : CmdEntry)
  /-- `ORBIT_START` (R217): Takes an anchor and starts the engine in free-running or follow mode. -/
  | orbitStart (e : CmdEntry)
  /-- `ORBIT_STOP` (R218): Returns the engine to IDLE with every band OFF. -/
  | orbitStop (e : CmdEntry)
  /-- `ORBIT_STATUS` (R264): Returns engine state, ASN, anchor and parent. -/
  | orbitStatus (e : CmdEntry)
  /-- `ORBIT_FRAME_SET` (R215): Sets slot and slotframe lengths, moving the anchor. -/
  | orbitFrameSet (e : CmdEntry)
  /-- `ORBIT_STAGE_CELLS` (R222): Replaces every cell of a band. -/
  | orbitStageCells (e : CmdEntry)
  /-- `ORBIT_HOP_SET` (R219): Sets a band's hopping sequence. -/
  | orbitHopSet (e : CmdEntry)
  /-- `ORBIT_PARENT_SET` (R253): Installs the list of time-parent candidates. -/
  | orbitParentSet (e : CmdEntry)
  /-- `ORBIT_CLASS_LOAD` (R224): Loads a tag class with default filter settings. -/
  | orbitClassLoad (e : CmdEntry)
  /-- `ORBIT_CLASS_REMOVE` (R265): Removes a tag class no node uses. -/
  | orbitClassRemove (e : CmdEntry)
  /-- `ORBIT_NODE_SCHEDULE` (R232): Sends a SCHEDULE_UPDATE to a node and completes on its acknowledgement. -/
  | orbitNodeSchedule (e : CmdEntry)
  /-- `ORBIT_NODE_STATUS` (R264): Returns a node's contact state with current guard and aim. -/
  | orbitNodeStatus (e : CmdEntry)
  /-- `ORBIT_REPORT_SET` (R246): Sets which rings receive FS_DUPLICATE entries. -/
  | orbitReportSet (e : CmdEntry)
  /-- `ORBIT_DWELL_STATUS` (R264): Returns a band's dwell accounts. -/
  | orbitDwellStatus (e : CmdEntry)
  /-- `ORBIT_COUNTERS` (R263): Returns the Orbit counters. -/
  | orbitCounters (e : CmdEntry)
  /-- `ORBIT_CLASS_LOAD_RAW` (R224): Loads a tag class with any filter settings. -/
  | orbitClassLoadRaw (e : CmdEntry)
  /-- `ORBIT_PREP_LEAD` (R43): Sets the slot preparation lead. -/
  | orbitPrepLead (e : CmdEntry)
  /-- `ORBIT_TIMING_SET` (R239): Sets minimum slack and the uncertainty threshold. -/
  | orbitTimingSet (e : CmdEntry)
  /-- `ORBIT_DRIFT_SET` (R264): Writes or restarts a node's drift estimate. -/
  | orbitDriftSet (e : CmdEntry)
  /-- `NODE_ADD` (R291): Inserts a node entry from the host and files it in the calendar. -/
  | nodeAdd (e : CmdEntry)
  /-- `NODE_REMOVE` (R285): Deletes a node entry, optionally flushing its frames. -/
  | nodeRemove (e : CmdEntry)
  /-- `NODE_READ` (R291): Returns node entries by index, address or EUI. -/
  | nodeRead (e : CmdEntry)
  /-- `NODE_SET` (R291): Writes rx_ring, atten_db or static under a mask. -/
  | nodeSet (e : CmdEntry)
  /-- `NODE_TABLE_LOAD` (R291): Installs a shadow image into an empty table or in COLD_WAIT. -/
  | nodeTableLoad (e : CmdEntry)
  /-- `NODE_LEARN_SET` (R279): Sets a port's learning budgets and policy. -/
  | nodeLearnSet (e : CmdEntry)
  /-- `NODE_AGE_SET` (R283): Sets the aging period. -/
  | nodeAgeSet (e : CmdEntry)
  /-- `NODE_SHADOW_SET` (R287): Enables the host shadow and compare, clearing journal overflow. -/
  | nodeShadowSet (e : CmdEntry)
  /-- `NODE_JOURNAL_READ` (R288): Returns journal records after a sequence and acknowledges earlier ones. -/
  | nodeJournalRead (e : CmdEntry)
  /-- `NODE_COUNTERS` (R292): Returns the node-table counters. -/
  | nodeCounters (e : CmdEntry)
  /-- `NODE_TABLE_STATUS` (R291): Returns table occupancy, tokens and journal state. -/
  | nodeTableStatus (e : CmdEntry)
  /-- `NODE_HASH_SEED` (R291): Sets the bucket hash seed while the table is empty. -/
  | nodeHashSeed (e : CmdEntry)
  /-- `NODE_WRITE_RAW` (R291): Writes a whole entry as given and journals it. -/
  | nodeWriteRaw (e : CmdEntry)
  /-- `NODE_SCRUB_SET` (R286): Sets the scrub period. -/
  | nodeScrubSet (e : CmdEntry)
  /-- `ROUTE_ADD` (R311): Adds a prefix route to the trie. -/
  | routeAdd (e : CmdEntry)
  /-- `ROUTE_REMOVE` (R319): Removes a prefix route. -/
  | routeRemove (e : CmdEntry)
  /-- `ROUTE_LOOKUP` (R310): Returns the trie result for a destination. -/
  | routeLookup (e : CmdEntry)
  /-- `ROUTE_DEFAULT_SET` (R318): Sets the default route action. -/
  | routeDefaultSet (e : CmdEntry)
  /-- `ROUTE_MESH_SET` (R318): Sets mesh prefix, router identifier and forwarding options. -/
  | routeMeshSet (e : CmdEntry)
  /-- `ROUTE_CONTEXT_SET` (R304): Sets a 6LoWPAN compression context. -/
  | routeContextSet (e : CmdEntry)
  /-- `ROUTE_NODE_SET` (R295): Sets a node's role and parent. -/
  | routeNodeSet (e : CmdEntry)
  /-- `ROUTE_NODE_QUERY` (R294): Returns a node's route reference, relay slot and path. -/
  | routeNodeQuery (e : CmdEntry)
  /-- `ROUTE_STATUS` (R311): Returns route, unit, relay and broadcast-list figures. -/
  | routeStatus (e : CmdEntry)
  /-- `ROUTE_COUNTERS` (R317): Returns the routing counters. -/
  | routeCounters (e : CmdEntry)
  /-- `ROUTE_LOWPAN_SET` (R303): Selects IPHC or uncompressed transmission. -/
  | routeLowpanSet (e : CmdEntry)
  /-- `ROUTE_TRIE_READ` (R310): Returns raw trie units. -/
  | routeTrieRead (e : CmdEntry)
  /-- `ETH_PORT_CONFIG` (R318): Configures an Ethernet port and retrains its link. -/
  | ethPortConfig (e : CmdEntry)
  /-- `ETH_PORT_STATUS` (R318): Returns port mode, link and FIFO depths. -/
  | ethPortStatus (e : CmdEntry)
  /-- `ETH_ADDR_SET` (R318): Sets one of a port's IPv6 addresses. -/
  | ethAddrSet (e : CmdEntry)
  /-- `ETH_NEIGHBOUR_SET` (R314): Sets a neighbour table entry. -/
  | ethNeighbourSet (e : CmdEntry)
  /-- `ETH_HOST_SET` (R305): Sets a port's host ring, queue and lifetime. -/
  | ethHostSet (e : CmdEntry)
  /-- `ETH_COUNTERS` (R317): Returns a port's Ethernet counters. -/
  | ethCounters (e : CmdEntry)
  /-- `ETH_MAC_TUNE` (R318): Sets pause and inter-packet gap. -/
  | ethMacTune (e : CmdEntry)
  /-- `KEY_SLOT_QUERY` (R328): Returns a slot descriptor. -/
  | keySlotQuery (e : CmdEntry)
  /-- `KEY_GENERATE` (R339): Generates key material into an empty slot. -/
  | keyGenerate (e : CmdEntry)
  /-- `KEY_BLOB_LOAD` (R325): Checks and unwraps a blob into an empty slot. -/
  | keyBlobLoad (e : CmdEntry)
  /-- `KEY_BLOB_EXPORT` (R340): Wraps an exportable slot under KW. -/
  | keyBlobExport (e : CmdEntry)
  /-- `KEY_REVOKE` (R336): Marks a slot REVOKED and starts its drain and zeroization. -/
  | keyRevoke (e : CmdEntry)
  /-- `KEY_GEN_MAP` (R333): Binds or clears a key generation in the generation map. -/
  | keyGenMap (e : CmdEntry)
  /-- `KEY_GEN_QUERY` (R333): Returns the generation-map bindings. -/
  | keyGenQuery (e : CmdEntry)
  /-- `KEY_ATTEST` (R343): Signs an attestation statement for a slot with slot 0. -/
  | keyAttest (e : CmdEntry)
  /-- `KEY_IDENTITY_GENERATE` (R342): Draws and blows the identity seed and loads slot 0. -/
  | keyIdentityGenerate (e : CmdEntry)
  /-- `KEY_IDENTITY_READ` (R342): Returns the identity public key. -/
  | keyIdentityRead (e : CmdEntry)
  /-- `KEY_LIFECYCLE_ADVANCE` (R321): Blows the next lifecycle state's fuses, zeroizes KEY and cold-starts. -/
  | keyLifecycleAdvance (e : CmdEntry)
  /-- `KEY_TAMPER_STATUS` (R557): Returns the tamper record inline. -/
  | keyTamperStatus (e : CmdEntry)
  /-- `KEY_TAMPER_CONFIG` (R345): Sets lid-switch enable and polarity in PROVISION. -/
  | keyTamperConfig (e : CmdEntry)
  /-- `KEY_DEBUG_CHALLENGE` (R344): Returns a single-use debug nonce. -/
  | keyDebugChallenge (e : CmdEntry)
  /-- `KEY_DEBUG_UNLOCK` (R344): Verifies the authority signature and opens the debug port. -/
  | keyDebugUnlock (e : CmdEntry)
  /-- `KEY_COUNTERS` (R350): Returns the key counters. -/
  | keyCounters (e : CmdEntry)
  /-- `KEY_IMPORT_RAW` (R339): Imports plaintext key material into an empty slot. -/
  | keyImportRaw (e : CmdEntry)
  /-- `KEY_IMPORT_WRAPPED` (R339): Unwraps key material under a WRAP slot into an empty slot. -/
  | keyImportWrapped (e : CmdEntry)
  /-- `KEY_BLOB_WRAP_OUT` (R340): Wraps an exportable AES slot under a WRAP slot. -/
  | keyBlobWrapOut (e : CmdEntry)
  /-- `KEY_KDF_VECTOR` (R332): Runs the node-key KDF on a test key and returns the output. -/
  | keyKdfVector (e : CmdEntry)
  /-- `KEY_SIGN` (R349): Signs a digest with a SIGN slot. -/
  | keySign (e : CmdEntry)
  /-- `KEY_DEBUG_AUTH_SET` (R344): Records the debug authority key hash in PROVISION. -/
  | keyDebugAuthSet (e : CmdEntry)
  /-- `CRYPT_STATUS` (R559): Returns the CRYPT status record. -/
  | cryptStatus (e : CmdEntry)
  /-- `CRYPT_COUNTERS` (R376): Returns the frame-protection counters. -/
  | cryptCounters (e : CmdEntry)
  /-- `CRYPT_ROUTER_EUI_SET` (R353): Sets the router EUI used in nonces. -/
  | cryptRouterEuiSet (e : CmdEntry)
  /-- `CRYPT_GEN_ROLL` (R373): Announces a key-generation roll and schedules its switch ASN. -/
  | cryptGenRoll (e : CmdEntry)
  /-- `CRYPT_NODE_CHALLENGE` (R378): Places one node under the cold-start challenge. -/
  | cryptNodeChallenge (e : CmdEntry)
  /-- `CRYPT_RAW_BLOCK` (R367): Runs one or two ECB blocks on a raw-block lane. -/
  | cryptRawBlock (e : CmdEntry)
  /-- `CRYPT_CUT_THROUGH_SET` (R360): Enables cut-through per receive ring and sets its minimum length. -/
  | cryptCutThroughSet (e : CmdEntry)
  /-- `CRYPT_LANE_ASSIGN` (R364): Sets the number of pair lanes. -/
  | cryptLaneAssign (e : CmdEntry)
  /-- `CRYPT_CCM_VECTOR` (R377): Runs CCM* on a test vector and returns output and MIC. -/
  | cryptCcmVector (e : CmdEntry)
  /-- `QUEUE_CONFIG` (R403): Sets a shaping queue's weight and limit. -/
  | queueConfig (e : CmdEntry)
  /-- `QUEUE_FLUSH` (R390): Completes every live frame of the masked queues with FS_FLUSHED. -/
  | queueFlush (e : CmdEntry)
  /-- `QUEUE_STATUS` (R403): Returns a queue's depth, holes, age, weight and gate state. -/
  | queueStatus (e : CmdEntry)
  /-- `QUEUE_OVERHEAD_SET` (R394): Sets a profile's airtime overheads. -/
  | queueOverheadSet (e : CmdEntry)
  /-- `QUEUE_GATE_SET` (R396): Installs a pending gate list with a takeover ASN. -/
  | queueGateSet (e : CmdEntry)
  /-- `QUEUE_SAMPLE_SET` (R397): Sets the queue sampling period. -/
  | queueSampleSet (e : CmdEntry)
  /-- `QUEUE_SAMPLES_READ` (R397): Returns a queue's sample records. -/
  | queueSamplesRead (e : CmdEntry)
  /-- `QUEUE_COUNTERS` (R402): Returns queue and dispatch counters. -/
  | queueCounters (e : CmdEntry)
  /-- `QUEUE_FW_SET` (R387): Sets the firmware frame queue. -/
  | queueFwSet (e : CmdEntry)
  /-- `QUEUE_ARB_CLASS` (R400): Sets the arbiter class of each requester. -/
  | queueArbClass (e : CmdEntry)
  /-- `QUEUE_ARB_STARVE` (R400): Sets the starvation threshold. -/
  | queueArbStarve (e : CmdEntry)
  /-- `QUEUE_WATCHDOG_SET` (R401): Sets the fabric watchdog time. -/
  | queueWatchdogSet (e : CmdEntry)
  /-- `QUEUE_ARB_STATUS` (R403): Returns arbiter state per requester and bank. -/
  | queueArbStatus (e : CmdEntry)
  /-- `QUEUE_WORK_STATUS` (R403): Returns ready-list and Tail occupancy. -/
  | queueWorkStatus (e : CmdEntry)
  /-- `TIME_STATUS` (R430): Returns the time status record. -/
  | timeStatus (e : CmdEntry)
  /-- `TIME_SET` (R411): Writes the Ephemeris time when a step is allowed. -/
  | timeSet (e : CmdEntry)
  /-- `TIME_ADJUST` (R411): Adds a signed offset to the time when a step is allowed. -/
  | timeAdjust (e : CmdEntry)
  /-- `TIME_SOURCE_SET` (R408): Installs the prioritised time source list. -/
  | timeSourceSet (e : CmdEntry)
  /-- `TIME_PTP_PORT` (R417): Configures PTP role and parameters of a port. -/
  | timePtpPort (e : CmdEntry)
  /-- `TIME_PPS_CONFIG` (R424): Sets PPS input and output delays and width. -/
  | timePpsConfig (e : CmdEntry)
  /-- `TIME_PIN_CONFIG` (R420): Programs an event pin. -/
  | timePinConfig (e : CmdEntry)
  /-- `TIME_TRIGGER_CONFIG` (R423): Programs an internal trigger 0 to 13. -/
  | timeTriggerConfig (e : CmdEntry)
  /-- `TIME_CAPTURE_READ` (R422): Empties a capture pin's FIFO. -/
  | timeCaptureRead (e : CmdEntry)
  /-- `TIME_PARENT_DELAY` (R408): Sets a parent candidate's propagation delay. -/
  | timeParentDelay (e : CmdEntry)
  /-- `TIME_COUNTERS` (R429): Returns the time counters. -/
  | timeCounters (e : CmdEntry)
  /-- `TIME_SERVO_SET` (R410): Sets the servo parameters. -/
  | timeServoSet (e : CmdEntry)
  /-- `TIME_INCREMENT_SET` (R406): Writes the increment directly while the source list is empty. -/
  | timeIncrementSet (e : CmdEntry)
  /-- `TIME_UNC_CLEAR` (R427): Sets unc_free_s and optionally clears the uncertainty latch now. -/
  | timeUncClear (e : CmdEntry)
  /-- `TIME_RTC_STATUS` (R425): Returns the RTC ratio and window age. -/
  | timeRtcStatus (e : CmdEntry)
  /-- `PAIR_CONFIG` (R461): Makes the unit single or starts pair start-up. -/
  | pairConfig (e : CmdEntry)
  /-- `PAIR_STATUS` (R558): Returns the pair record. -/
  | pairStatus (e : CmdEntry)
  /-- `PAIR_LOCAL_APPLY` (R461): Executes a unit-local inner command. -/
  | pairLocalApply (e : CmdEntry)
  /-- `PAIR_RELINQUISH` (R461): Closes the active unit's gate and hands over to the standby. -/
  | pairRelinquish (e : CmdEntry)
  /-- `PAIR_COUNTERS` (R459): Returns the pair counters. -/
  | pairCounters (e : CmdEntry)
  /-- `PAIR_FORCE_SOLO` (R461): Makes an active unit solo, or forces takeover on an isolated unit. -/
  | pairForceSolo (e : CmdEntry)
  /-- `PWR_POLICY_SET` (R464): Sets a domain's entry policy. -/
  | pwrPolicySet (e : CmdEntry)
  /-- `PWR_DOMAIN_SET` (R467): Requests named domains On, Retention or Off. -/
  | pwrDomainSet (e : CmdEntry)
  /-- `PWR_STATUS` (R472): Returns every domain's state, policy and lock. -/
  | pwrStatus (e : CmdEntry)
  /-- `PWR_REF_SET` (R470): Sets the reference settle time. -/
  | pwrRefSet (e : CmdEntry)
  /-- `PWR_BLOCK_QUERY` (R472): Returns a domain's blocks and their last answers. -/
  | pwrBlockQuery (e : CmdEntry)
  /-- `UPDATE_BEGIN` (R478): Starts or resumes an image download, erasing as needed. -/
  | updateBegin (e : CmdEntry)
  /-- `UPDATE_WRITE` (R479): Programs and verifies one image block. -/
  | updateWrite (e : CmdEntry)
  /-- `UPDATE_VERIFY` (R480): Hashes the body and writes the header on a match. -/
  | updateVerify (e : CmdEntry)
  /-- `UPDATE_ACTIVATE` (R481): Runs the verified image by hot handover or cold start. -/
  | updateActivate (e : CmdEntry)
  /-- `UPDATE_CONFIRM` (R485): Blows security fuses and ends probation. -/
  | updateConfirm (e : CmdEntry)
  /-- `UPDATE_REVERT` (R484): Hands back to the old image on request. -/
  | updateRevert (e : CmdEntry)
  /-- `UPDATE_STATUS` (R490): Returns update and probation state with the bitmap. -/
  | updateStatus (e : CmdEntry)
  /-- `CAMPAIGN_DEFINE` (R500): Defines a node campaign and enters LOADING. -/
  | campaignDefine (e : CmdEntry)
  /-- `CAMPAIGN_LOAD` (R500): Loads a piece of the node image. -/
  | campaignLoad (e : CmdEntry)
  /-- `CAMPAIGN_TARGETS` (R500): Sets the campaign targets. -/
  | campaignTargets (e : CmdEntry)
  /-- `CAMPAIGN_START` (R500): Checks the image hash and starts the rounds. -/
  | campaignStart (e : CmdEntry)
  /-- `CAMPAIGN_ACTIVATE` (R497): Sets the activation ASN and announces it to complete targets. -/
  | campaignActivate (e : CmdEntry)
  /-- `CAMPAIGN_STOP` (R500): Ends the campaign at once, flushing queued campaign frames. -/
  | campaignStop (e : CmdEntry)
  /-- `CAMPAIGN_STATUS` (R499): Returns campaign progress figures. -/
  | campaignStatus (e : CmdEntry)
  /-- `CAMPAIGN_TARGET_READ` (R496): Returns target records. -/
  | campaignTargetRead (e : CmdEntry)
  /-- `CAMPAIGN_TUNE` (R495): Sets the unicast repair limit. -/
  | campaignTune (e : CmdEntry)
  /-- `TEST_LINK_START` (R503): Starts a PRBS generator and checker on a link. -/
  | testLinkStart (e : CmdEntry)
  /-- `TEST_LINK_RESULT` (R504): Returns per-lane checker results. -/
  | testLinkResult (e : CmdEntry)
  /-- `TEST_RADIO_START` (R505): Starts a radio test on an OFF band. -/
  | testRadioStart (e : CmdEntry)
  /-- `TEST_RADIO_RESULT` (R506): Returns the radio test counts and stop cause. -/
  | testRadioResult (e : CmdEntry)
  /-- `TEST_STOP` (R502): Stops tests on the masked resources. -/
  | testStop (e : CmdEntry)
  /-- `TEST_STATUS` (R519): Returns running tests, reset cause and pace. -/
  | testStatus (e : CmdEntry)
  /-- `TEST_TELEMETRY_READ` (R516): Returns telemetry records. -/
  | testTelemetryRead (e : CmdEntry)
  /-- `TEST_TELEMETRY_SET` (R516): Sets the telemetry period. -/
  | testTelemetrySet (e : CmdEntry)
  /-- `TEST_WATCHDOG_SET` (R513): Sets the kernel watchdog period and pace floor. -/
  | testWatchdogSet (e : CmdEntry)
  /-- `TEST_FAULT_INJECT` (R518): Corrupts stored state to inject a fault. -/
  | testFaultInject (e : CmdEntry)
  /-- `COMMAND_FETCH` (R78): Fetches a command from a session round robin once a response entry can be reserved. -/
  | commandFetch (e : CmdEntry)
  /-- `COMMAND_PROD_WRITE` (R58): Host writes a command ring producer index as doorbell. -/
  | commandProdWrite (v : View) (ch : Nat) (value : W32)
  /-- `RSP_CONS_WRITE` (R58): Host advances a response ring consumer index, freeing entries. -/
  | rspConsWrite (v : View) (ch : Nat) (value : W32)
  /-- `EVENT_CONS_WRITE` (R65): Host advances the event ring consumer index, letting latched events be written. -/
  | eventConsWrite (v : View) (value : W32)
  /-- `RX_PROD_WRITE` (R553): Host posts receive buffers by advancing the receive ring producer. -/
  | rxProdWrite (ring : Nat) (value : W32) (bufs : List PostedBuf)
  /-- `TX_PROD_WRITE` (R58): Host submits frames by advancing the transmit ring producer. -/
  | txProdWrite (ring : Nat) (value : W32)
  /-- `TS_CONS_WRITE` (R58): Host advances the time-stamp queue consumer index. -/
  | tsConsWrite (value : W32)
  /-- `RING_ENABLE` (R552): Setting CTRL.enable starts a ring at indices 0, or records fault_size. -/
  | ringEnable (v : View) (r : RingId) (start : RingStart)
  /-- `RING_TEARDOWN` (R552): Clearing CTRL.enable tears a ring down by its kind. -/
  | ringTeardown (v : View) (r : RingId) (ctrl : W32)
  /-- `MBOX_GO` (R52): Writing go executes the mailbox command and writes its response inline. -/
  | mboxGo (v : View)
  /-- `MBOX_EVT_ACK` (R52): Writing evt_ack retires the mirrored event. -/
  | mboxEvtAck (v : View)
  /-- `REGISTER_WRITE` (R57): Host writes a register that has no behaviour of its own. -/
  | registerWrite (v : View) (offset : Nat) (value : W32)
  /-- `CMD_WRITE` (R48): SPI transaction delivering a command entry. -/
  | cmdWrite (payload : List Byte) (crc : W16)
  /-- `RSP_READ` (R48): SPI transaction returning a response entry. -/
  | rspRead
  /-- `EVT_READ` (R48): SPI transaction returning an event entry. -/
  | evtRead
  /-- `REG_READ` (R48): SPI transaction reading a privileged register. -/
  | regRead (payload : List Byte) (crc : W16)
  /-- `REG_WRITE` (R48): SPI transaction writing a privileged register. -/
  | regWrite (payload : List Byte) (crc : W16)
  /-- `DATA_WRITE` (R48): SPI transaction writing the data window. -/
  | dataWrite (payload : List Byte) (crc : W16)
  /-- `DATA_READ` (R48): SPI transaction reading the data window. -/
  | dataRead (payload : List Byte) (crc : W16)
  /-- `FUNCTION_LEVEL_RESET` (R98): PCIe FLR of a view resets its registers, rings and sessions. -/
  | functionLevelReset (v : View)
  /-- `PART_RESET` (R348): Release of RESET_N runs the key-domain boot and hands over to the loader. -/
  | partReset (straps : Straps) (alarms : Byte)
  /-- `RESET_ASSERT` (R527): RESET_N taken low disarms the core-supply and clock-glitch tamper sources. -/
  | resetAssert
  /-- `PERST_RELEASE` (R525): PERST_N deassertion starts PCIe link training. -/
  | perstRelease
  /-- `POWER_LOSS` (R527): Removal of a non-AON rail is a power loss. -/
  | powerLoss
  /-- `AON_POWER_ON` (R525): AON supplies in range release the AON power-on reset and clear the tamper latch state. -/
  | aonPowerOn
  /-- `TRANSMIT_RING_FETCH` (R387): Fetches a transmit entry and classifies the frame into a shaping queue. -/
  | transmitRingFetch (ring : Nat) (e : TxEntry) (payload : List Byte)
  /-- `SLOT_PREPARATION` (R43): Prepares a slot's plan at t0 minus the lead, or when its predecessor completes. -/
  | slotPreparation
  /-- `PLAN_HAND_OFF` (R36): Hands the slot plan to the band pipelines and launch queues. -/
  | planHandOff
  /-- `SLOT_BOUNDARY` (R214): A slot boundary fires trigger 14 and applies slot-bound changes. -/
  | slotBoundary
  /-- `ORBIT_ANCHOR_REACHED` (R217): At t_a the engine enters RUN or ACQUIRING. -/
  | orbitAnchorReached
  /-- `STAGE_COMMIT_POINT` (R91): At the commit point the check is repeated and the stage applied at one instant. -/
  | stageCommitPoint (stage : Nat)
  /-- `STAGE_LEASE_EXPIRY` (R94): An open stage's lease expires and the stage is discarded. -/
  | stageLeaseExpiry (stage : Nat)
  /-- `STAGE_RECORD_EXPIRY` (R554): 60 s after its point a sealed stage's record can no longer be queried. -/
  | stageRecordExpiry (stage : Nat)
  /-- `BAND_ON` (R204): A PENDING_ON band becomes ON at its slotframe boundary. -/
  | bandOn (b : Band)
  /-- `BAND_DRAIN_END` (R205): A DRAINING band becomes OFF when its last burst and reception end. -/
  | bandDrainEnd (b : Band)
  /-- `BAND_FAULT` (R206): Calibration failure, lock loss or DAC underflow puts the band in FAULT. -/
  | bandFault (b : Band)
  /-- `FAULT_RETURN_ATTEMPT` (R207): A FAULT band recalibrates at each of the next three slotframe boundaries. -/
  | faultReturnAttempt (b : Band) (ok : Bool)
  /-- `SYNC_DETECT` (R158): An ARMED GFSK context qualifies a preamble and detects the sync word. -/
  | syncDetect (ctx : Nat) (bitErrors : Nat) (preambleBits : Nat) (rssiQ : Int)
  /-- `OFDM_DETECT` (R159): An ARMED TL-OFDM context detects short training. -/
  | ofdmDetect (ctx : Nat) (autocorr : Nat) (rssiQ : Int)
  /-- `SECONDARY_DETECT` (R160): The secondary correlator detects a frame, pre- or post-header, for capture. -/
  | secondaryDetect (ctx : Nat) (overlap : Overlap)
  /-- `HEADER_DECIDE` (R163): The context decides the PHY header or signal field and re-arms on failure. -/
  | headerDecide (ctx : Nat) (heard : HeaderHeard)
  /-- `CARRIER_DROP` (R162): Averaged RSSI falls below the sync RSSI and the PSDU ends as an FCS failure. -/
  | carrierDrop (ctx : Nat) (bytes : List Byte) (rssiQ : Int)
  /-- `RX_PSDU_END` (R164): The last PSDU bit is received; FCS, MAC checks, lookup, key, verify and counter commit run. -/
  | rxPsduEnd (ctx : Nat) (psdu : List Byte) (snrQ : Int) (shadow : List Byte)
  /-- `UPLINK_DELIVER` (R35): Delivers an accepted frame to a host ring, the IPv6 path or a firmware thread. -/
  | uplinkDeliver
  /-- `SOUNDING_END` (R165): A SOUNDING reception ends and per-tone SNR is passed to map computation. -/
  | soundingEnd (ctx : Nat) (snrDb : List Int)
  /-- `CUT_THROUGH_PIECE` (R361): A filled granule of a cut-through frame is written as an FS_PROVISIONAL piece. -/
  | cutThroughPiece (ctx : Nat) (bytes : List Byte)
  /-- `JOIN_REQ_HANDLE` (R278): A firmware thread handles an authenticated JOIN_REQ as rejoin or learning. -/
  | joinReqHandle
  /-- `CONTROL_FRAME_HANDLE` (R127): A firmware thread handles a received CONTROL frame by subtype. -/
  | controlFrameHandle
  /-- `CAMPAIGN_STATUS_RX` (R495): A received campaign STATUS updates want counts and the target record. -/
  | campaignStatusRx
  /-- `BEACON_RX` (R253): An authenticated parent beacon gives a servo measurement or re-anchors in ACQUIRING. -/
  | beaconRx
  /-- `ACK_RX` (R244): An accepted ACK completes the downlink with FS_OK and feeds the drift estimate. -/
  | ackRx
  /-- `ACK_WINDOW_END` (R245): No ACK arrives; the frame returns to pending or is flushed after dl_retry_max. -/
  | ackWindowEnd (launch : Nat)
  /-- `CONTACT_MISS` (R248): An expected contact passes without an authenticated frame and counts a miss. -/
  | contactMiss (node : Nat)
  /-- `ADRIFT_DEADLINE` (R250): The ADRIFT hold time ends and held frames complete FS_FLUSHED. -/
  | adriftDeadline (node : Nat)
  /-- `PARENT_CELL_MISSED` (R254): A PARENT cell passes without a beacon; the third enters HOLDOVER and moves on. -/
  | parentCellMissed (b : Band)
  /-- `CONTEXT_LISTEN_END` (R157): An ARMED context reaches its listen end and returns to IDLE. -/
  | contextListenEnd (ctx : Nat)
  /-- `ACK_LAUNCH` (R192): At tL the speculative ACK ramp commits or is abandoned. -/
  | ackLaunch (b : Band)
  /-- `LAUNCH_ENCRYPT` (R358): At tL minus 40 µs a lane assigns the outgoing counter and encrypts the frame. -/
  | launchEncrypt (b : Band)
  /-- `BURST_START` (R195): Front-end lines switch and contexts blank ahead of a burst. -/
  | burstStart (b : Band)
  /-- `LAUNCH` (R188): A queued launch starts on time, late, or is cancelled. -/
  | launch (b : Band)
  /-- `BURST_END` (R195): A burst ramps down and the front-end lines return to receive. -/
  | burstEnd (b : Band)
  /-- `CHANNEL_CALIBRATION` (R184): A synthesiser calibration for a new LO completes, repeats or faults. -/
  | channelCalibration (b : Band) (locked : Bool)
  /-- `BACKGROUND_CALIBRATION` (R185): A due background calibration starts in a gap and completes. -/
  | backgroundCalibration (b : Band) (cal : BgStart)
  /-- `COEX_GRANT_WITHDRAWN` (R198): Grant withdrawal during a burst finishes or aborts it. -/
  | coexGrantWithdrawn (b : Band)
  /-- `COEX_GRANT_ASSERTED` (R197): A grant arriving lets a held launch start. -/
  | coexGrantAsserted (b : Band)
  /-- `ECLIPSE_GATE_CLOSE` (R443): The gate closes, muting drive and holding gated outputs. -/
  | eclipseGateClose
  /-- `ECLIPSE_GATE_OPEN` (R443): The gate opens once R437 is met. -/
  | eclipseGateOpen
  /-- `AGC_ATTACK` (R152): Eight high samples or a clip lower the gain 6 dB. -/
  | agcAttack (b : Band) (clip : Bool)
  /-- `AGC_RELEASE` (R152): Quiet for agc_release_us raises the gain 2 dB. -/
  | agcRelease (b : Band)
  /-- `SNAPSHOT_START` (R172): An armed snapshot starts on its trigger. -/
  | snapshotStart (b : Band)
  /-- `SNAPSHOT_CAPTURE_END` (R171): A snapshot fills its units and completes. -/
  | snapshotCaptureEnd (b : Band) (data : List Byte)
  /-- `WAKE_PATTERN_MATCH` (R175): The wake receiver matches its pattern, raising the event and waking domains. -/
  | wakePatternMatch (window : W32)
  /-- `LIFETIME_EXPIRY` (R389): A pending frame's lifetime expires and it completes FS_FLUSHED. -/
  | lifetimeExpiry (record : Nat)
  /-- `TONE_MAP_OLD_RETIRE` (R138): 2 s after acknowledgement the issuer drops the previous tone map. -/
  | toneMapOldRetire (addr : W32)
  /-- `AGING_VISIT` (R283): The aging scan visits an index, clearing hit or deleting the entry. -/
  | agingVisit
  /-- `SCRUB_READ` (R286): The scrubber reads a table word and corrects or detects errors. -/
  | scrubRead (shadow : List Byte)
  /-- `SHADOW_COMPARE` (R286): The compare reads an entry's shadow copy and compares shadowed fields. -/
  | shadowCompare (shadow : List Byte)
  /-- `ETH_RX_FRAME` (R305): A received Ethernet frame is classified and acted on. -/
  | ethRxFrame (port : Nat) (bytes : List Byte) (fcsOk : Bool)
  /-- `ETH_LINK_CHANGE` (R318): An Ethernet link comes up or goes down. -/
  | ethLinkChange (port : Nat) (up : Bool)
  /-- `PTP_SYNC_RX` (R417): A slave port accepts a Sync or Follow_Up. -/
  | ptpSyncRx (port : Nat) (m : PtpSync)
  /-- `PTP_ANNOUNCE_RX` (R417): A slave port accepts an Announce. -/
  | ptpAnnounceRx (port : Nat) (m : PtpAnnounce)
  /-- `PTP_DELAY_RESP_RX` (R408): A Delay_Resp completes an exchange and yields a measurement. -/
  | ptpDelayRespRx (port : Nat) (m : PtpDelayResp)
  /-- `PTP_DELAY_REQ_RX` (R417): A master port answers a Delay_Req. -/
  | ptpDelayReqRx (port : Nat) (m : PtpDelayReq)
  /-- `PTP_SYNC_TX` (R418): A master port sends Sync at its interval. -/
  | ptpSyncTx (port : Nat)
  /-- `SERVO_UPDATE` (R410): At each servo_ms the servo slews or steps from accepted measurements. -/
  | servoUpdate
  /-- `SOURCE_INVALID` (R408): A source's missing-message timeout makes it invalid. -/
  | sourceInvalid (kind : Nat)
  /-- `PPS_IN_EDGE` (R424): A PPS_IN edge is stamped and gives a measurement. -/
  | ppsInEdge
  /-- `PPS_OUT_SECOND` (R424): PPS_OUT rises at each whole second. -/
  | ppsOutSecond
  /-- `CAPTURE_EDGE` (R422): A capture pin edge is stamped into its FIFO. -/
  | captureEdge (pin : Nat) (rising : Bool)
  /-- `EVENT_PIN_EDGE` (R420): An event-pin output edge falls due. -/
  | eventPinEdge (pin : Nat)
  /-- `INTERNAL_TRIGGER_FIRE` (R423): An internal trigger fires its consumers. -/
  | internalTriggerFire (trig : Nat)
  /-- `RTC_WINDOW_END` (R425): A 32,768-period window updates r_rtc. -/
  | rtcWindowEnd (nsCounted : Nat)
  /-- `EPHEMERIS_FREEZE` (R426): At the next RTC edge Ephemeris freezes and the reference stops. -/
  | ephemerisFreeze
  /-- `EPHEMERIS_RESUME` (R426): After lock and an RTC edge Ephemeris advances by the gap and resumes. -/
  | ephemerisResume
  /-- `UNC_FREE_EXPIRY` (R427): unc_free_s after resume or reset with no source, the uncertainty latch clears. -/
  | uncFreeExpiry
  /-- `HEARTBEAT_SEND` (R435): Every hb_us a unit sends its heartbeat and the active unit renews its lease. -/
  | heartbeatSend
  /-- `LINE_HEARTBEAT_RX` (R435): A heartbeat word arrives on HB_IN. -/
  | lineHeartbeatRx (word : W64)
  /-- `HEARTBEAT` (R438): A HEARTBEAT message arrives on the pair link. -/
  | heartbeat (h : LinkHdr) (word : W64)
  /-- `HELLO` (R440): A HELLO arrives and the pair forms or fails on mismatch. -/
  | hello (h : LinkHdr) (m : HelloMsg)
  /-- `COMMIT` (R446): The standby applies commit records and sends COMMIT_ACK. -/
  | commit (h : LinkHdr) (recs : List CommitRec)
  /-- `COMMIT_ACK` (R446): The active unit completes the waiting commits or held effects. -/
  | commitAck (h : LinkHdr) (first last : W32)
  /-- `JOURNAL` (R445): The standby applies journal records with full entries. -/
  | journal (h : LinkHdr) (recs : List JournalMsg)
  /-- `CONFIG` (R445): The standby applies a completed command's effect or a sealed stage. -/
  | config (h : LinkHdr) (m : ConfigMsg)
  /-- `CONTACT` (R445): The standby applies a node's contact-state update. -/
  | contact (h : LinkHdr) (node : Nat) (entry : BitVec 512)
  /-- `EPOCH` (R447): The standby writes the epoch record advanced by one and acknowledges. -/
  | epoch (h : LinkHdr) (r : EpochRec)
  /-- `TIME` (R408): Two-way time stamps for source kind 5. -/
  | time (h : LinkHdr) (t1 t2 t3 t4 : W64)
  /-- `SYNC` (R456): The standby applies a piece of a bulk copy. -/
  | sync (h : LinkHdr) (p : SyncPiece)
  /-- `PAIR_LINK_DOWN` (R432): Loss of block lock or tags takes the link down; replica STALE or active solo. -/
  | pairLinkDown
  /-- `REPL_TIMEOUT` (R446): No COMMIT_ACK within repl_timeout_us makes the active unit solo. -/
  | replTimeout
  /-- `LEASE_EXPIRY` (R437): The active unit's lease counts down to zero and its gate closes. -/
  | leaseExpiry
  /-- `STARTUP_WAIT_EXPIRY` (R440): A unit hearing no active twin after its start-up wait takes over. -/
  | startupWaitExpiry
  /-- `TAKEOVER` (R452): A standby judging the lease ended forms a new claim and becomes active. -/
  | takeover
  /-- `HANDSHAKE_PERIOD` (R464): A handshake-policy domain with no access in its period is asked to enter. -/
  | handshakePeriod (domain : Nat)
  /-- `HANDSHAKE_ANSWER` (R465): Blocks' answers complete a handshake and the domain enters or stays On. -/
  | handshakeAnswer (domain : Nat) (answers : List BlockAnswer)
  /-- `IDLE_TIMER_EXPIRY` (R466): An idle-timer domain enters Retention. -/
  | idleTimerExpiry (domain : Nat)
  /-- `DOMAIN_ENTRY_COMPLETE` (R467): A domain reaches its low state after its entry time. -/
  | domainEntryComplete (domain : Nat)
  /-- `DOMAIN_WAKE` (R468): An access to a low domain stalls and starts a cascaded wake. -/
  | domainWake (domain : Nat)
  /-- `DOMAIN_WAKE_COMPLETE` (R468): A wake ends and stalled accesses proceed. -/
  | domainWakeComplete (domain : Nat)
  /-- `TAMPER_ALARM` (R345): A tamper source alarms: latch, zeroize KEY, advance count, raise the event. -/
  | tamperAlarm (sources : Byte)
  /-- `REMASK_PASS` (R330): Every 100 ms each LOADED slot is re-masked after checking it. -/
  | remaskPass
  /-- `REVOKE_DRAIN_DONE` (R336): refs reach 0; the revoked slot is zeroized and lanes cleared. -/
  | revokeDrainDone (slot : Nat)
  /-- `ENTROPY_HEALTH_FAIL` (R341): A health test fails and the source restarts. -/
  | entropyHealthFail
  /-- `ENTROPY_RESTART_DONE` (R341): The restarted entropy source passes its start-up test. -/
  | entropyRestartDone
  /-- `MASK_RESEED` (R365): A lane mask generator reseeds from the entropy source. -/
  | maskReseed (lane : Nat)
  /-- `FLASH_RECORD_WRITE` (R475): A needed record write suspends other flash work and programs a page. -/
  | flashRecordWrite
  /-- `RECORD_SECTOR_ERASE` (R475): A full record sector is erased in the background. -/
  | recordSectorErase
  /-- `HANDOVER_DISPATCH_HOLD` (R482): At the next hand-off dispatch holds and the new firmware takes over. -/
  | handoverDispatchHold
  /-- `PROBATION_FAILURE` (R483): A watchdog or trap on probation hands back or cold-starts. -/
  | probationFailure
  /-- `KERNEL_WATCHDOG_EXPIRY` (R513): A core misses its check-in and the part cold-starts. -/
  | kernelWatchdogExpiry (core : Nat)
  /-- `PACE_BELOW_FLOOR` (R514): A 1 ms mean pace below the floor raises EV_WATCHDOG. -/
  | paceBelowFloor (pace : Nat) (vcoreMv : Nat)
  /-- `TELEMETRY_SAMPLE` (R516): Every telem_ms a telemetry record is written. -/
  | telemetrySample (r : Readings)
  /-- `QUEUE_SAMPLE` (R397): Every sample_ms each shaping queue is sampled. -/
  | queueSample
  /-- `WORK_SUBMIT` (R381): A work item is submitted to its ready list or deferred chain. -/
  | workSubmit (item : WorkItem)
  /-- `CORE_ITEM_COMPLETE` (R383): A core completes an item, takes its prefetch and releases the flow. -/
  | coreItemComplete (core : Nat)
  /-- `TAIL_SPILL` (R384): A full register tail spills to Tail cells. -/
  | tailSpill (f : FifoId)
  /-- `TAIL_REFILL` (R384): A head at 8 entries refills from the middle. -/
  | tailRefill (f : FifoId)
  /-- `QUEUE_COMPACTION` (R388): A queue's holes exceed its live entries plus 48 and its middle is rewritten. -/
  | queueCompaction (queue : Nat)
  /-- `BANK_ARBITRATION` (R399): A bank's arbiter chooses the next winner by class and round robin. -/
  | bankArbitration (bank : Nat) (requests : W16)
  /-- `FABRIC_WATCHDOG_EXPIRY` (R401): An owner without a handshake for wd_us loses its grant and its function resets. -/
  | fabricWatchdogExpiry (owner : Nat) (bank : Nat)
  /-- `CAMPAIGN_ROUND_START` (R494): A campaign round starts its broadcast phase. -/
  | campaignRoundStart
  /-- `COLLECTION_PHASE_START` (R495): The collection phase starts and want counts reset. -/
  | collectionPhaseStart
  /-- `TEST_DURATION_EXPIRY` (R502): A test's duration expires and its resource is restored. -/
  | testDurationExpiry (resource : Nat)
  /-- `EXTEST` (R512): Loading EXTEST closes the gate, zeroizes KEY and hands balls to boundary scan. -/
  | extest
  /-- `CLAMP` (R512): Loading CLAMP holds the part as for EXTEST. -/
  | clamp
  /-- `HIGHZ` (R512): Loading HIGHZ holds the part as for EXTEST. -/
  | highz
  /-- `SAMPLE_PRELOAD` (R510): TAP instruction sampling the boundary register. -/
  | samplePreload
  /-- `IDCODE` (R511): TAP instruction reading the IDCODE. -/
  | idcode
  /-- `BYPASS` (R510): TAP instruction selecting the bypass register. -/
  | bypass
  /-- `VENDOR_INSTRUCTION` (R510): A vendor TAP instruction acts when unlocked, else as BYPASS. -/
  | vendorInstruction (opcode : Byte)
  /-- `TRST_LOW` (R512): TRST_N low ends a boundary-scan hold with a cold start. -/
  | trstLow
  /-- `PAIR_LINK_UP` (R432): The pair link completes training and its link state becomes up. -/
  | pairLinkUp
  /-- `LONG_COMMAND_COMPLETE` (R77): The work of a long command ends and its final response is written after the interim ST_ACCEPTED. -/
  | longCommandComplete (s : Session) (tag : W16)
  /-- `ISOLATION_YIELD` (R457): Under isolation_policy yield, the active unit closes its gate once both pair paths have been silent for lease_us. -/
  | isolationYield
  /-- `INTERRUPT_HOLDOFF_EXPIRY` (R59): A ring's holdoff_us after its first unreported entry expires and the part signals its MSI-X vector. -/
  | interruptHoldoffExpiry (v : View) (r : RingId)
  /-- `PTP_ANNOUNCE_TX` (R418): A master-only PTP port sends an Announce at its log_announce interval with the advertised clockClass and stepsRemoved. -/
  | ptpAnnounceTx (port : Nat)
  /-- `CHECKER_LOCKED` (R504): A lane's PRBS checker sees 128 consecutive error-free bits and becomes locked. -/
  | checkerLocked (link : Nat) (lane : Nat)
  /-- `CHECKER_LOCK_LOSS` (R504): A locked PRBS checker counts 32 errors within 1,024 bits, counts the loss and reseeds. -/
  | checkerLockLoss (link : Nat) (lane : Nat) (bits : Nat)
  /-- `TEST_FRAME_SEND` (R505): A radio test of kind 2 or 3 sends its next PN9 test frame every interval_us until count is reached. -/
  | testFrameSend (b : Band)
  /-- `HANDSHAKE_DELAY_EXPIRY` (R465): A block's handshake delay passes its declared maximum and counts as a refusal, leaving the domain On. -/
  | handshakeDelayExpiry (domain : Nat) (block : Nat)
deriving DecidableEq, Repr

end Sys2Proof
end

