-- ==== Sys2Proof/Decode.lean ====
section
/-! DEFINITION. The table gives no row a bit: a command is not spelled by a word, it is presented (log 12). -/

namespace Sys2Proof

/-- The command a word spells by the table's bits: none, since no row of the table has any. -/
def decodeTableWord (_nbits _w : Nat) : Option Instr := none

end Sys2Proof
end

