-- ==== Sys2Proof/Machine/Bits.lean ====
section
/-! DEFINITION. Bit fields, byte order (R11) and the plain operations on lists, sparse tables and byte memories that every
other definition goes through. -/

namespace Sys2Proof.Machine

/-- Bits `hi` down to `lo` of a number (R9). -/
def bitsOf (x hi lo : Nat) : Nat := (x >>> lo) % 2 ^ (hi + 1 - lo)

/-- Bit `i` of a number. -/
def bitOf (x i : Nat) : Bool := (x >>> i) % 2 == 1

/-- A number of `w` bits read as two's complement. -/
def signedOf (w x : Nat) : Int := if x % 2 ^ w < 2 ^ (w - 1) then (x % 2 ^ w : Nat) else (x % 2 ^ w : Nat) - (2 ^ w : Nat)

/-- A whole number as `w` bits of two's complement. -/
def unsignedOf (w : Nat) (x : Int) : Nat := (x % (2 ^ w : Nat)).toNat

/-- A truth value as a number. -/
def natOf (b : Bool) : Nat := if b then 1 else 0

/-- The `n` bytes of a number, least significant first (R11). -/
def leBytes : Nat → Nat → List Byte
  | 0, _ => []
  | n + 1, x => BitVec.ofNat 8 x :: leBytes n (x / 256)

/-- The `n` bytes of a number, most significant first. -/
def beBytes (n x : Nat) : List Byte := (leBytes n x).reverse

/-- The number whose bytes, least significant first, are these (R11). -/
def leNat : List Byte → Nat
  | [] => 0
  | b :: bs => b.toNat + 256 * leNat bs

/-- The number whose bytes, most significant first, are these. -/
def beNat (bs : List Byte) : Nat := leNat bs.reverse

/-- `n` bytes from offset `off`; 0 past the end. -/
def sliceBytes (bs : List Byte) (off n : Nat) : List Byte :=
  let t := (bs.drop off).take n
  t ++ List.replicate (n - t.length) 0

/-- The little-endian number of `n` bytes at offset `off`. -/
def leAt (bs : List Byte) (off n : Nat) : Nat := leNat (sliceBytes bs off n)

/-- The element at a position, or a default. -/
def nth {α : Type} (d : α) (l : List α) (i : Nat) : α := l.getD i d

/-- Change the element at a position; nothing past the end. -/
def modNth {α : Type} (l : List α) (i : Nat) (f : α → α) : List α := l.modify i f

/-- Add one to the counter at a position, wrapping (R74 and its like). -/
def bump (l : Ctrs) (i : Nat) : Ctrs := l.modify i (· + 1)

/-- Add `n` to the counter at a position, wrapping. -/
def bumpBy (l : Ctrs) (i n : Nat) : Ctrs := l.modify i (· + BitVec.ofNat 32 n)

/-- The bytes of a row of counters in table order. -/
def ctrBytes (l : Ctrs) : List Byte := l.flatMap fun c => leBytes 4 c.toNat

/-- All counters of a row back to 0. -/
def clearCtrs (l : Ctrs) : Ctrs := l.map fun _ => 0

/-- The value a sparse table holds at a key. -/
def mapGet {α : Type} : SMap α → Nat → Option α
  | [], _ => none
  | (k, v) :: t, i => if i = k then some v else mapGet t i

/-- Set a key of a sparse table, keeping its keys strictly rising. -/
def mapSet {α : Type} : SMap α → Nat → α → SMap α
  | [], i, v => [(i, v)]
  | (k, w) :: t, i, v =>
    if i < k then (i, v) :: (k, w) :: t else if i = k then (i, v) :: t else (k, w) :: mapSet t i v

/-- Remove a key of a sparse table. -/
def mapDel {α : Type} : SMap α → Nat → SMap α
  | [], _ => []
  | (k, w) :: t, i => if i = k then t else (k, w) :: mapDel t i

/-- Change the value at a key where there is one. -/
def mapMod {α : Type} (m : SMap α) (i : Nat) (f : α → α) : SMap α := m.map fun p => if p.1 = i then (p.1, f p.2) else p

/-- The value at a key, or a default. -/
def mapGetD {α : Type} (d : α) (m : SMap α) (i : Nat) : α := (mapGet m i).getD d

/-- The keys of a sparse table. -/
def mapKeys {α : Type} (m : SMap α) : List Nat := m.map (·.1)

/-- Whether a key is present. -/
def mapHas {α : Type} (m : SMap α) (i : Nat) : Bool := (mapGet m i).isSome

/-- Round half away from zero. -/
def roundRat (q : Rat) : Int := if q ≥ 0 then (q + 1 / 2).floor else -((-q + 1 / 2).floor)

/-- Round up. -/
def ceilRat (q : Rat) : Int := -((-q).floor)

/-- Keep a rational within two bounds. -/
def clampRat (q lo hi : Rat) : Rat := if q < lo then lo else if hi < q then hi else q

/-- Keep a whole number within two bounds. -/
def clampInt (q lo hi : Int) : Int := if q < lo then lo else if hi < q then hi else q

/-- Magnitude. -/
def absRat (q : Rat) : Rat := if q < 0 then -q else q

/-- Quotient rounded up. -/
def ceilDiv (a b : Nat) : Nat := (a + b - 1) / b

/-- Exclusive or of two byte strings, as long as the shorter. -/
def xorBytes (a b : List Byte) : List Byte := List.zipWith (· ^^^ ·) a b

end Sys2Proof.Machine
end

