-- ==== Sys2Proof/Machine/Crc.lean ====
section
/-! DEFINITION. The checks of the formats: CRC-16 (R48, R113), CRC-32 (R113), the header check (R105), PN9 whitening (R111). -/

namespace Sys2Proof.Machine

/-- One bit step of an unreflected CRC of width `w`. -/
def crcStep (w poly : Nat) (crc : Nat) (bit : Bool) : Nat :=
  let top := bitOf crc (w - 1)
  let sh := (crc * 2) % 2 ^ w
  if top != bit then sh ^^^ poly else sh

/-- The bits of a byte, most significant first. -/
def bitsMsb (b : Byte) : List Bool := (List.range 8).map fun i => bitOf b.toNat (7 - i)

/-- The bits of a byte, least significant first. -/
def bitsLsb (b : Byte) : List Bool := (List.range 8).map fun i => bitOf b.toNat i

/-- An unreflected CRC over bits in the order given. -/
def crcBits (w poly init : Nat) (bits : List Bool) : Nat := bits.foldl (crcStep w poly) init

/-- The CRC-16 of the SPI target: polynomial 0x1021, initial value 0xFFFF, no reflection, no inversion (R48). -/
def crc16 (bs : List Byte) : W16 := BitVec.ofNat 16 (crcBits 16 0x1021 0xFFFF (bs.flatMap bitsMsb))

/-- One bit step of a reflected CRC. -/
def crcStepRefl (poly : Nat) (crc : Nat) (bit : Bool) : Nat :=
  let low := bitOf crc 0
  if low != bit then (crc >>> 1) ^^^ poly else crc >>> 1

/-- The CRC-32 of IEEE 802.3: reflected polynomial 0xEDB88320, initial value and final inversion all ones. -/
def crc32 (bs : List Byte) : W32 :=
  BitVec.ofNat 32 ((bs.flatMap bitsLsb).foldl (crcStepRefl 0xEDB88320) 0xFFFFFFFF ^^^ 0xFFFFFFFF)

end Sys2Proof.Machine
end

