-- ==== Sys2Proof/Machine/Aes.lean ====
section
/-! DEFINITION. AES-128 (FIPS 197) and what the manual builds on it: CMAC (R101, R332), CCM* (R351 and its chapter), the
counter-mode KDF of SP 800-108 (R332), the key wrap of RFC 3394 (R326, R339). -/

namespace Sys2Proof.Machine

/-- Multiply by x in the field of AES. -/
def gfDouble (a : Nat) : Nat := if bitOf a 7 then (a * 2 % 256) ^^^ 0x1B else a * 2

/-- Product in the field of AES, over the low `n` bits of `b`. -/
def gfMulN : Nat → Nat → Nat → Nat
  | 0, _, _ => 0
  | n + 1, a, b => (if bitOf b 0 then a else 0) ^^^ gfMulN n (gfDouble a) (b / 2)

/-- Product in the field of AES. -/
def gfMul (a b : Nat) : Nat := gfMulN 8 a b

/-- Inverse in the field of AES, 0 for 0: the 254th power. -/
def gfInv (a : Nat) : Nat :=
  let p2 := gfMul a a
  let p4 := gfMul p2 p2
  let p8 := gfMul p4 p4
  let p16 := gfMul p8 p8
  let p32 := gfMul p16 p16
  let p64 := gfMul p32 p32
  let p128 := gfMul p64 p64
  gfMul p2 (gfMul p4 (gfMul p8 (gfMul p16 (gfMul p32 (gfMul p64 p128)))))

/-- Rotate an 8-bit value left. -/
def rotl8 (x n : Nat) : Nat := (x <<< n ||| x >>> (8 - n)) % 256

/-- The substitution box. -/
def aesSub (x : Byte) : Byte :=
  let b := gfInv x.toNat
  BitVec.ofNat 8 (b ^^^ rotl8 b 1 ^^^ rotl8 b 2 ^^^ rotl8 b 3 ^^^ rotl8 b 4 ^^^ 0x63)

/-- The inverse substitution box. -/
def aesSubInv (x : Byte) : Byte :=
  let b := x.toNat
  BitVec.ofNat 8 (gfInv (rotl8 b 1 ^^^ rotl8 b 3 ^^^ rotl8 b 6 ^^^ 0x05))

/-- Round constant of round `n`, from 1. -/
def aesRcon : Nat → Nat
  | 0 => 0x8D
  | n + 1 => gfDouble (aesRcon n)

/-- The next round key. -/
def aesNextKey (n : Nat) (k : List Byte) : List Byte :=
  let g (i : Nat) : Byte := nth 0 k i
  let t := [aesSub (g 13) ^^^ BitVec.ofNat 8 (aesRcon n), aesSub (g 14), aesSub (g 15), aesSub (g 12)]
  let w0 := xorBytes (k.take 4) t
  let w1 := xorBytes ((k.drop 4).take 4) w0
  let w2 := xorBytes ((k.drop 8).take 4) w1
  let w3 := xorBytes ((k.drop 12).take 4) w2
  w0 ++ w1 ++ w2 ++ w3

/-- Round keys `i` to `i + n`. -/
def aesKeys : Nat → Nat → List Byte → List (List Byte)
  | 0, _, k => [k]
  | n + 1, i, k => k :: aesKeys n (i + 1) (aesNextKey i k)

/-- The rows of the state shifted left by their number; the state is stored by column. -/
def aesShift (s : List Byte) : List Byte := (List.range 16).map fun i => nth 0 s ((i + 4 * (i % 4)) % 16)

/-- The rows shifted right. -/
def aesShiftInv (s : List Byte) : List Byte := (List.range 16).map fun i => nth 0 s ((i + 16 - 4 * (i % 4)) % 16)

/-- Multiply each column by a circulant matrix. -/
def aesMixWith (c0 c1 c2 c3 : Nat) (s : List Byte) : List Byte :=
  (List.range 16).map fun i =>
    let g (j : Nat) : Nat := (nth 0 s (i / 4 * 4 + (i + j) % 4)).toNat
    BitVec.ofNat 8 (gfMul (g 0) c0 ^^^ gfMul (g 1) c1 ^^^ gfMul (g 2) c2 ^^^ gfMul (g 3) c3)

/-- Rounds of encryption after the first key addition. -/
def aesRounds : List (List Byte) → List Byte → List Byte
  | [], s => s
  | [k], s => xorBytes (aesShift (s.map aesSub)) k
  | k :: ks, s => aesRounds ks (xorBytes (aesMixWith 2 3 1 1 (aesShift (s.map aesSub))) k)

/-- Encrypt one block of 16 bytes. -/
def aesEncrypt (key block : List Byte) : List Byte :=
  match aesKeys 10 1 key with
  | k :: ks => aesRounds ks (xorBytes block k)
  | [] => block

/-- Rounds of decryption, keys last first. -/
def aesRoundsInv : List (List Byte) → List Byte → List Byte
  | [], s => s
  | [k], s => xorBytes ((aesShiftInv s).map aesSubInv) k
  | k :: ks, s => aesRoundsInv ks (aesMixWith 14 11 13 9 (xorBytes ((aesShiftInv s).map aesSubInv) k))

/-- Decrypt one block of 16 bytes. -/
def aesDecrypt (key block : List Byte) : List Byte :=
  match (aesKeys 10 1 key).reverse with
  | k :: ks => aesRoundsInv ks (xorBytes block k)
  | [] => block

/-- 16 zero bytes. -/
def zeroBlock : List Byte := List.replicate 16 0

/-- Pad with zeros to whole blocks. -/
def padBlocks (bs : List Byte) : List Byte := bs ++ List.replicate ((16 - bs.length % 16) % 16) 0

/-- CBC-MAC over `n` whole blocks. -/
def cbcMacN (key : List Byte) : Nat → List Byte → List Byte → List Byte
  | 0, x, _ => x
  | n + 1, x, bs => cbcMacN key n (aesEncrypt key (xorBytes x (bs.take 16))) (bs.drop 16)

/-- CBC-MAC over whole blocks. -/
def cbcMac (key bs : List Byte) : List Byte := cbcMacN key (bs.length / 16) zeroBlock bs

/-- Double a block in the field of CMAC (most significant byte first). -/
def cmacDouble (b : List Byte) : List Byte :=
  let x := beNat b
  beBytes 16 (x * 2 % 2 ^ 128 ^^^ (if bitOf x 127 then 0x87 else 0))

/-- AES-CMAC (NIST SP 800-38B). -/
def cmac (key bs : List Byte) : List Byte :=
  let k1 := cmacDouble (aesEncrypt key zeroBlock)
  let n := (bs.length - 1) / 16
  let last := bs.drop (n * 16)
  let m := if last.length = 16 then xorBytes last k1
    else xorBytes (last ++ (0x80 :: List.replicate (15 - last.length) 0)) (cmacDouble k1)
  cbcMac key (bs.take (n * 16) ++ m)

/-- The counter block `A_i` of CCM* (2-byte counter) for a 13-byte nonce. -/
def ccmBlock (flags : Nat) (nonce : List Byte) (n : Nat) : List Byte := BitVec.ofNat 8 flags :: (nonce ++ beBytes 2 n)

/-- Counter-mode stream over `m` from block `i`. -/
def ctrXor (key nonce : List Byte) : Nat → Nat → List Byte → List Byte
  | 0, _, _ => []
  | n + 1, i, m => xorBytes (m.take 16) (aesEncrypt key (ccmBlock 1 nonce i)) ++ ctrXor key nonce n (i + 1) (m.drop 16)

/-- The unmasked tag of CCM*: authenticated text `a`, message `m`, MIC of `mic` bytes (0, 4, 8 or 16). -/
def ccmTag (key nonce a m : List Byte) (mic : Nat) : List Byte :=
  let flags := (if a.isEmpty then 0 else 64) + (if mic = 0 then 0 else (mic - 2) / 2 * 8) + 1
  let b0 := ccmBlock flags nonce m.length
  let ad := if a.isEmpty then [] else padBlocks (beBytes 2 a.length ++ a)
  (cbcMac key (b0 ++ ad ++ padBlocks m)).take mic

/-- CCM* seal: ciphertext and masked MIC. -/
def ccmSeal (key nonce a m : List Byte) (mic : Nat) (encrypts : Bool) : List Byte × List Byte :=
  let (a', m') := if encrypts then (a, m) else (a ++ m, [])
  let tag := ccmTag key nonce a' m' mic
  (if encrypts then ctrXor key nonce (ceilDiv m.length 16) 1 m else m, xorBytes tag (aesEncrypt key (ccmBlock 1 nonce 0)))

/-- CCM* open: the message and whether the MIC verifies. -/
def ccmOpen (key nonce a c mic : List Byte) (encrypts : Bool) : List Byte × Bool :=
  let m := if encrypts then ctrXor key nonce (ceilDiv c.length 16) 1 c else c
  let (_, t) := ccmSeal key nonce a m mic.length encrypts
  (m, t == mic)

/-- One step of the RFC 3394 wrap. -/
def wrapStep (kek : List Byte) (t : Nat) (a : List Byte) (r : List Byte) : List Byte × List Byte :=
  let b := aesEncrypt kek (a ++ r)
  (beBytes 8 (beNat (b.take 8) ^^^ t), b.drop 8)

/-- One pass of the wrap over the registers; `t` counts on. -/
def wrapPass (kek : List Byte) : Nat → List Byte → List (List Byte) → List Byte × List (List Byte)
  | _, a, [] => (a, [])
  | t, a, r :: rs =>
    let (a', r') := wrapStep kek t a r
    let (a'', rs') := wrapPass kek (t + 1) a' rs
    (a'', r' :: rs')

/-- `n` passes. -/
def wrapPasses (kek : List Byte) : Nat → Nat → List Byte → List (List Byte) → List Byte × List (List Byte)
  | 0, _, a, rs => (a, rs)
  | n + 1, t, a, rs =>
    let (a', rs') := wrapPass kek t a rs
    wrapPasses kek n (t + rs.length) a' rs'

/-- The bytes cut into pieces of 8. -/
def chunks8 : Nat → List Byte → List (List Byte)
  | 0, _ => []
  | n + 1, bs => bs.take 8 :: chunks8 n (bs.drop 8)

/-- RFC 3394 wrap of whole 8-byte pieces under a 16-byte key. -/
def keyWrap (kek plain : List Byte) : List Byte :=
  let (a, rs) := wrapPasses kek 6 1 (List.replicate 8 0xA6) (chunks8 (plain.length / 8) plain)
  a ++ rs.flatten

/-- One pass of the unwrap, registers last first, `t` counting down. -/
def unwrapPass (kek : List Byte) : Nat → List Byte → List (List Byte) → List Byte × List (List Byte)
  | _, a, [] => (a, [])
  | t, a, r :: rs =>
    let b := aesDecrypt kek (beBytes 8 (beNat a ^^^ t) ++ r)
    let (a'', rs') := unwrapPass kek (t - 1) (b.take 8) rs
    (a'', b.drop 8 :: rs')

/-- `n` passes of the unwrap. -/
def unwrapPasses (kek : List Byte) : Nat → Nat → List Byte → List (List Byte) → List Byte × List (List Byte)
  | 0, _, a, rs => (a, rs)
  | n + 1, t, a, rs =>
    let (a', rs') := unwrapPass kek t a rs
    unwrapPasses kek n (t - rs.length) a' rs'

/-- RFC 3394 unwrap: the plain bytes where the integrity value holds. -/
def keyUnwrap (kek data : List Byte) : Option (List Byte) :=
  let n := data.length / 8 - 1
  let (a, rs) := unwrapPasses kek 6 (6 * n) (data.take 8) (chunks8 n (data.drop 8)).reverse
  if a == List.replicate 8 0xA6 then some rs.reverse.flatten else none

end Sys2Proof.Machine
end

