-- ==== Sys2Proof/Machine/Ecc.lean ====
section
/-! DEFINITION. ECDSA over P-256 (FIPS 186), used by R342, R343, R344, R349 and R478. -/

namespace Sys2Proof.Machine

def p256P : Nat := 0xFFFFFFFF00000001000000000000000000000000FFFFFFFFFFFFFFFFFFFFFFFF
def p256N : Nat := 0xFFFFFFFF00000000FFFFFFFFFFFFFFFFBCE6FAADA7179E84F3B9CAC2FC632551
def p256B : Nat := 0x5AC635D8AA3A93E7B3EBBD55769886BC651D06B0CC53B0F63BCE3C3E27D2604B
def p256Gx : Nat := 0x6B17D1F2E12C4247F8BCE6E563A440F277037D812DEB33A0F4A13945D898C296
def p256Gy : Nat := 0x4FE342E2FE1A7F9B8EE7EB4A7C0F9E162BCE33576B315ECECBB6406837BF51F5

/-- `b ^ e` modulo `m`, over the low `n` bits of `e`. -/
def powModN (m : Nat) : Nat → Nat → Nat → Nat
  | 0, _, _ => 1
  | n + 1, b, e => (if bitOf e 0 then b else 1) * powModN m n (b * b % m) (e / 2) % m

/-- Inverse modulo a prime of 256 bits. -/
def invMod (m a : Nat) : Nat := powModN m 256 (a % m) (m - 2)

/-- A point in projective form: x, y and z, the point at infinity with z = 0. -/
abbrev Point := Nat × Nat × Nat

/-- Twice a point (Jacobian coordinates, a = −3). -/
def eccDouble (q : Point) : Point :=
  let (x, y, z) := q
  let p := p256P
  if z = 0 || y = 0 then (1, 1, 0)
  else
    let yy := y * y % p
    let s := 4 * x * yy % p
    let zz := z * z % p
    let m := 3 * (x + p - zz) * (x + zz) % p
    let x' := (m * m + 2 * p - 2 * s) % p
    (x', (m * (s + p - x') + p - 8 * yy * yy % p) % p, 2 * y * z % p)

/-- Sum of two points. -/
def eccAdd (q r : Point) : Point :=
  let (x1, y1, z1) := q
  let (x2, y2, z2) := r
  let p := p256P
  if z1 = 0 then r else if z2 = 0 then q
  else
    let u1 := x1 * (z2 * z2 % p) % p
    let u2 := x2 * (z1 * z1 % p) % p
    let s1 := y1 * (z2 * z2 * z2 % p) % p
    let s2 := y2 * (z1 * z1 * z1 % p) % p
    if u1 = u2 then (if s1 = s2 then eccDouble q else (1, 1, 0))
    else
      let h := (u2 + p - u1) % p
      let d := (s2 + p - s1) % p
      let hh := h * h % p
      let hhh := hh * h % p
      let v := u1 * hh % p
      let x3 := (d * d + 3 * p - hhh - 2 * v) % p
      (x3, (d * (v + p - x3) + p - s1 * hhh % p) % p, h * z1 * z2 % p)

/-- `k` times a point, over the low `n` bits of `k`. -/
def eccMulN : Nat → Nat → Point → Point
  | 0, _, _ => (1, 1, 0)
  | n + 1, k, q => eccAdd (if bitOf k 0 then q else (1, 1, 0)) (eccMulN n (k / 2) (eccDouble q))

/-- `k` times a point. -/
def eccMul (k : Nat) (q : Point) : Point := eccMulN 256 k q

/-- The affine coordinates of a point. -/
def eccAffine (q : Point) : Nat × Nat :=
  let (x, y, z) := q
  let i := invMod p256P z
  (x * (i * i % p256P) % p256P, y * (i * i * i % p256P) % p256P)

/-- A point lies on the curve. -/
def onCurve (x y : Nat) : Bool :=
  x < p256P && y < p256P && y * y % p256P == (x * x * x + (p256P - 3) * x + p256B) % p256P

/-- The public key of a private key. -/
def eccPublic (d : Nat) : Nat × Nat := eccAffine (eccMul d (p256Gx, p256Gy, 1))

/-- ECDSA signature of a digest under a private key with nonce `k`: r and s. -/
def ecdsaSign (d digest k : Nat) : Nat × Nat :=
  let k := k % (p256N - 1) + 1
  let r := (eccPublic k).1 % p256N
  (r, invMod p256N k * (digest + r * d) % p256N)

/-- ECDSA verification of r and s for a digest under a public key. -/
def ecdsaVerify (x y digest r s : Nat) : Bool :=
  if r = 0 || s = 0 || p256N ≤ r || p256N ≤ s || !onCurve x y then false
  else
    let w := invMod p256N s
    let q := eccAdd (eccMul (digest * w % p256N) (p256Gx, p256Gy, 1)) (eccMul (r * w % p256N) (x, y, 1))
    q.2.2 != 0 && (eccAffine q).1 % p256N == r

end Sys2Proof.Machine
end

