-- ==== Sys2Proof/Machine/Sha.lean ====
section
/-! DEFINITION. SHA-256 (FIPS 180-4), used by R340, R343, R344, R476, R479 and R494. -/

namespace Sys2Proof.Machine

/-- The first `n` primes from `p` up, by trial division. -/
def isPrime (p : Nat) : Bool := 2 ≤ p && (List.range p).all fun d => d < 2 || p % d != 0

/-- The 64 primes of the round constants. -/
def shaPrimes : List Nat := ((List.range 312).filter isPrime).take 64

/-- The largest `x` with `x ^ k ≤ n`, by bits from `b` down. -/
def rootBits (k n : Nat) : Nat → Nat → Nat
  | 0, x => x
  | b + 1, x => if (x + 2 ^ b) ^ k ≤ n then rootBits k n b (x + 2 ^ b) else rootBits k n b x

/-- The first 32 bits of the fraction of the `k`-th root of `p`. -/
def rootFrac (k p : Nat) : W32 := BitVec.ofNat 32 (rootBits k (p * 2 ^ (32 * k)) 40 0)

/-- The round constants. -/
def shaK : List W32 := shaPrimes.map (rootFrac 3)

/-- The initial hash. -/
def shaInit : List W32 := (shaPrimes.take 8).map (rootFrac 2)

def rotr (x : W32) (n : Nat) : W32 := x.rotateRight n

/-- Extend the message schedule by `n` words; newest first. -/
def shaExtend : Nat → List W32 → List W32
  | 0, w => w
  | n + 1, w =>
    let g (i : Nat) : W32 := nth 0 w (i - 1)
    let a := g 15
    let b := g 2
    let s0 := rotr a 7 ^^^ rotr a 18 ^^^ (a >>> 3)
    let s1 := rotr b 17 ^^^ rotr b 19 ^^^ (b >>> 10)
    shaExtend n ((g 16 + s0 + g 7 + s1) :: w)

/-- One round over the eight working words. -/
def shaRound (h : List W32) (kw : W32) : List W32 :=
  let v (i : Nat) : W32 := nth 0 h i
  let a := v 0
  let e := v 4
  let t1 := v 7 + (rotr e 6 ^^^ rotr e 11 ^^^ rotr e 25) + ((e &&& v 5) ^^^ (~~~e &&& v 6)) + kw
  let t2 := (rotr a 2 ^^^ rotr a 13 ^^^ rotr a 22) + ((a &&& v 1) ^^^ (a &&& v 2) ^^^ (v 1 &&& v 2))
  [t1 + t2, a, v 1, v 2, v 3 + t1, e, v 5, v 6]

/-- The words of a block, most significant byte first. -/
def shaWords : Nat → List Byte → List W32
  | 0, _ => []
  | n + 1, bs => BitVec.ofNat 32 (beNat (bs.take 4)) :: shaWords n (bs.drop 4)

/-- Compress one block. -/
def shaBlock (h : List W32) (block : List Byte) : List W32 :=
  let w := (shaExtend 48 (shaWords 16 block).reverse).reverse
  List.zipWith (· + ·) h ((List.zipWith (· + ·) shaK w).foldl shaRound h)

/-- Compress `n` blocks. -/
def shaBlocks : Nat → List W32 → List Byte → List W32
  | 0, h, _ => h
  | n + 1, h, bs => shaBlocks n (shaBlock h (bs.take 64)) (bs.drop 64)

/-- SHA-256 of a byte string. -/
def sha256 (bs : List Byte) : List Byte :=
  let padded := bs ++ (0x80 :: List.replicate ((119 - bs.length % 64) % 64) 0) ++ beBytes 8 (bs.length * 8)
  (shaBlocks (padded.length / 64) shaInit padded).flatMap fun w => beBytes 4 w.toNat

end Sys2Proof.Machine
end

