-- ==== Sys2Proof/Config.lean ====
section
/-! DEFINITION. What the manual leaves open, as constants without a body: nothing in Lean can see their value, so a claim
about them holds for every value. `free` values are applied to the plain counter `State.free`, which the step that uses
one advances. -/

namespace Sys2Proof.Config

/-- The n-th open value as a natural number (an unstated result, an unstated choice). Log entries 3 and 4. -/
opaque freeNat : Nat → Nat

/-- The n-th draw of the entropy source (R341), as 256 fresh bits. Log entry 5. -/
opaque entropy : Nat → BitVec 256

/-- The three fused 256-bit roots (R320, R323): 1 is root-M, 2 root-P, 3 root-F. Log entry 6. -/
opaque root : Nat → BitVec 256

/-- Key of 128 bits that the KDF forms from a 256-bit root and an input (R323): the manual gives no PRF for a 256-bit key. Log entry 6. -/
opaque rootKey : BitVec 256 → List Byte → BitVec 128

/-- The P-256 scalar the boot ROM derives from the identity seed (R342): the manual gives no derivation. Log entry 6. -/
opaque identityScalar : BitVec 256 → Nat

/-- The two Oastisin image-signing public keys of the boot ROM (R477), as X and Y. Log entry 6. -/
opaque signingKey : Nat → BitVec 256 × BitVec 256

/-- The loader version of the flash (R73): the manual fixes none. Log entry 7. -/
opaque loaderVersion : BitVec 32

/-- Oastisin's JEDEC manufacturer identity in IDCODE[11:1] (R511): the manual gives no number. Log entry 7. -/
opaque jedecId : BitVec 11

/-- First unit, of those after the roots, of the compressed node at a stage under an upper part, for a version of the
routes: the manual does not place the nodes. Log entry 4. -/
opaque triePlace : Nat → Nat → Nat → Nat

/-- The raw content of a trie unit (R310): the manual fixes the layout of a node, not the unit numbers a
change takes. Log entry 4. -/
opaque trieUnit : Nat → Nat → List Byte

/-- The PCI-SIG identifier assigned to Oastisin Devices (R45), which the manual does not number. Log entry 86. -/
opaque pciVendor : BitVec 16

/-- A 1 is a high half-bit first in the Manchester code of the heartbeat line (R435): the manual names the code alone. Log entry 110. -/
opaque manchesterOne : Bool

/-- The IV of a pair-link message (R434), from its `seq` and the unit that sends it: the manual does not lay it out. Log entry 30. -/
opaque linkIv : BitVec 32 → Bool → BitVec 128

/-- The inline bytes in which results stand whose layout the manual does not give, from the figures and the laid-out bytes. Log entry 10. -/
opaque resultBytes : List Int → List Byte → List Byte

end Sys2Proof.Config
end

