-- ==== Sys2Proof/Machine/CmdSpec.lean ====
section
/-! DEFINITION. The command tables of the manual (R73, R87, R96, R100, R144, R177, R211, R264, R291, R318, R349, R377, R403,
R430, R460, R472, R490, R499, R519): function, level and number of each command, the view it needs (R70, R71), whether it
may be staged, whether it is long (R77), whether it only reads (R551), how it uses its buffer (R62), and the argument bits
it names; every other argument bit is reserved. -/

namespace Sys2Proof.Machine

/-- How a command uses the buffer (R62). -/
inductive BufUse where
  /-- No buffer. -/
  | none
  /-- Input of `lo` to `hi` bytes. -/
  | input (lo hi : Nat)
  /-- Input of `base` bytes and the material of the key type in argument bits [53:52] (R349). -/
  | keyInput (base : Nat)
  /-- Input of a CCM* vector, whose byte 29 gives the length of its associated data (R378). -/
  | ccmInput
  /-- Input of `unit` bytes for each of the count in argument bits [lo + w - 1 : lo]. -/
  | inputMul (unit lo w : Nat)
  /-- Input of whole units, at most `max` of them. -/
  | inputUnits (unit max : Nat)
  /-- Output of a fixed length. -/
  | output (n : Nat)
  /-- Output of `unit` bytes for each of the count in argument bits [lo + w - 1 : lo]. -/
  | outputMul (unit lo w : Nat)
  /-- Output whose length `buf_len` sets (R52). -/
  | outputPiece
  /-- Output whose length the state decides. -/
  | outputState
deriving DecidableEq, Repr

/-- One row of a command table. -/
structure CmdSpec where
  fn : Nat
  lvl : Nat
  num : Nat
  privOnly : Bool
  stageable : Bool
  long : Bool
  reads : Bool
  buf : BufUse
  used : List (Nat × Nat)
deriving DecidableEq, Repr

/-- The command tables. -/
def cmdSpec : CmdId → CmdSpec
  | .sysIdentify => ⟨0x01, 0, 0x001, false, false, false, true, .none, []⟩
  | .sysGetState => ⟨0x01, 0, 0x002, false, false, false, true, .none, []⟩
  | .sysCounters => ⟨0x01, 0, 0x003, false, false, false, true, (.output 20), [(0, 1)]⟩
  | .sysPin => ⟨0x01, 0, 0x030, true, false, false, false, .none, [(0, 16)]⟩
  | .sysUnpin => ⟨0x01, 0, 0x031, true, false, false, false, .none, [(0, 16)]⟩
  | .sysPinQuery => ⟨0x01, 0, 0x032, false, false, false, true, .none, [(0, 6)]⟩
  | .sysStageOpen => ⟨0x01, 0, 0x010, false, false, false, false, .none, [(0, 16), (16, 16)]⟩
  | .sysStageCheck => ⟨0x01, 0, 0x011, false, false, false, false, .none, [(0, 2), (64, 64)]⟩
  | .sysStageCommit => ⟨0x01, 0, 0x012, false, false, false, false, .none, []⟩
  | .sysStageAbort => ⟨0x01, 0, 0x013, false, false, false, false, .none, []⟩
  | .sysStageQuery => ⟨0x01, 0, 0x014, false, false, false, true, .none, []⟩
  | .sysFunctionReset => ⟨0x01, 0, 0x020, true, false, true, false, .none, [(0, 6)]⟩
  | .sysQuiesce => ⟨0x01, 0, 0x040, true, false, true, false, .none, []⟩
  | .sysResume => ⟨0x01, 0, 0x041, true, false, true, false, .none, []⟩
  | .nodeCounterSnapshot => ⟨0x06, 0, 0x1F0, true, false, true, true, .outputPiece, [(0, 32)]⟩
  | .nodeCounterRestore => ⟨0x06, 0, 0x1F1, true, false, true, false, (.input 1 4294967295), [(0, 32)]⟩
  | .nodeColdChallenge => ⟨0x06, 0, 0x1F2, true, false, true, false, .none, []⟩
  | .airProfileLoad => ⟨0x04, 0, 0x001, false, true, false, false, (.input 64 64), []⟩
  | .airProfileRemove => ⟨0x04, 0, 0x002, false, true, false, false, .none, [(0, 16)]⟩
  | .airProfileBind => ⟨0x04, 0, 0x003, false, true, false, false, .none, [(0, 2), (16, 16)]⟩
  | .airProfileQuery => ⟨0x04, 0, 0x004, false, false, false, true, (.output 64), [(0, 16)]⟩
  | .airSetRouterAddress => ⟨0x04, 0, 0x005, true, true, false, false, .none, [(0, 32)]⟩
  | .airToneMapRead => ⟨0x04, 0, 0x006, false, false, false, true, .none, [(0, 18), (18, 1), (20, 4)]⟩
  | .airSound => ⟨0x04, 0, 0x007, false, false, true, false, .none, [(0, 18)]⟩
  | .airCounters => ⟨0x04, 0, 0x008, false, false, false, true, .none, [(0, 2), (2, 1)]⟩
  | .airProfileLoadRaw => ⟨0x04, 1, 0x001, false, true, false, false, (.input 64 64), []⟩
  | .airToneMapWrite => ⟨0x04, 1, 0x002, false, true, false, false, (.input 39 39), [(0, 18), (18, 1), (20, 4)]⟩
  | .radioWindowSet => ⟨0x03, 0, 0x001, false, true, false, false, .none, [(0, 2), (16, 16)]⟩
  | .radioWindowQuery => ⟨0x03, 0, 0x002, false, false, false, true, .none, [(0, 2)]⟩
  | .radioRxCounters => ⟨0x03, 0, 0x003, false, false, false, true, (.output 64), [(0, 2), (2, 1)]⟩
  | .radioContextStatus => ⟨0x03, 0, 0x004, false, false, false, true, (.outputMul 16 16 9), [(0, 9), (16, 9)]⟩
  | .radioDiagRing => ⟨0x03, 0, 0x005, false, true, false, false, .none, [(0, 2), (8, 4)]⟩
  | .radioSnapshotArm => ⟨0x03, 0, 0x006, false, false, true, false, .none, [(0, 2), (2, 1), (4, 4), (8, 2), (12, 4), (16, 16), (32, 64)]⟩
  | .radioSnapshotRead => ⟨0x03, 0, 0x007, false, false, false, true, .outputPiece, [(0, 8), (32, 32)]⟩
  | .radioSnapshotRelease => ⟨0x03, 0, 0x008, false, false, false, false, .none, [(0, 8)]⟩
  | .radioWakeConfig => ⟨0x03, 0, 0x009, true, true, false, false, .none, [(0, 1), (1, 1), (4, 3), (16, 16), (32, 32), (64, 32)]⟩
  | .radioWakeStatus => ⟨0x03, 0, 0x00A, false, false, false, true, .none, []⟩
  | .radioSyncTune => ⟨0x03, 1, 0x001, false, true, false, false, .none, [(0, 2), (8, 8), (16, 16), (32, 8)]⟩
  | .radioCaptureSet => ⟨0x03, 1, 0x002, false, true, false, false, .none, [(0, 2), (2, 1), (4, 4), (8, 8)]⟩
  | .radioAgcSet => ⟨0x03, 1, 0x003, false, true, false, false, .none, [(0, 2), (2, 2), (8, 8), (16, 16)]⟩
  | .radioRssiCal => ⟨0x03, 1, 0x004, false, true, false, false, .none, [(0, 2), (16, 16), (32, 16)]⟩
  | .radioRxPathDelay => ⟨0x03, 1, 0x005, false, true, false, false, .none, [(0, 2), (16, 16)]⟩
  | .radioContextReserve => ⟨0x03, 1, 0x006, false, true, false, false, .none, [(0, 2), (4, 9), (16, 16), (32, 16)]⟩
  | .radioContextRelease => ⟨0x03, 1, 0x007, false, true, false, false, .none, [(0, 9), (16, 9)]⟩
  | .radioRegionLoad => ⟨0x03, 0, 0x040, true, true, false, false, (.input 64 64), []⟩
  | .radioRegionRemove => ⟨0x03, 0, 0x041, true, true, false, false, .none, [(0, 16)]⟩
  | .radioRegionBind => ⟨0x03, 0, 0x042, true, true, false, false, .none, [(0, 2), (16, 16)]⟩
  | .radioRegionQuery => ⟨0x03, 0, 0x043, false, false, false, true, (.output 64), [(0, 16)]⟩
  | .radioBandEnable => ⟨0x03, 0, 0x044, false, true, true, false, .none, [(0, 2)]⟩
  | .radioBandDisable => ⟨0x03, 0, 0x045, false, true, false, false, .none, [(0, 2)]⟩
  | .radioBandStatus => ⟨0x03, 0, 0x046, false, false, false, true, .none, [(0, 2)]⟩
  | .radioTxPowerSet => ⟨0x03, 0, 0x047, false, true, false, false, .none, [(0, 2), (8, 8)]⟩
  | .radioTxCounters => ⟨0x03, 0, 0x048, false, false, false, true, (.output 64), [(0, 2), (2, 1)]⟩
  | .radioCoexConfig => ⟨0x03, 0, 0x049, true, true, false, false, .none, [(0, 2), (2, 1), (3, 1), (4, 1), (5, 1), (16, 16), (32, 5)]⟩
  | .radioTxModeSet => ⟨0x03, 1, 0x040, false, true, false, false, .none, [(0, 2), (2, 1)]⟩
  | .radioTxTiming => ⟨0x03, 1, 0x041, false, true, false, false, .none, [(0, 2), (2, 1), (8, 5), (16, 5), (24, 4), (32, 9)]⟩
  | .radioTxPathDelay => ⟨0x03, 1, 0x042, false, true, false, false, .none, [(0, 2), (16, 16)]⟩
  | .radioFeConfig => ⟨0x03, 1, 0x043, false, true, false, false, .none, [(0, 2), (4, 4), (8, 1)]⟩
  | .radioTxAt => ⟨0x03, 1, 0x044, false, false, true, false, (.input 1 2045), [(0, 2), (16, 16), (32, 16), (48, 5), (64, 64)]⟩
  | .radioTxCalRun => ⟨0x03, 1, 0x045, false, false, true, false, .none, [(0, 2), (4, 3)]⟩
  | .orbitStart => ⟨0x05, 0, 0x001, false, false, false, false, .none, [(0, 1), (32, 40), (96, 64)]⟩
  | .orbitStop => ⟨0x05, 0, 0x002, false, false, false, false, .none, []⟩
  | .orbitStatus => ⟨0x05, 0, 0x003, false, false, false, true, .none, []⟩
  | .orbitFrameSet => ⟨0x05, 0, 0x004, false, true, false, false, .none, [(0, 12), (16, 16)]⟩
  | .orbitStageCells => ⟨0x05, 0, 0x005, false, true, false, false, (.inputUnits 16 1024), [(0, 2)]⟩
  | .orbitHopSet => ⟨0x05, 0, 0x006, false, true, false, false, (.inputMul 1 8 7), [(0, 2), (8, 7)]⟩
  | .orbitParentSet => ⟨0x05, 0, 0x007, false, true, false, false, (.inputMul 8 0 4), [(0, 4)]⟩
  | .orbitClassLoad => ⟨0x05, 0, 0x008, false, true, false, false, (.input 64 64), []⟩
  | .orbitClassRemove => ⟨0x05, 0, 0x009, false, true, false, false, .none, [(0, 16)]⟩
  | .orbitNodeSchedule => ⟨0x05, 0, 0x00A, false, false, true, false, .none, [(0, 18), (20, 2), (24, 7), (32, 16), (56, 24), (80, 24)]⟩
  | .orbitNodeStatus => ⟨0x05, 0, 0x00B, false, false, false, true, .none, [(0, 18)]⟩
  | .orbitReportSet => ⟨0x05, 0, 0x00C, false, true, false, false, .none, [(0, 16)]⟩
  | .orbitDwellStatus => ⟨0x05, 0, 0x00D, false, false, false, true, .outputState, [(0, 2)]⟩
  | .orbitCounters => ⟨0x05, 0, 0x00E, false, false, false, true, (.output 88), [(0, 1)]⟩
  | .orbitClassLoadRaw => ⟨0x05, 1, 0x001, false, true, false, false, (.input 64 64), []⟩
  | .orbitPrepLead => ⟨0x05, 1, 0x002, false, true, false, false, .none, [(0, 16)]⟩
  | .orbitTimingSet => ⟨0x05, 1, 0x003, false, true, false, false, .none, [(0, 8), (16, 16)]⟩
  | .orbitDriftSet => ⟨0x05, 1, 0x004, false, false, false, false, .none, [(0, 18), (18, 1), (32, 16)]⟩
  | .nodeAdd => ⟨0x06, 0, 0x001, false, false, false, false, .none, [(0, 64), (64, 16), (80, 2), (82, 7), (92, 4), (96, 24), (128, 24), (152, 5), (157, 1)]⟩
  | .nodeRemove => ⟨0x06, 0, 0x002, false, false, false, false, .none, [(0, 2), (2, 1), (32, 64)]⟩
  | .nodeRead => ⟨0x06, 0, 0x003, false, false, false, true, (.outputMul 64 16 10), [(0, 2), (16, 10), (32, 64)]⟩
  | .nodeSet => ⟨0x06, 0, 0x004, false, false, false, false, .none, [(0, 18), (20, 3), (24, 4), (32, 5), (37, 1)]⟩
  | .nodeTableLoad => ⟨0x06, 0, 0x005, true, false, true, false, (.input 16777216 16777216), []⟩
  | .nodeLearnSet => ⟨0x06, 0, 0x006, false, false, false, false, .none, [(0, 3), (3, 1), (4, 4), (16, 16), (32, 16), (64, 19)]⟩
  | .nodeAgeSet => ⟨0x06, 0, 0x007, false, false, false, false, .none, [(0, 32)]⟩
  | .nodeShadowSet => ⟨0x06, 0, 0x008, true, false, false, false, .none, [(0, 1), (32, 19), (64, 64)]⟩
  | .nodeJournalRead => ⟨0x06, 0, 0x009, false, false, false, true, .outputState, [(0, 32)]⟩
  | .nodeCounters => ⟨0x06, 0, 0x00A, false, false, false, true, (.output 72), [(0, 1)]⟩
  | .nodeTableStatus => ⟨0x06, 0, 0x00B, false, false, false, true, .none, []⟩
  | .nodeHashSeed => ⟨0x06, 1, 0x001, true, false, false, false, .none, [(0, 32)]⟩
  | .nodeWriteRaw => ⟨0x06, 1, 0x002, true, false, false, false, (.input 64 64), [(0, 18)]⟩
  | .nodeScrubSet => ⟨0x06, 1, 0x003, false, false, false, false, .none, [(0, 12)]⟩
  | .routeAdd => ⟨0x07, 0, 0x001, false, true, false, false, .none, [(0, 64), (64, 7), (72, 3), (80, 16)]⟩
  | .routeRemove => ⟨0x07, 0, 0x002, false, true, false, false, .none, [(0, 64), (64, 7)]⟩
  | .routeLookup => ⟨0x07, 0, 0x003, false, false, false, true, .none, [(0, 128)]⟩
  | .routeDefaultSet => ⟨0x07, 0, 0x004, false, true, false, false, .none, [(0, 3), (16, 16)]⟩
  | .routeMeshSet => ⟨0x07, 0, 0x005, true, true, false, false, .none, [(0, 64), (64, 64), (128, 16), (144, 3), (147, 1), (148, 1)]⟩
  | .routeContextSet => ⟨0x07, 0, 0x006, false, true, false, false, .none, [(0, 4), (4, 1), (8, 7), (64, 64)]⟩
  | .routeNodeSet => ⟨0x07, 0, 0x007, false, true, false, false, .none, [(0, 18), (20, 2), (32, 32)]⟩
  | .routeNodeQuery => ⟨0x07, 0, 0x008, false, false, false, true, (.output 48), [(0, 18)]⟩
  | .routeStatus => ⟨0x07, 0, 0x009, false, false, false, true, .none, []⟩
  | .routeCounters => ⟨0x07, 0, 0x00A, false, false, false, true, (.output 56), [(0, 1)]⟩
  | .routeLowpanSet => ⟨0x07, 1, 0x001, false, true, false, false, .none, [(0, 1)]⟩
  | .routeTrieRead => ⟨0x07, 1, 0x002, true, false, false, true, (.outputMul 64 16 15), [(0, 15), (16, 15)]⟩
  | .ethPortConfig => ⟨0x0F, 0, 0x001, true, true, true, false, .none, [(0, 1), (1, 3), (16, 16), (48, 48), (100, 12), (112, 3)]⟩
  | .ethPortStatus => ⟨0x0F, 0, 0x002, false, false, false, true, .none, [(0, 1)]⟩
  | .ethAddrSet => ⟨0x0F, 0, 0x003, false, true, false, false, .none, [(0, 1), (1, 2), (3, 1), (32, 128)]⟩
  | .ethNeighbourSet => ⟨0x0F, 0, 0x004, false, true, false, false, .none, [(0, 8), (8, 1), (9, 1), (32, 48)]⟩
  | .ethHostSet => ⟨0x0F, 0, 0x005, false, true, false, false, .none, [(0, 1), (2, 4), (6, 1), (8, 6), (16, 16)]⟩
  | .ethCounters => ⟨0x0F, 0, 0x006, false, false, false, true, (.output 48), [(0, 1), (1, 1)]⟩
  | .ethMacTune => ⟨0x0F, 1, 0x001, false, true, false, false, .none, [(0, 1), (1, 1), (2, 1), (8, 4)]⟩
  | .keySlotQuery => ⟨0x08, 0, 0x001, false, false, false, true, .none, [(0, 7)]⟩
  | .keyGenerate => ⟨0x08, 0, 0x002, false, false, false, false, .none, [(0, 7), (8, 2), (12, 3), (15, 1), (16, 1), (32, 24)]⟩
  | .keyBlobLoad => ⟨0x08, 0, 0x003, false, false, false, false, (.input 48 64), [(0, 7), (7, 1)]⟩
  | .keyBlobExport => ⟨0x08, 0, 0x004, false, false, false, false, .outputState, [(0, 7)]⟩
  | .keyRevoke => ⟨0x08, 0, 0x005, false, true, false, false, .none, [(0, 7)]⟩
  | .keyGenMap => ⟨0x08, 0, 0x006, false, true, false, false, .none, [(0, 8), (8, 7), (15, 1)]⟩
  | .keyGenQuery => ⟨0x08, 0, 0x007, false, false, false, true, .none, []⟩
  | .keyAttest => ⟨0x08, 0, 0x008, false, false, false, true, (.output 128), [(0, 7), (32, 256)]⟩
  | .keyIdentityGenerate => ⟨0x08, 0, 0x009, false, false, true, false, .none, []⟩
  | .keyIdentityRead => ⟨0x08, 0, 0x00A, false, false, false, true, (.output 64), []⟩
  | .keyLifecycleAdvance => ⟨0x08, 0, 0x00B, false, false, true, false, .none, [(0, 3), (32, 32)]⟩
  | .keyTamperStatus => ⟨0x08, 0, 0x00C, false, false, false, true, .none, []⟩
  | .keyTamperConfig => ⟨0x08, 0, 0x00D, false, false, false, false, .none, [(0, 1), (1, 1)]⟩
  | .keyDebugChallenge => ⟨0x08, 0, 0x00E, false, false, false, false, .none, []⟩
  | .keyDebugUnlock => ⟨0x08, 0, 0x00F, false, false, false, false, (.input 128 128), []⟩
  | .keyCounters => ⟨0x08, 0, 0x010, false, false, false, true, (.output 40), [(0, 1)]⟩
  | .keyImportRaw => ⟨0x08, 1, 0x001, false, false, false, false, (.keyInput 0), [(0, 7), (32, 32), (64, 24)]⟩
  | .keyImportWrapped => ⟨0x08, 1, 0x002, false, false, false, false, (.keyInput 8), [(0, 7), (8, 7), (32, 32), (64, 24)]⟩
  | .keyBlobWrapOut => ⟨0x08, 1, 0x003, false, false, false, false, .outputState, [(0, 7), (8, 7)]⟩
  | .keyKdfVector => ⟨0x08, 1, 0x004, false, false, false, true, (.input 16 16), [(0, 8), (64, 64)]⟩
  | .keySign => ⟨0x08, 1, 0x005, false, false, false, false, (.output 64), [(0, 7), (32, 256)]⟩
  | .keyDebugAuthSet => ⟨0x08, 1, 0x006, false, false, false, false, .none, [(32, 256)]⟩
  | .cryptStatus => ⟨0x09, 0, 0x001, false, false, false, true, .none, []⟩
  | .cryptCounters => ⟨0x09, 0, 0x002, false, false, false, true, (.output 52), [(0, 1)]⟩
  | .cryptRouterEuiSet => ⟨0x09, 0, 0x003, true, true, false, false, .none, [(64, 64)]⟩
  | .cryptGenRoll => ⟨0x09, 0, 0x004, true, true, false, false, .none, [(0, 8), (64, 40)]⟩
  | .cryptNodeChallenge => ⟨0x09, 0, 0x005, true, false, false, false, .none, [(0, 18)]⟩
  | .cryptRawBlock => ⟨0x09, 1, 0x001, false, false, false, false, .none, [(0, 7), (7, 1), (8, 2), (64, 256)]⟩
  | .cryptCutThroughSet => ⟨0x09, 1, 0x002, false, true, false, false, .none, [(0, 16), (32, 11)]⟩
  | .cryptLaneAssign => ⟨0x09, 1, 0x003, false, true, false, false, .none, [(0, 2)]⟩
  | .cryptCcmVector => ⟨0x09, 1, 0x004, false, true, false, true, .ccmInput, [(0, 3), (4, 2)]⟩
  | .queueConfig => ⟨0x0A, 0, 0x001, false, true, false, false, .none, [(0, 6), (8, 8), (16, 16)]⟩
  | .queueFlush => ⟨0x0A, 0, 0x002, false, false, false, false, .none, [(0, 64)]⟩
  | .queueStatus => ⟨0x0A, 0, 0x003, false, false, false, true, .none, [(0, 6)]⟩
  | .queueOverheadSet => ⟨0x0A, 0, 0x004, false, true, false, false, .none, [(0, 16), (16, 16), (32, 16)]⟩
  | .queueGateSet => ⟨0x0A, 0, 0x005, false, true, false, false, (.inputMul 12 2 6), [(0, 2), (2, 6), (64, 40)]⟩
  | .queueSampleSet => ⟨0x0A, 0, 0x006, false, true, false, false, .none, [(0, 16)]⟩
  | .queueSamplesRead => ⟨0x0A, 0, 0x007, false, false, false, true, .outputState, [(0, 6), (8, 9)]⟩
  | .queueCounters => ⟨0x0A, 0, 0x008, false, false, false, true, (.output 56), [(0, 1)]⟩
  | .queueFwSet => ⟨0x0A, 0, 0x009, false, true, false, false, .none, [(0, 6)]⟩
  | .queueArbClass => ⟨0x0A, 1, 0x001, true, true, false, false, .none, [(0, 32)]⟩
  | .queueArbStarve => ⟨0x0A, 1, 0x002, true, true, false, false, .none, [(0, 16)]⟩
  | .queueWatchdogSet => ⟨0x0A, 1, 0x003, true, true, false, false, .none, [(0, 16)]⟩
  | .queueArbStatus => ⟨0x0A, 1, 0x004, false, false, false, true, (.output 256), []⟩
  | .queueWorkStatus => ⟨0x0A, 1, 0x005, false, false, false, true, (.output 96), []⟩
  | .timeStatus => ⟨0x0B, 0, 0x001, false, false, false, true, .none, []⟩
  | .timeSet => ⟨0x0B, 0, 0x002, true, false, false, false, .none, [(0, 64)]⟩
  | .timeAdjust => ⟨0x0B, 0, 0x003, true, false, false, false, .none, [(0, 64)]⟩
  | .timeSourceSet => ⟨0x0B, 0, 0x004, true, true, false, false, .none, [(0, 3), (8, 3), (12, 3), (16, 3), (20, 3)]⟩
  | .timePtpPort => ⟨0x0B, 0, 0x005, true, true, false, false, .none, [(0, 1), (1, 2), (3, 1), (4, 1), (8, 8), (16, 4), (20, 4), (32, 8), (40, 8), (48, 8), (64, 16), (80, 16)]⟩
  | .timePpsConfig => ⟨0x0B, 0, 0x006, false, true, false, false, .none, [(0, 16), (16, 16), (32, 19)]⟩
  | .timePinConfig => ⟨0x0B, 0, 0x007, false, true, false, false, .none, [(0, 4), (4, 3), (7, 1), (8, 1), (12, 4), (16, 16), (64, 64), (128, 40), (192, 40)]⟩
  | .timeTriggerConfig => ⟨0x0B, 0, 0x008, false, true, false, false, .none, [(0, 4), (4, 3), (8, 4), (32, 24), (64, 64), (128, 40), (192, 40)]⟩
  | .timeCaptureRead => ⟨0x0B, 0, 0x009, false, false, false, true, .outputState, [(0, 4)]⟩
  | .timeParentDelay => ⟨0x0B, 0, 0x00A, false, true, false, false, .none, [(0, 3), (16, 16)]⟩
  | .timeCounters => ⟨0x0B, 0, 0x00B, false, false, false, true, (.output 60), [(0, 1)]⟩
  | .timeServoSet => ⟨0x0B, 1, 0x001, true, true, false, false, .none, [(0, 16), (16, 16), (32, 19), (64, 17), (96, 14), (128, 32), (160, 32), (192, 17), (224, 20)]⟩
  | .timeIncrementSet => ⟨0x0B, 1, 0x002, true, true, false, false, .none, [(0, 64)]⟩
  | .timeUncClear => ⟨0x0B, 1, 0x003, true, false, false, false, .none, [(0, 16), (16, 1)]⟩
  | .timeRtcStatus => ⟨0x0B, 1, 0x004, false, false, false, true, .none, []⟩
  | .pairConfig => ⟨0x0C, 0, 0x001, false, false, true, false, .none, [(0, 1), (1, 1), (2, 14), (16, 16), (32, 16), (48, 16), (64, 16), (80, 7), (88, 7)]⟩
  | .pairStatus => ⟨0x0C, 0, 0x002, false, false, false, true, .none, []⟩
  | .pairLocalApply => ⟨0x0C, 0, 0x003, false, false, false, false, (.input 64 64), []⟩
  | .pairRelinquish => ⟨0x0C, 0, 0x004, false, false, true, false, .none, []⟩
  | .pairCounters => ⟨0x0C, 0, 0x005, false, false, false, true, (.output 52), [(0, 1)]⟩
  | .pairForceSolo => ⟨0x0C, 1, 0x001, false, false, false, false, .none, []⟩
  | .pwrPolicySet => ⟨0x02, 0, 0x001, false, true, false, false, .none, [(0, 5), (5, 2), (7, 1), (16, 16), (32, 24)]⟩
  | .pwrDomainSet => ⟨0x02, 0, 0x002, false, false, true, false, .none, [(0, 2), (32, 32)]⟩
  | .pwrStatus => ⟨0x02, 0, 0x003, false, false, false, true, (.output 96), []⟩
  | .pwrRefSet => ⟨0x02, 1, 0x001, false, true, false, false, .none, [(0, 16)]⟩
  | .pwrBlockQuery => ⟨0x02, 1, 0x002, false, false, false, true, .outputState, [(0, 5)]⟩
  | .updateBegin => ⟨0x0D, 0, 0x001, false, false, true, false, (.input 256 256), []⟩
  | .updateWrite => ⟨0x0D, 0, 0x002, false, false, false, false, (.input 4096 4096), [(0, 32)]⟩
  | .updateVerify => ⟨0x0D, 0, 0x003, false, false, true, false, .none, []⟩
  | .updateActivate => ⟨0x0D, 0, 0x004, false, false, true, false, .none, [(0, 1)]⟩
  | .updateConfirm => ⟨0x0D, 0, 0x005, false, false, true, false, .none, []⟩
  | .updateRevert => ⟨0x0D, 0, 0x006, false, false, true, false, .none, []⟩
  | .updateStatus => ⟨0x0D, 0, 0x007, false, false, false, true, (.output 64), []⟩
  | .campaignDefine => ⟨0x10, 0, 0x001, false, false, false, false, (.input 32 32), [(0, 16), (16, 16), (32, 32), (64, 12), (80, 8), (96, 32), (128, 32)]⟩
  | .campaignLoad => ⟨0x10, 0, 0x002, false, false, false, false, (.input 1 65536), [(0, 32)]⟩
  | .campaignTargets => ⟨0x10, 0, 0x003, false, false, false, false, (.inputUnits 4 65536), [(0, 1)]⟩
  | .campaignStart => ⟨0x10, 0, 0x004, false, false, true, false, .none, [(0, 40)]⟩
  | .campaignActivate => ⟨0x10, 0, 0x005, false, false, false, false, .none, [(0, 40)]⟩
  | .campaignStop => ⟨0x10, 0, 0x006, false, false, false, false, .none, []⟩
  | .campaignStatus => ⟨0x10, 0, 0x007, false, false, false, true, .none, []⟩
  | .campaignTargetRead => ⟨0x10, 0, 0x008, false, false, false, true, .outputState, [(0, 16), (16, 16)]⟩
  | .campaignTune => ⟨0x10, 1, 0x001, false, false, false, false, .none, [(0, 2)]⟩
  | .testLinkStart => ⟨0x0E, 0, 0x001, false, false, false, false, .none, [(0, 3), (4, 2), (6, 2), (8, 2), (32, 32)]⟩
  | .testLinkResult => ⟨0x0E, 0, 0x002, false, false, false, true, .outputState, [(0, 3), (3, 1)]⟩
  | .testRadioStart => ⟨0x0E, 0, 0x003, false, false, false, false, .none, [(0, 2), (2, 3), (5, 1), (16, 16), (32, 16), (48, 16), (64, 11), (80, 16), (96, 32), (128, 32)]⟩
  | .testRadioResult => ⟨0x0E, 0, 0x004, false, false, false, true, .none, [(0, 2), (2, 1)]⟩
  | .testStop => ⟨0x0E, 0, 0x005, false, false, false, false, .none, [(0, 8)]⟩
  | .testStatus => ⟨0x0E, 0, 0x006, false, false, false, true, .none, []⟩
  | .testTelemetryRead => ⟨0x0E, 0, 0x007, false, false, false, true, .outputState, [(0, 11)]⟩
  | .testTelemetrySet => ⟨0x0E, 0, 0x008, false, false, false, false, .none, [(0, 16)]⟩
  | .testWatchdogSet => ⟨0x0E, 1, 0x001, false, false, false, false, .none, [(0, 16), (16, 16)]⟩
  | .testFaultInject => ⟨0x0E, 1, 0x002, false, false, false, false, .none, [(0, 2), (4, 20), (24, 3)]⟩

/-- Commands in table order, part 1. -/
def cmdList1 : List CmdId :=
  [.sysIdentify, .sysGetState, .sysCounters, .sysPin, .sysUnpin, .sysPinQuery, .sysStageOpen, .sysStageCheck, .sysStageCommit, .sysStageAbort, .sysStageQuery, .sysFunctionReset, .sysQuiesce, .sysResume, .nodeCounterSnapshot, .nodeCounterRestore, .nodeColdChallenge, .airProfileLoad, .airProfileRemove, .airProfileBind, .airProfileQuery, .airSetRouterAddress, .airToneMapRead, .airSound, .airCounters, .airProfileLoadRaw]

/-- Commands in table order, part 2. -/
def cmdList2 : List CmdId :=
  [.airToneMapWrite, .radioWindowSet, .radioWindowQuery, .radioRxCounters, .radioContextStatus, .radioDiagRing, .radioSnapshotArm, .radioSnapshotRead, .radioSnapshotRelease, .radioWakeConfig, .radioWakeStatus, .radioSyncTune, .radioCaptureSet, .radioAgcSet, .radioRssiCal, .radioRxPathDelay, .radioContextReserve, .radioContextRelease, .radioRegionLoad, .radioRegionRemove, .radioRegionBind, .radioRegionQuery, .radioBandEnable, .radioBandDisable, .radioBandStatus, .radioTxPowerSet]

/-- Commands in table order, part 3. -/
def cmdList3 : List CmdId :=
  [.radioTxCounters, .radioCoexConfig, .radioTxModeSet, .radioTxTiming, .radioTxPathDelay, .radioFeConfig, .radioTxAt, .radioTxCalRun, .orbitStart, .orbitStop, .orbitStatus, .orbitFrameSet, .orbitStageCells, .orbitHopSet, .orbitParentSet, .orbitClassLoad, .orbitClassRemove, .orbitNodeSchedule, .orbitNodeStatus, .orbitReportSet, .orbitDwellStatus, .orbitCounters, .orbitClassLoadRaw, .orbitPrepLead, .orbitTimingSet, .orbitDriftSet]

/-- Commands in table order, part 4. -/
def cmdList4 : List CmdId :=
  [.nodeAdd, .nodeRemove, .nodeRead, .nodeSet, .nodeTableLoad, .nodeLearnSet, .nodeAgeSet, .nodeShadowSet, .nodeJournalRead, .nodeCounters, .nodeTableStatus, .nodeHashSeed, .nodeWriteRaw, .nodeScrubSet, .routeAdd, .routeRemove, .routeLookup, .routeDefaultSet, .routeMeshSet, .routeContextSet, .routeNodeSet, .routeNodeQuery, .routeStatus, .routeCounters, .routeLowpanSet, .routeTrieRead]

/-- Commands in table order, part 5. -/
def cmdList5 : List CmdId :=
  [.ethPortConfig, .ethPortStatus, .ethAddrSet, .ethNeighbourSet, .ethHostSet, .ethCounters, .ethMacTune, .keySlotQuery, .keyGenerate, .keyBlobLoad, .keyBlobExport, .keyRevoke, .keyGenMap, .keyGenQuery, .keyAttest, .keyIdentityGenerate, .keyIdentityRead, .keyLifecycleAdvance, .keyTamperStatus, .keyTamperConfig, .keyDebugChallenge, .keyDebugUnlock, .keyCounters, .keyImportRaw, .keyImportWrapped, .keyBlobWrapOut]

/-- Commands in table order, part 6. -/
def cmdList6 : List CmdId :=
  [.keyKdfVector, .keySign, .keyDebugAuthSet, .cryptStatus, .cryptCounters, .cryptRouterEuiSet, .cryptGenRoll, .cryptNodeChallenge, .cryptRawBlock, .cryptCutThroughSet, .cryptLaneAssign, .cryptCcmVector, .queueConfig, .queueFlush, .queueStatus, .queueOverheadSet, .queueGateSet, .queueSampleSet, .queueSamplesRead, .queueCounters, .queueFwSet, .queueArbClass, .queueArbStarve, .queueWatchdogSet, .queueArbStatus, .queueWorkStatus]

/-- Commands in table order, part 7. -/
def cmdList7 : List CmdId :=
  [.timeStatus, .timeSet, .timeAdjust, .timeSourceSet, .timePtpPort, .timePpsConfig, .timePinConfig, .timeTriggerConfig, .timeCaptureRead, .timeParentDelay, .timeCounters, .timeServoSet, .timeIncrementSet, .timeUncClear, .timeRtcStatus, .pairConfig, .pairStatus, .pairLocalApply, .pairRelinquish, .pairCounters, .pairForceSolo, .pwrPolicySet, .pwrDomainSet, .pwrStatus, .pwrRefSet, .pwrBlockQuery]

/-- Commands in table order, part 8. -/
def cmdList8 : List CmdId :=
  [.updateBegin, .updateWrite, .updateVerify, .updateActivate, .updateConfirm, .updateRevert, .updateStatus, .campaignDefine, .campaignLoad, .campaignTargets, .campaignStart, .campaignActivate, .campaignStop, .campaignStatus, .campaignTargetRead, .campaignTune, .testLinkStart, .testLinkResult, .testRadioStart, .testRadioResult, .testStop, .testStatus, .testTelemetryRead, .testTelemetrySet, .testWatchdogSet, .testFaultInject]

/-- Every command, in table order. -/
def cmdList : List CmdId :=
  cmdList1 ++ cmdList2 ++ cmdList3 ++ cmdList4 ++ cmdList5 ++ cmdList6 ++ cmdList7 ++ cmdList8

/-- Bits [15:0] of the command word of a command (R69). -/
def cmdCode (c : CmdId) : Nat := (cmdSpec c).num * 128 + (cmdSpec c).lvl * 64 + (cmdSpec c).fn

/-- The command that bits [15:0] of a command word name, if any (R69, R75 step 1). -/
def cmdOfCode (code : Nat) : Option CmdId := cmdList.find? fun c => cmdCode c == code

/-- The argument bits a row names, as a mask. -/
def usedMask (l : List (Nat × Nat)) : Nat := l.foldl (fun m p => m ||| ((2 ^ p.2 - 1) <<< p.1)) 0

/-- The views from which a function and level may be used at all (R70): `true` where the unprivileged view may. -/
def unprivLevel (fn lvl : Nat) : Bool :=
  match fn with
  | 0x01 | 0x04 | 0x05 | 0x06 | 0x07 | 0x0A | 0x0B | 0x0F | 0x10 => true
  | 0x03 | 0x09 => lvl == 0
  | _ => false

/-- Functions of R70 with a known code. -/
def knownFunction (fn : Nat) : Bool := 1 ≤ fn && fn ≤ 16

end Sys2Proof.Machine
end

