-- ==== Sys2Proof/Machine/StHost.lean ====
section
/-! DEFINITION. The state of the host interface: registers, rings, mailboxes, the SPI target, sessions, stages and pins. -/

namespace Sys2Proof.Machine

/-- Addressed bytes: address and byte, addresses strictly rising, no entry equal to what an unlisted address reads as. -/
abbrev Memory := List Host.Cell

/-- One value for each band. -/
structure Trio (α : Type) where
  a : α
  b : α
  c : α
deriving DecidableEq, Repr

/-- Part states (R56); `PartState.code` gives their codes. -/
inductive PartState where
  | boot | loader | tamperLock | coldWait | run | quiesced | standby
deriving DecidableEq, Repr

/-- Pair roles (R55, R439): single 0, active 1, standby 2, undecided 3. -/
inductive Role where
  | single | active | standby | undecided
deriving DecidableEq, Repr

/-- A ring register set (R57, R59) with the pass of its phase bit (R60). -/
structure RingRegs where
  /-- `BASE_LO`. [32 bits; 02_host_interface.md R57; reset 0 DESIGN CHOICE (log 8)] -/
  baseLo : W32
  /-- `BASE_HI`. [32 bits; 02_host_interface.md R57; reset 0 DESIGN CHOICE (log 8)] -/
  baseHi : W32
  /-- `AUX_BASE_LO`. [32 bits; 02_host_interface.md R57; reset 0 DESIGN CHOICE (log 8)] -/
  auxLo : W32
  /-- `AUX_BASE_HI`. [32 bits; 02_host_interface.md R57; reset 0 DESIGN CHOICE (log 8)] -/
  auxHi : W32
  /-- `CTRL`. [32 bits; 02_host_interface.md R59; reset 0] -/
  ctrl : W32
  /-- `PROD`. [12 bits; 02_host_interface.md R57, R552; reset 0] -/
  prod : BitVec 12
  /-- `CONS`. [12 bits; 02_host_interface.md R57, R552; reset 0] -/
  cons : BitVec 12
  /-- `RSP_CONS`. [12 bits; 02_host_interface.md R57, R552; reset 0] -/
  rspCons : BitVec 12
  /-- `STATUS.active`. [1 bit; 02_host_interface.md R59; reset 0] -/
  active : Bool
  /-- `STATUS.fault_size`. [1 bit; 02_host_interface.md R59; reset 0] -/
  faultSize : Bool
  /-- `STATUS.fault_dma`. [1 bit; 02_host_interface.md R59; reset 0] -/
  faultDma : Bool
  /-- `STATUS.fault_buf`. [1 bit; 02_host_interface.md R59; reset 0] -/
  faultBuf : Bool
  /-- Phase the part writes on its present pass. [1 bit; 02_host_interface.md R60; reset 1] -/
  phase : Bool
  /-- Entries written and not yet reported by an interrupt. [count; 02_host_interface.md R59; reset 0] -/
  unreported : Nat
  /-- Accesses to the ring's host memory that succeed before one fails, none where none ever does: what RING_ENABLE brought of the
  host's side (log 82). [the model's; 02_host_interface.md R59; reset none] -/
  dmaLeft : Option Nat
deriving DecidableEq, Repr

/-- A response entry (R63). `figures` holds, in the order of the command's table, results whose byte layout the manual
does not give (log 10); `buffer` the bytes written to the command's buffer. -/
structure Response where
  status : W16
  tag : W16
  resultLen : Nat
  stageId : W16
  phase : Bool
  final : Bool
  partState : Byte
  fnState : Byte
  detail : W32
  doneNs : W64
  result : List Byte
  figures : List Int
  buffer : List Byte
deriving DecidableEq, Repr

/-- An event entry (R64), also the latch of R65, whose phase bit is 0 until it is written to a ring. -/
structure EventEntry where
  phase : Bool
  function : BitVec 6
  code : W16
  count : W16
  timeNs : W64
  arg0 : W32
  arg1 : W32
  arg2 : W32
  arg3 : W32
deriving DecidableEq, Repr

/-- What the part fills in a receive entry (R66), and the bytes it writes to the posted buffer. -/
structure RxEntry where
  buf : PostedBuf
  phase : Bool
  last : Bool
  frameStatus : Byte
  length : Nat
  mode : Nat
  context : Nat
  band : Nat
  nodeValid : Bool
  nodeIndex : Nat
  tsNs : W64
  tsFrac : W32
  keyGen : Byte
  lqi : Byte
  rssi : Int
  frameCounter : W32
  srcAddr : W32
  chunkSeq : Nat
  channel : Nat
  frameId : W32
  data : List Byte
deriving DecidableEq, Repr

/-- What the part writes in a transmit entry when the frame completes (R67). -/
structure TxDone where
  index : Nat
  phase : Bool
  errDest : Bool
  lateLaunch : Bool
  errDesc : Bool
  attempts : Nat
  frameStatus : Byte
  counter : W32
  launchNs : W64
  channel : Nat
  band : Nat
deriving DecidableEq, Repr

/-- A time-stamp queue entry (R68). -/
structure TsEntry where
  phase : Bool
  source : Nat
  tsId : W16
  tsFrac : W32
  tsNs : W64
deriving DecidableEq, Repr

/-- A command channel (R57, R58): its register set and the responses the part has written that the host has not freed. -/
structure CmdChan where
  /-- Register set. [0x40 bytes; 02_host_interface.md R57; reset 0] -/
  regs : RingRegs
  /-- Response entries written and not freed, oldest first. [at most size − 1; 02_host_interface.md R58, R63; reset empty] -/
  responses : List Response
  /-- The part's own response index. [12 bits; 02_host_interface.md R58; reset 0] -/
  rspProd : BitVec 12
deriving DecidableEq, Repr

/-- An event ring (R58, R64). -/
structure EventRing where
  /-- Register set. [0x40 bytes; 02_host_interface.md R57; reset 0] -/
  regs : RingRegs
  /-- Event entries written and not consumed, oldest first. [at most size − 1; 02_host_interface.md R58, R64; reset empty] -/
  entries : List EventEntry
deriving DecidableEq, Repr

/-- A receive ring (R58, R66, R553). -/
structure RxRing where
  /-- Register set. [0x40 bytes; 02_host_interface.md R57; reset 0] -/
  regs : RingRegs
  /-- Buffers posted and not yet used, oldest first. [at most size − 1; 02_host_interface.md R58, R553; reset empty] -/
  posted : List PostedBuf
  /-- Entries written since the ring was enabled, oldest first (they lie in host memory). [list; 02_host_interface.md R66; reset empty] -/
  entries : List RxEntry
deriving DecidableEq, Repr

/-- A transmit ring (R58, R67, R552). -/
structure TxRing where
  /-- Register set. [0x40 bytes; 02_host_interface.md R57; reset 0] -/
  regs : RingRegs
  /-- Completions written since the ring was enabled, oldest first (they lie in host memory). [list; 02_host_interface.md R67; reset empty] -/
  completions : List TxDone
  /-- Enable count, which tells frames of an earlier enabling from those of this one. [count; 02_host_interface.md R552; reset 0] -/
  era : Nat
  /-- Frames fetched and not yet completed. [count; 02_host_interface.md R552; reset 0] -/
  live : Nat
deriving DecidableEq, Repr

/-- The transmit time-stamp queue (R58, R68, R419). -/
structure TsQueue where
  /-- Register set. [0x40 bytes; 02_host_interface.md R57; reset 0] -/
  regs : RingRegs
  /-- Entries written and not consumed, oldest first. [at most 63; 02_host_interface.md R58, 12_time.md R419; reset empty] -/
  entries : List TsEntry
deriving DecidableEq, Repr

/-- One PCIe view's registers (R53, R54), its mailbox (R52) and its latches (R65). -/
structure ViewIf where
  /-- `EV_ENABLE`. [32 bits; 02_host_interface.md R53, R54; reset 0x0003_FFFF privileged, 0x0002_66F8 unprivileged] -/
  evEnable : W32
  /-- Event ring set. [02_host_interface.md R53, R54; reset 0] -/
  event : EventRing
  /-- Pending latches, oldest first, one per event code. [at most 18; 02_host_interface.md R65; reset empty] -/
  latches : List EventEntry
  /-- Command channel sets. [4 or 12; 02_host_interface.md R53, R54; reset 0] -/
  chans : List CmdChan
  /-- `MBOX` words 0 to 39 (offsets 0x00 to 0x9F) as the host last wrote them, sparse, 0 where unlisted; words 16 to 31 only where they
  are written after the last response. [160 bytes; 02_host_interface.md R52, R53; reset 0 DESIGN CHOICE (log 8)] -/
  mbox : SMap W32
  /-- `MBOX_CTRL.busy`. [1 bit; 02_host_interface.md R552; reset 0] -/
  mboxBusy : Bool
  /-- The command that stands in the mailbox waits to be fetched (R78). [1 bit; 02_host_interface.md R52, R78; reset 0] -/
  mboxWaits : Bool
  /-- The last mailbox response (offset 0x40). [64 bytes; 02_host_interface.md R52; reset none] -/
  mboxRsp : Option Response
  /-- MSI-X table words, sparse, 0 where unlisted. [64 × 16 bytes; 02_host_interface.md R53, R54; reset 0 DESIGN CHOICE (log 8)] -/
  msix : SMap W32
  /-- MSI-X pending bits. [64 bits; 02_host_interface.md R53, R54; reset 0 DESIGN CHOICE (log 8)] -/
  msixPending : W64
  /-- Vectors signalled, oldest first (messages already on the link). [list; 02_host_interface.md R59; reset empty] -/
  signalled : List Nat
deriving DecidableEq, Repr

/-- The SPI management target (R48, R49). -/
structure SpiIf where
  /-- Responses that wait to be read, oldest first. [at most 2 × 64 bytes; 02_host_interface.md R48, R77; reset none] -/
  rsps : List Response
  /-- One command is outstanding. [1 bit; 02_host_interface.md R49; reset 0] -/
  outstanding : Bool
  /-- The command that waits to be fetched (R78). [64 bytes; 02_host_interface.md R48, R78; reset none] -/
  waits : Option CmdEntry
  /-- Status bit [2]: command refused because one is already outstanding. [1 bit; 02_host_interface.md R48; reset 0] -/
  refused : Bool
  /-- Status bit [3]: CRC error in the previous transaction. [1 bit; 02_host_interface.md R48; reset 0] -/
  crcErr : Bool
  /-- Data window. [64 KiB, unlisted bytes read 0 DESIGN CHOICE (log 8); 02_host_interface.md R49; reset empty] -/
  window : Memory
  /-- Bytes returned by the last transaction, its own CRC included. [list; 02_host_interface.md R48; reset empty] -/
  returned : List Byte
deriving DecidableEq, Repr

/-- What a command answers with: status, `detail`, result bytes (inline or in the buffer), results without a byte layout
(log 10), and the `stage_id` of the response where it is not the entry's. -/
structure Reply where
  status : Nat
  detail : Nat := 0
  data : List Byte := []
  figures : List Int := []
  stageId : Option Nat := none
deriving DecidableEq, Repr

/-- A long command that has given its interim response (R77). -/
structure LongOp where
  e : CmdEntry
  /-- True elapsed nanoseconds when the work started. -/
  since : Nat
  /-- What the work needs to remember (a launch, a node, a domain bit). -/
  ref : Nat
deriving DecidableEq, Repr

/-- A stage (R88 to R95, R554). -/
structure Stage where
  id : Nat
  mask : W16
  /-- The owning session; none on a new active unit after a takeover (R95). -/
  owner : Option Session
  cmds : List CmdEntry
  argBytes : Nat
  /-- `check_state` of R554: 0 to 5. -/
  checkState : Nat
  /-- Mode of the last check. -/
  mode : Nat
  /-- Point of the last check. -/
  point : Nat
  /-- Lease length given at open. -/
  leaseMs : Nat
  /-- True elapsed nanoseconds at which the lease ends. -/
  leaseEnd : Nat
  /-- Index of the first failing command at the last failed check. -/
  firstFail : W32
  /-- Ephemeris nanoseconds at which it was applied. -/
  appliedNs : W64
  /-- The pending commit that its final response answers (R91). -/
  commit : Option CmdEntry
deriving DecidableEq, Repr

/-- The host interface. -/
structure HostIf where
  /-- The privileged view. [02_host_interface.md R53; reset as its registers] -/
  priv : ViewIf
  /-- The unprivileged view. [02_host_interface.md R54; reset as its registers] -/
  unpriv : ViewIf
  /-- Receive rings 0 to 15. [16; 02_host_interface.md R54; reset 0] -/
  rx : List RxRing
  /-- Transmit rings 0 to 15. [16; 02_host_interface.md R54; reset 0] -/
  tx : List TxRing
  /-- Time-stamp queue. [02_host_interface.md R54; reset 0] -/
  ts : TsQueue
  /-- SPI management target. [02_host_interface.md R48, R49; reset idle] -/
  spi : SpiIf
  /-- Commands fetched and not yet completed, in fetch order. [at most 256 with the long ones; 02_host_interface.md R78, R82; reset empty] -/
  fetched : List CmdEntry
  /-- Long commands at work. [list; 02_host_interface.md R77; reset empty] -/
  longOps : List LongOp
  /-- The session after which the round robin goes on, as a number 0 to 18. [02_host_interface.md R78; reset 18 DESIGN CHOICE (log 8)] -/
  rrLast : Nat
  /-- Pins held, oldest first. [at most 64 × 16 bits; 02_host_interface.md R72, R73; reset empty] -/
  pins : List W16
  /-- Host-interface counters in the order of R74. [5 × 32 bits; 02_host_interface.md R74; reset 0 DESIGN CHOICE (log 8)] -/
  counters : Ctrs
  /-- Stages open, sealed, or kept for their record. [at most 4 live; 02_host_interface.md R88, R554; reset empty] -/
  stages : List Stage
  /-- Identifier given to the last stage opened; 0 once no stage is live. [16 bits; 02_host_interface.md R88; reset 0 DESIGN CHOICE (log 8)] -/
  lastStage : Nat
  /-- The PCIe endpoint trains its link or is up (R525). [1 bit; 17_electrical_package.md R525; reset 0] -/
  pcieUp : Bool
  /-- Identifier of the last `frame_id` used. [32 bits; 02_host_interface.md R66; reset 0 DESIGN CHOICE (log 8)] -/
  frameId : W32
deriving DecidableEq, Repr

def RingRegs.reset : RingRegs :=
  { baseLo := 0, baseHi := 0, auxLo := 0, auxHi := 0, ctrl := 0, prod := 0, cons := 0, rspCons := 0
    active := false, faultSize := false, faultDma := false, faultBuf := false, phase := true, unreported := 0, dmaLeft := none }

def CmdChan.reset : CmdChan := { regs := RingRegs.reset, responses := [], rspProd := 0 }

def EventRing.reset : EventRing := { regs := RingRegs.reset, entries := [] }

def RxRing.reset : RxRing := { regs := RingRegs.reset, posted := [], entries := [] }

def TxRing.reset : TxRing := { regs := RingRegs.reset, completions := [], era := 0, live := 0 }

def TsQueue.reset : TsQueue := { regs := RingRegs.reset, entries := [] }

/-- A view at reset: R53 gives `EV_ENABLE` 0x0003_FFFF, R54 0x0002_66F8. -/
def ViewIf.reset : View → ViewIf
  | .priv =>
    { evEnable := 0x0003FFFF#32, event := EventRing.reset, latches := [], chans := List.replicate 4 CmdChan.reset
      mbox := [], mboxBusy := false, mboxWaits := false, mboxRsp := none, msix := [], msixPending := 0, signalled := [] }
  | .unpriv =>
    { evEnable := 0x000266F8#32, event := EventRing.reset, latches := [], chans := List.replicate 12 CmdChan.reset
      mbox := [], mboxBusy := false, mboxWaits := false, mboxRsp := none, msix := [], msixPending := 0, signalled := [] }

def SpiIf.reset : SpiIf :=
  { rsps := [], outstanding := false, waits := none, refused := false, crcErr := false, window := [], returned := [] }

def HostIf.reset : HostIf :=
  { priv := ViewIf.reset .priv, unpriv := ViewIf.reset .unpriv
    rx := List.replicate 16 RxRing.reset, tx := List.replicate 16 TxRing.reset, ts := TsQueue.reset
    spi := SpiIf.reset, fetched := [], longOps := [], rrLast := 18, pins := [], counters := List.replicate 5 0
    stages := [], lastStage := 0, pcieUp := false, frameId := 0 }

end Sys2Proof.Machine
end

