-- ==== Sys2Proof/Machine/Mem.lean ====
section
/-! DEFINITION. Addressed byte memories in one canonical form: addresses strictly rising, no entry equal to what an
unlisted address of that memory reads as. -/

namespace Sys2Proof.Machine

/-- Read one byte; `d` is what an unlisted address reads as. -/
def memRead (d : Byte) : Memory → Nat → Byte
  | [], _ => d
  | c :: m, a => if a = c.1 then c.2 else memRead d m a

/-- Remove an address. -/
def memErase : Memory → Nat → Memory
  | [], _ => []
  | c :: m, a => if a = c.1 then m else c :: memErase m a

/-- Insert an address that is not listed. -/
def memInsert : Memory → Nat → Byte → Memory
  | [], a, b => [(a, b)]
  | c :: m, a, b => if a < c.1 then (a, b) :: c :: m else c :: memInsert m a b

/-- Write one byte, keeping the canonical form. -/
def memWrite (d : Byte) (m : Memory) (a : Nat) (b : Byte) : Memory :=
  if b = d then memErase m a else memInsert (memErase m a) a b

/-- Write bytes from an address up. -/
def memWriteBytes (d : Byte) (m : Memory) (a : Nat) : List Byte → Memory
  | [] => m
  | b :: bs => memWriteBytes d (memWrite d m a b) (a + 1) bs

/-- Read `n` bytes from an address up. -/
def memReadBytes (d : Byte) (m : Memory) (a : Nat) : Nat → List Byte
  | 0 => []
  | n + 1 => memRead d m a :: memReadBytes d m (a + 1) n

/-- Drop every listed address in a range: it reads as unlisted again. -/
def memClear (m : Memory) (lo n : Nat) : Memory := m.filter fun c => c.1 < lo || lo + n ≤ c.1

/-- Addresses strictly rise and no entry equals the default. -/
def Memory.sortedFrom (d : Byte) : Option Nat → Memory → Bool
  | _, [] => true
  | lo, c :: m => (match lo with | none => true | some l => decide (l < c.1)) && c.2 != d && Memory.sortedFrom d (some c.1) m

/-- The canonical form of a memory whose unlisted addresses read `d`. -/
def Memory.wf (d : Byte) (m : Memory) : Bool := Memory.sortedFrom d none m

end Sys2Proof.Machine
end

