-- ==== Sys2Proof/Machine/StAir.lean ====
section
/-! DEFINITION. The state of the air formats: profiles, binds, the router address, tone maps (chapter 3). -/

namespace Sys2Proof.Machine

/-- An air profile record (R143). -/
structure AirProfile where
  id : Nat
  bandMask : Nat
  /-- 0 2-GFSK, 1 4-GFSK, 2 TL-OFDM. -/
  mode : Nat
  bitRate : Nat
  /-- 0 h = 0.5, 1 h = 1.0. -/
  modIndex : Nat
  preambleBytes : Nat
  syncLen : Nat
  syncTol : Nat
  syncWord : Nat
  whiten : Bool
  /-- 0 CRC-16, 1 CRC-32. -/
  fcsType : Nat
  pn9Seed : Nat
  /-- 0, 1, 2: 4, 8, 16 bytes. -/
  micLen : Nat
  tlMarginDb : Nat
  soundingSymbols : Nat
  maxPsdu : Nat
deriving DecidableEq, Repr

/-- The tone maps of a privileged link (R135, R138), each as its 312-bit string. -/
structure ToneMaps where
  /-- Receive maps 1 to 15 (dir 1), by identifier. [15 × 312 bits; 03_air_formats.md R135; reset none] -/
  rx : SMap Nat
  /-- Transmit maps 1 to 15 (dir 0), by identifier. [15 × 312 bits; 03_air_formats.md R135; reset none] -/
  tx : SMap Nat
  /-- Receive map last activated; 0 is map 0. [4 bits; 03_air_formats.md R138; reset 0] -/
  rxActive : Nat
  /-- Transmit map in use; 0 is map 0. [4 bits; 03_air_formats.md R138; reset 0] -/
  txActive : Nat
  /-- A new receive map to send in a TONE_MAP frame. [4 bits and 312 bits; 03_air_formats.md R138; reset none] -/
  offered : Option (Nat × Nat)
  /-- Earlier receive maps, the oldest first, each kept until a true elapsed time, from the acknowledgement. [list of 4 bits; 03_air_formats.md R138; reset empty] -/
  old : List (Nat × Nat)
  /-- A transmit map received whose TONE_MAP frame, by its counter, is not acknowledged yet. [4, 312 and 32 bits; 03_air_formats.md R138; reset none] -/
  txWaits : Option (Nat × Nat × W32)
  /-- A SOUNDING_REQUEST is to be sent at the next contact. [1 bit; 03_air_formats.md R148; reset 0] -/
  wantSounding : Bool
  /-- Contacts passed since AIR_SOUND was accepted. [0 to 16; 03_air_formats.md R148; reset 0] -/
  soundContacts : Nat
deriving DecidableEq, Repr

/-- The air formats. -/
structure Air where
  /-- Profiles by identifier. [at most 32; 03_air_formats.md R143; reset the built-in profiles 0x0001 to 0x0006] -/
  profiles : SMap AirProfile
  /-- Profile bound to each band, 0 none. [3 × 16 bits; 03_air_formats.md R146; reset 0 DESIGN CHOICE (log 8)] -/
  bind : Trio Nat
  /-- Router address. [32 bits; 03_air_formats.md R118; reset 0x0000_0001] -/
  routerAddr : W32
  /-- Tone maps by mesh address. [03_air_formats.md R135; reset empty] -/
  tones : SMap ToneMaps
  /-- Counters `mac_version`, `mac_malformed`, `mac_insecure`, `rx_not_ours`, `ctl_unknown`, `ofdm_map_unknown` of each band. [3 × 6 × 32 bits; 03_air_formats.md R122, R127, R132; reset 0 DESIGN CHOICE (log 8)] -/
  counters : Trio Ctrs
deriving DecidableEq, Repr

/-- A GFSK profile with the defaults of R143 and R108. -/
def gfskProfile (id mask mode rate modIndex preamble syncLen syncTol syncWord : Nat) : AirProfile :=
  { id := id, bandMask := mask, mode := mode, bitRate := rate, modIndex := modIndex, preambleBytes := preamble
    syncLen := syncLen, syncTol := syncTol, syncWord := syncWord, whiten := true, fcsType := 0, pn9Seed := 0x1FF, micLen := 1
    tlMarginDb := 3, soundingSymbols := 8, maxPsdu := 2047 }

/-- A TL-OFDM profile with the defaults of R143. -/
def ofdmProfile (id mask : Nat) : AirProfile :=
  { id := id, bandMask := mask, mode := 2, bitRate := 0, modIndex := 1, preambleBytes := 8, syncLen := 16, syncTol := 1
    syncWord := 0xE7A3, whiten := true, fcsType := 1, pn9Seed := 0x1FF, micLen := 1, tlMarginDb := 3, soundingSymbols := 8
    maxPsdu := 2047 }

/-- The built-in profiles (R143). -/
def builtinProfiles : SMap AirProfile :=
  [ (1, gfskProfile 1 1 0 50000 1 8 16 1 0xE7A3), (2, gfskProfile 2 2 0 50000 1 8 16 1 0xE7A3)
  , (3, gfskProfile 3 2 1 400000 0 8 16 1 0xE7A3), (4, gfskProfile 4 4 0 1000000 0 16 32 3 0x3D7AC691)
  , (5, ofdmProfile 5 3), (6, ofdmProfile 6 4) ]

def ToneMaps.reset : ToneMaps :=
  { rx := [], tx := [], rxActive := 0, txActive := 0, offered := none, old := [], txWaits := none, wantSounding := false, soundContacts := 0 }

def Air.reset : Air :=
  { profiles := builtinProfiles, bind := { a := 0, b := 0, c := 0 }, routerAddr := 1, tones := []
    counters := { a := List.replicate 6 0, b := List.replicate 6 0, c := List.replicate 6 0 } }

end Sys2Proof.Machine
end

