-- ==== Sys2Proof/Machine/StClk.lean ====
section
/-! DEFINITION. The state of Ephemeris: the time counter, the servo and its sources, PTP, 1PPS, event pins, triggers, the
frozen reference (chapter 12). -/

namespace Sys2Proof.Machine

/-- Servo states (R413), in the order of their codes. -/
inductive ServoState where
  | free | acquire | tracking | locked | holdover
deriving DecidableEq, Repr

/-- Servo settings (R430, `TIME_SERVO_SET`). -/
structure ServoCfg where
  /-- `kp`. [16 bits; 12_time.md R410; reset 0x8000] -/
  kp : Nat
  /-- `ki`. [16 bits; 12_time.md R410; reset 0x2000] -/
  ki : Nat
  /-- `clamp_ppb`. [19 bits; 12_time.md R410; reset 10,000] -/
  clampPpb : Nat
  /-- `dadj_max_ppb`. [17 bits; 12_time.md R410; reset 100] -/
  dadjMaxPpb : Nat
  /-- `servo_ms`. [14 bits; 12_time.md R410; reset 125] -/
  servoMs : Nat
  /-- `step_thr_ns`. [32 bits; 12_time.md R411; reset 100,000] -/
  stepThrNs : Nat
  /-- `lock_ns`. [32 bits; 12_time.md R413; reset 1,000] -/
  lockNs : Nat
  /-- `holdover_ppb`. [17 bits; 12_time.md R414; reset 500] -/
  holdoverPpb : Nat
  /-- `outlier_ns`. [20 bits; 12_time.md R409; reset 10,000] -/
  outlierNs : Nat
deriving DecidableEq, Repr

/-- What Ephemeris knows of one source kind (R408, R409). -/
structure SourceState where
  /-- The source is valid: it has given a measurement and none of R408's conditions has ended it. [1 bit; 12_time.md R408; reset 0] -/
  valid : Bool
  /-- Last accepted measurement, ns, corrected for steps since. [exact; 12_time.md R409; reset none] -/
  last : Option Rat
  /-- Consecutive rejected measurements, newest first. [at most 2; 12_time.md R409; reset empty] -/
  rejected : List Rat
  /-- e_src of the last accepted measurement, ns. [exact; 12_time.md R408, R414; reset 100] -/
  errNs : Rat
  /-- True elapsed time of the last Sync or edge of the source. [12_time.md R408; reset 0] -/
  heardAt : Nat
deriving DecidableEq, Repr

/-- The Announce sender a slave port follows (R417): its dataset and identity. -/
structure PtpMaster where
  announce : PtpAnnounce
  /-- True elapsed time of its last Announce. -/
  heardAt : Nat
deriving DecidableEq, Repr

/-- A PTP port (R417, R418, R430 `TIME_PTP_PORT`). -/
structure PtpPort where
  /-- `role`: 0 disabled, 1 slave-only, 2 master-only. [2 bits; 12_time.md R430; reset 0] -/
  role : Nat
  /-- `two_step`. [1 bit; 12_time.md R430; reset 0] -/
  twoStep : Bool
  /-- `ptp_ts_report`. [1 bit; 12_time.md R418, R430; reset 0] -/
  tsReport : Bool
  /-- `domain`. [8 bits; 12_time.md R417; reset 0] -/
  domain : Nat
  /-- `log_sync`. [4 bits signed; 12_time.md R430; reset −3] -/
  logSync : Int
  /-- `log_announce`. [4 bits signed; 12_time.md R430; reset 1] -/
  logAnnounce : Int
  /-- `class_locked`. [8 bits; 12_time.md R418; reset 6] -/
  classLocked : Nat
  /-- `class_holdover`. [8 bits; 12_time.md R418; reset 7] -/
  classHoldover : Nat
  /-- `class_free`. [8 bits; 12_time.md R418; reset 248] -/
  classFree : Nat
  /-- `eth_rx_ns`. [16 bits; 12_time.md R416; reset 0] -/
  ethRxNs : Nat
  /-- `eth_tx_ns`. [16 bits; 12_time.md R416; reset 0] -/
  ethTxNs : Nat
  /-- Announce sender followed. [dataset; 12_time.md R417; reset none] -/
  master : Option PtpMaster
  /-- The exchange in progress: sequence number, t1, t2, t3. [12_time.md R408, R412; reset none] -/
  exchange : Option (W16 × Int × Int × Int)
  /-- Next `sequenceId` of a Sync the port sends. [16 bits; 12_time.md R418; reset 0 DESIGN CHOICE (log 8)] -/
  syncSeq : W16
  /-- Next `sequenceId` of an Announce the port sends. [16 bits; 12_time.md R418; reset 0 DESIGN CHOICE (log 8)] -/
  announceSeq : W16
  /-- True elapsed time of the last Sync sent. [12_time.md R418; reset none] -/
  syncSentAt : Option Nat
  /-- True elapsed time of the last Announce sent. [12_time.md R418; reset none] -/
  annSentAt : Option Nat
deriving DecidableEq, Repr

/-- An event pin's program (R420). -/
structure PinProg where
  /-- `pin_mode`. [3 bits; 12_time.md R420; reset 0 DESIGN CHOICE (log 8)] -/
  mode : Nat
  /-- `level`. [1 bit; 12_time.md R420; reset 0 DESIGN CHOICE (log 8)] -/
  level : Bool
  /-- `idle_level`. [1 bit; 12_time.md R420; reset 0 DESIGN CHOICE (log 8)] -/
  idleLevel : Bool
  /-- `trig`. [4 bits; 12_time.md R420; reset 0 DESIGN CHOICE (log 8)] -/
  trig : Nat
  /-- `delay_ns`: `pin_out_ns` of an output, `pin_in_ns` of a capture input. [16 bits; 12_time.md R420; reset 0] -/
  delayNs : Nat
  /-- `t_ns`. [64 bits; 12_time.md R420; reset 0 DESIGN CHOICE (log 8)] -/
  tNs : Nat
  /-- `period_ns`. [41 bits; 12_time.md R420; reset 0 DESIGN CHOICE (log 8)] -/
  periodNs : Nat
  /-- `width_ns`. [40 bits; 12_time.md R420; reset 0 DESIGN CHOICE (log 8)] -/
  widthNs : Nat
  /-- The level the program gives now. [1 bit; 12_time.md R420, R421; reset 0 DESIGN CHOICE (log 8)] -/
  out : Bool
  /-- Ephemeris time of the next edge of the program, none when it has none left. [64 bits; 12_time.md R412, R420; reset none] -/
  nextEdge : Option Nat
  /-- Capture FIFO, oldest first. [16 × 64 bits; 12_time.md R422; reset empty] -/
  fifo : List W64
deriving DecidableEq, Repr

/-- A programmable internal trigger (R423). -/
structure TrigProg where
  /-- `trig_kind`. [3 bits; 12_time.md R423; reset 0 DESIGN CHOICE (log 8)] -/
  kind : Nat
  /-- `pin`. [4 bits; 12_time.md R423; reset 0 DESIGN CHOICE (log 8)] -/
  pin : Nat
  /-- `every`. [25 bits; 12_time.md R423; reset 0 DESIGN CHOICE (log 8)] -/
  every : Nat
  /-- `t_ns`. [64 bits; 12_time.md R423; reset 0 DESIGN CHOICE (log 8)] -/
  tNs : Nat
  /-- `period_ns`. [41 bits; 12_time.md R423; reset 0 DESIGN CHOICE (log 8)] -/
  periodNs : Nat
  /-- `asn_base`. [40 bits; 12_time.md R423; reset 0 DESIGN CHOICE (log 8)] -/
  asnBase : Nat
  /-- Ephemeris time of the next firing of kinds 1 and 2. [64 bits; 12_time.md R412, R423; reset none] -/
  nextFire : Option Nat
deriving DecidableEq, Repr

/-- The reference stopped (R426): what step 1 records. -/
structure Frozen where
  tFreeze : W64
  fracFreeze : W32
  /-- True elapsed time of the freeze, standing for `rtc_freeze`. -/
  atNs : Nat
deriving DecidableEq, Repr

/-- Ephemeris. -/
structure Clk where
  /-- `time_ns`. [64 bits; 12_time.md R405, R555; reset 0] -/
  timeNs : W64
  /-- `time_frac`. [32 bits; 12_time.md R405, R555; reset 0] -/
  timeFrac : W32
  /-- Increment, 32.32 fixed point. [64 bits; 12_time.md R405, R406, R555; reset 0x0000_0002_0000_0000] -/
  increment : W64
  /-- adj, ppb. [exact; 12_time.md R406, R555; reset 0] -/
  adj : Rat
  /-- `i_acc`, ppb. [exact; 12_time.md R410, R555; reset 0] -/
  iAcc : Rat
  /-- Source list by kind. [at most 4; 12_time.md R408, R555; reset empty] -/
  sources : List Nat
  /-- Servo settings. [12_time.md R410 to R414; reset as its fields] -/
  cfg : ServoCfg
  /-- Servo state. [enumeration; 12_time.md R413, R555; reset FREE] -/
  servo : ServoState
  /-- Kind of the source the servo follows, 0 none. [3 bits; 12_time.md R408, R430; reset 0] -/
  source : Nat
  /-- State of source kinds 1 to 5. [5; 12_time.md R408, R409; reset invalid, no measurement] -/
  srcs : List SourceState
  /-- Accepted measurements of the followed source since the last update, ns. [list; 12_time.md R410; reset empty] -/
  meas : List Rat
  /-- Ephemeris time of the last update that had a measurement. [64 bits; 12_time.md R410; reset none] -/
  lastUpdate : Option Nat
  /-- Ephemeris time of the next update. [64 bits; 12_time.md R410; reset 0] -/
  nextUpdate : Nat
  /-- A standby's TWIN source stays in force until the next update. [1 bit; 12_time.md R408; reset 0] -/
  onTwin : Bool
  /-- Consecutive updates with |θ| below `lock_ns`. [4 bits; 12_time.md R413; reset 0] -/
  lockCount : Nat
  /-- Last accepted θ, ns. [exact; 12_time.md R430; reset 0] -/
  theta : Rat
  /-- True elapsed time of the last accepted measurement since the part reset or the last TIME reset. [12_time.md R430; reset none] -/
  measAt : Option Nat
  /-- `last_step_ns`. [64 bits signed; 12_time.md R430; reset 0] -/
  lastStep : Int
  /-- U0, ns; none while unset. [exact; 12_time.md R414, R555; reset none] -/
  u0 : Option Rat
  /-- t_m. [64 bits; 12_time.md R414; reset 0] -/
  tM : Nat
  /-- `time_uncertain`. [1 bit; 12_time.md R427, R555; reset 1] -/
  uncertain : Bool
  /-- `unc_free_s`. [16 bits; 12_time.md R427, R430; reset 3,600] -/
  uncFreeS : Nat
  /-- True elapsed time from which `unc_free_s` counts: the part reset or the last resume. [12_time.md R427, R555; reset 0] -/
  uncFrom : Nat
  /-- PTP ports 0 and 1. [2; 12_time.md R417, R418; reset as their fields] -/
  ptp : List PtpPort
  /-- `currentUtcOffset`. [16 bits; 12_time.md R407, R418; reset 0 DESIGN CHOICE (log 8)] -/
  utcOffset : W16
  /-- `pps_in_ns`. [16 bits; 12_time.md R430; reset 0 DESIGN CHOICE (log 8)] -/
  ppsInNs : Nat
  /-- `pps_out_ns`. [16 bits; 12_time.md R430; reset 0 DESIGN CHOICE (log 8)] -/
  ppsOutNs : Nat
  /-- `pps_width_us`. [19 bits; 12_time.md R424; reset 100,000] -/
  ppsWidthUs : Nat
  /-- Ephemeris time of the last rise of `PPS_OUT`, none before the first. [64 bits; 12_time.md R424; reset none] -/
  ppsOutRise : Option Nat
  /-- Event pins 0 to 15. [16; 12_time.md R420 to R422; reset as their fields] -/
  pins : List PinProg
  /-- Internal triggers 0 to 13. [14; 12_time.md R423; reset as their fields] -/
  trigs : List TrigProg
  /-- `parent_delay_ns` of candidates 0 to 7. [8 × 16 bits; 12_time.md R430; reset 0] -/
  parentDelay : List Nat
  /-- r_rtc, ns per RTC period. [exact, 32-bit fraction; 12_time.md R425; reset 30,517.578125 (nominal)] -/
  rRtc : Rat
  /-- True elapsed time at which the last RTC window ended. [12_time.md R425, R430; reset 0] -/
  rtcAt : Nat
  /-- The reference is stopped. [12_time.md R426; reset none] -/
  frozen : Option Frozen
  /-- Time counters in the order of R429. [15 × 32 bits; 12_time.md R429; reset 0 DESIGN CHOICE (log 8)] -/
  counters : Ctrs
deriving DecidableEq, Repr

def ServoCfg.reset : ServoCfg :=
  { kp := 0x8000, ki := 0x2000, clampPpb := 10000, dadjMaxPpb := 100, servoMs := 125, stepThrNs := 100000, lockNs := 1000
    holdoverPpb := 500, outlierNs := 10000 }

def SourceState.reset : SourceState := { valid := false, last := none, rejected := [], errNs := 100, heardAt := 0 }

def PtpPort.reset : PtpPort :=
  { role := 0, twoStep := false, tsReport := false, domain := 0, logSync := -3, logAnnounce := 1, classLocked := 6
    classHoldover := 7, classFree := 248, ethRxNs := 0, ethTxNs := 0, master := none, exchange := none, syncSeq := 0
    announceSeq := 0, syncSentAt := none, annSentAt := none }

def PinProg.reset : PinProg :=
  { mode := 0, level := false, idleLevel := false, trig := 0, delayNs := 0, tNs := 0, periodNs := 0, widthNs := 0
    out := false, nextEdge := none, fifo := [] }

def TrigProg.reset : TrigProg :=
  { kind := 0, pin := 0, every := 0, tNs := 0, periodNs := 0, asnBase := 0, nextFire := none }

def Clk.reset : Clk :=
  { timeNs := 0, timeFrac := 0, increment := 0x0000000200000000#64, adj := 0, iAcc := 0, sources := []
    cfg := ServoCfg.reset, servo := .free, source := 0, srcs := List.replicate 5 SourceState.reset, meas := []
    lastUpdate := none, nextUpdate := 0, onTwin := false, lockCount := 0, theta := 0, measAt := none, lastStep := 0, u0 := none, tM := 0
    uncertain := true, uncFreeS := 3600, uncFrom := 0, ptp := List.replicate 2 PtpPort.reset, utcOffset := 0, ppsInNs := 0
    ppsOutNs := 0, ppsWidthUs := 100000, ppsOutRise := none, pins := List.replicate 16 PinProg.reset
    trigs := List.replicate 14 TrigProg.reset, parentDelay := List.replicate 8 0, rRtc := 30517578125 / 1000000
    rtcAt := 0, frozen := none, counters := List.replicate 15 0 }

end Sys2Proof.Machine
end

