-- ==== Sys2Proof/Machine/StCrypt.lean ====
section
/-! DEFINITION. The state of frame protection: the epoch record, the broadcast stream, the roll, cut-through and the cipher lanes
(chapter 10). -/

namespace Sys2Proof.Machine

/-- A committed generation roll (R373). -/
structure Roll where
  newGen : Nat
  switchAsn : Nat
deriving DecidableEq, Repr

/-- A cipher lane (R364, R365). -/
structure Lane where
  /-- The lane's key register, two shares, and the slot whose key or child it holds. -/
  keyShare0 : BitVec 128
  keyShare1 : BitVec 128
  slot : Option Nat
  /-- Operations since the last reseed of the mask generator. -/
  ops : Nat
  /-- True elapsed time of the last reseed. -/
  seededAt : Nat
  /-- The mask generator's seed. -/
  seed : BitVec 128
deriving DecidableEq, Repr

/-- Frame protection. -/
structure Crypt where
  /-- `router_eui`. [64 bits; 10_frame_protection.md R353; reset 0] -/
  routerEui : W64
  /-- The epoch record in force (R372): `gen_cur`, `epoch_cur`, `gen_prev`, `epoch_prev`. [40 bits; 10_frame_protection.md R372; reset as the flash record; 0, 0, 0xFF, 0 DESIGN CHOICE (log 8)] -/
  epochs : EpochRec
  /-- The epoch record that flash holds, when the part has read or written it. [40 bits; 03_air_formats.md R140, R141; reset as `epochs`] -/
  flashEpochs : EpochRec
  /-- An epoch record write waits for flash. [40 bits; 03_air_formats.md R141; reset none] -/
  epochWrite : Option EpochRec
  /-- A cold start found `epoch_cur` or `epoch_prev` at 0xFFF. [2 bits; 10_frame_protection.md R375; reset 0] -/
  exhausted : Bool × Bool
  /-- The broadcast stream: epoch and next count. [32 bits; 03_air_formats.md R139; reset 0] -/
  bcast : W32
  /-- For each generation, the highest next counter of the deleted entries' outgoing streams: a new entry's stream starts no lower (R37). [32 bits each; 01_architecture.md R37; the model's own, reset none DESIGN CHOICE (log 104)] -/
  retired : SMap Nat
  /-- A committed roll. [10_frame_protection.md R373; reset none] -/
  roll : Option Roll
  /-- `ring_mask` of cut-through. [16 bits; 10_frame_protection.md R360, R377; reset 0] -/
  ctMask : Nat
  /-- `ct_min_len`. [11 bits; 10_frame_protection.md R360; reset 513] -/
  ctMinLen : Nat
  /-- `pair_lanes`. [2 bits; 10_frame_protection.md R364; reset 1] -/
  pairLanes : Nat
  /-- Cipher lanes 0 to 15. [16; 10_frame_protection.md R364, R365; reset clear] -/
  lanes : List Lane
  /-- Protection counters in the order of R376. [13 × 32 bits; 10_frame_protection.md R376; reset 0 DESIGN CHOICE (log 8)] -/
  counters : Ctrs
deriving DecidableEq, Repr

def Lane.reset : Lane := { keyShare0 := 0, keyShare1 := 0, slot := none, ops := 0, seededAt := 0, seed := 0 }

def emptyEpochs : EpochRec := { genCur := 0, epochCur := 0, genPrev := 0xFF, epochPrev := 0 }

def Crypt.reset : Crypt :=
  { routerEui := 0, epochs := emptyEpochs, flashEpochs := emptyEpochs, epochWrite := none, exhausted := (false, false)
    bcast := 0, retired := [], roll := none, ctMask := 0, ctMinLen := 513, pairLanes := 1, lanes := List.replicate 16 Lane.reset
    counters := List.replicate 13 0 }

end Sys2Proof.Machine
end

