-- ==== Sys2Proof/Machine/StKey.lean ====
section
/-! DEFINITION. The state of the KEY domain, the fuses, the tamper monitor and the entropy source (chapter 9). -/

namespace Sys2Proof.Machine

/-- Lifecycle states (R320), in the order of their codes. -/
inductive Lifecycle where
  | blank | manufacture | provision | field | retired
deriving DecidableEq, Repr

/-- Key-slot states (R327), in the order of their codes. -/
inductive SlotState where
  | empty | loaded | revoked | erased | bad
deriving DecidableEq, Repr

/-- A key slot (R327, R328, R330). -/
structure KeySlot where
  /-- Slot state. [enumeration; 09_keys_lifecycle.md R327; reset EMPTY] -/
  state : SlotState
  /-- `origin`: 1 IMPORTED. [1 bit; 09_keys_lifecycle.md R328; reset 0 DESIGN CHOICE (log 8)] -/
  origin : Bool
  /-- `use`. [3 bits; 09_keys_lifecycle.md R328; reset 0 DESIGN CHOICE (log 8)] -/
  use : Nat
  /-- `volatile`. [1 bit; 09_keys_lifecycle.md R328; reset 0 DESIGN CHOICE (log 8)] -/
  isVolatile : Bool
  /-- `exportable`. [1 bit; 09_keys_lifecycle.md R328; reset 0 DESIGN CHOICE (log 8)] -/
  exportable : Bool
  /-- `key_type`: 0 AES-128, 1 P-256. [2 bits; 09_keys_lifecycle.md R328; reset 0 DESIGN CHOICE (log 8)] -/
  keyType : Nat
  /-- `slot_epoch`. [16 bits; 09_keys_lifecycle.md R328; reset 0 DESIGN CHOICE (log 8)] -/
  epoch : W16
  /-- `refs`. [8 bits; 09_keys_lifecycle.md R328; reset 0] -/
  refs : Nat
  /-- `uses_left`. [24 bits; 09_keys_lifecycle.md R328; reset 0 DESIGN CHOICE (log 8)] -/
  usesLeft : Nat
  /-- `loaded_ns`. [64 bits; 09_keys_lifecycle.md R328; reset 0 DESIGN CHOICE (log 8)] -/
  loadedNs : W64
  /-- Share 0. [256 bits, AES-128 uses 128; 09_keys_lifecycle.md R330; reset 0] -/
  share0 : BitVec 256
  /-- Share 1. [256 bits, AES-128 uses 128; 09_keys_lifecycle.md R330; reset 0] -/
  share1 : BitVec 256
  /-- Integrity check. [32 bits; 09_keys_lifecycle.md R330; reset 0] -/
  check : W32
deriving DecidableEq, Repr

/-- A derived-key cache entry (R334). -/
structure CacheEntry where
  eui : W64
  gen : Byte
  parentSlot : Nat
  parentEpoch : W16
  /-- The not-recently-used bit. -/
  notRecent : Bool
  share0 : BitVec 128
  share1 : BitVec 128
  check : W32
deriving DecidableEq, Repr

/-- A debug challenge (R344): the nonce and when it ends, in true elapsed nanoseconds. -/
structure Challenge where
  nonce : BitVec 256
  untilNs : Nat
deriving DecidableEq, Repr

/-- The KEY domain, the fuses and the tamper monitor. -/
structure KeyDom where
  /-- `grade` of `ID_REV`: 1 is KV7316-M0. [1 bit; 00_scope.md R1, 02_host_interface.md R55; reset 0 DESIGN CHOICE (log 8)] -/
  gradeM0 : Bool
  /-- Lifecycle fuses: both cells of BLANK to RETIRED blown. [5 pairs; 09_keys_lifecycle.md R320, R321; reset PROVISION, as shipped (R320)] -/
  lifecycle : Lifecycle
  /-- Tamper-count fuse. [0 to 8; 09_keys_lifecycle.md R345; reset 0] -/
  tamperCount : Nat
  /-- Security-fuse count. [0 to 32; 15_update.md R477; reset 0 DESIGN CHOICE (log 8)] -/
  securityFuses : Nat
  /-- Signing key 0 is retired. [1 bit; 15_update.md R477; reset 0 DESIGN CHOICE (log 8)] -/
  key0Retired : Bool
  /-- Identity-seed fuses. [256 bits; 09_keys_lifecycle.md R342; reset none] -/
  identitySeed : Option (BitVec 256)
  /-- Debug-authority hash, in fuses from FIELD on. [256 bits; 09_keys_lifecycle.md R322, R344; reset none] -/
  debugHash : Option (BitVec 256)
  /-- `lid_enable`, in fuses from FIELD on. [1 bit; 09_keys_lifecycle.md R322, R345, R349; reset 1] -/
  lidEnable : Bool
  /-- `lid_active_high`. [1 bit; 09_keys_lifecycle.md R349; reset 0] -/
  lidActiveHigh : Bool
  /-- TAMPERED latch, in AON. [1 bit; 09_keys_lifecycle.md R345, R347; reset 0] -/
  tampered : Bool
  /-- Sources of the first alarm since AON power was applied. [8 bits; 09_keys_lifecycle.md R557; reset 0] -/
  firstMask : Byte
  /-- Sources in alarm now. [8 bits; 09_keys_lifecycle.md R557; reset 0] -/
  liveLevels : Byte
  /-- Key slots 0 to 127. [128; 09_keys_lifecycle.md R327; reset EMPTY] -/
  slots : List KeySlot
  /-- Derived-key cache, by set × 4 + way. [8,192; 09_keys_lifecycle.md R334; reset empty] -/
  cache : SMap CacheEntry
  /-- Generation map positions 0 to 7: generation and slot. [8; 09_keys_lifecycle.md R333; reset unbound] -/
  genMap : List (Option (Nat × Nat))
  /-- Live root as two shares. [2 × 256 bits; 09_keys_lifecycle.md R323; reset none] -/
  rootShares : Option (BitVec 256 × BitVec 256)
  /-- The entropy source restarts after a health failure. [1 bit; 09_keys_lifecycle.md R341; reset 0] -/
  entRestart : Bool
  /-- Bytes left in the masking reserve. [0 to 4,096; 09_keys_lifecycle.md R341; reset 4,096] -/
  reserve : Nat
  /-- Challenge nonce outstanding. [32 bytes and an end; 09_keys_lifecycle.md R344; reset none] -/
  challenge : Option Challenge
  /-- The debug port was unlocked since the part reset. [1 bit; 09_keys_lifecycle.md R344; reset 0] -/
  unlocked : Bool
  /-- True elapsed time of the last re-masking pass. [09_keys_lifecycle.md R330; reset 0] -/
  remaskAt : Nat
  /-- K_chal, drawn at boot (R369). [128 bits; 10_frame_protection.md R369; reset 0 DESIGN CHOICE (log 8)] -/
  kChal : BitVec 128
  /-- Key counters in the order of R350. [10 × 32 bits; 09_keys_lifecycle.md R350; reset 0 DESIGN CHOICE (log 8)] -/
  counters : Ctrs
deriving DecidableEq, Repr

def KeySlot.reset : KeySlot :=
  { state := .empty, origin := false, use := 0, isVolatile := false, exportable := false, keyType := 0, epoch := 0, refs := 0
    usesLeft := 0, loadedNs := 0, share0 := 0, share1 := 0, check := 0 }

def KeyDom.reset : KeyDom :=
  { gradeM0 := false, lifecycle := .provision, tamperCount := 0, securityFuses := 0, key0Retired := false
    identitySeed := none, debugHash := none, lidEnable := true, lidActiveHigh := false, tampered := false, firstMask := 0
    liveLevels := 0, slots := List.replicate 128 KeySlot.reset, cache := [], genMap := List.replicate 8 none
    rootShares := none, entRestart := false, reserve := 4096, challenge := none, unlocked := false, remaskAt := 0
    kChal := 0, counters := List.replicate 10 0 }

end Sys2Proof.Machine
end

