-- ==== Sys2Proof/Machine/StNode.lean ====
section
/-! DEFINITION. The state of the node table, learning, aging, scrub, compare and the journal (chapter 7), and of the cold
start exchange (R99 to R102). -/

namespace Sys2Proof.Machine

/-- An occupied node-table entry (R266); `valid` is its presence in the table. The bits that R266 shares between NORMAL
and ADRIFT are kept as the fields of their reading. -/
structure NodeEntry where
  /-- `hit`. -/
  hit : Bool
  /-- `reloc_seq`. -/
  relocSeq : Nat
  /-- `static`. -/
  isStatic : Bool
  /-- `role`: 0 leaf, 1 relay, 2 privileged relay. -/
  role : Nat
  /-- `cold_chal`. -/
  coldChal : Bool
  /-- `state`: true ADRIFT. -/
  adrift : Bool
  /-- `learn_port`. -/
  learnPort : Nat
  /-- `rx_ring`. -/
  rxRing : Nat
  /-- `key_gen`. -/
  keyGen : Byte
  /-- `atten_db`. -/
  attenDb : Nat
  /-- `mesh_addr`. -/
  meshAddr : W32
  /-- `eui`. -/
  eui : W64
  /-- `rx_counter`. -/
  rxCounter : W32
  /-- `tx_epoch`. -/
  txEpoch : Nat
  /-- `tx_count`. -/
  txCount : Nat
  /-- `class_id`. -/
  classId : Nat
  /-- `band`. -/
  band : Nat
  /-- `ch_off`. -/
  chOff : Nat
  /-- `route_ref`. -/
  routeRef : Nat
  /-- `rate_req`. -/
  rateReq : Nat
  /-- `wake_period`. -/
  wakePeriod : Nat
  /-- `wake_offset`. -/
  wakeOffset : Nat
  /-- `drift_q`, in 1/256 ppm. -/
  driftQ : Int
  /-- `next_wake`. -/
  nextWake : Nat
  /-- `uplinks_due`. -/
  uplinksDue : Nat
  /-- `alt_valid`. -/
  altValid : Bool
  /-- `misses`. -/
  misses : Nat
  /-- `samples`. -/
  samples : Nat
  /-- `outliers`. -/
  outliers : Bool
  /-- `outlier_neg`. -/
  outlierNeg : Bool
  /-- `adrift_deadline`, an ASN. -/
  adriftDeadline : Nat
  /-- `ref_ns`. -/
  refNs : Nat
  /-- `ref_off_ns`. -/
  refOff : Int
  /-- `alt_off_ns`. -/
  altOff : Int
deriving DecidableEq, Repr

/-- A port's learning budgets (R279). -/
structure LearnPort where
  /-- `learn_rate`. [16 bits; 07_node_table.md R279; reset 2,000 bands, 0 Ethernet] -/
  rate : Nat
  /-- `learn_burst`. [16 bits; 07_node_table.md R279; reset 4,000 bands, 1 Ethernet] -/
  burst : Nat
  /-- `learn_count`. [19 bits; 07_node_table.md R279; reset 262,144 bands, 0 Ethernet] -/
  count : Nat
  /-- `learn_policy`: true flood. [1 bit; 07_node_table.md R279; reset 0] -/
  flood : Bool
  /-- `flood_ring`. [4 bits; 07_node_table.md R279; reset 0] -/
  ring : Nat
  /-- Tokens in billionths, so that `learn_rate` × ns adds exactly. [07_node_table.md R279; reset full] -/
  tokens : Nat
  /-- True elapsed time of the last refill. [07_node_table.md R279; reset 0] -/
  filledAt : Nat
  /-- True elapsed time of the last `EV_LEARN_LIMIT`. [07_node_table.md R281; reset none] -/
  eventAt : Option Nat
  /-- Cumulative refusals of this port. [32 bits; 07_node_table.md R281; reset 0] -/
  refused : Nat
deriving DecidableEq, Repr

/-- A journal record (R288). -/
structure JournalRec where
  seq : W32
  kind : Byte
  index : Nat
  meshAddr : W32
  fromIndex : Nat
deriving DecidableEq, Repr

/-- An entry under repair (R287): the cause and the words affected. -/
structure Repair where
  cause : Nat
  words : Nat
deriving DecidableEq, Repr

/-- The restore of a counter snapshot in progress (R102): the bytes received so far. -/
structure Restore where
  bytes : List Byte
deriving DecidableEq, Repr

/-- The node table. -/
structure NodeDom where
  /-- Entries by index. [262,144 × 64 bytes; 07_node_table.md R266, R268; reset empty] -/
  table : SMap NodeEntry
  /-- `hash_seed`. [32 bits; 07_node_table.md R272; reset 0] -/
  hashSeed : W32
  /-- The rotating pointer of relocation. [2 bits; 07_node_table.md R275; reset 0 DESIGN CHOICE (log 8)] -/
  rotor : Nat
  /-- Learning budgets of ports 0 to 4. [5; 07_node_table.md R279; reset as their fields] -/
  learn : List LearnPort
  /-- True elapsed time of the last `EV_INSERT_FAIL`. [07_node_table.md R277; reset none] -/
  insertFailAt : Option Nat
  /-- `age_s`. [32 bits; 07_node_table.md R283; reset 21,600] -/
  ageS : Nat
  /-- Next index of the aging scan. [18 bits; 07_node_table.md R283; reset 0] -/
  agePos : Nat
  /-- Addresses whose compare-and-delete waits for the node's flow. [list; 07_node_table.md R283, R284; reset empty] -/
  ageDeletes : List W32
  /-- `scrub_s`. [12 bits; 07_node_table.md R286; reset 60] -/
  scrubS : Nat
  /-- Next word of the scrub: index × 8 + word. [21 bits; 07_node_table.md R286; reset 0] -/
  scrubPos : Nat
  /-- Shadow enabled. [1 bit; 07_node_table.md R286, R291; reset 0 DESIGN CHOICE (log 8)] -/
  shadowOn : Bool
  /-- `cmp_rate`. [19 bits; 07_node_table.md R286; reset 65,536] -/
  cmpRate : Nat
  /-- Shadow base. [64 bits; 07_node_table.md R291; reset 0 DESIGN CHOICE (log 8)] -/
  shadowBase : Nat
  /-- Next index of the compare. [18 bits; 07_node_table.md R286; reset 0 DESIGN CHOICE (log 8)] -/
  cmpPos : Nat
  /-- Unacknowledged journal records, oldest first. [at most 16,384 × 16 bytes; 07_node_table.md R288; reset empty] -/
  journal : List JournalRec
  /-- Sequence of the newest journal record. [32 bits; 07_node_table.md R288; reset 0 DESIGN CHOICE (log 8)] -/
  journalSeq : W32
  /-- `journal_overflow`. [1 bit; 07_node_table.md R289; reset 0] -/
  overflow : Bool
  /-- Entries under repair, by index. [07_node_table.md R287; reset empty] -/
  repair : SMap Repair
  /-- Memory errors in table words: index × 8 + word, and whether uncorrectable. [07_node_table.md R286, 16_test_diagnostics.md R518; reset empty] -/
  errors : SMap Bool
  /-- Table counters in the order of R292. [18 × 32 bits; 07_node_table.md R292; reset 0 DESIGN CHOICE (log 8)] -/
  counters : Ctrs
  /-- Snapshot held in QUIESCED. [at most 4,194,384 bytes; 02_host_interface.md R100, R101; reset none] -/
  snapshot : Option (List Byte)
  /-- Restore in progress. [02_host_interface.md R102; reset none] -/
  restore : Option Restore
deriving DecidableEq, Repr

def bandLearn : LearnPort :=
  { rate := 2000, burst := 4000, count := 262144, flood := false, ring := 0, tokens := 4000 * 1000000000, filledAt := 0
    eventAt := none, refused := 0 }

def ethLearn : LearnPort :=
  { rate := 0, burst := 1, count := 0, flood := false, ring := 0, tokens := 1000000000, filledAt := 0, eventAt := none
    refused := 0 }

def NodeDom.reset : NodeDom :=
  { table := [], hashSeed := 0, rotor := 0, learn := [bandLearn, bandLearn, bandLearn, ethLearn, ethLearn]
    insertFailAt := none, ageS := 21600, agePos := 0, ageDeletes := [], scrubS := 60, scrubPos := 0, shadowOn := false, cmpRate := 65536
    shadowBase := 0, cmpPos := 0, journal := [], journalSeq := 0, overflow := false, repair := [], errors := []
    counters := List.replicate 18 0, snapshot := none, restore := none }

end Sys2Proof.Machine
end

