-- ==== Sys2Proof/Machine/StRadio.lean ====
section
/-! DEFINITION. The state of the receivers and the transmit chains: windows, contexts, snapshots, the wake receiver (chapter 4),
launch queues, bursts, front-end lines, region profiles, band service states (chapter 5). -/

namespace Sys2Proof.Machine

/-- Context states (R156), in the order of their codes. -/
inductive CtxState where
  | idle | armed | locked | psdu | sounding | blanked
deriving DecidableEq, Repr

/-- What a context listens for (R157, R221). -/
inductive Purpose where
  /-- Unassigned. -/
  | none
  /-- Acknowledgement of a launch at a node (R244). -/
  | ack (launch : Nat) (addr : W32)
  /-- Planned uplink of a node (R226) with the expected sync-word end, in ns. -/
  | uplink (addr : W32) (expected : Int)
  /-- PARENT cell of a candidate (R253) with the cell's nominal sync-word end less the beacon's slot boundary, in ns. -/
  | parent (cand : Nat) (offset : Int)
  /-- RENDEZVOUS, JOIN and DEDICATED_RX cells, acquisition, background listening, by cell type. -/
  | rendezvous
  | join (cell : Nat)
  | dedicated (addr : W32) (expected : Int)
  | acquire
  | background
  /-- A standing listener (R177, `RADIO_CONTEXT_RESERVE`). -/
  | reserved
  /-- The checker of a band test (R506). -/
  | test
deriving DecidableEq, Repr

/-- A detection (R158, R160): sync-word end and RSSI, which saturates only where it is reported (R167). -/
structure Detection where
  endNs : Nat
  endFrac : W32
  rssiQ : Int
deriving DecidableEq, Repr

/-- A frame handled by cut-through (R360, R361): what its entries carry. -/
structure CutRx where
  frameId : W32
  ring : Nat
  index : Nat
  keyGen : Byte
  counter : W32
  src : W32
  /-- Pieces written. -/
  pieces : Nat
  /-- Its ring is still the one it began with (R362). -/
  live : Bool
deriving DecidableEq, Repr

/-- A reception in progress (R156, R160 to R164). -/
structure Reception where
  det : Detection
  /-- Antenna instant at which its header passed, 0 before (R160). -/
  decidedNs : Nat
  /-- A held pre-header detection of the secondary correlator. -/
  held : Option Detection
  /-- The header passed: length, whiten, fcs_type, rate_hint, tone map identifier. -/
  length : Nat
  whiten : Bool
  fcsType : Nat
  rateHint : Nat
  toneMap : Nat
  /-- Bits of one data symbol of a TL-OFDM frame under its map (R133). -/
  symbolBits : Nat
  /-- Bytes received so far, de-whitened. -/
  bytes : List Byte
  /-- Posted buffers of each receive ring at the signal field (R360). -/
  posted : List Nat
  /-- Its cut-through series, once its first piece is written (R361). -/
  cut : Option CutRx
  /-- The node whose SOUNDING frame was verified, and its K, while its sounding symbols arrive (R136, R165). -/
  sounder : Option (W32 × Nat)
  /-- The whole PSDU has come and waits for masks: its SNR in 0.25 dB, the host's shadow copy (R341, R365). -/
  stalled : Option (Int × List Byte)
deriving DecidableEq, Repr

/-- The settings a context took at its arming (R177). -/
structure CtxSet where
  preQual : Nat
  syncRssiMinQ : Int
  ofdmThr : Nat
  captureSwitch : Bool
  captureMargin : Nat
  carrierDrop : Nat
  diagRing : Nat
deriving DecidableEq, Repr

/-- A demodulator context (R155 to R157). -/
structure Ctx where
  state : CtxState
  purpose : Purpose
  band : Nat
  channel : Nat
  profile : Nat
  /-- Assignment priority 1 to 6 of R157. -/
  prio : Nat
  listenStart : Nat
  listenEnd : Nat
  /-- Arrival of a late plan, before which a frame must not have begun (R44); 0 none. -/
  lateFrom : Nat
  /-- Settings taken at the arming (R177). -/
  set : CtxSet
  /-- Receive tone maps of the node it listens for, as the arming found them (R165). -/
  maps : SMap Nat
  rx : Option Reception
  /-- Frames received (R177). -/
  frames : Nat
deriving DecidableEq, Repr

/-- A context's RX settings of a band (R149 to R167). -/
structure RxBand where
  /-- Window centre in force, 100 kHz units. [16 bits; 04_receive_chain.md R149, R177; reset 4,600 (A), 8,680 (B), 24,420 (C, fixed)] -/
  centre : Nat
  /-- End of the retune in progress, Ephemeris ns. [04_receive_chain.md R151; reset none] -/
  retuneEnd : Option Nat
  /-- Diagnostic ring. [4 bits; 02_host_interface.md R80, 04_receive_chain.md R177; reset 0] -/
  diagRing : Nat
  /-- `pre_qual_bits`. [8 bits; 04_receive_chain.md R158; reset 16] -/
  preQual : Nat
  /-- `sync_rssi_min_q`. [16 bits signed; 04_receive_chain.md R158; reset −520] -/
  syncRssiMinQ : Int
  /-- `ofdm_detect_thr`. [8 bits; 04_receive_chain.md R159; reset 60] -/
  ofdmThr : Nat
  /-- `capture_policy`: 1 switch. [1 bit; 04_receive_chain.md R161; reset 0] -/
  captureSwitch : Bool
  /-- `capture_margin_db`. [4 bits; 04_receive_chain.md R160; reset 6] -/
  captureMargin : Nat
  /-- `carrier_drop_db`. [8 bits; 04_receive_chain.md R162; reset 12] -/
  carrierDrop : Nat
  /-- `agc_mode`. [2 bits; 04_receive_chain.md R153; reset 0] -/
  agcMode : Nat
  /-- `agc_fixed_db`. [8 bits; 04_receive_chain.md R153, R177; reset 0 DESIGN CHOICE (log 8)] -/
  agcFixed : Nat
  /-- `agc_release_us`. [16 bits; 04_receive_chain.md R152; reset 200] -/
  agcRelease : Nat
  /-- AGC gain, 0 to 60 dB in 2 dB steps. [6 bits; 04_receive_chain.md R152; reset 60 DESIGN CHOICE (log 8)] -/
  agcGain : Nat
  /-- True elapsed time of the last gain step, from which a release counts its quiet time. [04_receive_chain.md R152; reset 0] -/
  agcAt : Nat
  /-- `rssi_offset_q`. [16 bits signed; 04_receive_chain.md R167, R177; reset 0] -/
  rssiOffsetQ : Int
  /-- `ext_gain_q`. [16 bits signed; 04_receive_chain.md R167; reset 0] -/
  extGainQ : Int
  /-- `rx_path_ns`. [16 bits; 04_receive_chain.md R168; reset 180 (A), 150 (B), 60 (C)] -/
  rxPathNs : Nat
  /-- Receive counters in the order of R176. [16 × 32 bits; 04_receive_chain.md R176; reset 0 DESIGN CHOICE (log 8)] -/
  counters : Ctrs
deriving DecidableEq, Repr

/-- Snapshot states: waiting for its trigger, capturing, complete (R172). -/
inductive SnapState where
  | armed | capturing | complete
deriving DecidableEq, Repr

/-- A spectrum snapshot (R171, R172). -/
structure Snapshot where
  id : Nat
  band : Nat
  /-- true POWER, false RAW. -/
  power : Bool
  units : Nat
  /-- 0 immediate, 1 time, 2 internal trigger. -/
  trigger : Nat
  triggerId : Nat
  avgMs : Nat
  startNs : Nat
  state : SnapState
  firstNs : Nat
  /-- Blanking intervals of its band since it was armed, Ephemeris ns, the last one open while it lasts (R171). -/
  blanks : List (Nat × Option Nat)
  data : List Byte
deriving DecidableEq, Repr

/-- The wake receiver (R173 to R175). -/
structure Wake where
  /-- `enable`. [1 bit; 04_receive_chain.md R177; reset 0 DESIGN CHOICE (log 8)] -/
  enable : Bool
  /-- `act_event`. [1 bit; 04_receive_chain.md R175; reset 0 DESIGN CHOICE (log 8)] -/
  actEvent : Bool
  /-- `wake_tol`. [3 bits; 04_receive_chain.md R174; reset 2] -/
  tol : Nat
  /-- `wake_freq_250khz`. [16 bits; 04_receive_chain.md R173; reset 3,040 DESIGN CHOICE (log 8)] -/
  freq : Nat
  /-- `wake_pattern`. [32 bits; 04_receive_chain.md R174; reset 0 DESIGN CHOICE (log 8)] -/
  pattern : W32
  /-- `domain_mask`. [32 bits; 04_receive_chain.md R175; reset 0 DESIGN CHOICE (log 8)] -/
  domainMask : W32
  /-- AON RTC count of the last match. [32 bits; 04_receive_chain.md R175, R177; reset 0 DESIGN CHOICE (log 8)] -/
  lastRtc : W32
  /-- True elapsed time of the last match. [04_receive_chain.md R174; reset none] -/
  lastAt : Option Nat
  /-- Matches met while Ephemeris was frozen, their events due when it resumes: RTC count, mismatches. [04_receive_chain.md R175; reset empty] -/
  held : List (Nat × Nat)
deriving DecidableEq, Repr

/-- Band service states (R203), in the order of their codes. -/
inductive BandState where
  | off | pendingOn | on | draining | fault
deriving DecidableEq, Repr

/-- Launch kinds (R187). -/
inductive LaunchKind where
  | ack | challenge | beacon | broadcast | data | joinRsp | sounding | direct | test | campaign
deriving DecidableEq, Repr

/-- Where a launch stands: planned or queued, in its ramp-up, sending, its carrier over (R179, R188, R192). -/
inductive CarrierState where
  | queued | ramping | onAir | over
deriving DecidableEq, Repr

/-- A launch (R187): planned, queued or on the air. -/
structure Launch where
  id : Nat
  kind : LaunchKind
  band : Nat
  /-- tL, Ephemeris ns. -/
  tL : Nat
  /-- ASN of the slot it lies in, and the node-side ASN of its contact. -/
  asn : Nat
  nodeAsn : Nat
  channel : Nat
  lo : Nat
  profile : Nat
  attenDb : Nat
  /-- Late bound b, ns. -/
  lateNs : Nat
  /-- Airtime on the air, preamble start to last bit, ns. -/
  airNs : Nat
  /-- Pending record it carries. -/
  record : Option Nat
  /-- Node it is aimed at, 0 none. -/
  addr : W32
  ackReq : Bool
  /-- The part's phase offset of R226 for the acknowledgement measurement, ns (0 none). -/
  phaseNs : Nat
  /-- MAC payload bytes of launches that carry no record. -/
  payload : List Byte
  /-- PSDU, FCS included, once encrypted. -/
  psdu : Option (List Byte)
  counter : W32
  keyGen : Byte
  /-- An acknowledgement's decision is ready and positive (R192). -/
  decided : Bool
  /-- The command a direct launch answers (R211). -/
  cmd : Option CmdEntry
  /-- Instant at which its grant or its encryption came, when it came late (R189). -/
  readyNs : Nat
  /-- Actual launch instant tA, once launched. -/
  tA : Nat
  /-- Pending bit of the frame, further frames held (R116). -/
  pendingBit : Bool
  /-- It is a follow-up (R226): it goes only to a node that was told to listen. -/
  followUp : Bool
  /-- The tone map it is built with: identifier and tone codes (R138, R183). -/
  mapId : Nat
  toneMap : Nat
  carrier : CarrierState
deriving DecidableEq, Repr

/-- A dwell account (R256): airtime by sub-interval, and the sub-interval of its last event. -/
structure Dwell where
  /-- Channel, or 0xFFFF_FFFF for the band. -/
  key : Nat
  /-- Airtime in ns by sub-interval index. -/
  sub : SMap Nat
  /-- Dwell window in which `EV_DWELL` was last raised. -/
  eventAt : Option Nat
deriving DecidableEq, Repr

/-- A region profile (R200). -/
structure Region where
  id : Nat
  band : Nat
  lbt : Bool
  dwellWhole : Bool
  first : Nat
  step : Nat
  count : Nat
  exclude : Nat
  dwellLimitMs : Nat
  dwellWindowS : Nat
deriving DecidableEq, Repr

/-- An LO position held ready for an acknowledgement on a channel (R191, R235): its LO, by when, and until when. -/
structure Park where
  band : Nat
  channel : Nat
  lo : Nat
  byNs : Nat
  untilNs : Nat
deriving DecidableEq, Repr

/-- The settings a burst keeps to its end (R209, R211). -/
structure BurstSet where
  driveQ : Int
  rampLinear : Bool
  rampUs : Nat
  paLeadUs : Nat
  paLagUs : Nat
  txPathNs : Nat
  polarity : Nat
  coexEnable : Bool
  coexAbort : Bool
  outLow : Bool
deriving DecidableEq, Repr

/-- A transmit chain (R179 to R210). -/
structure TxBand where
  /-- Band service state. [enumeration; 05_transmit_front_end.md R203; reset OFF DESIGN CHOICE (log 8)] -/
  state : BandState
  /-- Instant at which an enable asked for ON: command time plus 2 ms. [05_transmit_front_end.md R204; reset none] -/
  onAfter : Option Nat
  /-- A disable waits for the next slot boundary. [1 bit; 05_transmit_front_end.md R205; reset 0] -/
  offPending : Bool
  /-- Return attempts left in FAULT. [2 bits; 05_transmit_front_end.md R207; reset 0] -/
  attempts : Nat
  /-- `tx_mode`: 1 linear. [1 bit; 05_transmit_front_end.md R179; reset 0] -/
  linear : Bool
  /-- `drive_dbm_q`. [8 bits signed; 05_transmit_front_end.md R180; reset +40] -/
  driveQ : Int
  /-- `ramp_shape`. [1 bit; 05_transmit_front_end.md R211; reset 0] -/
  rampLinear : Bool
  /-- `ramp_us`. [5 bits; 05_transmit_front_end.md R211; reset 4] -/
  rampUs : Nat
  /-- `pa_lead_us`. [5 bits; 05_transmit_front_end.md R195; reset 10] -/
  paLeadUs : Nat
  /-- `pa_lag_us`. [4 bits; 05_transmit_front_end.md R195; reset 2] -/
  paLagUs : Nat
  /-- `tx_late_max_us`. [9 bits; 05_transmit_front_end.md R189; reset 60] -/
  lateMaxUs : Nat
  /-- `tx_path_ns`. [16 bits; 05_transmit_front_end.md R208; reset 150 (A), 120 (B), 50 (C)] -/
  txPathNs : Nat
  /-- `fe_polarity`. [4 bits; 05_transmit_front_end.md R194, R211; reset 0] -/
  polarity : Nat
  /-- `lna_static_bypass`, in force. [1 bit; 05_transmit_front_end.md R196; reset 0] -/
  lnaStatic : Bool
  /-- `lna_static_bypass` from the next slot boundary. [1 bit; 05_transmit_front_end.md R196; reset 0] -/
  lnaNext : Bool
  /-- `coex_enable`. [1 bit; 05_transmit_front_end.md R197; reset 0] -/
  coexEnable : Bool
  /-- `coex_abort`. [1 bit; 05_transmit_front_end.md R198; reset 0] -/
  coexAbort : Bool
  /-- `gnt_active_low`. [1 bit; 05_transmit_front_end.md R211; reset 0 DESIGN CHOICE (log 8)] -/
  gntLow : Bool
  /-- `out_active_low`. [1 bit; 05_transmit_front_end.md R211; reset 0 DESIGN CHOICE (log 8)] -/
  outLow : Bool
  /-- `coex_lead_us`. [10 bits; 05_transmit_front_end.md R197; reset 100] -/
  coexLeadUs : Nat
  /-- `pri_mask`. [5 bits; 05_transmit_front_end.md R197; reset 0x03] -/
  priMask : Nat
  /-- Coexistence grant present (`x_COEX_GNT`). [1 bit; 05_transmit_front_end.md R194; reset 0] -/
  grant : Bool
  /-- Ephemeris time at which the grant last appeared. [64 bits; 05_transmit_front_end.md R189, R197; reset 0] -/
  grantAt : Nat
  /-- The driver's bias is the linear one. [1 bit; 05_transmit_front_end.md R182; reset 0] -/
  biasLinear : Bool
  /-- Ephemeris time at which `tx_mode` last changed. [64 bits; 05_transmit_front_end.md R182; reset 0] -/
  modeAt : Nat
  /-- Ephemeris time at which the last ramp-down ended. [64 bits; 05_transmit_front_end.md R179, R184; reset 0] -/
  driveOff : Nat
  /-- Settings that the burst in progress keeps until its lines are released. [05_transmit_front_end.md R209, R211; reset none] -/
  inBurst : Option BurstSet
  /-- `x_PA_EN` active. [1 bit; 05_transmit_front_end.md R194; reset 0 (safe)] -/
  paEn : Bool
  /-- `x_LNA_BYP` active. [1 bit; 05_transmit_front_end.md R194; reset 0 (safe)] -/
  lnaByp : Bool
  /-- `x_TR_SW` at transmit. [1 bit; 05_transmit_front_end.md R194; reset 0 (safe)] -/
  trSw : Bool
  /-- `x_ANT_SEL`. [2 bits; 05_transmit_front_end.md R194; reset 0 (safe)] -/
  antSel : Nat
  /-- `x_COEX_REQ` active. [1 bit; 05_transmit_front_end.md R194; reset 0 (safe)] -/
  coexReq : Bool
  /-- `x_COEX_PRI` active. [1 bit; 05_transmit_front_end.md R194; reset 0 (safe)] -/
  coexPri : Bool
  /-- Transmit LO channel, none before the first calibration. [16 bits; 05_transmit_front_end.md R181, R211; reset none] -/
  lo : Option Nat
  /-- Ephemeris time at which the running channel or background calibration ends. [64 bits; 05_transmit_front_end.md R184, R185; reset none] -/
  calEnd : Option Nat
  /-- LO channel of the calibration running. [16 bits; 05_transmit_front_end.md R184; reset none] -/
  calLo : Option Nat
  /-- The band's contexts are blanked: from tL − 20 µs until 16 µs after the burst. [1 bit; 04_receive_chain.md R170; reset 0] -/
  blank : Bool
  /-- LO positions between bursts, from the plans handed off. [list; 06_slotted_access.md R233, R235; reset empty] -/
  parks : List Park
  /-- Consecutive calibration failures. [2 bits; 05_transmit_front_end.md R184; reset 0] -/
  calFails : Nat
  /-- True elapsed times of the last LO/I-Q, bias and DAC-offset calibrations. [3; 05_transmit_front_end.md R185; reset 0 DESIGN CHOICE (log 8)] -/
  bgAt : List Nat
  /-- A background calibration is asked for beside its interval. [3 bits; 05_transmit_front_end.md R185, R213; reset 0] -/
  bgDue : List Bool
  /-- A background calibration was counted overdue. [3 bits; 05_transmit_front_end.md R186; reset 0] -/
  bgOver : List Bool
  /-- ASN of the slot whose first 30 µs are kept free for overdue calibrations. [40 bits; 05_transmit_front_end.md R186; reset none] -/
  bgWindow : Option Nat
  /-- Die temperature at the last LO/I-Q calibration, 0.25 °C. [16 bits signed; 05_transmit_front_end.md R185; reset 0 DESIGN CHOICE (log 8)] -/
  bgTempQ : Int
  /-- Launch queue, ordered by tL. [64 entries; 05_transmit_front_end.md R187; reset empty] -/
  queue : List Launch
  /-- Launches on the air (carriers of the burst). [at most 4; 05_transmit_front_end.md R179, R181; reset empty] -/
  burst : List Launch
  /-- Ephemeris time at which the last burst's contexts resume (tE + 16 µs). [64 bits; 05_transmit_front_end.md R195; reset 0] -/
  quietFrom : Nat
  /-- Launches that wait for their acknowledgement. [list; 06_slotted_access.md R244; reset empty] -/
  awaiting : List Launch
  /-- Bound region profile, 0 none. [16 bits; 05_transmit_front_end.md R200; reset 0] -/
  region : Nat
  /-- Dwell accounts. [one per channel or one; 06_slotted_access.md R256; reset empty] -/
  dwell : List Dwell
  /-- Transmit counters in the order of R210. [16 × 32 bits; 05_transmit_front_end.md R210; reset 0 DESIGN CHOICE (log 8)] -/
  counters : Ctrs
deriving DecidableEq, Repr

/-- The radio. -/
structure Radio where
  /-- Receive side of each band. [3; 04_receive_chain.md R149; reset as its fields] -/
  rx : Trio RxBand
  /-- Transmit chain of each band. [3; 05_transmit_front_end.md R179; reset as its fields] -/
  tx : Trio TxBand
  /-- Demodulator contexts by number; an unlisted one is IDLE. [512; 04_receive_chain.md R155, R156; reset all IDLE] -/
  ctxs : SMap Ctx
  /-- Contexts reserved, from 0 upward. [list; 04_receive_chain.md R177, R178; reset empty] -/
  reserved : List Nat
  /-- ASN of the slotframe boundary until which the receivers rest after a RADIO reset. [32 bits; 02_host_interface.md R96; reset none] -/
  rxHeld : Option Nat
  /-- Snapshots. [at most 13 units of 1 MiB; 01_architecture.md R26, 04_receive_chain.md R171; reset empty] -/
  snapshots : List Snapshot
  /-- Next snapshot identifier. [8 bits; 04_receive_chain.md R177; reset 0 DESIGN CHOICE (log 8)] -/
  nextSnap : Nat
  /-- Region profiles by identifier. [at most 16; 05_transmit_front_end.md R200; reset empty] -/
  regions : SMap Region
  /-- Wake receiver. [04_receive_chain.md R173; reset as its fields] -/
  wake : Wake
  /-- Next launch identifier. [model's own; 05_transmit_front_end.md R187; reset 0 DESIGN CHOICE (log 8)] -/
  nextLaunch : Nat
deriving DecidableEq, Repr

def CtxSet.reset : CtxSet :=
  { preQual := 16, syncRssiMinQ := -520, ofdmThr := 60, captureSwitch := false, captureMargin := 6, carrierDrop := 12, diagRing := 0 }

def Ctx.idle : Ctx :=
  { state := .idle, purpose := .none, band := 0, channel := 0, profile := 0, prio := 0, listenStart := 0, listenEnd := 0
    lateFrom := 0, set := CtxSet.reset, maps := [], rx := none, frames := 0 }

def RxBand.reset (centre rxPath : Nat) : RxBand :=
  { centre := centre, retuneEnd := none, diagRing := 0, preQual := 16, syncRssiMinQ := -520
    ofdmThr := 60, captureSwitch := false, captureMargin := 6, carrierDrop := 12, agcMode := 0, agcFixed := 0
    agcRelease := 200, agcGain := 60, agcAt := 0, rssiOffsetQ := 0, extGainQ := 0, rxPathNs := rxPath, counters := List.replicate 16 0 }

def TxBand.reset (txPath : Nat) : TxBand :=
  { state := .off, onAfter := none, offPending := false, attempts := 0, linear := false, driveQ := 40, rampLinear := false
    rampUs := 4, paLeadUs := 10, paLagUs := 2, lateMaxUs := 60, txPathNs := txPath, polarity := 0, lnaStatic := false
    lnaNext := false, coexEnable := false, coexAbort := false, gntLow := false, outLow := false, coexLeadUs := 100
    priMask := 3, grant := false, grantAt := 0, biasLinear := false, modeAt := 0, driveOff := 0, inBurst := none, paEn := false, lnaByp := false, trSw := false, antSel := 0, coexReq := false
    coexPri := false, lo := none, calEnd := none, calLo := none, blank := false, parks := [], calFails := 0, bgAt := [0, 0, 0]
    bgDue := [false, false, false], bgOver := [false, false, false], bgWindow := none, bgTempQ := 0, queue := [], burst := [], quietFrom := 0
    awaiting := [], region := 0, dwell := [], counters := List.replicate 16 0 }

def Wake.reset : Wake :=
  { enable := false, actEvent := false, tol := 2, freq := 3040, pattern := 0, domainMask := 0, lastRtc := 0, lastAt := none, held := [] }

def Radio.reset : Radio :=
  { rx := { a := RxBand.reset 4600 180, b := RxBand.reset 8680 150, c := RxBand.reset 24420 60 }
    tx := { a := TxBand.reset 150, b := TxBand.reset 120, c := TxBand.reset 50 }
    ctxs := [], reserved := [], rxHeld := none, snapshots := [], nextSnap := 0, regions := []
    wake := Wake.reset, nextLaunch := 0 }

end Sys2Proof.Machine
end

