-- ==== Sys2Proof/Machine/StOrbit.lean ====
section
/-! DEFINITION. The state of the Orbit engine: slots, hopping, cells, tag classes, plans, the time parent (chapter 6). -/

namespace Sys2Proof.Machine

/-- Orbit engine states (R216), in the order of their codes. -/
inductive OrbitState where
  | idle | acquiring | run | holdover
deriving DecidableEq, Repr

/-- A cell record (R220). -/
structure Cell where
  slotOffset : Nat
  startUs : Nat
  lengthUs : Nat
  profile : Nat
  chOff : Nat
  band : Nat
  /-- 0 BEACON to 6 PARENT (R221). -/
  kind : Nat
  target : Nat
  antenna : Nat
  txLateMaxUs : Nat
deriving DecidableEq, Repr

/-- A tag class record (R224). -/
structure TagClass where
  id : Nat
  /-- true AGED, false LEARNED. -/
  aged : Bool
  profileA : Nat
  profileB : Nat
  profileC : Nat
  dlOffsetUs : Nat
  ulOffsetUs : Nat
  fuOffsetUs : Nat
  listenHalfUs : Nat
  guardMinUs : Nat
  guardMaxUs : Nat
  residCppm : Nat
  agedPpm : Nat
  gainShift : Nat
  outlierCppm : Nat
  keepaliveK : Nat
  dlRetryMax : Nat
  holdS : Nat
  wakePeriod : Nat
  contactPsduMax : Nat
deriving DecidableEq, Repr

/-- A time-parent candidate (R253). -/
structure Candidate where
  addr : W32
  band : Nat
deriving DecidableEq, Repr

/-- A planned listen (R233). -/
structure Listen where
  purpose : Purpose
  band : Nat
  channel : Nat
  profile : Nat
  prio : Nat
  startNs : Nat
  endNs : Nat
deriving DecidableEq, Repr

/-- A contact placed in a plan: its node, its node-side ASN, and whether it is expected (R248). -/
structure Contact where
  addr : W32
  nodeAsn : Nat
  /-- A keepalive is due (R248). -/
  expected : Bool
  /-- An authenticated frame of the node has arrived. -/
  met : Bool
  /-- Downlinks with `ack_req` that were launched in it (R248). -/
  dls : List Nat
  /-- The node was told to listen at its follow-up (R226, R243). -/
  follow : Bool
  /-- Ephemeris time at which its last window closes. -/
  untilNs : Nat
deriving DecidableEq, Repr

/-- The plan of a slot (R233). -/
structure Plan where
  asn : Nat
  t0 : Nat
  listens : List Listen
  launches : List Launch
  contacts : List Contact
  /-- Antenna position per band. -/
  antenna : List Nat
  /-- LO positions between bursts. -/
  parks : List Park
  handed : Bool
deriving DecidableEq, Repr

/-- A schedule change under way (R232). -/
structure SchedUpdate where
  addr : W32
  band : Nat
  chOff : Nat
  classId : Nat
  wakePeriod : Nat
  wakeOffset : Nat
  effectiveAsn : Nat
  /-- Contacts passed unacknowledged. -/
  tries : Nat
  /-- Acknowledged: it takes effect at `effectiveAsn`. -/
  acked : Bool
  /-- The command it answers; none on a standby. -/
  cmd : Option CmdEntry
deriving DecidableEq, Repr

/-- A JOIN_RSP that waits for a response half (R223). -/
structure JoinRsp where
  /-- Its pending record (R387). -/
  record : Nat
  eui : W64
  meshAddr : W32
  /-- Cell of the request; none for a refusal on a BROADCAST cell (R277). -/
  cell : Option (Nat × Nat × Nat)
  band : Nat
  result : Byte
  wakePeriod : Nat
  wakeOffset : Nat
  /-- Last ASN at which it may be sent. -/
  untilAsn : Nat
  keyGen : Byte
deriving DecidableEq, Repr

/-- The Orbit engine. -/
structure Orbit where
  /-- Engine state. [enumeration; 06_slotted_access.md R216; reset IDLE DESIGN CHOICE (log 8)] -/
  state : OrbitState
  /-- Follow mode of the last `ORBIT_START`. [1 bit; 06_slotted_access.md R217; reset 0] -/
  follow : Bool
  /-- `slot_len`, 10 µs units. [12 bits; 06_slotted_access.md R214; reset 1,000] -/
  slotLen : Nat
  /-- `slotframe_len`. [16 bits; 06_slotted_access.md R214; reset 1,000] -/
  frameLen : Nat
  /-- Anchor n_a. [40 bits; 06_slotted_access.md R214, R217; reset none] -/
  anchorAsn : Nat
  /-- Anchor t_a. [64 bits; 06_slotted_access.md R214, R217; reset none] -/
  anchorNs : Nat
  /-- An anchor is held (an `ORBIT_START` was accepted). [1 bit; 06_slotted_access.md R217; reset 0] -/
  anchored : Bool
  /-- New lengths that govern from the moved anchor (R215): slot length, slotframe length, anchor ASN. [06_slotted_access.md R215; reset none] -/
  nextFrame : Option (Nat × Nat × Nat)
  /-- ASN of the slot last begun; none before the anchor. [40 bits; 06_slotted_access.md R214; reset none] -/
  slot : Option Nat
  /-- A beacon re-anchored the engine and RUN waits for the next slotframe boundary. [1 bit; 06_slotted_access.md R217; reset 0] -/
  runPending : Bool
  /-- Hopping sequence of each band. [3 × up to 128 bytes; 06_slotted_access.md R219; reset empty] -/
  hop : Trio (List Nat)
  /-- Cells. [at most 1,024; 06_slotted_access.md R220; reset empty] -/
  cells : List Cell
  /-- Tag classes by identifier. [at most 64; 06_slotted_access.md R224, R225; reset the built-in classes] -/
  classes : SMap TagClass
  /-- Time-parent candidates. [at most 8; 06_slotted_access.md R253; reset empty] -/
  parents : List Candidate
  /-- Candidate followed; none after the last was passed over. [06_slotted_access.md R253, R255; reset none] -/
  parent : Option Nat
  /-- Consecutive PARENT cells missed. [2 bits; 06_slotted_access.md R254; reset 0] -/
  parentMiss : Nat
  /-- `time_depth` of the current parent's last beacon. [8 bits; 06_slotted_access.md R252; reset none] -/
  parentDepth : Option Nat
  /-- Candidate taken from the next slotframe boundary. [06_slotted_access.md R254; reset none] -/
  parentNext : Option Nat
  /-- `lead_us`. [16 bits; 01_architecture.md R43, 06_slotted_access.md R264; reset 1,500] -/
  leadUs : Nat
  /-- `min_slack_us`. [8 bits; 06_slotted_access.md R239; reset 20] -/
  minSlackUs : Nat
  /-- `unc_threshold_us`. [16 bits; 06_slotted_access.md R252; reset 50] -/
  uncThresholdUs : Nat
  /-- `dup_report_mask`. [16 bits; 06_slotted_access.md R264; reset 0] -/
  dupMask : Nat
  /-- `schedule_version`. [16 bits; 06_slotted_access.md R252; reset 0 DESIGN CHOICE (log 8)] -/
  schedVersion : Nat
  /-- Nodes whose last accepted uplink carried no `ack_req`: their listens are blink listens. [list of mesh addresses; 06_slotted_access.md R233; reset empty] -/
  blinks : List W32
  /-- Nodes whose JOIN_RSP has not launched: they sit in no bucket. [list of mesh addresses; 06_slotted_access.md R556; reset empty] -/
  unjoined : List W32
  /-- Wake calendar: node indices filed per bucket, the head first. [65,536 × 32 bits; 06_slotted_access.md R230; reset empty] -/
  calendar : SMap (List Nat)
  /-- ASN prepared last. [40 bits; 01_architecture.md R43; reset none] -/
  prepared : Option Nat
  /-- Plans prepared, in preparation or in force, oldest first. [06_slotted_access.md R233; reset empty] -/
  plans : List Plan
  /-- Schedule changes under way by air. [06_slotted_access.md R232; reset empty] -/
  schedUpdates : List SchedUpdate
  /-- JOIN_RSP frames waiting for a response half. [06_slotted_access.md R223; reset empty] -/
  joinRsps : List JoinRsp
  /-- Orbit counters in the order of R263. [22 × 32 bits; 06_slotted_access.md R263; reset 0 DESIGN CHOICE (log 8)] -/
  counters : Ctrs
deriving DecidableEq, Repr

/-- The built-in classes (R225) with the defaults of R224 where R225 gives no value. -/
def builtinClasses : SMap TagClass :=
  [ (1, { id := 1, aged := false, profileA := 0, profileB := 3, profileC := 0, dlOffsetUs := 1000, ulOffsetUs := 8000
          fuOffsetUs := 14000, listenHalfUs := 500, guardMinUs := 40, guardMaxUs := 5000, residCppm := 10, agedPpm := 40
          gainShift := 3, outlierCppm := 200, keepaliveK := 4, dlRetryMax := 4, holdS := 600, wakePeriod := 1500
          contactPsduMax := 48 })
  , (2, { id := 2, aged := false, profileA := 0, profileB := 0, profileC := 4, dlOffsetUs := 1000, ulOffsetUs := 4000
          fuOffsetUs := 7000, listenHalfUs := 300, guardMinUs := 20, guardMaxUs := 2000, residCppm := 10, agedPpm := 40
          gainShift := 3, outlierCppm := 200, keepaliveK := 1, dlRetryMax := 4, holdS := 600, wakePeriod := 6000
          contactPsduMax := 128 })
  , (3, { id := 3, aged := true, profileA := 1, profileB := 0, profileC := 0, dlOffsetUs := 0, ulOffsetUs := 2000
          fuOffsetUs := 20000, listenHalfUs := 2000, guardMinUs := 100, guardMaxUs := 15000, residCppm := 10, agedPpm := 40
          gainShift := 3, outlierCppm := 200, keepaliveK := 1, dlRetryMax := 4, holdS := 600, wakePeriod := 1500
          contactPsduMax := 32 }) ]

def Orbit.reset : Orbit :=
  { state := .idle, follow := false, slotLen := 1000, frameLen := 1000, anchorAsn := 0, anchorNs := 0, anchored := false
    nextFrame := none, slot := none, runPending := false, hop := { a := [], b := [], c := [] }, cells := []
    classes := builtinClasses, parents := [], parent := none, parentMiss := 0, parentDepth := none, parentNext := none
    leadUs := 1500, minSlackUs := 20, uncThresholdUs := 50, dupMask := 0, schedVersion := 0, blinks := [], unjoined := [], calendar := []
    prepared := none, plans := [], schedUpdates := [], joinRsps := [], counters := List.replicate 22 0 }

end Sys2Proof.Machine
end

