-- ==== Sys2Proof/Machine/StPath.lean ====
section
/-! DEFINITION. Frames between the contexts and their destinations (R30, R35), and the outputs of the part on the air. -/

namespace Sys2Proof.Machine

/-- A received frame that has passed the verification of R30 and goes to delivery or to a thread. -/
structure Uplink where
  band : Nat
  ctx : Nat
  channel : Nat
  profile : Nat
  /-- Frame type (R121). -/
  ftype : Nat
  /-- Node-table index; 0 with `nodeValid` false for a JOIN_REQ miss. -/
  index : Nat
  nodeValid : Bool
  src : W32
  eui : W64
  dest : W32
  ackReq : Bool
  keyGen : Byte
  counter : W32
  /-- MAC header bytes. -/
  header : List Byte
  /-- Decrypted payload. -/
  payload : List Byte
  /-- Bytes of its PSDU, which stand in the frame buffers (R28). -/
  psduLen : Nat
  tsNs : Nat
  tsFrac : W32
  rssiQ : Int
  lqi : Nat
  rateHint : Nat
  toneMap : Nat
  /-- JOIN cell that heard a JOIN_REQ (slot offset, channel offset, ASN), if one did. -/
  cell : Option (Nat × Nat × Nat)
  /-- Launch whose acknowledgement this ACK may be. -/
  launch : Option Nat
  /-- PARENT cell offset of a beacon, ns. -/
  parent : Option (Nat × Int)
  /-- Cut-through series it ends: `frame_id` and pieces (R361). -/
  cut : Option (W32 × Nat)
  /-- Launch that acknowledges it, if one is queued (R191). -/
  ack : Option Nat
  /-- That acknowledgement has gone out (R138). -/
  acked : Bool
  /-- e of R236 when the frame gave a measurement. -/
  e : Option Int
deriving DecidableEq, Repr

/-- The complex value (i + j·q)/√norm of a tone (R130, R134). -/
structure Tone where
  i : Int
  q : Int
  norm : Nat
deriving DecidableEq, Repr

/-- What a frame is on the air (R103 to R107, R128 to R136). -/
inductive Wave where
  /-- GFSK: symbols per second, the Gaussian shaping's BT in hundredths, the deviation of each symbol in Hz. -/
  | gfsk (symbolRate : Nat) (bt : Nat) (deviations : List Int)
  /-- TL-OFDM: sample rate in kHz, points of the FFT, samples of the cyclic prefix, the tones −64 to +63 of each symbol. -/
  | ofdm (sampleKhz : Nat) (points : Nat) (cyclic : Nat) (symbols : List (List Tone))
  /-- Its profile is gone. -/
  | none
deriving DecidableEq, Repr

/-- A frame the part put on the air. -/
structure AirFrame where
  band : Nat
  channel : Nat
  profile : Nat
  kind : Nat
  tA : Nat
  counter : W32
  /-- The PHY header word, or the signal field of a TL-OFDM frame (R109, R132). -/
  phy : Nat
  /-- The PSDU as it goes out, whitened. -/
  psdu : List Byte
  /-- The whole frame as it is modulated. -/
  wave : Wave
  /-- Output level at the transmit pin, 0.25 dBm (R180). -/
  levelQ : Int
deriving DecidableEq, Repr

/-- The path of a frame. -/
structure Path where
  /-- Accepted frames that wait for delivery (R35), oldest first. [list; 01_architecture.md R30, R35; reset empty] -/
  uplinks : List Uplink
  /-- Frames in the firmware threads and engines, oldest first: JOIN_REQ, CONTROL, CAMPAIGN, BEACON, ACK. [list; 01_architecture.md R35; reset empty] -/
  threads : List Uplink
  /-- Frames launched at the antenna, oldest first. [list, the part's output; 05_transmit_front_end.md R188; reset empty] -/
  air : List AirFrame
deriving DecidableEq, Repr

def Path.reset : Path := { uplinks := [], threads := [], air := [] }

end Sys2Proof.Machine
end

