-- ==== Sys2Proof/Machine/StPair.lean ====
section
/-! DEFINITION. The state of the twin pair: claims, leases, the replica, replication (chapter 13). -/

namespace Sys2Proof.Machine

/-- Replica states (R444), in the order of their codes. -/
inductive Replica where
  | empty | syncing | ready | stale
deriving DecidableEq, Repr

/-- Link states (R558), in the order of their codes. -/
inductive LinkState where
  | down | training | up
deriving DecidableEq, Repr

/-- An effect held until the standby's COMMIT_ACK (R445). -/
inductive Hold where
  /-- Acknowledgement and delivery of an accepted frame. -/
  | uplink (u : Uplink)
  /-- The final (or `ST_ACCEPTED`) response of a command. -/
  | response (e : CmdEntry) (r : Reply) (final : Bool)
  /-- A launch that follows from a table change or an offer. -/
  | launch
  /-- Launches under a newly advanced epoch. -/
  | epoch
deriving DecidableEq, Repr

/-- A message that waits for its COMMIT_ACK: its `seq`, when it was sent, what it holds back. -/
structure Waiting where
  seq : W32
  since : Nat
  hold : Hold
deriving DecidableEq, Repr

/-- A message the part sent on the pair link: type, `seq`, content. -/
structure LinkSent where
  type : Nat
  seq : W32
  body : List Byte
deriving DecidableEq, Repr

/-- A change kept in the delta log during a bulk copy (R456). -/
inductive DeltaRec where
  | journal (r : JournalMsg)
  | commit (r : CommitRec)
  | config (e : CmdEntry)
deriving DecidableEq, Repr

/-- The bulk copy under way or last made (R456, R558). -/
structure SyncRun where
  startedAt : Nat
  copied : Nat
  total : Nat
  /-- First index not copied yet. -/
  cursor : Nat
  /-- 1 keys agree, 2 entries, 3 settings, 4 delta, 5 complete. -/
  phase : Nat
  replayed : Nat
deriving DecidableEq, Repr

/-- The pair. -/
structure Pair where
  /-- Pairing was configured with `enable` = 1. [1 bit; 13_twin_pair.md R439, R460; reset 0] -/
  enabled : Bool
  /-- `isolation_policy`: 1 yield. [1 bit; 13_twin_pair.md R457, R460; reset 0] -/
  yieldPolicy : Bool
  /-- `hb_us`. [14 bits; 13_twin_pair.md R460; reset 100] -/
  hbUs : Nat
  /-- `lease_us`. [16 bits; 13_twin_pair.md R460; reset 1,000] -/
  leaseUs : Nat
  /-- `takeover_guard_us`. [16 bits; 13_twin_pair.md R460; reset 100] -/
  guardUs : Nat
  /-- `repl_timeout_us`. [16 bits; 13_twin_pair.md R460; reset 100] -/
  replTimeoutUs : Nat
  /-- `startup_wait_ms`. [16 bits; 13_twin_pair.md R460; reset 500] -/
  startupWaitMs : Nat
  /-- `enc_slot`. [7 bits; 13_twin_pair.md R434, R460; reset 0 DESIGN CHOICE (log 8)] -/
  encSlot : Nat
  /-- `mac_slot`. [7 bits; 13_twin_pair.md R434, R460; reset 0 DESIGN CHOICE (log 8)] -/
  macSlot : Nat
  /-- Own claim. [32 bits; 13_twin_pair.md R436; reset generation 0 with `unit_id`] -/
  claim : W32
  /-- `seen_claim`. [32 bits; 13_twin_pair.md R436; reset 0] -/
  seen : W32
  /-- True elapsed time at which the own lease ends; none while it holds none. [13_twin_pair.md R437; reset none] -/
  leaseEnd : Option Nat
  /-- It stopped renewing its lease. [1 bit; 13_twin_pair.md R441, R461; reset 0] -/
  noRenew : Bool
  /-- Latest judged end of the active unit's lease, true elapsed time. [13_twin_pair.md R438; reset none] -/
  judgedEnd : Option Nat
  /-- True elapsed time at which start-up waiting ends. [13_twin_pair.md R440; reset none] -/
  startupEnd : Option Nat
  /-- The twin's HELLO agreed. [1 bit; 13_twin_pair.md R440; reset 0] -/
  helloOk : Bool
  /-- The twin's HELLO disagreed: no pair forms. [1 bit; 13_twin_pair.md R440; reset 0] -/
  helloBad : Bool
  /-- A HELLO of this unit waits for its answer. [1 bit; 13_twin_pair.md R433; reset 0] -/
  helloAsked : Bool
  /-- Key check values differ. [1 bit; 13_twin_pair.md R451; reset 0] -/
  kcvDiffer : Bool
  /-- Last heartbeat word received. [64 bits; 13_twin_pair.md R435, R558; reset 0] -/
  twinHb : W64
  /-- True elapsed time of the last heartbeat on the line. [13_twin_pair.md R457; reset none] -/
  lineAt : Option Nat
  /-- True elapsed time of the last message on the link. [13_twin_pair.md R457; reset none] -/
  linkAt : Option Nat
  /-- `hb_seq` of the next word. [4 bits; 13_twin_pair.md R435; reset 0 DESIGN CHOICE (log 8)] -/
  hbSeq : Nat
  /-- True elapsed time of the last heartbeat sent. [13_twin_pair.md R435; reset none] -/
  hbAt : Option Nat
  /-- Link state. [enumeration; 13_twin_pair.md R432, R558; reset down] -/
  link : LinkState
  /-- Consecutive received messages whose tag failed. [0 to 8; 13_twin_pair.md R432; reset 0] -/
  tagFails : Nat
  /-- `seq` of the next message sent. [32 bits; 13_twin_pair.md R433; reset 0 DESIGN CHOICE (log 8)] -/
  txSeq : W32
  /-- `seq` expected next. [32 bits; 13_twin_pair.md R433, R434; reset 0 DESIGN CHOICE (log 8)] -/
  rxSeq : W32
  /-- Replica state: its own on a standby, its standby's on an active unit. [enumeration; 13_twin_pair.md R444; reset EMPTY] -/
  replica : Replica
  /-- `solo`. [1 bit; 13_twin_pair.md R435, R446; reset 0] -/
  solo : Bool
  /-- Messages waiting for COMMIT_ACK, oldest first. [list; 13_twin_pair.md R445; reset empty] -/
  waits : List Waiting
  /-- Messages sent on the link, oldest first. [list, the part's output; 13_twin_pair.md R433; reset empty] -/
  sent : List LinkSent
  /-- Heartbeat words sent on the line, oldest first. [list, the part's output; 13_twin_pair.md R435; reset empty] -/
  lineSent : List W64
  /-- Delta log. [at most 65,536 records; 13_twin_pair.md R456; reset empty] -/
  delta : List DeltaRec
  /-- Bulk copy under way or last made. [13_twin_pair.md R456, R558; reset none] -/
  sync : Option SyncRun
  /-- Eclipse gate open (`ACTIVE_OUT`). [1 bit; 13_twin_pair.md R442; reset 0] -/
  gateOpen : Bool
  /-- SCHEDULE_UPDATE and TONE_MAP offers of the active unit to nodes, by index, whose acceptance has not come. [list; 13_twin_pair.md R445; reset empty] -/
  offers : List (Nat × List Byte)
  /-- Pair counters in the order of R459. [13 × 32 bits; 13_twin_pair.md R459; reset 0 DESIGN CHOICE (log 8)] -/
  counters : Ctrs
deriving DecidableEq, Repr

def Pair.reset : Pair :=
  { enabled := false, yieldPolicy := false, hbUs := 100, leaseUs := 1000, guardUs := 100, replTimeoutUs := 100
    startupWaitMs := 500, encSlot := 0, macSlot := 0, claim := 0, seen := 0, leaseEnd := none, noRenew := false
    judgedEnd := none, startupEnd := none, helloOk := false, helloBad := false, helloAsked := false, kcvDiffer := false, twinHb := 0, lineAt := none, linkAt := none
    hbSeq := 0, hbAt := none, link := .down, tagFails := 0, txSeq := 0, rxSeq := 0, replica := .empty, solo := false
    waits := [], sent := [], lineSent := [], delta := [], sync := none, gateOpen := false, offers := []
    counters := List.replicate 13 0 }

end Sys2Proof.Machine
end

