-- ==== Sys2Proof/Machine/StPwr.lean ====
section
/-! DEFINITION. The state of Tide (chapter 14). -/

namespace Sys2Proof.Machine

/-- Domain states (R462), in the order of their codes. -/
inductive DomState where
  | on | retention | off | entering | waking
deriving DecidableEq, Repr

/-- An item of a bulk store other than the node table (R25, R27): a FIFO's Tail cell, a pending frame, a route, a calendar entry of a
node, a block of the campaign image. -/
inductive BulkItem where
  | tailCell (f : FifoId) | pending (record : Nat) | route (pfx : W64) (len : Nat) | calendar (index : Nat) | block (k : Nat)
deriving DecidableEq, Repr

/-- A power domain (R462 to R469). -/
structure Domain where
  /-- State. [enumeration; 14_power_domains.md R462, R471; reset ON] -/
  state : DomState
  /-- `policy`: 0 STAY_ON, 1 HANDSHAKE, 2 IDLE_TIMER. [2 bits; 14_power_domains.md R464, R471; reset 0] -/
  policy : Nat
  /-- `target`: true Off. [1 bit; 14_power_domains.md R464; reset 0] -/
  targetOff : Bool
  /-- `hs_period_ms`. [16 bits; 14_power_domains.md R472; reset 100] -/
  hsPeriodMs : Nat
  /-- `idle_us`. [24 bits; 14_power_domains.md R472; reset 1,000] -/
  idleUs : Nat
  /-- True elapsed time of the last access, wake or timer restart. [14_power_domains.md R464, R466, R468; reset 0] -/
  since : Nat
  /-- A handshake or entry under way: its target Off, and whether a command asked for it. [14_power_domains.md R465; reset none] -/
  request : Option (Bool × Bool)
  /-- Blocks that delay in the handshake under way. [list; 14_power_domains.md R465; reset empty] -/
  delaying : List Nat
  /-- A wake follows the entry in progress (R469). [1 bit; 14_power_domains.md R469; reset 0] -/
  wakeNext : Bool
  /-- Last answer of each block: 0 none, 1 agree, 2 delay, 3 refuse. [14_power_domains.md R472; reset none asked] -/
  answers : List Nat
  /-- The state from which a wake in progress started was Off. [1 bit; 14_power_domains.md R462; reset 0] -/
  wasOff : Bool
  /-- True elapsed time of the last `EV_DOMAIN_REFUSED`. [14_power_domains.md R465; reset none] -/
  eventAt : Option Nat
deriving DecidableEq, Repr

/-- A `PWR_DOMAIN_SET` at work: the entry, domains left to lower in order, those lowered, whether its final response went out. -/
structure DomCommand where
  e : CmdEntry
  off : Bool
  todo : List Nat
  done : List Nat
  answered : Bool
deriving DecidableEq, Repr

/-- Tide. -/
structure Power where
  /-- Domains 0 to 23. [24; 14_power_domains.md R462; reset as their fields] -/
  doms : List Domain
  /-- `ref_settle_us`. [16 bits; 14_power_domains.md R470; reset 3,000] -/
  refSettleUs : Nat
  /-- `PWR_DOMAIN_SET` requests that lower domains, the one at work first. [list; 14_power_domains.md R467, R473; reset empty] -/
  commands : List DomCommand
  /-- Items of the bulk stores whose memory holds an uncorrectable error that no read has met. [list, the model's own; 01_architecture.md R27; reset empty (log 105)] -/
  bulkErrors : List BulkItem
  /-- Items discarded for such an error: Tail, pending pool, trie, calendar, campaign image. [5 × 32 bits, the model's own; 01_architecture.md R27; reset 0 DESIGN CHOICE (log 105)] -/
  bulkLost : Ctrs
deriving DecidableEq, Repr

def Domain.reset : Domain :=
  { state := .on, policy := 0, targetOff := false, hsPeriodMs := 100, idleUs := 1000, since := 0, request := none
    delaying := [], wakeNext := false, answers := [], wasOff := false, eventAt := none }

def Power.reset : Power := { doms := List.replicate 24 Domain.reset, refSettleUs := 3000, commands := [], bulkErrors := [], bulkLost := List.replicate 5 0 }

end Sys2Proof.Machine
end

