-- ==== Sys2Proof/Machine/StQueue.lean ====
section
/-! DEFINITION. The state of the pending-frame pool, the shaping queues, the shaper, the gates, the work scheduler, Tail and the
arbiter (chapter 11). -/

namespace Sys2Proof.Machine

/-- Where a pending frame comes from (R387). -/
inductive FrameSource where
  /-- A transmit ring, entry index, enable era. -/
  | ring (r idx era : Nat)
  /-- An Ethernet port. -/
  | eth (port : Nat)
  /-- The resident firmware: JOIN_RSP, CONTROL, CAMPAIGN. -/
  | firmware
  /-- Mesh forwarding of a node's packet (R301). -/
  | mesh
deriving DecidableEq, Repr

/-- A pending record with its frame (R387, R388). -/
structure Frame where
  /-- 16-bit generation of the record. -/
  gen : W16
  /-- Place in the order of classification. -/
  seq : Nat
  source : FrameSource
  /-- Shaping queue. -/
  queue : Nat
  /-- Destination mesh address. -/
  dest : W32
  /-- Frame type of R121. -/
  ftype : Nat
  /-- MAC payload. -/
  payload : List Byte
  ackReq : Bool
  tsReq : Bool
  tsId : W16
  /-- True elapsed time at which its lifetime ends. -/
  expires : Option Nat
  /-- True elapsed time of its classification. -/
  since : Nat
  /-- Launches made. -/
  attempts : Nat
  /-- It is chosen in a plan or queued for launch. -/
  planned : Bool
  /-- Its ramp has started. -/
  onAir : Bool
  /-- It completes with `FS_FLUSHED` when its burst ends (R391). -/
  doomed : Bool
  /-- Its view was reset while it was on the air (R98). -/
  lost : Bool
  /-- For JOIN_RSP: the joining node's EUI. -/
  eui : W64
  /-- Generation it must be sent under when the node's entry does not say (JOIN_RSP). -/
  keyGen : Byte
  /-- `tx_late` flag and counters of its last launch: counter, tA, channel, band, late. -/
  lastLaunch : Option (W32 × Nat × Nat × Nat × Bool)
deriving DecidableEq, Repr

/-- A shaping-queue entry (R388): record index and generation; a hole when they no longer match. -/
structure QEntry where
  record : Nat
  gen : W16
deriving DecidableEq, Repr

/-- A FIFO of R384: head and tail registers and the middle in Tail, with its pointers and count kept twice (R386). -/
structure Fifo (α : Type) where
  head : List α
  middle : List α
  tail : List α
  /-- Second copies of the head pointer, tail pointer and count differ by these amounts (0 when the copies agree). -/
  skew : Nat × Nat × Nat
deriving DecidableEq, Repr

/-- A shaping queue (R387, R392, R403). -/
structure ShapeQueue where
  /-- `weight`. [8 bits; 11_scheduling_queues.md R392; reset 1] -/
  weight : Nat
  /-- `q_limit`, 0 none. [16 bits; 11_scheduling_queues.md R387; reset 0] -/
  limit : Nat
  /-- V_q on each band, 1/16 µs. [3 × 48 bits; 11_scheduling_queues.md R392; reset 0] -/
  v : Trio Nat
  /-- Entries. [FIFO; 11_scheduling_queues.md R384, R388; reset empty] -/
  fifo : Fifo QEntry
deriving DecidableEq, Repr

/-- A gate-list entry (R395). -/
structure Gate where
  slots : Nat
  openMask : W64
deriving DecidableEq, Repr

/-- A band's gate list in force and its pending one with its takeover (R395, R396). -/
structure GateList where
  /-- [0 to 32 entries; 11_scheduling_queues.md R395; reset empty] -/
  entries : List Gate
  /-- [40 bits; 11_scheduling_queues.md R395; reset 0] -/
  takeover : Nat
  /-- [11_scheduling_queues.md R396; reset none] -/
  pending : Option (List Gate × Nat)
deriving DecidableEq, Repr

/-- A sample record (R397). -/
structure Sample where
  timeNs : W64
  delayUs : Nat
  late : Bool
  missed : Bool
  depth : Nat
deriving DecidableEq, Repr

/-- A work item as the scheduler holds it (R379). -/
structure WorkRec where
  item : WorkItem
  enqNs : W64
deriving DecidableEq, Repr

/-- A flow entry (R381). -/
structure FlowEntry where
  busy : Bool
  deferred : Fifo WorkRec
deriving DecidableEq, Repr

/-- A control core (R383): the item in service and its prefetch slot. -/
structure CoreState where
  running : Option WorkRec
  slot : Option WorkRec
deriving DecidableEq, Repr

/-- A bank's arbitration point (R399). -/
structure BankArb where
  /-- Parked owner. -/
  owner : Option Nat
  /-- Last requester granted in each class. -/
  last : List Nat
deriving DecidableEq, Repr

/-- The queue engine, shaper, work scheduler and arbiter. -/
structure QueueDom where
  /-- Pending records in use, by index. [16,384 × 64 bytes; 11_scheduling_queues.md R387; reset empty] -/
  records : SMap Frame
  /-- Generation of free records' next use, by index; 0 where unlisted. [16,384 × 16 bits; 11_scheduling_queues.md R388; reset 0 DESIGN CHOICE (log 8)] -/
  gens : SMap W16
  /-- Frames classified so far: the place of the next one in that order. [the model's own; 11_scheduling_queues.md R393; reset 0] -/
  classified : Nat
  /-- Shaping queues 0 to 63. [64; 11_scheduling_queues.md R392, R403; reset as their fields] -/
  queues : List ShapeQueue
  /-- V of each band, 1/16 µs. [3 × 48 bits; 11_scheduling_queues.md R392; reset 0] -/
  v : Trio Nat
  /-- Overheads per air profile: `ovh_ack_us`, `ovh_noack_us`; an unlisted profile has 0xFFFF. [11_scheduling_queues.md R394; reset empty] -/
  overheads : SMap (Nat × Nat)
  /-- Gate lists of the bands. [3; 11_scheduling_queues.md R395, R396; reset empty] -/
  gates : Trio GateList
  /-- `fw_queue`. [6 bits; 11_scheduling_queues.md R387; reset 63] -/
  fwQueue : Nat
  /-- `sample_ms`. [16 bits; 11_scheduling_queues.md R397; reset 100] -/
  sampleMs : Nat
  /-- True elapsed time of the next sample. [11_scheduling_queues.md R397; reset 100 ms] -/
  sampleAt : Nat
  /-- Sample rings, newest first, per queue; unlisted empty. [64 × 256 records; 11_scheduling_queues.md R397; reset empty] -/
  samples : SMap (List Sample)
  /-- The next sample stands for one lost under R380. [1 bit; 11_scheduling_queues.md R397; reset 0] -/
  sampleLost : Bool
  /-- Firmware frames held until the pool has space: destination, type, payload, acknowledgement request. [11_scheduling_queues.md R387; reset empty] -/
  fwHeld : List Frame
  /-- Ready lists 0 to 7. [8 FIFOs; 11_scheduling_queues.md R380; reset empty] -/
  ready : List (Fifo WorkRec)
  /-- Flow entries by number; an unlisted one is free with an empty chain. [16,384; 11_scheduling_queues.md R381; reset free] -/
  flows : SMap FlowEntry
  /-- Control cores 0 to 7. [8; 11_scheduling_queues.md R383; reset idle] -/
  cores : List CoreState
  /-- Items of producers that are held for want of Tail cells, oldest first. [11_scheduling_queues.md R385; reset empty] -/
  held : List WorkItem
  /-- `class_map`. [32 bits; 11_scheduling_queues.md R398, R403; reset 0x6D15_AAAA] -/
  classMap : W32
  /-- `starve_thr`. [16 bits; 11_scheduling_queues.md R400; reset 1,024] -/
  starveThr : Nat
  /-- `wd_us`. [16 bits; 11_scheduling_queues.md R401; reset 50] -/
  wdUs : Nat
  /-- Arbitration points of banks 0 to 31. [32; 11_scheduling_queues.md R399; reset no owner] -/
  banks : List BankArb
  /-- Starvation counters of requesters 0 to 15. [16; 11_scheduling_queues.md R400; reset 0] -/
  starve : List Nat
  /-- Largest starvation count since read. [16; 11_scheduling_queues.md R403; reset 0] -/
  starveMax : List Nat
  /-- Grants per requester. [16; 11_scheduling_queues.md R403; reset 0] -/
  grants : List Nat
  /-- True elapsed time of each requester's last `EV_STARVE`. [16; 11_scheduling_queues.md R400; reset none] -/
  starveAt : List (Option Nat)
  /-- Queue and dispatch counters in the order of R402. [14 × 32 bits; 11_scheduling_queues.md R402; reset 0 DESIGN CHOICE (log 8)] -/
  counters : Ctrs
deriving DecidableEq, Repr

def Fifo.empty {α : Type} : Fifo α := { head := [], middle := [], tail := [], skew := (0, 0, 0) }

def ShapeQueue.reset : ShapeQueue := { weight := 1, limit := 0, v := { a := 0, b := 0, c := 0 }, fifo := Fifo.empty }

def GateList.reset : GateList := { entries := [], takeover := 0, pending := none }

def BankArb.reset : BankArb := { owner := none, last := [15, 15, 15, 15] }

def QueueDom.reset : QueueDom :=
  { records := [], gens := [], classified := 0, queues := List.replicate 64 ShapeQueue.reset, v := { a := 0, b := 0, c := 0 }, overheads := []
    gates := { a := GateList.reset, b := GateList.reset, c := GateList.reset }, fwQueue := 63, sampleMs := 100
    sampleAt := 100000000, samples := [], sampleLost := false, fwHeld := [], ready := List.replicate 8 Fifo.empty
    flows := [], cores := List.replicate 8 { running := none, slot := none }, held := [], classMap := 0x6D15AAAA#32
    starveThr := 1024, wdUs := 50, banks := List.replicate 32 BankArb.reset, starve := List.replicate 16 0
    starveMax := List.replicate 16 0, grants := List.replicate 16 0, starveAt := List.replicate 16 none
    counters := List.replicate 14 0 }

end Sys2Proof.Machine
end

