-- ==== Sys2Proof/Machine/StRoute.lean ====
section
/-! DEFINITION. The state of routing between the mesh and IPv6 and of the Ethernet ports (chapter 8). -/

namespace Sys2Proof.Machine

/-- A relay slot (R294). -/
structure RelaySlot where
  /-- `mesh_addr`. -/
  meshAddr : W32
  /-- `privileged`. -/
  privileged : Bool
  /-- `parent_part`. -/
  parentPart : Bool
  /-- `parent_slot`. -/
  parentSlot : Nat
  /-- The relayed-pending list, by node index, the head first (`pend_head`, `cal_next`). -/
  pend : List Nat
  /-- `child_count`. -/
  childCount : Nat
deriving DecidableEq, Repr

/-- A prefix route (R309, R310): prefix as address bits [127:64], its length, action and target. -/
structure Route where
  pfx : W64
  len : Nat
  action : Nat
  target : Nat
deriving DecidableEq, Repr

/-- A 6LoWPAN context (R303, R318). -/
structure LowpanCtx where
  len : Nat
  pfx : W64
deriving DecidableEq, Repr

/-- A frame of the broadcast list (R308): its record and the bands that must still send it. -/
structure Flood where
  record : Nat
  bands : Nat
deriving DecidableEq, Repr

/-- An Ethernet port (R305 to R318). -/
structure EthPort where
  /-- `mode`. [3 bits; 08_routing_ipv6.md R318; reset 0 DESIGN CHOICE (log 8)] -/
  mode : Nat
  /-- `mtu`. [16 bits; 08_routing_ipv6.md R318; reset 1,500] -/
  mtu : Nat
  /-- `mac`. [48 bits; 08_routing_ipv6.md R318; reset 0 DESIGN CHOICE (log 8)] -/
  mac : BitVec 48
  /-- `vlan_id`, 0 untagged. [12 bits; 08_routing_ipv6.md R318; reset 0] -/
  vlanId : Nat
  /-- `vlan_pcp`. [3 bits; 08_routing_ipv6.md R318; reset 0 DESIGN CHOICE (log 8)] -/
  vlanPcp : Nat
  /-- Link up. [1 bit; 08_routing_ipv6.md R314, R318; reset 0] -/
  up : Bool
  /-- Port addresses 0 to 3. [4 × 128 bits; 08_routing_ipv6.md R318; reset none DESIGN CHOICE (log 8)] -/
  addrs : List (Option (BitVec 128))
  /-- `eth_host_ring`. [4 bits; 08_routing_ipv6.md R318; reset 0 DESIGN CHOICE (log 8)] -/
  hostRing : Nat
  /-- `host_en`. [1 bit; 08_routing_ipv6.md R318; reset 0 DESIGN CHOICE (log 8)] -/
  hostEn : Bool
  /-- `eth_queue`. [6 bits; 08_routing_ipv6.md R318; reset 0] -/
  queue : Nat
  /-- `eth_lifetime_ms`. [16 bits; 08_routing_ipv6.md R318; reset 60,000] -/
  lifetimeMs : Nat
  /-- `rx_pause`. [1 bit; 08_routing_ipv6.md R318; reset 0] -/
  rxPause : Bool
  /-- `tx_pause`. [1 bit; 08_routing_ipv6.md R318; reset 0] -/
  txPause : Bool
  /-- `ipg_bytes`. [4 bits; 08_routing_ipv6.md R318; reset 12] -/
  ipg : Nat
  /-- Receive FIFO depth. [0 to 512 frames; 08_routing_ipv6.md R312; reset empty] -/
  rxFifo : List (List Byte)
  /-- Egress FIFO. [0 to 256 frames; 08_routing_ipv6.md R314; reset empty] -/
  txFifo : List (List Byte)
  /-- Frames sent at the MII since the link came up, oldest first (what an observer on the link sees). [list; 08_routing_ipv6.md R314; reset empty] -/
  sent : List (List Byte)
  /-- Ethernet counters in the order of R317. [12 × 32 bits; 08_routing_ipv6.md R317; reset 0 DESIGN CHOICE (log 8)] -/
  counters : Ctrs
deriving DecidableEq, Repr

/-- A neighbour (R314). -/
structure Neighbour where
  port : Nat
  mac : BitVec 48
deriving DecidableEq, Repr

/-- Routing. -/
structure Routing where
  /-- Relay slots by number; an unlisted one is free. [16,384 × 16 bytes; 08_routing_ipv6.md R294; reset free] -/
  relays : SMap RelaySlot
  /-- Prefix routes. [at most 65,536; 08_routing_ipv6.md R309; reset empty] -/
  routes : List Route
  /-- Which of the two roots is live. [1 bit; 08_routing_ipv6.md R310, R313; reset 0 DESIGN CHOICE (log 8)] -/
  rootB : Bool
  /-- Version of the routes: what places the compressed nodes in the store hangs on it. [the model's own; 08_routing_ipv6.md R310, R313; reset 0 DESIGN CHOICE (log 4)] -/
  trieGen : Nat
  /-- Default route: action and target, 0 none. [3 and 16 bits; 08_routing_ipv6.md R318; reset none] -/
  defaultRoute : Nat × Nat
  /-- `mesh_prefix`. [64 bits; 08_routing_ipv6.md R318; reset 0 DESIGN CHOICE (log 8)] -/
  meshPrefix : W64
  /-- `router_iid`. [64 bits; 08_routing_ipv6.md R318; reset ::1] -/
  routerIid : W64
  /-- `prereg_class`. [16 bits; 08_routing_ipv6.md R318; reset 0] -/
  preregClass : Nat
  /-- `flood_bands`. [3 bits; 08_routing_ipv6.md R318; reset 0b111] -/
  floodBands : Nat
  /-- `mesh_relay`. [1 bit; 08_routing_ipv6.md R318; reset 0] -/
  meshRelay : Bool
  /-- `src_check`. [1 bit; 08_routing_ipv6.md R318; reset 1] -/
  srcCheck : Bool
  /-- Contexts 1 to 15 by identifier. [15; 08_routing_ipv6.md R303, R318; reset none] -/
  contexts : SMap LowpanCtx
  /-- `lowpan_tx_mode`: 1 uncompressed. [1 bit; 08_routing_ipv6.md R318; reset 0] -/
  uncompressed : Bool
  /-- Broadcast list. [at most 256; 08_routing_ipv6.md R308; reset empty] -/
  broadcast : List Flood
  /-- Routing counters in the order of R317. [14 × 32 bits; 08_routing_ipv6.md R317; reset 0 DESIGN CHOICE (log 8)] -/
  counters : Ctrs
  /-- Ethernet ports 0 and 1. [2; 08_routing_ipv6.md R305; reset as their fields] -/
  ports : List EthPort
  /-- Valid neighbours by index. [256; 08_routing_ipv6.md R314; reset none] -/
  neighbours : SMap Neighbour
deriving DecidableEq, Repr

def EthPort.reset : EthPort :=
  { mode := 0, mtu := 1500, mac := 0, vlanId := 0, vlanPcp := 0, up := false, addrs := List.replicate 4 none, hostRing := 0
    hostEn := false, queue := 0, lifetimeMs := 60000, rxPause := false, txPause := false, ipg := 12, rxFifo := [], txFifo := []
    sent := [], counters := List.replicate 12 0 }

def Routing.reset : Routing :=
  { relays := [], routes := [], rootB := false, trieGen := 0, defaultRoute := (0, 0), meshPrefix := 0, routerIid := 1, preregClass := 0
    floodBands := 7, meshRelay := false, srcCheck := true, contexts := [], uncompressed := false, broadcast := []
    counters := List.replicate 14 0, ports := List.replicate 2 EthPort.reset, neighbours := [] }

end Sys2Proof.Machine
end

