-- ==== Sys2Proof/Machine/StTest.lean ====
section
/-! DEFINITION. The state of tests, the boundary scan port, the watchdogs and telemetry (chapter 16). -/

namespace Sys2Proof.Machine

/-- A lane's checker (R504). -/
structure LaneCheck where
  bits : Nat
  errors : Nat
  locked : Bool
  losses : Nat
deriving DecidableEq, Repr

/-- A test on a resource (R501 to R506). -/
structure TestRun where
  /-- It runs. -/
  running : Bool
  /-- True elapsed time at which it ends; none without limit. -/
  endAt : Option Nat
  /-- Link tests: pattern, loopback point, direction. -/
  pattern : Nat
  lb : Nat
  dir : Nat
  lanes : List LaneCheck
  /-- Radio tests: kind and parameters. -/
  kind : Nat
  channel : Nat
  profile : Nat
  offsetKhz : Int
  len : Nat
  intervalUs : Nat
  count : Nat
  /-- Frames sent, received, header failures, FCS failures, lost, payload bit errors (R506). -/
  counts : List Nat
  /-- Stop cause: 0 running, 1 duration, 2 `TEST_STOP`, 3 per-function reset, 4 gate closed. -/
  cause : Nat
  /-- Sequence number of the next frame sent, and of the next frame expected. -/
  seqTx : Nat
  seqRx : Option Nat
  /-- True elapsed time of the last frame sent. -/
  lastTx : Option Nat
deriving DecidableEq, Repr

/-- A telemetry record (R516). -/
structure Telemetry where
  timeNs : W64
  pace : W16
  late : Bool
  tempMaxQ : W16
  tempMinQ : W16
  vcoreMv : W16
  vaonMv : W16
  descInUse : Nat
  granulesFree : Nat
  cmdsOutstanding : Nat
  contextsBusy : Nat
deriving DecidableEq, Repr

/-- Tests and diagnostics. -/
structure TestDom where
  /-- Tests by resource code 0 to 7, with their last result. [8; 16_test_diagnostics.md R501, R502; reset none] -/
  runs : List (Option TestRun)
  /-- `kwd_ms`. [16 bits; 16_test_diagnostics.md R513; reset 100] -/
  kwdMs : Nat
  /-- `pace_floor_xfers_per_us`. [16 bits; 16_test_diagnostics.md R514; reset 540] -/
  paceFloor : Nat
  /-- True elapsed time of the last pace `EV_WATCHDOG`. [16_test_diagnostics.md R514; reset none] -/
  paceEventAt : Option Nat
  /-- Mean pace over the last 1 ms. [16 bits; 01_architecture.md R21, 16_test_diagnostics.md R514; reset 0 DESIGN CHOICE (log 8)] -/
  pace : Nat
  /-- Kernel-watchdog cold starts since power-on. [16_test_diagnostics.md R515; reset 0] -/
  kwdStarts : Nat
  /-- Last reset cause: 0 power-on or RESET_N, 1 kernel watchdog, 2 command, 3 boundary scan. [16_test_diagnostics.md R513, R519; reset 0] -/
  resetCause : Nat
  /-- `telem_ms`. [16 bits; 16_test_diagnostics.md R516; reset 1,000] -/
  telemMs : Nat
  /-- True elapsed time of the next telemetry sample. [16_test_diagnostics.md R516; reset 1 s] -/
  telemAt : Nat
  /-- The telemetry item was lost: the next record is late. [1 bit; 11_scheduling_queues.md R380; reset 0] -/
  telemLost : Bool
  /-- Telemetry ring, newest first. [1,024 × 32 bytes; 16_test_diagnostics.md R516; reset empty] -/
  telemetry : List Telemetry
  /-- TAP instruction register. [8 bits; 16_test_diagnostics.md R510; reset IDCODE 0x02] -/
  tapIr : Byte
  /-- TAP data-register value shifted out next: IDCODE or the bypass bit. [32 bits; 16_test_diagnostics.md R510, R511; reset 0 DESIGN CHOICE (log 8)] -/
  tapDr : W32
  /-- The part is held in reset by EXTEST, CLAMP or HIGHZ. [1 bit; 16_test_diagnostics.md R512; reset 0] -/
  held : Bool
deriving DecidableEq, Repr

def TestDom.reset : TestDom :=
  { runs := List.replicate 8 none, kwdMs := 100, paceFloor := 540, paceEventAt := none, pace := 0, kwdStarts := 0
    resetCause := 0, telemMs := 1000, telemAt := 1000000000, telemLost := false, telemetry := [], tapIr := 0x02#8, tapDr := 0
    held := false }

end Sys2Proof.Machine
end

