-- ==== Sys2Proof/Machine/StUpdate.lean ====
section
/-! DEFINITION. The state of the flash, the code banks, probation and the node campaign (chapter 15). -/

namespace Sys2Proof.Machine

/-- A code-RAM bank (R25, R482): the header and body it was loaded from. -/
structure CodeBank where
  header : List Byte
  body : Memory
deriving DecidableEq, Repr

/-- The probation record (R480, R483): none before any image, else PROBATION or CONFIRMED and the failure count. -/
structure Probation where
  confirmed : Bool
  count : Nat
deriving DecidableEq, Repr

/-- The snapshot marker (R100). -/
structure Marker where
  snapshotSeq : W32
  bootEpoch : Nat
deriving DecidableEq, Repr

/-- The record sectors (R474, R475): the records in force and where the next page goes. -/
structure Records where
  /-- Epoch record. [40 bits; 10_frame_protection.md R372; reset none] -/
  epochs : Option EpochRec
  /-- Snapshot marker. [44 bits; 02_host_interface.md R100; reset none] -/
  marker : Option Marker
  /-- Probation record. [15_update.md R474, R480; reset none] -/
  probation : Option Probation
  /-- Sequence number of the last record. [15_update.md R474, R475; reset 0 DESIGN CHOICE (log 8)] -/
  seq : Nat
  /-- Record sector in use: false A, true B. [1 bit; 15_update.md R474, R475; reset A DESIGN CHOICE (log 8)] -/
  sectorB : Bool
  /-- Pages programmed in the sector in use. [0 to 256; 15_update.md R475; reset 0] -/
  pages : Nat
  /-- The other sector waits for its background erase. [1 bit; 15_update.md R475; reset 0] -/
  eraseDue : Bool
deriving DecidableEq, Repr

/-- Firmware. -/
structure Firmware where
  /-- xSPI flash bytes outside the record sectors. [32 MiB, erased bytes read 0xFF (log 9); 15_update.md R474; reset empty] -/
  flash : Memory
  /-- Record sectors. [128 KiB; 15_update.md R474, R475; reset as its fields] -/
  recs : Records
  /-- Bank with the running firmware. [2 MiB; 15_update.md R482; reset none] -/
  running : Option CodeBank
  /-- The other bank, when it still holds the old image. [2 MiB; 15_update.md R482, R483; reset none] -/
  old : Option CodeBank
  /-- The running firmware sits in bank B. [1 bit; 01_architecture.md R25; reset 0] -/
  bankB : Bool
  /-- The running image is on probation. [1 bit; 15_update.md R483; reset 0] -/
  onProbation : Bool
  /-- Handover under way after step 2 of R482. [15_update.md R482; reset none] -/
  handover : Option CodeBank
  /-- Handover-bound or boot-bound cold start asked for (mode 1, R481; R321). [1 bit; 15_update.md R481; reset 0] -/
  coldStart : Bool
deriving DecidableEq, Repr

/-- Campaign states (R492). -/
inductive CmpState where
  | idle | loading | running | ended
deriving DecidableEq, Repr

/-- A campaign target (R496). -/
structure Target where
  meshAddr : W32
  /-- `state` 0 to 5. -/
  state : Nat
  silent : Nat
  missing : Nat
  ucast0 : Nat
  ucast1 : Nat
  /-- A STATUS arrived in this collection phase. -/
  heard : Bool
deriving DecidableEq, Repr

/-- The node campaign (R492 to R500). -/
structure Campaign where
  /-- State. [enumeration; 15_update.md R492; reset IDLE] -/
  state : CmpState
  /-- `campaign_id`. [16 bits; 15_update.md R499; reset 0 DESIGN CHOICE (log 8)] -/
  id : Nat
  /-- `class_id`. [16 bits; 15_update.md R499; reset 0 DESIGN CHOICE (log 8)] -/
  classId : Nat
  /-- `image_len`. [21 bits; 15_update.md R499; reset 0 DESIGN CHOICE (log 8)] -/
  imageLen : Nat
  /-- `blk_len`. [12 bits; 15_update.md R499; reset 0 DESIGN CHOICE (log 8)] -/
  blkLen : Nat
  /-- `max_rounds`. [8 bits; 15_update.md R499; reset 8] -/
  maxRounds : Nat
  /-- `round_slots`. [32 bits; 15_update.md R499; reset 0 DESIGN CHOICE (log 8)] -/
  roundSlots : Nat
  /-- `bcast_slots`. [32 bits; 15_update.md R499; reset 0 DESIGN CHOICE (log 8)] -/
  bcastSlots : Nat
  /-- `image_hash`. [256 bits; 15_update.md R499; reset 0 DESIGN CHOICE (log 8)] -/
  hash : List Byte
  /-- Image. [1 MiB, unwritten bytes read 0 (log 8); 15_update.md R492; reset empty] -/
  image : Memory
  /-- Target records. [65,536 × 12 bytes; 15_update.md R492, R496; reset empty] -/
  targets : List Target
  /-- Want counts by block, 0 where unlisted. [16,384 × 16 bits; 15_update.md R492; reset 0] -/
  want : SMap Nat
  /-- `start_asn`. [40 bits; 15_update.md R494, R499; reset 0 DESIGN CHOICE (log 8)] -/
  startAsn : Nat
  /-- `activate_asn`, 0 none. [40 bits; 15_update.md R497, R499; reset 0] -/
  activateAsn : Nat
  /-- Round now, none before round 0. [8 bits; 15_update.md R494; reset none] -/
  round : Option Nat
  /-- The collection phase runs. [1 bit; 15_update.md R494; reset 0] -/
  collecting : Bool
  /-- Round whose broadcast the slot plans have opened, none before round 0. [8 bits; 15_update.md R494; reset none] -/
  planRound : Option Nat
  /-- Blocks of that round's broadcast still to be placed on each band, ascending. [3 lists; 15_update.md R494; reset empty] -/
  wanted : Trio (List Nat)
  /-- That round's broadcast ANNOUNCE is to be placed on each band. [3 × 1 bit; 15_update.md R494; reset 0] -/
  announce : Trio Bool
  /-- The block each band's broadcast placed last, none before the round's first. [3 × 14 bits; 11_scheduling_queues.md R380; reset none] -/
  current : Trio (Option Nat)
  /-- `unicast_max`. [2 bits; 15_update.md R499; reset 2] -/
  unicastMax : Nat
  /-- Blocks broadcast. [15_update.md R499; reset 0] -/
  sentBcast : Nat
  /-- Blocks sent unicast. [15_update.md R499; reset 0] -/
  sentUcast : Nat
  /-- STATUS frames received. [15_update.md R499; reset 0] -/
  statusRx : Nat
  /-- `cmp_unknown`. [32 bits; 15_update.md R493; reset 0 DESIGN CHOICE (log 8)] -/
  unknown : Ctr
deriving DecidableEq, Repr

def Records.reset : Records :=
  { epochs := none, marker := none, probation := none, seq := 0, sectorB := false, pages := 0, eraseDue := false }

def Firmware.reset : Firmware :=
  { flash := [], recs := Records.reset, running := none, old := none, bankB := false, onProbation := false
    handover := none, coldStart := false }

def Campaign.reset : Campaign :=
  { state := .idle, id := 0, classId := 0, imageLen := 0, blkLen := 0, maxRounds := 8, roundSlots := 0, bcastSlots := 0
    hash := List.replicate 32 0, image := [], targets := [], want := [], startAsn := 0, activateAsn := 0, round := none
    collecting := false, planRound := none, wanted := { a := [], b := [], c := [] }, announce := { a := false, b := false, c := false }
    current := { a := none, b := none, c := none }, unicastMax := 2, sentBcast := 0, sentUcast := 0, statusRx := 0
    unknown := 0 }

end Sys2Proof.Machine
end

