-- ==== Sys2Proof/Machine/State.lean ====
section
/-! DEFINITION. The state of the KV7316 as plain data: the queue of waiting commands, and every register, ring, buffer,
counter, mode and pin the manual gives the part; why a step can stop; the machine right after reset. -/

namespace Sys2Proof.Machine

/-- The part. -/
structure State where
  /-- Commands, accesses and events that wait, first in, first out. [list, the model's; reset empty] -/
  pending : List Instr
  /-- True elapsed nanoseconds since the last part reset, against which intervals and leases run. [the model's; reset 0] -/
  upNs : Nat
  /-- Number of open values drawn so far (log 3). [the model's own, not the manual's; reset 0 DESIGN CHOICE (log 3)] -/
  free : Nat
  /-- Part state. [8 bits; 02_host_interface.md R55, R56; reset BOOT (0x01)] -/
  part : PartState
  /-- Pair role. [2 bits; 02_host_interface.md R55, 13_twin_pair.md R439; reset undecided] -/
  role : Role
  /-- Straps as last sampled. [4 bits; 17_electrical_package.md R543; reset 0 (pull-downs)] -/
  straps : Straps
  /-- RESET_N is high. [1 bit; 17_electrical_package.md R525; reset 0] -/
  resetHigh : Bool
  /-- SYS_QUIESCE is at work (R100): the radio has stopped. [1 bit; 02_host_interface.md R100; reset 0] -/
  quiescing : Bool
  /-- `snapshot_seq` of the last SYS_QUIESCE. [32 bits; 02_host_interface.md R101; reset 0 DESIGN CHOICE (log 8)] -/
  snapshotSeq : W32
  /-- Host interface. [02_host_interface.md; reset as its fields] -/
  host : HostIf
  /-- Ephemeris. [12_time.md; reset as its fields] -/
  clk : Clk
  /-- KEY domain, fuses, tamper monitor. [09_keys_lifecycle.md; reset as its fields] -/
  key : KeyDom
  /-- Air formats. [03_air_formats.md; reset as its fields] -/
  air : Air
  /-- Node table. [07_node_table.md; reset as its fields] -/
  node : NodeDom
  /-- Receivers and transmit chains. [04_receive_chain.md, 05_transmit_front_end.md; reset as its fields] -/
  radio : Radio
  /-- Orbit engine. [06_slotted_access.md; reset as its fields] -/
  orbit : Orbit
  /-- Frame protection. [10_frame_protection.md; reset as its fields] -/
  crypt : Crypt
  /-- Queues, shaper, work scheduler, arbiter. [11_scheduling_queues.md; reset as its fields] -/
  queue : QueueDom
  /-- Routing and Ethernet. [08_routing_ipv6.md; reset as its fields] -/
  route : Routing
  /-- Frames on their way. [01_architecture.md; reset as its fields] -/
  path : Path
  /-- Twin pair. [13_twin_pair.md; reset as its fields] -/
  pair : Pair
  /-- Tide. [14_power_domains.md; reset as its fields] -/
  pwr : Power
  /-- Flash, code banks, probation. [15_update.md; reset as its fields] -/
  fw : Firmware
  /-- Node campaign. [15_update.md; reset as its fields] -/
  cmp : Campaign
  /-- Tests and diagnostics. [16_test_diagnostics.md; reset as its fields] -/
  test : TestDom
deriving DecidableEq, Repr

/-- Why the part stops with a fault. -/
inductive Fault where
  /-- Raised by VENDOR_INSTRUCTION when a vendor instruction is available (R510): the manual gives none of them an effect.
  Safe: the model stops where the part goes on. -/
  | vendorInstruction
deriving DecidableEq, Repr

/-- Why the model gives a command no meaning. -/
inductive Refusal where
  /-- Raised by an arm of `exec` without a meaning: the command's mnemonic. Safe: the model stops. -/
  | notModelled (mnemonic : String)
deriving DecidableEq, Repr

/-- The part right after reset, before RESET_N is released with straps sampled (PART_RESET runs the boot). -/
def State.reset : State :=
  { pending := [], upNs := 0, free := 0, part := .boot, role := .undecided
    straps := { bootSrc := 0, unitId := false, spiOnly := false }, resetHigh := false, quiescing := false, snapshotSeq := 0
    host := HostIf.reset, clk := Clk.reset, key := KeyDom.reset, air := Air.reset, node := NodeDom.reset
    radio := Radio.reset, orbit := Orbit.reset, crypt := Crypt.reset, queue := QueueDom.reset, route := Routing.reset
    path := Path.reset, pair := Pair.reset, pwr := Power.reset, fw := Firmware.reset, cmp := Campaign.reset
    test := TestDom.reset }

end Sys2Proof.Machine
end

