-- ==== Sys2Proof/Machine/Ops.lean ====
section
/-! DEFINITION. The named operations the meanings share: status codes (R79), part states (R56), the Ephemeris tick (R405),
open values, responses (R63), events and latches (R64, R65, R81), interrupts (R59), ring entries (R60, R66, R67, R68). -/

namespace Sys2Proof.Machine

/-! Status codes (R79). -/

def stOk : Nat := 0x0000
def stAccepted : Nat := 0x0001
def stBadOpcode : Nat := 0x0101
def stBadArg : Nat := 0x0102
def stBadLength : Nat := 0x0103
def stRefusedState : Nat := 0x0201
def stRefusedView : Nat := 0x0202
def stLocked : Nat := 0x0203
def stConflict : Nat := 0x0204
def stStageInvalid : Nat := 0x0205
def stFunctionReset : Nat := 0x0206
def stNotActive : Nat := 0x0207
def stNoRoom : Nat := 0x0301
def stNotFound : Nat := 0x0302
def stKeyAbsent : Nat := 0x0401
def stKeyStale : Nat := 0x0402
def stKeySpent : Nat := 0x0403
def stKeyBadSlot : Nat := 0x0404
def stTagFail : Nat := 0x0405
def stTampered : Nat := 0x0406
def stTxLate : Nat := 0x0501
def stDwellLimit : Nat := 0x0502
def stBandBusy : Nat := 0x0503
def stUpdateSequence : Nat := 0x0701
def stImageBad : Nat := 0x0702

/-! Frame-status codes (R80). -/

def fsOk : Byte := 0x00
def fsDuplicate : Byte := 0x01
def fsReplay : Byte := 0x02
def fsTagFail : Byte := 0x03
def fsHdrFail : Byte := 0x04
def fsFcsFail : Byte := 0x05
def fsKeyStale : Byte := 0x06
def fsCaptured : Byte := 0x07
def fsProvisional : Byte := 0x08
def fsFlushed : Byte := 0x09

/-! Event codes (R81). -/

def evStarve : Nat := 0x0001
def evQueuePtrMismatch : Nat := 0x0002
def evTableMismatch : Nat := 0x0003
def evLearnLimit : Nat := 0x0004
def evInsertFail : Nat := 0x0005
def evTimeParentLost : Nat := 0x0006
def evNodeAdrift : Nat := 0x0007
def evTsOverflow : Nat := 0x0008
def evTamper : Nat := 0x0009
def evFailover : Nat := 0x000A
def evTwinReturned : Nat := 0x000B
def evDomainRefused : Nat := 0x000C
def evUpdateStage : Nat := 0x000D
def evDwell : Nat := 0x000E
def evSlotOverrun : Nat := 0x000F
def evKeySlotBad : Nat := 0x0010
def evWatchdog : Nat := 0x0011
def evWakePattern : Nat := 0x0012

/-- Function code of an event's owning chapter (R64, R70, R81). -/
def eventFn (code : Nat) : Nat :=
  match code with
  | 0x0001 | 0x0002 | 0x0011 => 0x0A
  | 0x0003 | 0x0004 | 0x0005 => 0x06
  | 0x0006 | 0x0007 | 0x000E | 0x000F => 0x05
  | 0x0008 => 0x0B
  | 0x0009 | 0x0010 => 0x08
  | 0x000A | 0x000B => 0x0C
  | 0x000C => 0x02
  | 0x000D => 0x0D
  | 0x0012 => 0x03
  | _ => 0

/-- Bits of `EV_ENABLE` that the unprivileged view has: the events delivered to both views (R54, R81). -/
def evBoth : Nat := 0x000266F8

/-- Code of a part state (R56). -/
def partCode : PartState → Nat
  | .boot => 1 | .loader => 2 | .tamperLock => 3 | .coldWait => 4 | .run => 5 | .quiesced => 6 | .standby => 7

/-- Code of a pair role (R55). -/
def roleCode : Role → Nat
  | .single => 0 | .active => 1 | .standby => 2 | .undecided => 3

/-- Code of an Orbit engine state (R216). -/
def engineCode : OrbitState → Nat
  | .idle => 0 | .acquiring => 1 | .run => 2 | .holdover => 3

/-- Function state of a function code (R63): only ORBIT has one (R216). -/
def fnState (s : State) (fn : Nat) : Nat := if fn = 0x05 then engineCode s.orbit.state else 0

/-- Ephemeris nanoseconds (R405). -/
def nowNs (s : State) : Nat := s.clk.timeNs.toNat

/-- One reference tick of 2 ns (R405): while the reference runs the 96-bit counter adds the increment, and true time goes on. -/
def tick (s : State) : State :=
  let t : BitVec 96 := (s.clk.timeNs ++ s.clk.timeFrac) + (s.clk.increment.setWidth 96)
  if s.clk.frozen.isSome || !s.resetHigh then { s with upNs := s.upNs + 2 }
  else { s with upNs := s.upNs + 2, clk := { s.clk with timeNs := t.extractLsb' 32 64, timeFrac := t.extractLsb' 0 32 } }

/-- The next open value (log 3): what it is, and the state with the draw counted. -/
def drawNat (s : State) : Nat × State := (Config.freeNat s.free, { s with free := s.free + 1 })

/-- The next open value below `n`. -/
def drawBelow (s : State) (n : Nat) : Nat × State := (Config.freeNat s.free % max n 1, { s with free := s.free + 1 })

/-- The next 256 bits of the entropy source (R341, log 5). -/
def drawEntropy (s : State) : BitVec 256 × State := (Config.entropy s.free, { s with free := s.free + 1 })

/-- The value for one band. -/
def Trio.get {α : Type} (t : Trio α) : Band → α
  | .bandA => t.a | .bandB => t.b | .bandC => t.c

/-- Change the value for one band. -/
def Trio.mod {α : Type} (t : Trio α) (b : Band) (f : α → α) : Trio α :=
  match b with
  | .bandA => { t with a := f t.a } | .bandB => { t with b := f t.b } | .bandC => { t with c := f t.c }

/-- Change the value for every band. -/
def Trio.all {α : Type} (t : Trio α) (f : α → α) : Trio α := { a := f t.a, b := f t.b, c := f t.c }

/-- The values in band order. -/
def Trio.toList {α : Type} (t : Trio α) : List α := [t.a, t.b, t.c]

/-- Band number (0 A, 1 B, 2 C). -/
def bandNum : Band → Nat
  | .bandA => 0 | .bandB => 1 | .bandC => 2

/-- Band of a number 0 to 2. -/
def bandOf (n : Nat) : Option Band :=
  match n with
  | 0 => some .bandA | 1 => some .bandB | 2 => some .bandC | _ => none

/-- Band of a number, band C past the range. -/
def bandOfD (n : Nat) : Band := (bandOf n).getD .bandC

/-- The three bands. -/
def bands : List Band := [.bandA, .bandB, .bandC]

/-! Arguments of a command. -/

/-- Argument bits [hi:lo] of an entry. -/
def argBits (e : CmdEntry) (hi lo : Nat) : Nat := bitsOf e.args.toNat hi lo

/-- Argument bit. -/
def argBit (e : CmdEntry) (i : Nat) : Bool := bitOf e.args.toNat i

/-- Argument bits [hi:lo] read as two's complement. -/
def argSigned (e : CmdEntry) (hi lo : Nat) : Int := signedOf (hi + 1 - lo) (argBits e hi lo)

/-- `n` argument bytes from byte `off` of `args`. -/
def argBytes (e : CmdEntry) (off n : Nat) : List Byte := leBytes n (bitsOf e.args.toNat 319 (off * 8))

/-- The input buffer: `buf_len` bytes at `buf_addr`. -/
def inBuf (e : CmdEntry) : List Byte := sliceBytes e.buf 0 e.bufLen.toNat

/-- `tag` of an entry (R69). -/
def entryTag (e : CmdEntry) : W16 := e.word.extractLsb' 16 16

/-- Function code of an entry. -/
def entryFn (e : CmdEntry) : Nat := e.word.toNat % 64

/-- The command an entry's word names. -/
def entryCmd (e : CmdEntry) : Option CmdId := cmdOfCode (e.word.toNat % 65536)

/-- View of a session; SPI has the rights of the privileged view (R49). -/
def sessionView : Session → View
  | .mbox v => v | .chan v _ => v | .spi => .priv

/-! Views and interrupts. -/

/-- The registers of a view. -/
def viewOf (s : State) : View → ViewIf
  | .priv => s.host.priv | .unpriv => s.host.unpriv

/-- Change the registers of a view. -/
def modView (s : State) (v : View) (f : ViewIf → ViewIf) : State :=
  match v with
  | .priv => { s with host := { s.host with priv := f s.host.priv } }
  | .unpriv => { s with host := { s.host with unpriv := f s.host.unpriv } }

/-- `CTRL.enable` (R59). -/
def ringOn (r : RingRegs) : Bool := bitOf r.ctrl.toNat 31

/-- Ring size (R59). -/
def ringSize (r : RingRegs) : Nat := 2 ^ bitsOf r.ctrl.toNat 3 0

/-- Signal a vector of a view; a masked vector (bit 0 of the fourth word of its MSI-X entry) becomes pending instead (log 20). -/
def signalVector (v : ViewIf) (vec : Nat) : ViewIf :=
  if bitOf (mapGetD 0 v.msix (vec * 4 + 3)).toNat 0 then { v with msixPending := v.msixPending ||| (1 <<< vec) }
  else { v with signalled := v.signalled ++ [vec] }

/-- The vector of a ring (R59). -/
def ringVector (r : RingRegs) : Nat := bitsOf r.ctrl.toNat 13 8

/-- The ring's host memory does not answer (R59, log 82). -/
def dmaFails (r : RingRegs) : Bool := r.dmaLeft == some 0

/-- An access to the ring's host memory has succeeded. -/
def dmaUse (r : RingRegs) : RingRegs := { r with dmaLeft := r.dmaLeft.map (· - 1) }

/-- An access to the ring's host memory has failed: the ring stops until it is enabled again (R59). -/
def dmaStop (r : RingRegs) : RingRegs := { r with faultDma := true, active := false }

/-- The part has written an entry to a ring (R59): with `irq_en`, it signals at once without a holdoff, and counts the entry
as unreported with one (INTERRUPT_HOLDOFF_EXPIRY reports it). -/
def noteWritten (v : ViewIf) (regs : RingRegs) : ViewIf × RingRegs :=
  let r := dmaUse regs
  if !bitOf r.ctrl.toNat 4 then (v, r)
  else if bitsOf r.ctrl.toNat 23 16 = 0 then (signalVector v (ringVector r), r)
  else (v, { r with unreported := r.unreported + 1 })

/-- Advance the producer index the part owns; the phase turns at the wrap (R60). -/
def advanceProd (r : RingRegs) : RingRegs :=
  let n := (r.prod.toNat + 1) % ringSize r
  { r with prod := BitVec.ofNat 12 n, phase := if n = 0 then !r.phase else r.phase }

/-- Advance the consumer index the part owns; the phase turns at the wrap (R60). -/
def advanceCons (r : RingRegs) : RingRegs :=
  let n := (r.cons.toNat + 1) % ringSize r
  { r with cons := BitVec.ofNat 12 n, phase := if n = 0 then !r.phase else r.phase }

/-- Both PCIe functions stay in reset under the SPI-only strap (R50). -/
def pcieExists (s : State) : Bool := !s.straps.spiOnly

/-- The part is out of reset: RESET_N is high and no boundary-scan instruction holds it (R512, R525). -/
def partAnswers (s : State) : Bool := s.resetHigh && !s.test.held

/-- Add one to a host-interface counter (R74). -/
def hostCount (s : State) (i : Nat) : State := { s with host := { s.host with counters := bump s.host.counters i } }

/-! Host-interface counters in the order of R74. -/

def hcRxRingAbsent : Nat := 0
def hcTxRingLost : Nat := 1
def hcSpiCrcError : Nat := 2
def hcMboxCommands : Nat := 3
def hcRxRingEmpty : Nat := 4

/-! Responses (R63). -/

/-- A reply of `ST_OK` with nothing more. -/
def okReply : Reply := { status := stOk }

/-- A reply of `ST_OK` with result bytes. -/
def okData (d : List Byte) : Reply := { status := stOk, data := d }

/-- A reply of `ST_OK` with results that have no byte layout. -/
def okFigures (l : List Int) : Reply := { status := stOk, figures := l }

/-- A refusal. -/
def refuse (st : Nat) (detail : Nat := 0) : Reply := { status := st, detail := detail }

/-- Whether a command's result goes to the buffer (R62); a mailbox returns every result inline (R52). -/
def resultInBuffer (e : CmdEntry) : Bool :=
  match e.session, (entryCmd e).map fun c => (cmdSpec c).buf with
  | .mbox _, _ => false
  | _, some (.output _) | _, some (.outputMul _ _ _) | _, some .outputPiece | _, some .outputState => true
  | _, _ => false

/-- The response entry of a reply (R63). -/
def mkResponse (s : State) (e : CmdEntry) (r : Reply) (final phase : Bool) : Response :=
  let buffered := resultInBuffer e
  let free := !r.figures.isEmpty && r.data.isEmpty
  { status := BitVec.ofNat 16 r.status, tag := entryTag e
    resultLen := if !free then r.data.length else match (entryCmd e).map fun c => (cmdSpec c).buf with
      | some (.output n) => n
      | _ => Config.freeNat s.free % 65536
    stageId := match r.stageId with | some n => BitVec.ofNat 16 n | none => e.stageId
    phase := phase, final := final, partState := BitVec.ofNat 8 (partCode s.part)
    fnState := BitVec.ofNat 8 (fnState s (entryFn e)), detail := BitVec.ofNat 32 r.detail, doneNs := s.clk.timeNs
    result := if buffered then [] else r.data, figures := r.figures, buffer := if buffered then r.data else [] }

/-- Change a command channel of a view. -/
def modChan (s : State) (v : View) (n : Nat) (f : CmdChan → CmdChan) : State :=
  modView s v fun w => { w with chans := modNth w.chans n f }

/-- A command channel of a view. -/
def chanOf (s : State) (v : View) (n : Nat) : CmdChan := nth CmdChan.reset (viewOf s v).chans n

/-- Write a response entry to a channel's response ring, with its interrupt; a lost session's response is dropped (R97), and so is one
that a ring stopped by a DMA error should take (R59). -/
def respondChan (s : State) (v : View) (n : Nat) (mk : Bool → Response) : State :=
  let c := chanOf s v n
  if !ringOn c.regs || c.regs.faultDma then s
  else if dmaFails c.regs then modChan s v n fun c => { c with regs := dmaStop c.regs }
  else
    let idx := (c.rspProd.toNat + 1) % ringSize c.regs
    let rsp := mk c.regs.phase
    let (w, regs) := noteWritten (viewOf s v) { c.regs with phase := if idx = 0 then !c.regs.phase else c.regs.phase }
    modView s v fun _ =>
      { w with chans := modNth w.chans n fun c =>
        { c with regs := regs, responses := c.responses ++ [rsp], rspProd := BitVec.ofNat 12 idx } }

/-- Write a response to its session: the response ring, the mailbox at offset 0x40 (which clears `busy` when final, R52), or
the SPI target with its data window (R49). A response that is not in a ring has phase bit 0 (log 81). -/
def respond (s : State) (e : CmdEntry) (r : Reply) (final : Bool) : State :=
  let mk := mkResponse s e r final
  let s := { s with free := if !r.figures.isEmpty && r.data.isEmpty then s.free + 1 else s.free }
  match e.session with
  | .chan v n => respondChan s v n mk
  | .mbox v =>
    if (viewOf s v).mboxBusy then
      modView s v fun w =>
        { w with mbox := w.mbox.filter fun p => p.1 < 16 || 32 ≤ p.1, mboxRsp := some (mk false), mboxBusy := !final }
    else s
  | .spi =>
    let window := memWriteBytes 0 s.host.spi.window (e.bufAddr.toNat % 65536) (mk false).buffer
    { s with host := { s.host with spi :=
      { s.host.spi with rsps := s.host.spi.rsps ++ [mk false], outstanding := s.host.spi.outstanding && !final, window := window } } }

/-! Events (R64, R65, R81). -/

/-- An event ring that takes an entry now: enabled, active and not full (R58, R65). -/
def eventRingHasRoom (r : EventRing) : Bool :=
  ringOn r.regs && r.regs.active && decide (r.entries.length + 1 < ringSize r.regs)

/-- Write an event entry to a view's event ring, with its phase bit (R60) and its interrupt. -/
def writeEvent (w : ViewIf) (ev : EventEntry) : ViewIf :=
  let (w', regs) := noteWritten w (advanceProd w.event.regs)
  { w' with event := { w'.event with regs := regs, entries := w.event.entries ++ [{ ev with phase := w.event.regs.phase }] } }

/-- The event ring stops on a DMA error (R59). -/
def stopEvents (w : ViewIf) : ViewIf := { w with event := { w.event with regs := dmaStop w.event.regs } }

/-- Fold an occurrence into the view's latch of its code: the first occurrence's fields stay, the count saturates (R65). -/
def foldLatch (l : List EventEntry) (ev : EventEntry) : List EventEntry :=
  if l.any (·.code == ev.code) then
    l.map fun x => if x.code == ev.code then
      { x with count := if x.count.toNat + ev.count.toNat > 65535 then 0xFFFF else x.count + ev.count } else x
  else l ++ [ev]

/-- Write pending latches while the ring has room, oldest first (R65). -/
def flushLatches : Nat → ViewIf → ViewIf
  | 0, w => w
  | n + 1, w =>
    match w.latches with
    | [] => w
    | ev :: rest =>
      if !eventRingHasRoom w.event then w
      else if dmaFails w.event.regs then stopEvents w
      else flushLatches n (writeEvent { w with latches := rest } ev)

/-- Deliver an event to a view whose `EV_ENABLE` bit is set: to the ring, or to the latch when the ring is full, disabled or stopped. -/
def deliverEvent (ev : EventEntry) (w : ViewIf) : ViewIf :=
  if !bitOf w.evEnable.toNat (ev.code.toNat - 1) then w
  else if w.latches.isEmpty && eventRingHasRoom w.event then
    if dmaFails w.event.regs then { stopEvents w with latches := foldLatch w.latches ev } else writeEvent w ev
  else { w with latches := foldLatch w.latches ev }

/-- Raise an event at a stated time (R64, R81): privileged-only events go to the privileged view alone. -/
def raiseAt (s : State) (code timeNs a0 a1 a2 a3 : Nat) : State :=
  let ev : EventEntry :=
    { phase := false, function := BitVec.ofNat 6 (eventFn code), code := BitVec.ofNat 16 code, count := 1, timeNs := BitVec.ofNat 64 timeNs
      arg0 := BitVec.ofNat 32 a0, arg1 := BitVec.ofNat 32 a1, arg2 := BitVec.ofNat 32 a2, arg3 := BitVec.ofNat 32 a3 }
  let s := modView s .priv (deliverEvent ev)
  if bitOf evBoth (code - 1) then modView s .unpriv (deliverEvent ev) else s

/-- Raise an event now. -/
def raiseEvent (s : State) (code a0 a1 a2 a3 : Nat) : State := raiseAt s code (nowNs s) a0 a1 a2 a3

/-! Receive and transmit rings, the time-stamp queue. -/

/-- Deliver an entry to a receive ring (R66, R553): a ring that does not exist or is disabled drops it (`rx_ring_absent`), and so does
one that a fault has stopped (log 83); one without a posted buffer drops it (`rx_ring_empty`). The answer says whether the entry was
written. -/
def rxWrite (s : State) (ring : Nat) (mk : PostedBuf → Bool → RxEntry) : State × Bool :=
  let r := nth RxRing.reset s.host.rx ring
  if !pcieExists s || !ringOn r.regs || !r.regs.active then (hostCount s hcRxRingAbsent, false)
  else
    match r.posted with
    | [] => (hostCount s hcRxRingEmpty, false)
    | b :: rest =>
      if dmaFails r.regs then
        (hostCount { s with host := { s.host with rx := modNth s.host.rx ring fun x => { x with regs := dmaStop x.regs } } } hcRxRingAbsent, false)
      else
      let (w, regs) := noteWritten s.host.unpriv (advanceCons r.regs)
      let r' := { r with regs := regs, posted := rest, entries := r.entries ++ [mk b r.regs.phase] }
      ({ s with host := { s.host with unpriv := w, rx := modNth s.host.rx ring fun _ => r' } }, true)

/-- A receive ring could take an entry now. -/
def rxHasBuffer (s : State) (ring : Nat) : Bool :=
  let r := nth RxRing.reset s.host.rx ring
  pcieExists s && ringOn r.regs && r.regs.active && !r.posted.isEmpty

/-- Phase of the pass in which a transmit entry was fetched (R60): the present pass for the entries below the consumer index. -/
def entryPhase (r : RingRegs) (idx : Nat) : Bool := if idx < r.cons.toNat then r.phase else !r.phase

/-- Complete a frame of a transmit ring (R67): a frame of an earlier enabling, or of a ring torn down, is counted in
`tx_ring_lost` instead (R552), and so is one of a ring that a DMA error stopped (log 82). `STATUS.active` of a ring torn down falls once every fetched frame has completed. -/
def txComplete (s : State) (ring idx era : Nat) (mk : Bool → TxDone) : State :=
  let r := nth TxRing.reset s.host.tx ring
  let live := if r.era = era then r.live - 1 else r.live
  if ringOn r.regs && r.era = era && !r.regs.faultDma && !dmaFails r.regs then
    let (w, regs) := noteWritten s.host.unpriv r.regs
    let r' := { r with regs := regs, live := live, completions := r.completions ++ [mk (entryPhase r.regs idx)] }
    { s with host := { s.host with unpriv := w, tx := modNth s.host.tx ring fun _ => r' } }
  else
    let regs := if ringOn r.regs && r.era = era then dmaStop r.regs else { r.regs with active := ringOn r.regs && !r.regs.faultDma || decide (0 < live) }
    let r' := { r with live := live, regs := regs }
    hostCount { s with host := { s.host with tx := modNth s.host.tx ring fun _ => r' } } hcTxRingLost

/-- Add one to a TIME counter (R429). -/
def timeCount (s : State) (i : Nat) : State := { s with clk := { s.clk with counters := bump s.clk.counters i } }

/-- Write a time-stamp queue entry (R419): full with 63 entries it drops it and raises `EV_TS_OVERFLOW`; disabled it discards it. -/
def tsPush (s : State) (source : Nat) (id : W16) (ns : W64) (frac : W32) : State :=
  let q := s.host.ts
  if !pcieExists s || !ringOn q.regs || !q.regs.active then timeCount s 12
  else if dmaFails q.regs then timeCount { s with host := { s.host with ts := { q with regs := dmaStop q.regs } } } 12
  else if 63 ≤ q.entries.length then
    let s := timeCount s 11
    raiseEvent s evTsOverflow source id.toNat (nth 0 s.clk.counters 11).toNat 0
  else
    let (w, regs) := noteWritten s.host.unpriv (advanceProd { q.regs with ctrl := (q.regs.ctrl &&& 0xFFFFFFF0#32) ||| 6#32 })
    let regs := { regs with ctrl := q.regs.ctrl }
    let en : TsEntry := { phase := q.regs.phase, source := source, tsId := id, tsFrac := frac, tsNs := ns }
    { s with host := { s.host with unpriv := w, ts := { regs := regs, entries := q.entries ++ [en] } } }

/-- When a command's checks and effect are judged (R89 to R92): at once; when a stage records it; at `SYS_STAGE_CHECK` or the
commit, with the mode and point. -/
inductive When where
  | now
  | record
  | judge (mode point : Nat)
  | commit (mode point : Nat)
deriving DecidableEq, Repr

/-- The instant is a mode-2 point or is not fixed yet: what must happen at an ASN boundary may (R89, R90). -/
def atAsnPoint : When → Bool
  | .record | .judge 2 _ | .commit 2 _ => true
  | _ => false

/-- What a command of the tables does: `args` judges its arguments (R75 step 4), `check` its state and its specific outcomes
(steps 9 and 10; a reply refuses), `apply` gives its whole effect and its reply (`ST_ACCEPTED` leaves a long command at work,
with `longRef` to remember, and `after` acts once its interim response is written), `finish` the effect and final reply of a long command that `LONG_COMMAND_COMPLETE` ends, `sets`
the settings it writes (R85), each as a field and the object that holds it, in a state. -/
structure Cmd where
  args : CmdEntry → State → Bool := fun _ _ => true
  check : When → CmdEntry → State → Option Reply := fun _ _ _ => none
  apply : When → CmdEntry → State → State × Reply
  finish : LongOp → State → Option (State × Reply) := fun _ _ => none
  longRef : CmdEntry → State → Nat := fun _ _ => 0
  after : CmdEntry → State → State := fun _ s => s
  sets : CmdEntry → State → List (Nat × Nat) := fun _ _ => []

/-- A command that changes the state and answers `ST_OK`. -/
def setter (f : CmdEntry → State → State) : When → CmdEntry → State → State × Reply := fun _ e s => (f e s, okReply)

/-- A command that only answers. -/
def getter (f : CmdEntry → State → Reply) : When → CmdEntry → State → State × Reply := fun _ e s => (s, f e s)

/-- A long command that leaves its whole effect to its completion. -/
def longStart : When → CmdEntry → State → State × Reply := fun _ _ s => (s, { status := stAccepted })

/-- A refusal where a condition holds. -/
def refuseIf (c : Bool) (st : Nat) : Option Reply := if c then some (refuse st) else none

/-- The first refusal of two. -/
def orRefuse (a b : Option Reply) : Option Reply := match a with | some r => some r | none => b

/-- A command whose one response comes at a later event (no interim response): the model's own marker, never a response. -/
def stDeferred : Nat := 0x10000

/-- A command that waits for its event. -/
def deferReply : Reply := { status := stDeferred }

/-! Replication of commands (R445, R448). -/

/-! Message types of R433. -/

def lmHello : Nat := 1
def lmHeartbeat : Nat := 2
def lmCommit : Nat := 3
def lmCommitAck : Nat := 4
def lmJournal : Nat := 5
def lmConfig : Nat := 6
def lmContact : Nat := 7
def lmEpoch : Nat := 8
def lmTime : Nat := 9
def lmSync : Nat := 10

/-! Pair counters in the order of R459. -/

def pcHbLine : Nat := 0
def pcHbLink : Nat := 1
def pcHbCrc : Nat := 2
def pcTagFail : Nat := 3
def pcLinkDown : Nat := 4
def pcCommitSent : Nat := 5
def pcCommitTimeout : Nat := 6
def pcTakeovers : Nat := 7
def pcDemoteLost : Nat := 8
def pcSyncRuns : Nat := 9
def pcSyncRestart : Nat := 10
def pcConfigErr : Nat := 11
def pcKeyMismatch : Nat := 12

/-- Change the pair state. -/
def modPair (s : State) (f : Pair → Pair) : State := { s with pair := f s.pair }

/-- Add `n` to a pair counter (R459). -/
def pairCount (s : State) (i n : Nat) : State := modPair s fun p => { p with counters := bumpBy p.counters i n }

/-- The active unit holds effects until its standby acknowledges them (R445). -/
def replicating (s : State) : Bool :=
  s.role == .active && s.pair.link == .up && s.pair.replica == .ready && !s.pair.solo

/-- The active unit copies its state to the standby and keeps a delta log (R456). -/
def copying (s : State) : Bool := s.role == .active && s.pair.link == .up && s.pair.replica == .syncing

/-- One CFB-128 operation of the pair link under `enc_slot`: a counted FRAME slot is charged one use (R329, R434; log 30). -/
def linkUse (s : State) : State :=
  { s with key := { s.key with
    slots := modNth s.key.slots s.pair.encSlot fun x => if x.isVolatile then x else { x with usesLeft := x.usesLeft - 1 } } }

/-- A test holds a resource of R501. -/
def resourceTested (s : State) (r : Nat) : Bool := ((nth none s.test.runs r).map (·.running)).getD false

/-- Send a message on the pair link: its `seq` rises by one (R433). The content is kept in the clear (log 30). A link under
test carries none (R501). -/
def linkSend (s : State) (type : Nat) (body : List Byte) : State :=
  if s.pair.link != .up || resourceTested s 3 then s
  else modPair (linkUse s) fun p => { p with sent := p.sent ++ [{ type := type, seq := p.txSeq, body := body }], txSeq := p.txSeq + 1 }

/-- Hold an effect until the message just sent is acknowledged. -/
def linkHold (s : State) (h : Hold) : State :=
  modPair s fun p => { p with waits := p.waits ++ [{ seq := p.txSeq - 1, since := s.upNs, hold := h }] }

/-- Add a record to the delta log; past 65,536 records the copy restarts from step 2 (R456). -/
def deltaAdd (s : State) (r : DeltaRec) : State :=
  if s.pair.delta.length < 65536 then modPair s fun p => { p with delta := p.delta ++ [r] }
  else pairCount (modPair s fun p =>
    { p with delta := [], sync := p.sync.map fun x =>
      { x with phase := 2, copied := 0, replayed := 0, cursor := 0, total := s.node.table.length } }) pcSyncRestart 1

/-- The 64 bytes of a command entry (R61). -/
def entryBytes64 (e : CmdEntry) : List Byte :=
  leBytes 4 e.word.toNat ++ leBytes 2 e.stageId.toNat ++ leBytes 2 e.length.toNat ++ leBytes 8 e.bufAddr.toNat
    ++ leBytes 4 e.bufLen.toNat ++ leBytes 4 e.ctl.toNat ++ leBytes 40 e.args.toNat

/-- Argument bytes a staged command brings (R89). -/
def argSize (e : CmdEntry) (b : BufUse) : Nat :=
  e.length.toNat + match b with | .input _ _ | .inputMul _ _ _ | .inputUnits _ _ => e.bufLen.toNat | _ => 0

/-- Commands that take effect for their own board alone (R448). -/
def unitLocal : CmdId → Bool
  | .radioRxPathDelay | .radioTxPathDelay | .radioRssiCal | .radioFeConfig | .radioWakeConfig | .timePtpPort | .timePpsConfig
  | .timeParentDelay | .timePinConfig | .timeTriggerConfig | .keyBlobLoad | .keyImportWrapped | .keyImportRaw | .cryptLaneAssign
  | .keyGenerate | .keyIdentityGenerate | .keyTamperConfig | .keyDebugAuthSet | .keyDebugChallenge | .keyDebugUnlock
  | .keyLifecycleAdvance => true
  | _ => false

/-- Commands whose effect the active unit replicates: those that change state, but for the unit-local ones and for the functions a
standby takes commands of itself (log 64). -/
def replicated (c : CmdId) : Bool :=
  let x := cmdSpec c
  !x.reads && !unitLocal c && (c == .sysPin || c == .sysUnpin || !([0x01, 0x0C, 0x0D, 0x0E].contains x.fn))

/-- The final response of a command; one whose effect is replicated waits for the standby's word (R445, R456). -/
def answerFinal (s : State) (e : CmdEntry) (r : Reply) : State :=
  if r.status = stOk && ((entryCmd e).map replicated).getD false then
    if replicating s then linkHold (linkSend s lmConfig (entryBytes64 e ++ inBuf e)) (.response e r true)
    else if copying s then respond (deltaAdd s (.config e)) e r true
    else respond s e r true
  else respond s e r true

/-- Final response of the long command at work for which `p` holds, if any: the oldest. -/
def finishWhere (s : State) (p : LongOp → Bool) (r : LongOp → Reply) : State :=
  match s.host.longOps.find? p with
  | some op =>
    answerFinal { s with host := { s.host with longOps := s.host.longOps.erase op } } op.e (r op)
  | none => s

/-- The radio and forwarding hold still: QUIESCED, or SYS_QUIESCE at work (R100). -/
def radioStopped (s : State) : Bool := s.quiescing || s.part == .quiesced

/-- The part is RUN or STANDBY: the resident firmware runs and the cold-start wait is over. -/
def inRun (s : State) : Bool := s.part == .run

/-- The resident firmware runs (R56). -/
def firmwareRuns (s : State) : Bool :=
  match s.part with
  | .coldWait | .run | .quiesced | .standby => true
  | _ => false

/-! The bulk stores (R27). -/

/-- The store an item lies in: Tail, pending pool, trie, calendar, campaign image. -/
def bulkStore : BulkItem → Nat
  | .tailCell _ => 0 | .pending _ => 1 | .route _ _ => 2 | .calendar _ => 3 | .block _ => 4

/-- An item's memory holds an uncorrectable error. -/
def bulkBad (s : State) (i : BulkItem) : Bool := s.pwr.bulkErrors.contains i

/-- An item is written anew: no error stays in it. -/
def bulkFresh (s : State) (i : BulkItem) : State :=
  { s with pwr := { s.pwr with bulkErrors := s.pwr.bulkErrors.filter (· != i) } }

/-- An item read with an uncorrectable error is discarded and counted (R27; the counter is the model's, log 105). -/
def bulkLose (s : State) (i : BulkItem) : State :=
  let s := bulkFresh s i
  { s with pwr := { s.pwr with bulkLost := bump s.pwr.bulkLost (bulkStore i) } }

end Sys2Proof.Machine
end

