-- ==== Sys2Proof/Machine/Slots.lean ====
section
/-! DEFINITION. Slots and the ASN (R214, R215), and the effect of a time step on them, on output edges, triggers and snapshots
(R412, R423). -/

namespace Sys2Proof.Machine

/-- Slot length in ns. -/
def slotNs (s : State) : Nat := s.orbit.slotLen * 10000

/-- Boundary of slot `n` in Ephemeris ns (R214). -/
def slotBoundary (s : State) (n : Nat) : Int := (s.orbit.anchorNs : Int) + ((n : Int) - s.orbit.anchorAsn) * (slotNs s : Int)

/-- ASN of the slot that contains an instant, at least 0 (R214). -/
def asnAt (s : State) (t : Nat) : Nat :=
  ((s.orbit.anchorAsn : Int) + ((t : Int) - s.orbit.anchorNs).fdiv (slotNs s)).toNat

/-- A slot numbering runs: the engine is in ACQUIRING, RUN or HOLDOVER. -/
def numbering (s : State) : Bool := s.orbit.state != .idle

/-- The engine plans contacts: RUN or HOLDOVER (R216). -/
def enginePlans (s : State) : Bool := s.orbit.state == .run || s.orbit.state == .holdover

/-- ASN of the present instant, 0 without a numbering. -/
def currentAsn (s : State) : Nat := if numbering s then asnAt s (nowNs s) else 0

/-- A slotframe boundary (R215). -/
def isFrameBoundary (s : State) (n : Nat) : Bool := n % max s.orbit.frameLen 1 == 0

/-- Preparation lead in ns (R43). -/
def leadNs (s : State) : Nat := s.orbit.leadUs * 1000

/-- Band service state (R203). -/
def bandState (s : State) (b : Band) : BandState := (s.radio.tx.get b).state

/-- A band counts as enabled: neither OFF nor FAULT (R203, R411). -/
def bandEnabled (s : State) (b : Band) : Bool :=
  match bandState s b with
  | .off | .fault => false
  | _ => true

/-- Some band is enabled. -/
def anyBandEnabled (s : State) : Bool := bands.any (bandEnabled s)

/-- Change the transmit side of a band. -/
def modTx (s : State) (b : Band) (f : TxBand → TxBand) : State :=
  { s with radio := { s.radio with tx := s.radio.tx.mod b f } }

/-- Change the receive side of a band. -/
def modRx (s : State) (b : Band) (f : RxBand → RxBand) : State :=
  { s with radio := { s.radio with rx := s.radio.rx.mod b f } }

/-- Add one to an Orbit counter (R263). -/
def orbitCount (s : State) (i : Nat) : State := { s with orbit := { s.orbit with counters := bump s.orbit.counters i } }

/-- Change the tests. -/
def modTest (s : State) (f : TestDom → TestDom) : State := { s with test := f s.test }

/-- Add one to a receive counter of a band (R176). -/
def rxCount (s : State) (b : Band) (i : Nat) : State := modRx s b fun r => { r with counters := bump r.counters i }

/-- Add one to a transmit counter of a band (R210). -/
def txCount (s : State) (b : Band) (i : Nat) : State := modTx s b fun r => { r with counters := bump r.counters i }

/-- Add one to an air counter of a band (R122, R127, R132). -/
def airCount (s : State) (b : Band) (i : Nat) : State :=
  { s with air := { s.air with counters := s.air.counters.mod b fun c => bump c i } }

/-- A pending record goes back to its list: no plan holds it (R36). -/
def unplanRecord (s : State) (r : Nat) : State :=
  { s with queue := { s.queue with records := mapMod s.queue.records r fun f => { f with planned := false } } }

/-- The record of a launch, if any, goes back to its pending list. -/
def unplanLaunch (s : State) (l : Launch) : State :=
  match l.record with
  | some r => unplanRecord s r
  | none => s

/-- Discard every plan of a slot whose boundary lies at or after `t`, its launches included, handed off or not (R412). -/
def discardPlans (s : State) (t : Nat) : State :=
  let gone := s.orbit.plans.filter fun p => t ≤ p.t0
  let asns := gone.map (·.asn)
  let drop (l : Launch) : Bool := asns.contains l.asn && l.kind != .direct && l.kind != .test
  let s := (gone.flatMap (·.launches)).foldl unplanLaunch s
  let s := (s.radio.tx.toList.flatMap fun x => x.queue.filter drop).foldl unplanLaunch s
  { s with
    orbit := { s.orbit with plans := s.orbit.plans.filter fun p => p.t0 < t }
    radio := { s.radio with tx := s.radio.tx.all fun x => { x with queue := x.queue.filter fun l => !drop l } } }

/-- The engine goes on with the slot that contains the stepped time: that slot and the ones after it are prepared and begun at
their moved boundaries (R412). -/
def restepSlots (s : State) (before : Nat) : State :=
  if !numbering s then s
  else
    let s := discardPlans s before
    let n := asnAt s (nowNs s)
    let last := if n ≤ s.orbit.anchorAsn then none else some (n - 1)
    { s with orbit := { s.orbit with slot := last, prepared := last } }

/-- Next edge of a periodic program after `t`: the first time past `t` on the grid from `start` in steps of `period`. -/
def nextOnGrid (start period t : Nat) : Nat := if t < start then start else start + ((t - start) / max period 1 + 1) * period

/-- An event pin's output edge whose time has come, taken once (R420): the level it gives and its next edge. A periodic
program rises at start + k × period and falls `width_ns` later; a trigger pulse falls once. -/
def pinEdge (p : PinProg) (now : Nat) : PinProg :=
  match p.mode with
  | 1 => { p with out := p.level, nextEdge := none }
  | 2 =>
    let k := (now - p.tNs) / max p.periodNs 1
    let rise := p.tNs + k * p.periodNs
    if now < p.tNs then { p with nextEdge := some p.tNs }
    else if now < rise + p.widthNs then { p with out := !p.idleLevel, nextEdge := some (rise + p.widthNs) }
    else { p with out := p.idleLevel, nextEdge := some (rise + p.periodNs) }
  | 6 => { p with out := p.idleLevel, nextEdge := none }
  | _ => p

/-- Take every output edge whose time has passed (R412, R420). -/
def pinsPassed (s : State) : State :=
  let now := nowNs s
  { s with clk := { s.clk with pins := s.clk.pins.map fun p =>
    match p.nextEdge with
    | some t => if t ≤ now then pinEdge p now else p
    | none => p } }

/-- A trigger fires: snapshots armed on it start capturing (R172), pins in mode 6 on it start their pulse (R420). -/
def fireTrigger (s : State) (trig : Nat) : State :=
  let now := nowNs s
  { s with
    radio := { s.radio with snapshots := s.radio.snapshots.map fun x =>
      if x.state == .armed && x.trigger == 2 && x.triggerId == trig then { x with state := .capturing, firstNs := now } else x }
    clk := { s.clk with pins := s.clk.pins.map fun p =>
      if p.mode == 6 && p.trig == trig then { p with out := !p.idleLevel, nextEdge := some (now + p.widthNs) } else p } }

/-- Fire a programmable trigger of kind 1 or 2 whose time has passed, once, and set its next time (R412, R423). -/
def triggerPassed (s : State) (i : Nat) : State :=
  let now := nowNs s
  match s.clk.trigs[i]? with
  | some g =>
    match g.nextFire with
    | some t =>
      if t ≤ now then
        let nxt := if g.kind = 2 then some (nextOnGrid g.tNs g.periodNs now) else none
        fireTrigger { s with clk := { s.clk with trigs := modNth s.clk.trigs i fun g => { g with nextFire := nxt } } } i
      else s
    | none => s
  | none => s

/-- Fire every trigger whose time has passed. -/
def triggersPassed (s : State) : State := (List.range 14).foldl triggerPassed s

/-- Start every armed snapshot on a time that has passed (R172, R412). -/
def snapshotsPassed (s : State) : State :=
  let now := nowNs s
  { s with radio := { s.radio with snapshots := s.radio.snapshots.map fun x =>
    if x.state == .armed && x.trigger == 1 && x.startNs ≤ now then { x with state := .capturing, firstNs := now } else x } }

/-- What a forward advance of the time passes fires once (R412, R426). -/
def passEdges (s : State) : State := snapshotsPassed (triggersPassed (pinsPassed s))

/-- What a step does beside moving the time (R412): edges and triggers passed, exchanges discarded, plans discarded. -/
def stepEffects (s : State) (before : Nat) : State :=
  let s := { s with clk := { s.clk with ptp := s.clk.ptp.map fun p => { p with exchange := none }, rtcAt := s.clk.rtcAt } }
  restepSlots (passEdges s) before

/-- Internal triggers 14 (slot boundary) and 15 (slotframe boundary) and those of kind 3 on slot `n` (R423). -/
def slotTriggers (s : State) (n : Nat) : State :=
  let s := fireTrigger s 14
  let s := if isFrameBoundary s n then fireTrigger s 15 else s
  (List.range 14).foldl (fun s i =>
    match s.clk.trigs[i]? with
    | some g => if g.kind = 3 && ((n : Int) - g.asnBase) % (max g.every 1 : Nat) = 0 then fireTrigger s i else s
    | none => s) s

end Sys2Proof.Machine
end

