-- ==== Sys2Proof/Machine/Key.lean ====
section
/-! DEFINITION. The KEY domain: slots, wrapping, derivation and its cache, revocation, erasure, attestation, debug unlock,
tamper, and the KEY commands (chapter 9). -/

namespace Sys2Proof.Machine

/-! Counter positions of R350. -/

def kcDerive : Nat := 0
def kcHit : Nat := 1
def kcStale : Nat := 2
def kcCheckFail : Nat := 3
def kcUnmapped : Nat := 4
def kcSlotBad : Nat := 5
def kcRemask : Nat := 6
def kcEntFail : Nat := 7
def kcAlarms : Nat := 8
def kcSpent : Nat := 9

/-- Change the KEY domain. -/
def modKey (s : State) (f : KeyDom → KeyDom) : State := { s with key := f s.key }

/-- Add one to a key counter (R350). -/
def keyCount (s : State) (i : Nat) : State := modKey s fun k => { k with counters := bump k.counters i }

/-- Code of a lifecycle state (R320). -/
def lifeCode (l : Lifecycle) : Nat := l.ctorIdx

/-- Code of a slot state (R327). -/
def slotCode (x : SlotState) : Nat := x.ctorIdx

/-- A key slot. -/
def slotOf (s : State) (n : Nat) : KeySlot := nth KeySlot.reset s.key.slots n

/-- Change a key slot. -/
def modSlot (s : State) (n : Nat) (f : KeySlot → KeySlot) : State := modKey s fun k => { k with slots := modNth k.slots n f }

/-- Descriptor word 0x00 with a stated epoch field (R328). -/
def slotWord0 (x : KeySlot) (epoch : Nat) : Nat :=
  slotCode x.state <<< 28 ||| natOf x.origin <<< 27 ||| x.use <<< 24 ||| natOf x.isVolatile <<< 23
    ||| natOf x.exportable <<< 22 ||| x.keyType <<< 20 ||| epoch

/-- Descriptor word 0x04. -/
def slotWord1 (x : KeySlot) : Nat := x.refs <<< 24 ||| x.usesLeft

/-- The 16-byte slot descriptor (R328). -/
def slotDescriptor (x : KeySlot) : List Byte :=
  leBytes 4 (slotWord0 x x.epoch.toNat) ++ leBytes 4 (slotWord1 x) ++ leBytes 8 x.loadedNs.toNat

/-- Length of the material of a key type. -/
def materialLen (keyType : Nat) : Nat := if keyType = 1 then 32 else 16

/-- The integrity check of a slot: CRC-32 over both shares and word 0x00 with `slot_epoch` zero (R330). -/
def slotCheck (x : KeySlot) : W32 :=
  let n := materialLen x.keyType
  crc32 (beBytes n x.share0.toNat ++ beBytes n x.share1.toNat ++ leBytes 4 (slotWord0 x 0))

/-- The material of a slot: the exclusive or of its shares. -/
def slotMaterial (x : KeySlot) : List Byte := beBytes (materialLen x.keyType) (x.share0 ^^^ x.share1).toNat

/-- Key types and uses that combine (R328). -/
def useAllowed (keyType use : Nat) : Bool := (keyType == 0 && use ≤ 3) || (keyType == 1 && use == 4)

/-- A mask of fresh bits: from the source, or from the reserve while the source restarts (R341); none while the reserve is empty. -/
def drawMask (s : State) (n : Nat) : Option (BitVec 256 × State) :=
  if s.key.entRestart then
    if n ≤ s.key.reserve then some (drawEntropy (modKey s fun k => { k with reserve := k.reserve - n })) else none
  else some (drawEntropy s)

/-- The reserve is empty while the source restarts: cipher lanes and the derivation engine stall (R341, R365). -/
def masksOut (s : State) : Bool := s.key.entRestart && decide (s.key.reserve < 32)

/-- A command that needs masks waits for them (R341): answered when they are there. -/
def whenMasked (f : CmdEntry → State → State × Reply) (e : CmdEntry) (s : State) : State × Reply :=
  if masksOut s then (s, deferReply) else f e s

/-- The end of a command that waited for masks. -/
def onceMasked (f : CmdEntry → State → State × Reply) (e : CmdEntry) (s : State) : Option (State × Reply) :=
  if masksOut s then none else some (f e s)

/-- ENTROPY_HEALTH_FAIL (R341): the failure counts and the source restarts. -/
def entropyFailOp (s : State) : State := modKey (keyCount s kcEntFail) fun k => { k with entRestart := true }

/-- ENTROPY_RESTART_DONE (R341): fresh output refills the reserve. -/
def entropyRestartOp (s : State) : State := if s.key.entRestart then modKey s fun k => { k with entRestart := false, reserve := 4096 } else s

/-- Cut a mask to the width of a key type. -/
def maskFor (keyType : Nat) (m : BitVec 256) : BitVec 256 := if keyType = 1 then m else m &&& 0xFFFFFFFFFFFFFFFFFFFFFFFFFFFFFFFF#256

/-- Write a slot in EMPTY (R327, R328, R330): it becomes LOADED with both shares and its check, and its epoch advances. -/
def writeSlot (s : State) (n : Nat) (origin vol exp : Bool) (use keyType uses : Nat) (material : List Byte) : State :=
  match drawMask s (materialLen keyType) with
  | none => s
  | some (m, s) =>
    let m := maskFor keyType m
    modSlot s n fun x =>
      let y : KeySlot :=
        { state := .loaded, origin := origin, use := use, isVolatile := vol, exportable := exp && !vol, keyType := keyType
          epoch := x.epoch + 1, refs := 0, usesLeft := if vol then 0 else uses, loadedNs := s.clk.timeNs
          share0 := m, share1 := m ^^^ BitVec.ofNat 256 (beNat material), check := 0 }
      { y with check := slotCheck y }

/-- A slot becomes BAD (R331). -/
def markBad (s : State) (n cause : Nat) : State :=
  let s := modSlot s n fun x => { x with state := .bad, epoch := x.epoch + 1, share0 := 0, share1 := 0 }
  let s := keyCount s kcSlotBad
  let bits := (s.key.genMap.mapIdx fun i b => match b with | some (_, sl) => if sl = n then 2 ^ i else 0 | none => 0).foldl (· + ·) 0
  raiseEvent s evKeySlotBad n (slotOf s n).epoch.toNat cause bits

/-- Every read of a slot verifies its check first (R330): on failure the slot is BAD. -/
def readSlot (s : State) (n : Nat) : State × Option (List Byte) :=
  let x := slotOf s n
  if x.state != .loaded then (s, none)
  else if slotCheck x == x.check then (s, some (slotMaterial x))
  else (markBad s n 0, none)

/-- Status of an operation that names a slot: not LOADED, wrong use (R349). -/
def slotStatus (x : KeySlot) (use : Nat) : Option Nat :=
  match x.state with
  | .loaded => if x.use = use then none else some stBadArg
  | .bad => some stKeyBadSlot
  | _ => some stKeyAbsent

/-- A counted slot has no use left (R329). -/
def slotSpent (x : KeySlot) : Bool := !x.isVolatile && x.usesLeft == 0

/-- Charge `n` uses; a volatile slot is never charged (R329). -/
def chargeUse (s : State) (n k : Nat) : State :=
  modSlot s n fun x => if x.isVolatile then x else { x with usesLeft := x.usesLeft - k }

/-! Derivation (R323, R332). -/

/-- Bytes of an 8-character label. -/
def labelNode : List Byte := [0x4B, 0x4D, 0x41, 0x2D, 0x4E, 0x4F, 0x44, 0x45]
def labelWrap : List Byte := [0x4B, 0x4D, 0x41, 0x2D, 0x57, 0x52, 0x41, 0x50]
def labelSnap : List Byte := [0x4B, 0x4D, 0x41, 0x2D, 0x53, 0x4E, 0x41, 0x50]

/-- PRF input: counter 1, label, separator, context, L = 128 (R332). -/
def kdfInput (label ctx : List Byte) : List Byte := (0x01 :: label) ++ (0x00 :: ctx) ++ [0x00, 0x80]

/-- K_node = KDF(N, EUI, g) (R332). -/
def nodeKey (net : List Byte) (eui : W64) (g : Nat) : List Byte :=
  cmac net (kdfInput labelNode (leBytes 8 eui.toNat ++ [BitVec.ofNat 8 g]))

/-- The live root, joined from its shares (R323). -/
def liveRoot (s : State) : Option (BitVec 256) := s.key.rootShares.map fun p => p.1 ^^^ p.2

/-- KW of the live root (R323). -/
def wrapKey (s : State) : Option (List Byte) :=
  (liveRoot s).map fun r => beBytes 16 (Config.rootKey r (kdfInput labelWrap [BitVec.ofNat 8 (lifeCode s.key.lifecycle)])).toNat

/-- KS of the live root (R323). -/
def snapKey (s : State) : Option (List Byte) :=
  (liveRoot s).map fun r => beBytes 16 (Config.rootKey r (kdfInput labelSnap [BitVec.ofNat 8 (lifeCode s.key.lifecycle)])).toNat

/-- Number of the root that a lifecycle state makes live, if any (R320). -/
def rootOf : Lifecycle → Option Nat
  | .manufacture => some 1 | .provision => some 2 | .field => some 3 | _ => none

/-- Position and slot bound to a generation (R333). -/
def bindingOf (s : State) (g : Nat) : Option (Nat × Nat) :=
  (s.key.genMap.mapIdx fun i b => (i, b)).findSome? fun p =>
    match p.2 with | some (h, sl) => if h = g then some (p.1, sl) else none | none => none

/-! The derived-key cache (R334, R335). -/

/-- What a key lookup gives. -/
inductive KeyRes where
  | key (k : List Byte)
  /-- A command answers with this status; a frame with `FS_KEY_STALE`. -/
  | no (status : Nat)
deriving DecidableEq, Repr

/-- Set of an EUI and generation: CRC-32 bits [10:0] (R334). -/
def cacheSet (eui : W64) (g : Nat) : Nat := (crc32 (leBytes 8 eui.toNat ++ [BitVec.ofNat 8 g])).toNat % 2048

/-- Check of a cache entry, formed as in R330; its parent's slot and epoch stand for the descriptor word (DESIGN CHOICE, log 22). -/
def cacheCheck (c : CacheEntry) : W32 :=
  crc32 (beBytes 16 c.share0.toNat ++ beBytes 16 c.share1.toNat
    ++ leBytes 4 (c.parentSlot <<< 16 ||| c.parentEpoch.toNat))

/-- Index of the entry of a tag, if present. -/
def cacheFind (s : State) (eui : W64) (g : Nat) : Option (Nat × CacheEntry) :=
  let b := cacheSet eui g * 4
  (List.range 4).findSome? fun w =>
    match mapGet s.key.cache (b + w) with
    | some c => if c.eui = eui && c.gen.toNat = g then some (b + w, c) else none
    | none => none

/-- The way to replace: the tag's own, a free one, the first not recently used, else the first (log 22). -/
def cacheWay (s : State) (eui : W64) (g : Nat) : Nat :=
  let b := cacheSet eui g * 4
  match cacheFind s eui g with
  | some (i, _) => i
  | none =>
    match (List.range 4).find? fun w => !mapHas s.key.cache (b + w) with
    | some w => b + w
    | none =>
      match (List.range 4).find? fun w => ((mapGet s.key.cache (b + w)).map (·.notRecent)).getD false with
      | some w => b + w
      | none => b

/-- Mark an entry used; when no way of its set is left not recently used, the others become so. -/
def cacheTouch (m : SMap CacheEntry) (i : Nat) : SMap CacheEntry :=
  let b := i / 4 * 4
  let m := mapMod m i fun c => { c with notRecent := false }
  if (List.range 4).all fun w => !((mapGet m (b + w)).map (·.notRecent)).getD false then
    m.map fun p => if b ≤ p.1 && p.1 < b + 4 && p.1 != i then (p.1, { p.2 with notRecent := true }) else p
  else m

/-- Derive under a slot and fill the cache (R335): the slot's check is verified and one use is charged. -/
def deriveKey (s : State) (slot : Nat) (eui : W64) (g : Nat) : State × KeyRes :=
  if slotSpent (slotOf s slot) then (keyCount s kcSpent, .no stKeySpent)
  else
    match readSlot s slot with
    | (s, none) => (s, .no stKeyBadSlot)
    | (s, some net) =>
      match drawMask s 16 with
      | none => (s, .no stRefusedState)
      | some (m, s) =>
        let k := nodeKey net eui g
        let i := cacheWay s eui g
        let sh : BitVec 128 := m.setWidth 128
        let c : CacheEntry :=
          { eui := eui, gen := BitVec.ofNat 8 g, parentSlot := slot, parentEpoch := (slotOf s slot).epoch, notRecent := false
            share0 := sh, share1 := sh ^^^ BitVec.ofNat 128 (beNat k), check := 0 }
        let c := { c with check := cacheCheck c }
        let s := chargeUse (keyCount s kcDerive) slot 1
        (modKey s fun d => { d with cache := cacheTouch (mapSet d.cache i c) i }, .key k)

/-- Resolve the key of a node under a generation (R335). -/
def resolveKey (s : State) (eui : W64) (g : Nat) : State × KeyRes :=
  let found := cacheFind s eui g
  let noSlot := match found with
    | some _ => (keyCount s kcStale, KeyRes.no stKeyStale)
    | none => (s, KeyRes.no stKeyAbsent)
  match bindingOf s g with
  | none => noSlot
  | some (_, slot) =>
    if (slotOf s slot).state != .loaded then noSlot
    else
      match found with
      | some (i, c) =>
        if c.parentSlot != slot then deriveKey s slot eui g
        else if c.parentEpoch != (slotOf s slot).epoch then (keyCount s kcStale, .no stKeyStale)
        else if cacheCheck c != c.check then
          deriveKey (keyCount (modKey s fun d => { d with cache := mapDel d.cache i }) kcCheckFail) slot eui g
        else
          (keyCount (modKey s fun d => { d with cache := cacheTouch d.cache i }) kcHit,
            .key (beBytes 16 (c.share0 ^^^ c.share1).toNat))
      | none => deriveKey s slot eui g

/-! Erasure (R336, R338). -/

/-- Clear the key register of every lane for which `p` holds. -/
def clearLanes (s : State) (p : Lane → Bool) : State :=
  let f (l : Lane) : Lane := if p l then { l with keyShare0 := 0, keyShare1 := 0, slot := none } else l
  { s with crypt := { s.crypt with lanes := s.crypt.lanes.map f } }

/-- Zeroize the KEY domain (R338): slots ERASED, cache, masks, root shares and lane registers cleared. -/
def zeroizeKeys (s : State) : State :=
  let s := modKey s fun k =>
    { k with
      slots := k.slots.map fun x =>
        { x with state := .erased, share0 := 0, share1 := 0, check := 0, refs := 0, epoch := x.epoch + 1 }
      cache := [], rootShares := none, kChal := 0 }
  clearLanes s fun _ => true

/-- Number of the root that is live in a lifecycle state (R323): root-M, root-P, root-F. -/
def rootNumber : Lifecycle → Option Nat
  | .manufacture => some 1 | .provision => some 2 | .field => some 3 | _ => none

/-- The live root is loaded as two shares (R348 step 4). -/
def loadRoot (s : State) : State :=
  match rootNumber s.key.lifecycle with
  | some n =>
    let (m, s) := drawEntropy s
    modKey s fun k => { k with rootShares := some (Config.root n ^^^ m, m) }
  | none => s

/-- K_chal is drawn (R370). -/
def drawChal (s : State) : State :=
  let (m, s) := drawEntropy s
  modKey s fun k => { k with kChal := m.setWidth 128 }

/-- Every command of a function still at work ends with a status (R94, R96, R338). -/
def failFunction (s : State) (fn status : Nat) : State :=
  let gone := s.host.longOps.filter fun op => entryFn op.e == fn
  let s := { s with host := { s.host with longOps := s.host.longOps.filter fun op => entryFn op.e != fn } }
  gone.foldl (fun s op => respond s op.e (refuse status) true) s

/-- Sources armed now (R345). -/
def armedMask (s : State) : Nat :=
  match s.key.lifecycle with
  | .blank | .manufacture => 0
  | _ =>
    let lid := if s.key.lidEnable then 4 else 0
    let core := if s.resetHigh then 8 + 32 else 0
    1 + 2 + lid + core + 16 + 64 + 128

/-- Power-domain number of KEY (R462). -/
def domKey : Nat := 1

/-- State of a power domain. -/
def domState (s : State) (d : Nat) : DomState := (nth Domain.reset s.pwr.doms d).state

/-- An alarm on armed sources (R338, R345 to R347). `phase` is decided at the alarm. -/
def tamperAlarmOp (s : State) (mask phase : Nat) : State :=
  let first := !s.key.tampered
  let s := keyCount s kcAlarms
  let s := modKey s fun k =>
    { k with
      tampered := true, firstMask := if k.firstMask = 0 then BitVec.ofNat 8 mask else k.firstMask
      tamperCount := if first then min 8 (k.tamperCount + 1) else k.tamperCount }
  let s := zeroizeKeys s
  let s := { s with pwr := { s.pwr with doms := modNth s.pwr.doms domKey fun d =>
    match d.state with | .on => d | _ => { d with state := .off, request := none } } }
  let s := raiseEvent s evTamper mask s.key.tamperCount phase (lifeCode s.key.lifecycle)
  failFunction s 0x08 stTampered

/-- Phase of R346 of an alarm while the part runs. -/
def alarmPhase (s : State) : Nat :=
  if domState s domKey != .on then 1
  else if s.host.longOps.any (fun op => entryFn op.e == 0x08) || s.key.slots.any (fun x => x.refs != 0) then 2
  else 3

/-- Slot 0 is loaded from the identity seed (R342). -/
def loadIdentity (s : State) : State :=
  match s.key.identitySeed with
  | none => s
  | some seed =>
    let d := Config.identityScalar seed % (p256N - 1) + 1
    writeSlot (modSlot s 0 fun x => { x with state := .empty }) 0 false true false 4 1 0 (beBytes 32 d)

/-- Identity public key, X then Y, when slot 0 is present and its check holds (R330, R342). -/
def identityPublic (s : State) : State × Option (List Byte) :=
  match readSlot s 0 with
  | (s, some d) => let (x, y) := eccPublic (beNat d); (s, some (beBytes 32 x ++ beBytes 32 y))
  | (s, none) => (s, none)

/-- Re-masking of one LOADED slot (R330). -/
def remaskSlot (s : State) (n : Nat) : State :=
  let x := slotOf s n
  if x.state != .loaded then s
  else if slotCheck x != x.check then markBad s n 1
  else
    match drawMask s (materialLen x.keyType) with
    | none => s
    | some (m, s) =>
      let m := maskFor x.keyType m
      modSlot s n fun x =>
        let y := { x with share0 := x.share0 ^^^ m, share1 := x.share1 ^^^ m }
        { y with check := slotCheck y }

/-- The re-masking pass due every 100 ms while KEY is On (R330). -/
def remaskOp (s : State) : State :=
  if domState s domKey != .on || masksOut s || s.upNs < s.key.remaskAt + 100000000 then s
  else
    let s := (List.range 128).foldl remaskSlot s
    keyCount (modKey s fun k => { k with remaskAt := s.upNs }) kcRemask

/-- A revoked slot's readers have finished: zeroize it and the lanes keyed from it, and answer an immediate revoke (R336). -/
def revokeDrainOp (s : State) (n : Nat) : State :=
  if (slotOf s n).state != .revoked || (slotOf s n).refs != 0 then s
  else
    let s := modSlot s n fun x => { x with state := .erased, share0 := 0, share1 := 0, check := 0, epoch := x.epoch + 1 }
    let s := clearLanes s fun l => l.slot == some n
    finishWhere s (fun op => entryCmd op.e == some .keyRevoke && op.ref == n) fun _ => okReply

/-- Revocation at its instant (R336 step 1). -/
def revokeSlot (s : State) (n : Nat) : State := modSlot s n fun x => { x with state := .revoked, epoch := x.epoch + 1 }

/-- KEY per-function reset (R96): the cache is discarded, operations are aborted, slots are kept. -/
def keyReset (s : State) : State := modKey s fun k => { k with cache := [] }

/-! KEY commands (R349). -/

/-- A lifecycle in which a command is legal. -/
def inLife (s : State) (l : List Lifecycle) : Bool := l.contains s.key.lifecycle

/-- No slot write and no key operation after a debug unlock (R344). -/
def notUnlocked (s : State) : Option Reply := refuseIf s.key.unlocked stRefusedState

/-- Slot writes: only in EMPTY (R327). -/
def slotEmpty (s : State) (n : Nat) : Option Reply := refuseIf ((slotOf s n).state != .empty) stRefusedState

/-- Refusal of an operation on a slot with a use (R349). -/
def slotRefusal (s : State) (n use : Nat) : Option Reply := (slotStatus (slotOf s n) use).map fun st => refuse st

/-- Refusal of an operation that needs a slot of any use LOADED. -/
def loadedRefusal (s : State) (n : Nat) : Option Reply :=
  match (slotOf s n).state with
  | .loaded => none
  | .bad => some (refuse stKeyBadSlot)
  | _ => some (refuse stKeyAbsent)

def keySlotQuery : Cmd where
  apply := getter fun e s => okData (slotDescriptor (slotOf s (argBits e 6 0)))

def keyGenerate : Cmd where
  args := fun e _ => argBits e 6 0 != 0 && useAllowed (argBits e 9 8) (argBits e 14 12) && (argBit e 15 || argBits e 55 32 != 0)
  check := fun _ e s =>
    orRefuse (refuseIf (!inLife s [.provision, .field] || s.key.entRestart) stRefusedState)
      (orRefuse (notUnlocked s) (slotEmpty s (argBits e 6 0)))
  apply := setter fun e s =>
    let (r, s) := drawEntropy s
    let kt := argBits e 9 8
    let material := if kt = 1 then beBytes 32 (r.toNat % (p256N - 1) + 1) else beBytes 16 (r.toNat % 2 ^ 128)
    writeSlot s (argBits e 6 0) false (argBit e 15) (argBit e 16) (argBits e 14 12) kt (argBits e 55 32) material
  sets := fun e _ => [(0x0805, argBits e 6 0)]

/-- The parts of a blob that R325 checks: none where step 1 fails. -/
def blobHeader (b : List Byte) : Option (Nat × Nat) :=
  let kt := leAt b 4 1
  if leAt b 0 2 != 0x424C || leAt b 2 1 != 1 || 1 < kt || leAt b 5 3 != 0 || b.length != 32 + materialLen kt then none
  else some (leAt b 3 1, kt)

/-- Load of a blob (R325, R326, R339). -/
def blobLoad (e : CmdEntry) (s : State) : State × Reply :=
  let b := inBuf e
  match blobHeader b with
  | none => (s, refuse stBadArg)
  | some (life, kt) =>
    if life != lifeCode s.key.lifecycle then (s, refuse stRefusedState)
    else
      match wrapKey s with
      | none => (s, refuse stRefusedState)
      | some kw =>
        match keyUnwrap kw (b.drop 8) with
        | none => (s, refuse stTagFail)
        | some p =>
          let w0 := leAt p 0 4
          let uses := leAt p 4 3
          let use := bitsOf w0 26 24
          if bitOf w0 23 || bitsOf w0 19 16 != 0 || bitsOf w0 21 20 != kt || !useAllowed kt use
            || leAt p 8 8 != 0 then (s, refuse stBadArg)
          else
            let vol := argBit e 7
            (writeSlot s (argBits e 6 0) (bitOf w0 27) vol (bitOf w0 22) use kt uses (p.drop 16), okReply)

def keyBlobLoad : Cmd where
  args := fun e _ => argBits e 6 0 != 0
  check := fun _ e s =>
    orRefuse (refuseIf (!inLife s [.manufacture, .provision, .field]) stRefusedState)
      (orRefuse (notUnlocked s) (slotEmpty s (argBits e 6 0)))
  apply := fun _ e s => whenMasked blobLoad e s
  finish := fun op s => onceMasked blobLoad op.e s
  sets := fun e _ => [(0x0805, argBits e 6 0)]

/-- A blob of a LOADED slot (R324, R340). -/
def blobOf (s : State) (n : Nat) (kw material : List Byte) : List Byte :=
  let x := slotOf s n
  leBytes 2 0x424C ++ [0x01, BitVec.ofNat 8 (lifeCode s.key.lifecycle), BitVec.ofNat 8 x.keyType, 0, 0, 0]
    ++ keyWrap kw (leBytes 4 (slotWord0 x x.epoch.toNat) ++ leBytes 4 (slotWord1 x) ++ leBytes 8 0 ++ material)

def keyBlobExport : Cmd where
  check := fun _ e s =>
    orRefuse (notUnlocked s) (orRefuse (loadedRefusal s (argBits e 6 0))
      (refuseIf (argBits e 6 0 = 0 || !(slotOf s (argBits e 6 0)).exportable || (wrapKey s).isNone) stRefusedState))
  apply := fun _ e s =>
    match readSlot s (argBits e 6 0), wrapKey s with
    | (s, some m), some kw => (s, okData (blobOf s (argBits e 6 0) kw m))
    | (s, _), _ => (s, refuse stKeyBadSlot)

def keyRevoke : Cmd where
  check := fun _ e s => loadedRefusal s (argBits e 6 0)
  apply := fun w e s =>
    match w with
    | .now => (revokeSlot s (argBits e 6 0), deferReply)
    | _ => (revokeSlot s (argBits e 6 0), okReply)
  longRef := fun e _ => argBits e 6 0
  sets := fun e _ => [(0x0805, argBits e 6 0)]

def keyGenMap : Cmd where
  args := fun e _ => argBits e 7 0 ≤ 254
  check := fun _ e s =>
    let g := argBits e 7 0
    if argBit e 15 then refuseIf (bindingOf s g).isNone stNotFound
    else
      let x := slotOf s (argBits e 14 8)
      match x.state with
      | .loaded =>
        if x.use != 0 || x.keyType != 0 then some (refuse stBadArg)
        else refuseIf ((bindingOf s g).isNone && s.key.genMap.all (·.isSome)) stNoRoom
      | .bad => some (refuse stKeyBadSlot)
      | _ => some (refuse stKeyAbsent)
  apply := setter fun e s =>
    let g := argBits e 7 0
    modKey s fun k =>
      if argBit e 15 then { k with genMap := k.genMap.map fun b => if (b.map (·.1)) == some g then none else b }
      else
        let pos := match bindingOf s g with
          | some (p, _) => p
          | none => (k.genMap.findIdx? (·.isNone)).getD 0
        { k with genMap := modNth k.genMap pos fun _ => some (g, argBits e 14 8) }
  sets := fun e _ => [(0x0806, argBits e 7 0)]

def keyGenQuery : Cmd where
  apply := getter fun _ s => okFigures ((s.key.genMap.mapIdx fun i b => (i, b)).flatMap fun p =>
    match p.2 with
    | some (g, sl) => [(p.1 : Int), g, sl, (slotOf s sl).epoch.toNat]
    | none => [])

/-- The 64-byte attestation statement (R343). -/
def attestStatement (s : State) (n : Nat) (nonce : List Byte) : List Byte :=
  leBytes 4 0x5454414B ++ leBytes 2 1 ++ [BitVec.ofNat 8 n, BitVec.ofNat 8 (lifeCode s.key.lifecycle)]
    ++ (slotDescriptor (slotOf s n)).take 8 ++ leBytes 2 s.crypt.epochs.epochCur.toNat
    ++ [BitVec.ofNat 8 s.key.tamperCount] ++ List.replicate 13 0 ++ nonce

/-- Sign a 32-byte digest with the P-256 key of a slot; the nonce is an open value. -/
def signWith (s : State) (material digest : List Byte) : State × List Byte :=
  let (k, s) := drawEntropy s
  let (r, t) := ecdsaSign (beNat material) (beNat digest) k.toNat
  (s, beBytes 32 r ++ beBytes 32 t)

def keyAttest : Cmd where
  check := fun _ e s =>
    orRefuse (notUnlocked s)
      (match (slotOf s (argBits e 6 0)).state with
       | .bad => some (refuse stKeyBadSlot)
       | .loaded => refuseIf ((slotOf s 0).state != .loaded) stKeyAbsent
       | _ => some (refuse stKeyAbsent))
  apply := fun _ e s =>
    match readSlot s 0 with
    | (s, none) => (s, refuse stKeyBadSlot)
    | (s, some d) =>
      let st := attestStatement s (argBits e 6 0) (argBytes e 4 32)
      let (s, sig) := signWith s d (sha256 st)
      (s, okData (st ++ sig))

def keyIdentityGenerate : Cmd where
  check := fun _ _ s =>
    orRefuse (refuseIf (!inLife s [.provision] || s.key.identitySeed.isSome || s.key.entRestart) stRefusedState) (notUnlocked s)
  apply := longStart
  finish := fun _ s =>
    let (seed, s) := drawEntropy s
    some (loadIdentity (modKey s fun k => { k with identitySeed := some seed }), okReply)
  sets := fun _ _ => [(0x0805, 0)]

def keyIdentityRead : Cmd where
  check := fun _ _ s => orRefuse (notUnlocked s) (loadedRefusal s 0)
  apply := fun _ _ s =>
    match identityPublic s with
    | (s, some p) => (s, okData p)
    | (s, none) => (s, refuse stKeyBadSlot)

/-- The state a lifecycle target code names, if an advance may reach it (R321). -/
def advanceTarget (l : Lifecycle) (t : Nat) : Option Lifecycle :=
  match l, t with
  | .blank, 1 => some .manufacture | .manufacture, 2 => some .provision | .provision, 3 => some .field
  | .provision, 4 => some .retired | .field, 4 => some .retired | _, _ => none

def keyLifecycleAdvance : Cmd where
  args := fun e s => (advanceTarget s.key.lifecycle (argBits e 2 0)).isSome && argBits e 63 32 == 0x41445600 + argBits e 2 0
  check := fun _ e s =>
    refuseIf (!(bands.all fun b => bandState s b == .off) || s.role != .single || !(s.part == .run || s.part == .coldWait)
      || (argBits e 2 0 = 3 && s.key.identitySeed.isNone)) stRefusedState
  apply := longStart
  longRef := fun e _ => argBits e 2 0
  finish := fun op s =>
    match advanceTarget s.key.lifecycle op.ref with
    | some l =>
      let s := zeroizeKeys (modKey s fun k => { k with lifecycle := l })
      some ({ s with fw := { s.fw with coldStart := true } }, okFigures [op.ref])
    | none => some (s, refuse stBadArg)

def keyTamperStatus : Cmd where
  apply := getter fun _ s => okData
    [BitVec.ofNat 8 (natOf s.key.tampered), s.key.firstMask, s.key.liveLevels, BitVec.ofNat 8 s.key.tamperCount
    , BitVec.ofNat 8 (armedMask s), 0, 0, 0]

def keyTamperConfig : Cmd where
  check := fun _ _ s => refuseIf (!inLife s [.provision]) stRefusedState
  apply := setter fun e s => modKey s fun k => { k with lidEnable := argBit e 0, lidActiveHigh := argBit e 1 }

def keyDebugChallenge : Cmd where
  check := fun _ _ s => refuseIf (!inLife s [.provision, .field] || s.key.entRestart || s.key.unlocked) stRefusedState
  apply := fun _ _ s =>
    let (n, s) := drawEntropy s
    (modKey s fun k => { k with challenge := some { nonce := n, untilNs := s.upNs + 60000000000 } }, okData (beBytes 32 n.toNat))

/-- Debug unlock (R344): the nonce serves one attempt. -/
def debugUnlock (e : CmdEntry) (s : State) : State × Reply :=
  let b := inBuf e
  let pub := b.take 64
  let sig := b.drop 64
  let (s, ident) := identityPublic s
  let spent := modKey s fun k => { k with challenge := none }
  match s.key.debugHash, s.key.challenge, ident with
  | some h, some c, some ident =>
    let digest := sha256 (beBytes 32 c.nonce.toNat ++ ident ++ [BitVec.ofNat 8 (lifeCode s.key.lifecycle)])
    if c.untilNs < s.upNs || sha256 pub != beBytes 32 h.toNat
      || !ecdsaVerify (beNat (pub.take 32)) (beNat (pub.drop 32)) (beNat digest) (beNat (sig.take 32)) (beNat (sig.drop 32)) then
      (spent, refuse stTagFail)
    else (modKey (zeroizeKeys spent) fun k => { k with unlocked := true }, okReply)
  | _, _, _ => (spent, refuse stTagFail)

def keyDebugUnlock : Cmd where
  check := fun _ _ s =>
    refuseIf (!inLife s [.provision, .field] || s.key.debugHash.isNone || s.key.unlocked) stRefusedState
  apply := fun _ e s => debugUnlock e s

def keyCounters : Cmd where
  apply := fun _ e s =>
    ((if argBit e 0 then modKey s fun k => { k with counters := clearCtrs k.counters } else s), okData (ctrBytes s.key.counters))

/-- A descriptor word a host may give (R349): host fields only, a type and use that combine, a use count unless volatile. -/
def importWordOk (w uses : Nat) : Bool :=
  bitsOf w 31 27 = 0 && bitsOf w 19 0 = 0 && useAllowed (bitsOf w 21 20) (bitsOf w 26 24) && (bitOf w 23 || uses != 0)

/-- Write an imported key. -/
def importKey (s : State) (e : CmdEntry) (material : List Byte) : State :=
  let w := argBits e 63 32
  writeSlot s (argBits e 6 0) true (bitOf w 23) (bitOf w 22) (bitsOf w 26 24) (bitsOf w 21 20) (argBits e 87 64) material

def keyImportRaw : Cmd where
  args := fun e _ => argBits e 6 0 != 0 && importWordOk (argBits e 63 32) (argBits e 87 64)
  check := fun _ e s =>
    orRefuse (refuseIf (e.bufLen.toNat != materialLen (bitsOf (argBits e 63 32) 21 20)) stBadLength)
      (orRefuse (refuseIf (!inLife s [.manufacture, .provision]) stRefusedState)
        (orRefuse (notUnlocked s) (slotEmpty s (argBits e 6 0))))
  apply := fun _ e s => whenMasked (fun e s => (importKey s e (inBuf e), okReply)) e s
  finish := fun op s => onceMasked (fun e s => (importKey s e (inBuf e), okReply)) op.e s
  sets := fun e _ => [(0x0805, argBits e 6 0)]

/-- Unwrap under a WRAP slot and write (R339): one use of the slot is charged. -/
def importWrapped (e : CmdEntry) (s : State) : State × Reply :=
  let kek := argBits e 14 8
  match readSlot s kek with
  | (s, none) => (s, refuse stKeyBadSlot)
  | (s, some k) =>
    match keyUnwrap k (inBuf e) with
    | none => (s, refuse stTagFail)
    | some p => (importKey (chargeUse s kek 1) e p, okReply)

def keyImportWrapped : Cmd where
  args := fun e _ => argBits e 6 0 != 0 && importWordOk (argBits e 63 32) (argBits e 87 64)
  check := fun _ e s =>
    orRefuse (refuseIf (e.bufLen.toNat != 8 + materialLen (bitsOf (argBits e 63 32) 21 20)) stBadLength)
      (orRefuse (refuseIf (!inLife s [.provision, .field]) stRefusedState)
        (orRefuse (notUnlocked s) (orRefuse (slotEmpty s (argBits e 6 0))
          (orRefuse (slotRefusal s (argBits e 14 8) 1) (refuseIf (slotSpent (slotOf s (argBits e 14 8))) stKeySpent)))))
  apply := fun _ e s => whenMasked importWrapped e s
  finish := fun op s => onceMasked importWrapped op.e s
  sets := fun e _ => [(0x0805, argBits e 6 0)]

def keyBlobWrapOut : Cmd where
  check := fun _ e s =>
    let x := slotOf s (argBits e 6 0)
    orRefuse (notUnlocked s) (orRefuse (loadedRefusal s (argBits e 6 0))
      (orRefuse (refuseIf (x.keyType != 0) stBadArg) (orRefuse (refuseIf (!x.exportable) stRefusedState)
        (orRefuse (slotRefusal s (argBits e 14 8) 1) (refuseIf (slotSpent (slotOf s (argBits e 14 8))) stKeySpent)))))
  apply := fun _ e s =>
    match readSlot s (argBits e 14 8) with
    | (s, none) => (s, refuse stKeyBadSlot)
    | (s, some k) =>
      match readSlot s (argBits e 6 0) with
      | (s, none) => (s, refuse stKeyBadSlot)
      | (s, some m) => (chargeUse s (argBits e 14 8) 1, okData (keyWrap k m))

def keyKdfVector : Cmd where
  check := fun _ _ s => notUnlocked s
  apply := getter fun e _ => okData (nodeKey (inBuf e) (BitVec.ofNat 64 (argBits e 127 64)) (argBits e 7 0))

def keySign : Cmd where
  check := fun _ e s =>
    orRefuse (notUnlocked s) (orRefuse (slotRefusal s (argBits e 6 0) 4) (refuseIf (slotSpent (slotOf s (argBits e 6 0))) stKeySpent))
  apply := fun _ e s =>
    match readSlot s (argBits e 6 0) with
    | (s, none) => (s, refuse stKeyBadSlot)
    | (s, some d) =>
      let (s, sig) := signWith (chargeUse s (argBits e 6 0) 1) d (argBytes e 4 32)
      (s, okData sig)

def keyDebugAuthSet : Cmd where
  check := fun _ _ s => refuseIf (!inLife s [.provision]) stRefusedState
  apply := setter fun e s => modKey s fun k => { k with debugHash := some (BitVec.ofNat 256 (beNat (argBytes e 4 32))) }

end Sys2Proof.Machine
end

