-- ==== Sys2Proof/Machine/Formats.lean ====
section
/-! DEFINITION. KMA frames: PHY header, FCS, whitening, durations, the MAC header and its checks, service payloads, tone maps
(chapter 3). -/

namespace Sys2Proof.Machine

/-! Frame types (R121). -/

def ftData : Nat := 0
def ftAck : Nat := 1
def ftBeacon : Nat := 2
def ftJoinReq : Nat := 3
def ftJoinRsp : Nat := 4
def ftControl : Nat := 5
def ftSounding : Nat := 6
def ftCampaign : Nat := 7

/-! Reserved mesh addresses (R118). -/

def addrBroadcast : W32 := 0xFFFFFFFF#32
def addrJoinRsp : W32 := 0xFFFFFFFE#32

/-- A reserved mesh address (R118). -/
def reservedAddr (a : Nat) : Bool := a == 0 || 0xFFFFFF00 ≤ a

/-- Header check: CRC-8 with polynomial 0x07 over bytes, each most significant bit first (R110). -/
def hcs8 (bs : List Byte) : Nat := crcBits 8 0x07 0 (bs.flatMap bitsMsb)

/-- The PHY header word of a length, FCS type, whitening and `rate_hint` (R109). -/
def phyHeader (length fcsType : Nat) (whiten : Bool) (rateHint : Nat) : Nat :=
  let low := length + fcsType * 2048 + natOf whiten * 4096 + rateHint * 8192
  low + hcs8 (leBytes 2 low) * 65536

/-- The signal field of a TL-OFDM frame (R132). -/
def signalField (length toneMap fcsType : Nat) : Nat :=
  let low := length + toneMap * 2048 + fcsType * 32768
  low + hcs8 (leBytes 3 low) * 262144

/-- Bytes of an FCS type. -/
def fcsLen (fcsType : Nat) : Nat := if fcsType = 1 then 4 else 2

/-- CRC-16/ITU-T of R113. -/
def fcs16 (bs : List Byte) : Nat := (bs.flatMap bitsLsb).foldl (crcStepRefl 0x8408) 0

/-- The FCS of a type, as sent (R113). -/
def fcsOf (fcsType : Nat) (bs : List Byte) : List Byte :=
  if fcsType = 1 then leBytes 4 (crc32 bs).toNat else leBytes 2 (fcs16 bs)

/-- A PSDU whose last bytes are its FCS (R113). -/
def fcsOk (fcsType : Nat) (psdu : List Byte) : Bool :=
  let n := psdu.length - fcsLen fcsType
  fcsLen fcsType ≤ psdu.length && fcsOf fcsType (psdu.take n) == psdu.drop n

/-- Eight steps of the PN9 generator: the byte they form, least significant bit first, and the register after (R114). -/
def pn9Byte : Nat → Nat → Nat → Nat × Nat
  | 0, s, acc => (acc, s)
  | n + 1, s, acc =>
    let out := s % 2
    let fb := (s % 2 + (s / 32) % 2) % 2
    pn9Byte n (s / 2 + fb * 256) (acc + out * 2 ^ (7 - n))

/-- Whiten or de-whiten bytes from a seed (R114). -/
def pn9 : Nat → List Byte → List Byte
  | _, [] => []
  | s, b :: bs =>
    let (w, s') := pn9Byte 8 s 0
    (b ^^^ BitVec.ofNat 8 w) :: pn9 s' bs

/-! Profiles and durations. -/

/-- A loaded air profile. -/
def profileOf (s : State) (id : Nat) : Option AirProfile := mapGet s.air.profiles id

/-- TL-OFDM. -/
def isOfdm (p : AirProfile) : Bool := p.mode == 2

/-- Symbol rate of a GFSK profile (R103). -/
def symbolRate (p : AirProfile) : Nat := if p.mode = 1 then p.bitRate / 2 else p.bitRate

/-- Duration of `bits` at a rate, in ns. -/
def bitsNs (bits rate : Nat) : Nat := bits * 1000000000 / max rate 1

/-- TL-OFDM sample rate of a band in kHz, points of its FFT and samples of its cyclic prefix (R128). -/
def ofdmKhz (band : Nat) : Nat := if band = 2 then 2000 else 1000
def ofdmPoints : Nat := 128
def ofdmCyclic : Nat := 16

/-- OFDM symbol in ns on a band (R128). -/
def ofdmSymbolNs (band : Nat) : Nat := (ofdmPoints + ofdmCyclic) * 1000000 / ofdmKhz band

/-- Preamble start to the reference point of the time stamp (R168): the sync-word end, or the end of the second long-training
symbol of TL-OFDM (R130). -/
def refPointNs (p : AirProfile) (band : Nat) : Nat :=
  if isOfdm p then 4 * ofdmSymbolNs band else bitsNs (8 * p.preambleBytes + p.syncLen) (symbolRate p)

/-- Preamble start to the first PSDU bit. -/
def overheadNs (p : AirProfile) (band : Nat) : Nat :=
  if isOfdm p then 5 * ofdmSymbolNs band else bitsNs (8 * p.preambleBytes + p.syncLen + 24) (symbolRate p)

/-- Bits of a constellation code (R134). -/
def codeBits (c : Nat) : Nat := match c with | 1 => 1 | 2 => 2 | 3 => 4 | 4 => 6 | _ => 0

/-- Code of data tone `d` of a map (R135). -/
def toneCode (m d : Nat) : Nat := bitsOf m (3 * d + 2) (3 * d)

/-- Bits per symbol of a map. -/
def mapBits (m : Nat) : Nat := ((List.range 104).map fun d => codeBits (toneCode m d)).foldl (· + ·) 0

/-- Map 0: BPSK on all 104 data tones (R135). -/
def mapZero : Nat := (List.range 104).foldl (fun m d => m + 2 ^ (3 * d)) 0

/-- A map with a reserved code is invalid (R135). -/
def mapValid (m : Nat) : Bool := (List.range 104).all fun d => toneCode m d ≤ 4

/-- Constellation for an SNR in dB under a margin (R137). -/
def loadCode (snr : Int) (margin : Nat) : Nat :=
  if snr ≥ 22 + (margin : Int) then 4 else if snr ≥ 16 + (margin : Int) then 3 else if snr ≥ 9 + (margin : Int) then 2
  else if snr ≥ 6 + (margin : Int) then 1 else 0

/-- The map of measured SNRs per data tone; map 0 when it would carry fewer than 104 bits (R137). -/
def loadMap (snrs : List Int) (margin : Nat) : Nat :=
  let m := (List.range 104).foldl (fun m d => m + loadCode (nth (-1000) snrs d) margin * 2 ^ (3 * d)) 0
  if mapBits m < 104 then mapZero else m

/-- Duration of the PSDU of `n` bytes: two-level GFSK goes at the symbol rate (R111), TL-OFDM in whole data symbols (R133). -/
def psduNs (p : AirProfile) (band n : Nat) (twoLevel : Bool) (bitsPerSymbol : Nat) : Nat :=
  if isOfdm p then ceilDiv (8 * n) (max bitsPerSymbol 1) * ofdmSymbolNs band
  else bitsNs (8 * n) (if twoLevel then symbolRate p else p.bitRate)

/-- Duration of a frame of `n` PSDU bytes under map 0. -/
def frameNs (p : AirProfile) (band n : Nat) : Nat := overheadNs p band + psduNs p band n false 104

/-- MIC bytes of a `mic_len` code (R116). -/
def micBytes (code : Nat) : Nat := match code with | 0 => 4 | 1 => 8 | _ => 16

/-- PSDU bytes of an ACK under a profile (R123). -/
def ackPsduLen (p : AirProfile) : Nat := 15 + 8 + micBytes p.micLen + fcsLen (if isOfdm p then 1 else p.fcsType)

/-- Duration of an ACK under a profile (R123). -/
def ackNs (p : AirProfile) (band : Nat) : Nat := overheadNs p band + psduNs p band (ackPsduLen p) true 104

/-! The MAC header (R115, R116). -/

/-- A parsed MAC header. -/
structure MacHdr where
  fc : Nat
  dest : W32
  src : W32
  eui : W64
  hops : List W32
  next : Nat
  keyGen : Byte
  counter : W32
  /-- Bytes before the payload. -/
  len : Nat
deriving DecidableEq, Repr

def hdrType (fc : Nat) : Nat := fc % 8
def hdrSec (fc : Nat) : Bool := bitOf fc 3
def hdrAckReq (fc : Nat) : Bool := bitOf fc 4
def hdrPending (fc : Nat) : Bool := bitOf fc 5
def hdrMicCode (fc : Nat) : Nat := bitsOf fc 7 6
def hdrSrcEui (fc : Nat) : Bool := bitOf fc 8
def hdrEnc (fc : Nat) : Bool := bitOf fc 9
def hdrRoute (fc : Nat) : Bool := bitOf fc 10

/-- MIC bytes a header announces (R116). -/
def hdrMicLen (fc : Nat) : Nat := if hdrSec fc then micBytes (hdrMicCode fc) else 0

/-- Read the MAC header of a PSDU; bytes past the end read 0. -/
def parseMac (psdu : List Byte) : MacHdr :=
  let fc := leAt psdu 0 2
  let a := if hdrSrcEui fc then 14 else 10
  let n := leAt psdu a 1 % 16
  let r := if hdrRoute fc then 1 + 4 * n else 0
  let sec := if hdrSec fc then 5 else 0
  { fc := fc, dest := BitVec.ofNat 32 (leAt psdu 2 4)
    src := if hdrSrcEui fc then 0 else BitVec.ofNat 32 (leAt psdu 6 4)
    eui := if hdrSrcEui fc then BitVec.ofNat 64 (leAt psdu 6 8) else 0
    hops := if hdrRoute fc then (List.range n).map fun i => BitVec.ofNat 32 (leAt psdu (a + 1 + 4 * i) 4) else []
    next := if hdrRoute fc then leAt psdu a 1 / 16 else 0
    keyGen := BitVec.ofNat 8 (leAt psdu (a + r) 1), counter := BitVec.ofNat 32 (leAt psdu (a + r + 1) 4), len := a + r + sec }

/-- The security bits a frame type requires: `sec` always, `enc`, `src_eui` (R121). -/
def typeEnc (t : Nat) : Bool := t != ftBeacon && t != ftSounding
def typeSrcEui (t : Nat) : Bool := t == ftJoinReq

/-- The MAC-header checks of R122 after the FCS: the position of the counter of the first that fails (0 `mac_version`,
1 `mac_malformed`, 2 `mac_insecure`, 3 `rx_not_ours`). `ours` judges the destination. -/
def macCheck (micMin fcsBytes : Nat) (ours : MacHdr → Bool) (psdu : List Byte) : Option Nat :=
  let h := parseMac psdu
  let n := h.hops.length
  if bitsOf h.fc 13 12 != 0 then some 0
  else if bitsOf h.fc 15 14 != 0 || bitOf h.fc 11 || hdrMicCode h.fc = 3 || hdrSrcEui h.fc != typeSrcEui (hdrType h.fc)
    || (hdrRoute h.fc && (n = 0 || 8 < n || n < h.next)) || psdu.length < h.len + hdrMicLen h.fc + fcsBytes then some 1
  else if !hdrSec h.fc || hdrEnc h.fc != typeEnc (hdrType h.fc) || hdrMicLen h.fc < micMin then some 2
  else if !ours h then some 3
  else none

/-- `frame_control` of a frame the part sends (R116). -/
def frameControl (ftype micCode : Nat) (ackReq pending route : Bool) : Nat :=
  ftype + 8 + natOf ackReq * 16 + natOf pending * 32 + micCode * 64 + natOf (typeEnc ftype) * 512 + natOf route * 1024

/-- Bytes of a MAC header the part sends (R115). -/
def macHeader (fc : Nat) (dest src : W32) (path : List W32) (keyGen : Byte) (counter : W32) : List Byte :=
  let route := if path.isEmpty then [] else BitVec.ofNat 8 path.length :: path.flatMap fun a => leBytes 4 a.toNat
  leBytes 2 fc ++ leBytes 4 dest.toNat ++ leBytes 4 src.toNat ++ route ++ [keyGen] ++ leBytes 4 counter.toNat

/-- Payload of an ACK (R123). -/
def ackPayload (acked : W32) (timingUs : Int) (flags : Nat) : List Byte :=
  leBytes 4 acked.toNat ++ leBytes 2 (unsignedOf 16 (clampInt timingUs (-32767) 32767)) ++ [BitVec.ofNat 8 flags, 0]

/-- Payload of a JOIN_RSP (R126). -/
def joinRspPayload (eui : W64) (addr : W32) (period offset sched : Nat) (result : Byte) : List Byte :=
  leBytes 8 eui.toNat ++ leBytes 4 addr.toNat ++ leBytes 4 period ++ leBytes 4 offset ++ leBytes 2 sched ++ [result, 0]

/-- Longest MAC payload of a destination with `hops` relays under a profile. -/
def maxPayload (p : AirProfile) (hops : Nat) : Nat :=
  p.maxPsdu - (15 + (if hops = 0 then 0 else 1 + 4 * hops) + micBytes p.micLen + fcsLen (if isOfdm p then 1 else p.fcsType))

end Sys2Proof.Machine
end

