-- ==== Sys2Proof/Machine/Time.lean ====
section
/-! DEFINITION. Ephemeris: servo, sources, PTP, pins and triggers, the stopped reference, the TIME commands (chapter 12). -/

namespace Sys2Proof.Machine

/-! Counter positions of R429. -/

def tcSyncRx : Nat := 0
def tcDelayDone : Nat := 1
def tcAnnounceRx : Nat := 2
def tcSyncTx : Nat := 3
def tcRejected : Nat := 4
def tcPpsIn : Nat := 5
def tcParentMeas : Nat := 6
def tcOutliers : Nat := 7
def tcUpdates : Nat := 8
def tcSteps : Nat := 9
def tcSwitches : Nat := 10
def tcCaptureLost : Nat := 13
def tcWakeAdvances : Nat := 14

/-- Change Ephemeris. -/
def modClk (s : State) (f : Clk → Clk) : State := { s with clk := f s.clk }

/-- Nominal increment (R406). -/
def nominalIncrement : Nat := 0x0000000200000000

/-- Increment of an adjustment in ppb (R406). -/
def incrementOf (adj : Rat) : W64 := BitVec.ofInt 64 ((nominalIncrement : Int) + roundRat (adj * (8589934592 / 1000000000)))

/-- The source list in force: a standby uses TWIN, until the next update after it became active (R408). -/
def sourceList (s : State) : List Nat := if s.role == .standby || s.clk.onTwin then [5] else s.clk.sources

/-- State of a source kind. -/
def srcOf (c : Clk) (kind : Nat) : SourceState := nth SourceState.reset c.srcs (kind - 1)

/-- First valid entry of the list in force, 0 none (R408). -/
def firstValid (s : State) : Nat := ((sourceList s).find? fun k => (srcOf s.clk k).valid).getD 0

/-- e_src of a source kind (R408). -/
def sourceError (c : Clk) (kind : Nat) : Rat := if kind = 4 then (srcOf c 4).errNs else 100

/-- U_time at an instant, ns; none while unset (R414, R555). -/
def uTime (s : State) : Option Rat :=
  match s.clk.u0 with
  | none => none
  | some u =>
    if s.clk.servo == .free then some u
    else some (u + s.clk.cfg.holdoverPpb * ((nowNs s : Rat) - s.clk.tM) / 1000000000)

/-- U_time is below a bound in µs; unset is above every bound. -/
def uTimeBelow (s : State) (us : Nat) : Bool :=
  match uTime s with
  | some u => u < us * 1000
  | none => false

/-- A step is allowed (R411). -/
def stepAllowed (s : State) : Bool :=
  !anyBandEnabled s || s.orbit.state == .idle || s.orbit.state == .acquiring

/-- Next whole multiple of `servo_ms` after an instant (R410). -/
def servoAfter (c : Clk) (t : Nat) : Nat :=
  let p := c.cfg.servoMs * 1000000
  (t / max p 1 + 1) * p

/-- Next whole multiple of `servo_ms` after the present time (R410). -/
def nextServo (c : Clk) : Nat := servoAfter c c.timeNs.toNat

/-- Move the time by `d` ns at one tick, with what R409, R411 and R412 say of measurements. -/
def moveTime (s : State) (d : Int) : State :=
  let before := nowNs s
  let now := (BitVec.ofInt 64 ((before : Int) + d) : W64)
  let s := timeCount s tcSteps
  let s := modClk s fun c =>
    { c with
      timeNs := now, lastStep := d, meas := []
      srcs := c.srcs.map fun x => { x with last := x.last.map (· + d), rejected := x.rejected.map (· + d) }
      lastUpdate := c.lastUpdate.map fun t => ((t : Int) + d).toNat
      ppsOutRise := c.ppsOutRise }
  let s := modClk s fun c => { c with nextUpdate := nextServo c, tM := c.timeNs.toNat }
  stepEffects s before

/-- A host write of the time (R411, R412): the uncertainty and its latch. -/
def hostTimeWrite (s : State) (d : Int) : State :=
  let s := moveTime s d
  modClk s fun c =>
    match sourceList s with
    | [] => { c with u0 := some 0, uncertain := false }
    | k :: _ => { c with u0 := some (sourceError c (if c.source = 0 then k else c.source)) }

/-- Follow the first valid source (R408): a change from one source to another counts and leaves LOCKED (R413). -/
def followSource (s : State) : State :=
  let k := firstValid s
  if k = s.clk.source then s
  else
    let s' := modClk s fun c =>
      { c with
        source := k, meas := [], lockCount := 0
        servo := if c.servo == .locked then .tracking else c.servo }
    if k = 0 || s.clk.source = 0 then s' else timeCount s' tcSwitches

/-- Every listed source is invalid: HOLDOVER after a measurement (R413). -/
def loseSources (s : State) : State :=
  if s.clk.source = 0 && (s.clk.servo == .tracking || s.clk.servo == .locked) then
    modClk s fun c => { c with servo := .holdover, lockCount := 0 }
  else s

/-- A new list is in force (R413, R414): ACQUIRE, or FREE without a list. -/
def enterList (s : State) (u : Option Rat) : State :=
  modClk s fun c =>
    if (sourceList s).isEmpty then { c with servo := .free, source := 0, meas := [], lockCount := 0, u0 := u }
    else { c with servo := .acquire, u0 := u, tM := c.timeNs.toNat, source := 0, meas := [], lockCount := 0 }

/-- A unit becomes a standby: it ignores its list and uses TWIN; a free servo begins to acquire it (R408, log 109). -/
def useTwin (s : State) : State :=
  let u := uTime s
  let free := s.clk.servo == .free
  let s := modClk s fun c => { c with onTwin := true }
  if free then enterList s u else loseSources (followSource s)

/-- The list in force at an update (R408): a unit that is active again returns to its own, and is FREE where that is empty. -/
def updateSource (s : State) : State :=
  let back := s.clk.onTwin && s.role != .standby
  let u := uTime s
  let s := if back then modClk s fun c => { c with onTwin := false } else s
  if back && (sourceList s).isEmpty then enterList s u else if back then loseSources (followSource s) else followSource s

/-- An accepted measurement (R409, R413, R414). -/
def takeMeasurement (s : State) (kind : Nat) (theta err : Rat) : State :=
  let s := modClk s fun c =>
    { c with srcs := modNth c.srcs (kind - 1) fun x =>
      { x with valid := true, last := some theta, rejected := [], errNs := err } }
  let s := if kind = 4 then timeCount s tcParentMeas else s
  let s := followSource s
  if s.clk.source = kind && kind != 0 then
    modClk s fun c =>
      { c with
        meas := c.meas ++ [theta], theta := theta, measAt := some s.upNs, u0 := some (absRat theta + err)
        tM := c.timeNs.toNat
        servo := if c.servo == .acquire || c.servo == .holdover then .tracking else c.servo }
  else s

/-- A measurement θ of a source kind with its error (R409): rejected as an outlier, unless it is the third of three that agree. -/
def measure (s : State) (kind : Nat) (theta err : Rat) : State :=
  let x := srcOf s.clk kind
  let lim : Rat := s.clk.cfg.outlierNs
  match x.last with
  | some l =>
    if absRat (theta - l) ≤ lim then takeMeasurement s kind theta err
    else
      match x.rejected with
      | b :: a :: _ =>
        if absRat (theta - a) ≤ lim && absRat (theta - b) ≤ lim && absRat (a - b) ≤ lim then takeMeasurement s kind theta err
        else timeCount (modClk s fun c =>
          { c with srcs := modNth c.srcs (kind - 1) fun x => { x with rejected := [theta, b] } }) tcOutliers
      | r => timeCount (modClk s fun c =>
          { c with srcs := modNth c.srcs (kind - 1) fun x => { x with rejected := theta :: r } }) tcOutliers
  | none => takeMeasurement s kind theta err

/-- A source kind becomes invalid (R408). -/
def invalidate (s : State) (kind : Nat) : State :=
  let s := modClk s fun c =>
    { c with
      srcs := modNth c.srcs (kind - 1) fun x => { x with valid := false, rejected := [] }
      ptp := if kind = 1 || kind = 2 then modNth c.ptp (kind - 1) fun p => { p with master := none, exchange := none } else c.ptp }
  loseSources (followSource s)

/-- Mean of the measurements accepted since the last update. -/
def meanOf (l : List Rat) : Rat := l.foldl (· + ·) 0 / (l.length : Rat)

/-- The lock rule of R413 at an update with θ. -/
def lockRule (c : Clk) (theta : Rat) : Clk :=
  let close := absRat theta < (c.cfg.lockNs : Rat)
  let n := if close then c.lockCount + 1 else 0
  if c.servo == .locked && absRat theta > 4 * (c.cfg.lockNs : Rat) then { c with servo := .tracking, lockCount := 0 }
  else if c.servo == .tracking && 8 ≤ n then { c with servo := .locked, lockCount := 8 }
  else { c with lockCount := min n 8 }

/-- The frequency update of R410 with θ and the seconds since the last one. -/
def slew (s : State) (theta ts : Rat) : State :=
  let c := s.clk
  let lim : Rat := c.cfg.clampPpb
  let p := (c.cfg.kp : Rat) / 65536 * theta / ts
  let i := clampRat (c.iAcc + (c.cfg.ki : Rat) / 65536 * theta / ts) (-lim) lim
  let target := clampRat (-(p + i)) (-lim) lim
  let d : Rat := c.cfg.dadjMaxPpb
  let adj := if enginePlans s then c.adj + clampRat (target - c.adj) (-d) d else target
  modClk s fun c => { c with iAcc := i, adj := adj, increment := incrementOf adj }

/-- A servo update at its instant (R410 to R414, R427); however late it is, the following update keeps its instant (R42). -/
def servoUpdate (s : State) : State :=
  let at' := s.clk.nextUpdate
  let s := updateSource s
  let s := modClk s fun c => { c with nextUpdate := servoAfter c at' }
  if s.clk.meas.isEmpty then s
  else
    let theta := meanOf s.clk.meas
    let since := match s.clk.lastUpdate with | some t => (at' : Rat) - t | none => s.clk.cfg.servoMs * 1000000
    let ts := (if since ≤ 0 then (s.clk.cfg.servoMs * 1000000 : Rat) else since) / 1000000000
    let s := timeCount s tcUpdates
    let s := modClk s fun c => { c with meas := [], lastUpdate := some at' }
    let s :=
      if s.clk.cfg.stepThrNs != 0 && absRat theta > (s.clk.cfg.stepThrNs : Rat) && stepAllowed s then
        let err := sourceError s.clk s.clk.source
        modClk (moveTime s (-(roundRat theta))) fun c => { c with u0 := some err }
      else slew s theta ts
    let s := modClk s fun c => lockRule c theta
    if uTimeBelow s s.orbit.uncThresholdUs then modClk s fun c => { c with uncertain := false } else s

/-- SERVO_UPDATE: an update whose instant has come (R410). -/
def servoUpdateOp (s : State) : State := if s.clk.frozen.isNone && s.clk.nextUpdate ≤ nowNs s then servoUpdate s else s

/-! PTP (R417, R418). -/

/-- Big-endian bytes of a PTP time stamp: 48 bits of seconds and 32 of nanoseconds. -/
def ptpStamp (t : Nat) : List Byte := beBytes 6 (t / 1000000000) ++ beBytes 4 (t % 1000000000)

/-- A PTP message of a port, from its Ethernet header on (IEEE 1588-2019 over EtherType 0x88F7; a tag as the port has one). -/
def ptpFrame (s : State) (port type seq : Nat) (interval : Int) (body : List Byte) : List Byte :=
  let p := nth EthPort.reset s.route.ports port
  let q := nth PtpPort.reset s.clk.ptp port
  let tag : List Byte := if p.vlanId = 0 then [] else [0x81, 0x00] ++ beBytes 2 (p.vlanPcp * 8192 + p.vlanId)
  let flags := if type = 0 && q.twoStep then 0x0200 else if type = 11 then 0x0008 else 0
  ([0x01, 0x1B, 0x19, 0, 0, 0] : List Byte) ++ beBytes 6 p.mac.toNat ++ tag ++ ([0x88, 0xF7] : List Byte)
    ++ ([BitVec.ofNat 8 type, 2] : List Byte) ++ beBytes 2 (34 + body.length) ++ [BitVec.ofNat 8 q.domain, 0] ++ beBytes 2 flags
    ++ beBytes 8 0 ++ beBytes 4 0 ++ beBytes 8 s.crypt.routerEui.toNat ++ beBytes 2 (port + 1) ++ beBytes 2 seq
    ++ [BitVec.ofNat 8 (match type with | 0 => 0 | 1 => 1 | 8 => 2 | 9 => 3 | _ => 5), BitVec.ofInt 8 interval] ++ body

/-! Ethernet counters in the order of R317. -/

def ecRxFrames : Nat := 0
def ecRxFcs : Nat := 1
def ecOverrun : Nat := 2
def ecVlan : Nat := 3
def ecNotOurs : Nat := 4
def ecNsAnswered : Nat := 5
def ecHostLong : Nat := 6
def ecHairpin : Nat := 7
def ecTxFrames : Nat := 8
def ecTxDrop : Nat := 9
def ecTooBig : Nat := 10
def ecNoNeighbour : Nat := 11

/-- Change an Ethernet port. -/
def modEth (s : State) (port : Nat) (f : EthPort → EthPort) : State :=
  { s with route := { s.route with ports := modNth s.route.ports port f } }

/-- Add one to an Ethernet counter (R317). -/
def ethCount (s : State) (port i : Nat) : State := modEth s port fun p => { p with counters := bump p.counters i }

/-- Send a frame on an Ethernet port; while the Eclipse gate is closed it is held in the egress FIFO (R314, R442). -/
def ethSendOne (s : State) (port : Nat) (frame : List Byte) : State :=
  if s.pair.gateOpen then ethCount (modEth s port fun p => { p with sent := p.sent ++ [frame] }) port ecTxFrames
  else if 256 ≤ (nth EthPort.reset s.route.ports port).txFifo.length then ethCount s port ecTxDrop
  else modEth s port fun p => { p with txFifo := p.txFifo ++ [frame] }

/-- Send frames on an Ethernet port in order. -/
def ethSend (s : State) (port : Nat) (frames : List (List Byte)) : State := frames.foldl (fun s f => ethSendOne s port f) s

/-- The port exists for PTP: its mode is on and its link up (R318, R431). -/
def ptpLive (s : State) (port : Nat) : Bool :=
  let p := nth EthPort.reset s.route.ports port
  p.mode != 0 && p.up

def ptpOf (s : State) (port : Nat) : PtpPort := nth PtpPort.reset s.clk.ptp port

def modPtp (s : State) (port : Nat) (f : PtpPort → PtpPort) : State := modClk s fun c => { c with ptp := modNth c.ptp port f }

/-- The dataset of an Announce in the order the standard compares. -/
def announceKey (a : PtpAnnounce) : List Nat :=
  [a.priority1.toNat, a.clockClass.toNat, a.accuracy.toNat, a.variance.toNat, a.priority2.toNat, a.gmIdentity.toNat
  , a.stepsRemoved.toNat, a.sender.toNat]

/-- Lexicographic order. -/
def listLt : List Nat → List Nat → Bool
  | [], _ => false
  | _ :: _, [] => false
  | a :: as, b :: bs => if a < b then true else if b < a then false else listLt as bs

/-- A time-stamp queue entry of a PTP event message the part sends (R418). -/
def ptpReport (s : State) (port : Nat) (seq : W16) (ns : Nat) : State :=
  if (ptpOf s port).tsReport then tsPush s (3 + port) seq (BitVec.ofNat 64 ns) 0 else s

/-- A message or an edge of a source has come (R408). -/
def heardSource (s : State) (kind : Nat) : State :=
  modClk s fun c => { c with srcs := modNth c.srcs (kind - 1) fun x => { x with heardAt := s.upNs } }

/-- An interval of 2^log seconds, in ns (R417). -/
def logInterval (log : Int) : Nat := if log < 0 then 1000000000 / 2 ^ (-log).toNat else 1000000000 * 2 ^ log.toNat

/-- The last one was sent an interval ago or more. -/
def intervalDue (s : State) (last : Option Nat) (log : Int) : Bool :=
  match last with
  | some t => decide (t + logInterval log ≤ s.upNs)
  | none => true

/-- SOURCE_INVALID (R408): three Syncs missing or the Announce timeout of a PTP source, three seconds without a 1PPS edge; the time
parent and the twin become invalid with their own events. -/
def sourceInvalidOp (s : State) (kind : Nat) : State :=
  let x := srcOf s.clk kind
  let due :=
    if kind = 1 || kind = 2 then
      let q := ptpOf s (kind - 1)
      decide (x.heardAt + 3 * logInterval q.logSync ≤ s.upNs)
        || match q.master with | some ms => decide (ms.heardAt + 3 * logInterval q.logAnnounce ≤ s.upNs) | none => true
    else kind = 3 && decide (x.heardAt + 3000000000 ≤ s.upNs)
  if x.valid && due then invalidate s kind else s

/-- A Sync with its origin time reaches a slave port (R408, R417): it starts an exchange, and the port sends its Delay_Req. -/
def ptpSyncRxOp (s : State) (port : Nat) (m : PtpSync) : State :=
  let q := ptpOf s port
  if !ptpLive s port || s.clk.frozen.isSome then s
  else if m.unsupported then timeCount s tcRejected
  else
    match q.role, q.master with
    | 1, some ms =>
      if m.domain.toNat != q.domain || m.sender != ms.announce.sender then s
      else
        let t2 := m.t2 - (q.ethRxNs : Int)
        let t3 := m.t3 + (q.ethTxNs : Int)
        let s := heardSource (timeCount s tcSyncRx) (port + 1)
        let s := modPtp s port fun q => { q with exchange := some (m.seqId, m.t1, t2, t3) }
        let s := ethSend s port [ptpFrame s port 1 m.seqId.toNat 0x7F (ptpStamp 0)]
        ptpReport s port m.seqId t3.toNat
    | _, _ => s

/-- A Delay_Resp completes the exchange and gives a measurement (R408). -/
def ptpDelayRespOp (s : State) (port : Nat) (m : PtpDelayResp) : State :=
  let q := ptpOf s port
  if !ptpLive s port || s.clk.frozen.isSome then s
  else if m.unsupported then timeCount s tcRejected
  else
    match q.role, q.master, q.exchange with
    | 1, some ms, some (seq, t1, t2, t3) =>
      if m.domain.toNat != q.domain || m.sender != ms.announce.sender || m.seqId != seq then s
      else
        let s := timeCount (modPtp s port fun q => { q with exchange := none }) tcDelayDone
        measure s (port + 1) ((((t2 - t1) - (m.t4 - t3) : Int) : Rat) / 2) 100
    | _, _, _ => s

/-- An Announce reaches a slave port (R417): the port follows the best sender. -/
def ptpAnnounceOp (s : State) (port : Nat) (m : PtpAnnounce) : State :=
  let q := ptpOf s port
  if !ptpLive s port then s
  else if m.unsupported then timeCount s tcRejected
  else if q.role != 1 || m.domain.toNat != q.domain then s
  else
    let better := match q.master with
      | none => true
      | some ms => ms.announce.sender == m.sender || listLt (announceKey m) (announceKey ms.announce)
    if !better then s
    else
      let same := match q.master with | some ms => ms.announce.sender == m.sender | none => false
      let s := timeCount s tcAnnounceRx
      let s := modPtp s port fun q => { q with master := some ⟨m, s.upNs⟩, exchange := if same then q.exchange else none }
      modClk s fun c => { c with utcOffset := m.utcOffset }

/-- `clockClass` of a master port (R418). -/
def masterClass (s : State) (q : PtpPort) : Nat :=
  match s.clk.servo with
  | .locked => q.classLocked | .holdover => q.classHoldover | _ => q.classFree

/-- `stepsRemoved` advertised (R418). -/
def stepsRemoved (s : State) : Nat :=
  match s.clk.source with
  | 1 => match (ptpOf s 0).master with | some m => m.announce.stepsRemoved.toNat + 1 | none => 0
  | 2 => match (ptpOf s 1).master with | some m => m.announce.stepsRemoved.toNat + 1 | none => 0
  | _ => 0

/-- A master port sends: it is master-only, live, and `router_eui` is set (R417). -/
def masterSends (s : State) (port : Nat) : Bool :=
  (ptpOf s port).role == 2 && ptpLive s port && s.crypt.routerEui != 0 && s.clk.frozen.isNone

/-- A master port sends a Sync, with a Follow_Up in two-step operation (R417, R418). -/
def ptpSyncTxOp (s : State) (port : Nat) : State :=
  if !masterSends s port || !intervalDue s (ptpOf s port).syncSentAt (ptpOf s port).logSync then s
  else
    let q := ptpOf s port
    let t := nowNs s + q.ethTxNs
    let sync := ptpFrame s port 0 q.syncSeq.toNat q.logSync (ptpStamp (if q.twoStep then 0 else t))
    let follow := ptpFrame s port 8 q.syncSeq.toNat q.logSync (ptpStamp t)
    let s := ethSend s port (if q.twoStep then [sync, follow] else [sync])
    let s := ptpReport (timeCount s tcSyncTx) port q.syncSeq t
    modPtp s port fun q => { q with syncSeq := q.syncSeq + 1, syncSentAt := some s.upNs }

/-- A master port sends an Announce (R418). The dataset fields that the manual gives no value are 0 (log 21). -/
def ptpAnnounceTxOp (s : State) (port : Nat) : State :=
  if !masterSends s port || !intervalDue s (ptpOf s port).annSentAt (ptpOf s port).logAnnounce then s
  else
    let q := ptpOf s port
    let body := ptpStamp 0 ++ beBytes 2 s.clk.utcOffset.toNat ++ [0, 0] ++ [BitVec.ofNat 8 (masterClass s q), 0] ++ beBytes 2 0
      ++ [0] ++ beBytes 8 s.crypt.routerEui.toNat ++ beBytes 2 (stepsRemoved s) ++ [0]
    let s := ethSend s port [ptpFrame s port 11 q.announceSeq.toNat q.logAnnounce body]
    modPtp s port fun q => { q with announceSeq := q.announceSeq + 1, annSentAt := some s.upNs }

/-- A master port answers a Delay_Req (R417). -/
def ptpDelayReqOp (s : State) (port : Nat) (m : PtpDelayReq) : State :=
  if !ptpLive s port then s
  else if m.unsupported then timeCount s tcRejected
  else if !masterSends s port || m.domain.toNat != (ptpOf s port).domain then s
  else
    let t := (m.ingress - ((ptpOf s port).ethRxNs : Int)).toNat
    ethSend s port [ptpFrame s port 9 m.seqId.toNat 0x7F (ptpStamp t ++ beBytes 10 m.sender.toNat)]

/-! Edges. -/

/-- A `PPS_IN` edge (R408, R424): its stamp less `pps_in_ns`, against the nearest whole second. -/
def ppsInOp (s : State) : State :=
  if s.clk.frozen.isSome then s
  else
    let x := (((nowNs s : Int) - s.clk.ppsInNs) % 1000000000)
    let theta := if x ≥ 500000000 then x - 1000000000 else x
    measure (heardSource (timeCount s tcPpsIn) 3) 3 theta 100

/-- An edge on a capture pin (R422), and the triggers of kind 4 on it (R423). -/
def captureOp (s : State) (pin : Nat) (rising : Bool) : State :=
  let p := nth PinProg.reset s.clk.pins pin
  let hit := match p.mode with | 3 => rising | 4 => !rising | 5 => true | _ => false
  if s.clk.frozen.isSome || !hit then s
  else
    let full := 16 ≤ p.fifo.length
    let stamp : W64 := BitVec.ofInt 64 ((nowNs s : Int) - p.delayNs)
    let s := if full then timeCount s tcCaptureLost
      else modClk s fun c => { c with pins := modNth c.pins pin fun p => { p with fifo := p.fifo ++ [stamp] } }
    if full then s
    else (List.range 14).foldl (fun s i =>
      match s.clk.trigs[i]? with
      | some g => if g.kind = 4 && g.pin = pin then fireTrigger s i else s
      | none => s) s

/-- An output edge of an event pin falls due: its time, or its time and `pin_out_ns`, has come (R420). -/
def eventPinOp (s : State) (pin : Nat) : State :=
  let p := nth PinProg.reset s.clk.pins pin
  match p.nextEdge with
  | some t => if t + p.delayNs ≤ nowNs s then modClk s fun c => { c with pins := modNth c.pins pin fun p => pinEdge p t } else s
  | none => s

/-- Level of an event pin at the ball: its program's, or `idle_level` while the Eclipse gate is closed (R421). -/
def pinLevel (s : State) (pin : Nat) : Bool :=
  let p := nth PinProg.reset s.clk.pins pin
  if s.pair.gateOpen then p.out else p.idleLevel

/-- `PPS_OUT` rises at a whole second less `pps_out_ns` (R424). -/
def ppsOutOp (s : State) : State :=
  let t := nowNs s + s.clk.ppsOutNs
  let sec := t / 1000000000
  let due := match s.clk.ppsOutRise with
    | none => true
    | some r => (r + s.clk.ppsOutNs) / 1000000000 < sec
  if s.clk.frozen.isSome || !due then s
  else modClk s fun c => { c with ppsOutRise := some (sec * 1000000000 - s.clk.ppsOutNs) }

/-- Level of `PPS_OUT` (R424). -/
def ppsOutLevel (s : State) : Bool :=
  match s.clk.ppsOutRise with
  | some r => decide (nowNs s < r + s.clk.ppsWidthUs * 1000)
  | none => false

/-- A window of 32,768 RTC periods ends with the nanoseconds counted (R425). -/
def rtcWindowOp (s : State) (ns : Nat) : State :=
  if s.clk.frozen.isSome then s
  else
    let q := ((ns : Rat) / 32768)
    let r : Rat := (((q * 4294967296).floor : Int) : Rat) / 4294967296
    modClk s fun c => { c with rRtc := r, rtcAt := s.upNs }

/-- Ephemeris freezes at the RTC edge of step 1 of R426. -/
def freezeClock (s : State) : State :=
  if s.clk.frozen.isSome then s
  else modClk s fun c => { c with frozen := some { tFreeze := c.timeNs, fracFreeze := c.timeFrac, atNs := s.upNs } }

/-- Ephemeris resumes after `periods` RTC periods (R426 step 4, R427). -/
def resumeClock (s : State) (periods : Nat) : State :=
  match s.clk.frozen with
  | none => s
  | some f =>
    let gap : Rat := (periods : Rat) * s.clk.rRtc
    let t := f.tFreeze.toNat * 4294967296 + f.fracFreeze.toNat + (gap * 4294967296).floor.toNat
    let u := (uTime s).map fun u => u + gap * 50 / 1000000 + 31000
    let s := timeCount s tcWakeAdvances
    let s := modClk s fun c =>
      { c with
        timeNs := BitVec.ofNat 64 (t / 4294967296), timeFrac := BitVec.ofNat 32 t, frozen := none, u0 := u
        servo := if c.servo == .free then .free else .holdover
        uncertain := true, uncFrom := s.upNs }
    let s := modClk s fun c => { c with tM := c.timeNs.toNat, nextUpdate := nextServo c }
    let s := passEdges s
    if numbering s then
      let n := asnAt s (nowNs s)
      { s with orbit := { s.orbit with slot := some n, prepared := some (max n (s.orbit.prepared.getD 0)) } }
    else s

/-- `unc_free_s` lapses with an empty list (R427, R555). -/
def uncFreeOp (s : State) : State :=
  if (sourceList s).isEmpty && s.clk.uncFrom + s.clk.uncFreeS * 1000000000 ≤ s.upNs && (s.clk.uncertain || s.clk.u0.isNone) then
    modClk s fun c => { c with u0 := some 0, tM := c.timeNs.toNat, uncertain := false }
  else s

/-- TIME per-function reset (R96, R428). -/
def timeReset (s : State) : State :=
  modClk s fun c =>
    { c with
      iAcc := 0, meas := [], lastUpdate := none, lockCount := 0, measAt := none
      srcs := c.srcs.map fun x => { x with last := none, rejected := [] }
      servo := if (sourceList s).isEmpty then .free else .acquire }

/-! TIME commands (R430, R431). -/

/-- Saturate to a signed 32-bit word. -/
def sat32 (x : Int) : Nat := unsignedOf 32 (clampInt x (-2147483648) 2147483647)

def timeStatus : Cmd where
  apply := getter fun _ s =>
    let c := s.clk
    let unc := match uTime s with
      | none => 0xFFFFFFFF
      | some u => (clampInt (ceilRat (u / 1000)) 0 0xFFFFFFFF).toNat
    let age := match c.measAt with | none => 0xFFFFFFFF | some t => min ((s.upNs - t) / 1000000) 0xFFFFFFFF
    okData (leBytes 1 c.servo.ctorIdx ++ leBytes 1 c.source ++ leBytes 1 (natOf c.uncertain + 2 * natOf (stepAllowed s)) ++ [0]
      ++ leBytes 4 (sat32 (roundRat c.adj)) ++ leBytes 4 unc ++ leBytes 4 (sat32 (roundRat c.theta)) ++ leBytes 8 c.increment.toNat
      ++ leBytes 2 c.utcOffset.toNat ++ leBytes 2 (stepsRemoved s) ++ leBytes 4 age ++ leBytes 8 (unsignedOf 64 c.lastStep))

def timeSet : Cmd where
  check := fun _ _ s => refuseIf (!stepAllowed s) stRefusedState
  apply := setter fun e s =>
    modClk (hostTimeWrite s ((argBits e 63 0 : Int) - (nowNs s : Int))) fun c => { c with timeFrac := 0 }

def timeAdjust : Cmd where
  check := fun _ _ s => refuseIf (!stepAllowed s) stRefusedState
  apply := setter fun e s => hostTimeWrite s (argSigned e 63 0)

/-- The kinds a `TIME_SOURCE_SET` names. -/
def sourceKinds (e : CmdEntry) : List Nat := (List.range (argBits e 2 0)).map fun i => argBits e (10 + 4 * i) (8 + 4 * i)

/-- Install a source list (R408, R413, R414): from an empty list the servo enters ACQUIRE, to an empty one FREE. -/
def installSources (s : State) (l : List Nat) : State :=
  let u := uTime s
  let s := enterList (modClk s fun c => { c with sources := l }) u
  if (sourceList s).isEmpty then s
  else modClk s fun c => { c with srcs := c.srcs.map fun x => { x with valid := false, last := none, rejected := [] } }

def timeSourceSet : Cmd where
  args := fun e _ => argBits e 2 0 ≤ 4 && (sourceKinds e).all (fun k => 1 ≤ k && k ≤ 5)
  apply := setter fun e s => installSources s (sourceKinds e)
  sets := fun _ _ => [(0x0B04, 0)]

def timePtpPort : Cmd where
  args := fun e _ => argBits e 2 1 ≤ 2 && argBits e 79 64 ≤ 10000 && argBits e 95 80 ≤ 10000
    && (argBits e 2 1 != 1 || (-7 ≤ argSigned e 19 16 && argSigned e 19 16 ≤ 4))
    && (argBits e 2 1 != 2 || (-4 ≤ argSigned e 19 16 && argSigned e 19 16 ≤ 1))
  apply := setter fun e s => modPtp s (argBits e 0 0) fun q =>
    { q with
      role := argBits e 2 1, twoStep := argBit e 3, tsReport := argBit e 4, domain := argBits e 15 8
      logSync := argSigned e 19 16, logAnnounce := argSigned e 23 20, classLocked := argBits e 39 32
      classHoldover := argBits e 47 40, classFree := argBits e 55 48, ethRxNs := argBits e 79 64, ethTxNs := argBits e 95 80
      master := if argBits e 2 1 = q.role && argBits e 15 8 = q.domain then q.master else none
      exchange := none }
  sets := fun e _ => [(0x0B05, argBits e 0 0)]

def timePpsConfig : Cmd where
  args := fun e _ => 1 ≤ argBits e 50 32 && argBits e 50 32 ≤ 500000
  apply := setter fun e s => modClk s fun c =>
    { c with ppsInNs := argBits e 15 0, ppsOutNs := argBits e 31 16, ppsWidthUs := argBits e 50 32 }
  sets := fun _ _ => [(0x0B06, 0)]

/-- Ranges of a pin program (R420): mode 0 to 6, delay to 1,000 ns, a period of at least 10 ns and a width inside it. -/
def pinRanges (e : CmdEntry) : Bool :=
  argBits e 6 4 ≤ 6 && argBits e 31 16 ≤ 1000
    && (argBits e 6 4 != 2 ||
      (10 ≤ argBits e 167 128 && 4 ≤ argBits e 231 192 && argBits e 231 192 + 4 ≤ argBits e 167 128))

def timePinConfig : Cmd where
  args := fun e _ => pinRanges e
  check := fun _ e s =>
    refuseIf ((argBits e 6 4 = 1 || argBits e 6 4 = 2) && argBits e 127 64 < nowNs s) stBadArg
  apply := setter fun e s => modClk s fun c => { c with pins := modNth c.pins (argBits e 3 0) fun p =>
    { mode := argBits e 6 4, level := argBit e 7, idleLevel := argBit e 8, trig := argBits e 15 12, delayNs := argBits e 31 16
      tNs := argBits e 127 64, periodNs := argBits e 167 128, widthNs := argBits e 231 192, out := argBit e 8
      nextEdge := if argBits e 6 4 = 1 || argBits e 6 4 = 2 then some (argBits e 127 64) else none, fifo := p.fifo } }
  sets := fun e _ => [(0x0B07, argBits e 3 0)]

def timeTriggerConfig : Cmd where
  args := fun e _ => argBits e 3 0 ≤ 13 && argBits e 6 4 ≤ 4 && (argBits e 6 4 != 2 || 1000 ≤ argBits e 167 128)
    && (argBits e 6 4 != 3 || 1 ≤ argBits e 55 32)
  apply := setter fun e s =>
    let now := nowNs s
    let t := argBits e 127 64
    let nxt := match argBits e 6 4 with
      | 1 => if now < t then some t else none
      | 2 => some (if now < t then t else nextOnGrid t (argBits e 167 128) now)
      | _ => none
    modClk s fun c => { c with trigs := modNth c.trigs (argBits e 3 0) fun _ =>
      { kind := argBits e 6 4, pin := argBits e 11 8, every := argBits e 55 32, tNs := t, periodNs := argBits e 167 128
        asnBase := argBits e 231 192, nextFire := nxt } }
  sets := fun e _ => [(0x0B08, argBits e 3 0)]

def timeCaptureRead : Cmd where
  apply := fun _ e s =>
    let p := nth PinProg.reset s.clk.pins (argBits e 3 0)
    (modClk s fun c => { c with pins := modNth c.pins (argBits e 3 0) fun p => { p with fifo := [] } },
      okData (p.fifo.flatMap fun t => leBytes 8 t.toNat))

def timeParentDelay : Cmd where
  args := fun e _ => argBits e 31 16 ≤ 60000
  apply := setter fun e s => modClk s fun c => { c with parentDelay := modNth c.parentDelay (argBits e 2 0) fun _ => argBits e 31 16 }
  sets := fun e _ => [(0x0B0A, argBits e 2 0)]

def timeCounters : Cmd where
  apply := fun _ e s =>
    ((if argBit e 0 then modClk s fun c => { c with counters := clearCtrs c.counters } else s), okData (ctrBytes s.clk.counters))

def timeServoSet : Cmd where
  args := fun e _ =>
    1 ≤ argBits e 50 32 && argBits e 50 32 ≤ 500000 && 1 ≤ argBits e 80 64 && argBits e 80 64 ≤ 100000
      && 10 ≤ argBits e 109 96 && argBits e 109 96 ≤ 16000 && argBits e 159 128 ≤ 1000000000
      && 50 ≤ argBits e 191 160 && argBits e 191 160 ≤ 1000000 && 10 ≤ argBits e 208 192 && argBits e 208 192 ≤ 100000
      && 1000 ≤ argBits e 243 224 && argBits e 243 224 ≤ 1000000
  apply := setter fun e s =>
    let u := uTime s
    let lim : Rat := argBits e 50 32
    let s := modClk s fun c =>
      { c with
        cfg := { kp := argBits e 15 0, ki := argBits e 31 16, clampPpb := argBits e 50 32, dadjMaxPpb := argBits e 80 64
                 servoMs := argBits e 109 96, stepThrNs := argBits e 159 128, lockNs := argBits e 191 160
                 holdoverPpb := argBits e 208 192, outlierNs := argBits e 243 224 }
        u0 := u, tM := c.timeNs.toNat, iAcc := clampRat c.iAcc (-lim) lim
        adj := clampRat c.adj (-lim) lim
        increment := if absRat c.adj ≤ lim then c.increment else incrementOf (clampRat c.adj (-lim) lim) }
    modClk s fun c => { c with nextUpdate := nextServo c }
  sets := fun _ _ => [(0x0B41, 0)]

def timeIncrementSet : Cmd where
  args := fun e s => ((argBits e 63 0 : Int) - nominalIncrement).natAbs
    ≤ (roundRat ((s.clk.cfg.clampPpb : Rat) * (8589934592 / 1000000000))).toNat
  check := fun _ _ s => refuseIf (!s.clk.sources.isEmpty) stRefusedState
  apply := setter fun e s => modClk s fun c =>
    { c with
      increment := BitVec.ofNat 64 (argBits e 63 0)
      adj := (((argBits e 63 0 : Int) - nominalIncrement : Int) : Rat) / (8589934592 / 1000000000) }
  sets := fun _ _ => [(0x0B42, 0)]

def timeUncClear : Cmd where
  args := fun e _ => 10 ≤ argBits e 15 0
  apply := setter fun e s => modClk s fun c =>
    if argBit e 16 then { c with uncFreeS := argBits e 15 0, u0 := some 0, tM := c.timeNs.toNat, uncertain := false }
    else { c with uncFreeS := argBits e 15 0 }

def timeRtcStatus : Cmd where
  apply := getter fun _ s =>
    okFigures [(s.clk.rRtc * 4294967296).floor, (s.upNs - s.clk.rtcAt) / 1000000, (nth 0 s.clk.counters tcWakeAdvances).toNat]

end Sys2Proof.Machine
end

