-- ==== Sys2Proof/Machine/Link.lean ====
section
/-! DEFINITION. What the part sends on the pair link, and the effects it holds until the standby acknowledges (R433, R445,
R446, R456). -/

namespace Sys2Proof.Machine

/-- Some message waits that holds back launches which follow from a table change or an offer (R445). -/
def launchHeld (s : State) : Bool := s.pair.waits.any fun w => w.hold == .launch

/-- Some message waits that holds back launches under a newly advanced epoch (R140). -/
def epochHeld (s : State) : Bool := s.pair.waits.any fun w => w.hold == .epoch

/-- Replicate an offer to a node or its acceptance; its launch waits (R445). -/
def replicateOffer (s : State) (node : Nat) (payload : List Byte) : State :=
  if replicating s then linkHold (linkSend s lmConfig (leBytes 4 node ++ payload)) .launch else s

/-- Replicate an epoch record; launches under it wait (R445, R447). -/
def replicateEpoch (s : State) (r : EpochRec) : State :=
  if replicating s then
    linkHold (linkSend s lmEpoch ([r.genCur] ++ leBytes 2 r.epochCur.toNat ++ [r.genPrev] ++ leBytes 2 r.epochPrev.toNat)) .epoch
  else s

end Sys2Proof.Machine
end

