-- ==== Sys2Proof/Machine/Calendar.lean ====
section
/-! DEFINITION. Tag classes, the clock model of a node (R236 to R242) and the wake calendar (R229 to R231, R556). -/

namespace Sys2Proof.Machine

/-! Orbit counters in the order of R263. -/

def ocPlanned : Nat := 0
def ocDeferred : Nat := 1
def ocLaunched : Nat := 2
def ocAcked : Nat := 3
def ocNoSlack : Nat := 4
def ocBlocked : Nat := 5
def ocMiss : Nat := 6
def ocAdriftEntry : Nat := 7
def ocAdriftReturn : Nat := 8
def ocSamples : Nat := 9
def ocOutliers : Nat := 10
def ocRestart : Nat := 11
def ocDuplicate : Nat := 12
def ocReplay : Nat := 13
def ocRateReq : Nat := 14
def ocDwell : Nat := 15
def ocBeacon : Nat := 16
def ocParentBeacon : Nat := 17
def ocParentMissed : Nat := 18
def ocParentAsn : Nat := 19
def ocOverrun : Nat := 20
def ocSched : Nat := 21

/-- Change the Orbit engine. -/
def modOrbit (s : State) (f : Orbit → Orbit) : State := { s with orbit := f s.orbit }

/-- Change the node table. -/
def modNodes (s : State) (f : NodeDom → NodeDom) : State := { s with node := f s.node }

/-- Change the entry at an index. -/
def modNode (s : State) (i : Nat) (f : NodeEntry → NodeEntry) : State :=
  modNodes s fun d => { d with table := mapMod d.table i f }

/-- The entry at an index. -/
def nodeAt (s : State) (i : Nat) : Option NodeEntry := mapGet s.node.table i

/-! Classes (R224). -/

/-- A loaded tag class. -/
def classOf (s : State) (id : Nat) : Option TagClass := mapGet s.orbit.classes id

/-- Contact profile of a class on a band, 0 where it forbids the band. -/
def classProfile (c : TagClass) (band : Nat) : Nat :=
  match band with | 0 => c.profileA | 1 => c.profileB | 2 => c.profileC | _ => 0

/-- The band a class allows first, in the order A, B, C (R307). -/
def firstBand (c : TagClass) : Nat := if c.profileA != 0 then 0 else if c.profileB != 0 then 1 else 2

/-- Contact profile of a node. -/
def nodeProfile (s : State) (n : NodeEntry) : Option AirProfile :=
  (classOf s n.classId).bind fun c => profileOf s (classProfile c n.band)

/-! The clock model. -/

/-- d, ppm (R229). -/
def driftPpm (n : NodeEntry) : Rat := (n.driftQ : Rat) / 256

/-- p(t) = o_r + d × (t − T_r), ns (R237). -/
def predictNs (n : NodeEntry) (t : Int) : Rat := (n.refOff : Rat) + driftPpm n * ((t : Rat) - (n.refNs : Rat)) / 1000000

/-- A LEARNED node with an estimate (R238). -/
def hasEstimate (c : TagClass) (n : NodeEntry) : Bool := !c.aged && n.samples != 0

/-- The aim of a contact, ns (R238). -/
def aimNs (c : TagClass) (n : NodeEntry) (t : Int) : Rat := if hasEstimate c n then predictNs n t else (n.refOff : Rat)

/-- U of a contact, ns, without U_time (R238). -/
def ownUncertainty (c : TagClass) (n : NodeEntry) (t : Int) : Rat :=
  let dt := (t : Rat) - (n.refNs : Rat)
  if hasEstimate c n then (c.residCppm : Rat) * dt * (2 ^ n.misses : Nat) / 100000000
  else (c.agedPpm : Rat) * dt * (2 ^ n.misses : Nat) / 1000000

/-- G of a contact, ns (R238): an unset U_time is above every guard. -/
def guardNs (s : State) (c : TagClass) (n : NodeEntry) (t : Int) : Rat :=
  let top : Rat := (c.guardMaxUs * 1000 : Nat)
  match n.adrift, uTime s with
  | false, some u => clampRat ((c.guardMinUs * 1000 : Nat) + ownUncertainty c n t + u) 0 top
  | _, _ => top

/-- Guard of a follow-up (R239): U = U_time. -/
def followGuardNs (s : State) (c : TagClass) (n : NodeEntry) : Rat :=
  let top : Rat := (c.guardMaxUs * 1000 : Nat)
  match n.adrift, uTime s with
  | false, some u => clampRat ((c.guardMinUs * 1000 : Nat) + u) 0 top
  | _, _ => top

/-- Signed 32-bit saturation of an offset. -/
def sat32i (x : Int) : Int := clampInt x (-2147483648) 2147483647

/-- Drift as its Q8.8 number, −128 to +127.996 ppm (R240). -/
def driftOf (ppm : Rat) : Int := clampInt (roundRat (ppm * 256)) (-32768) 32767

/-- The reference a new measurement is judged against (R237): the tentative one, or its alternative where that leaves the
smaller residual; a duplicate settles it in favour of the alternative. -/
def settleRef (n : NodeEntry) (e : Int) (t : Nat) (dup : Bool) : NodeEntry :=
  if !n.altValid then n
  else
    let alt := { n with refOff := n.altOff }
    let use := dup || absRat ((e : Rat) - predictNs alt t) < absRat ((e : Rat) - predictNs n t)
    { (if use then alt else n) with altValid := false }

/-- Which counter a sample advances beside the model. -/
inductive SampleFate where
  | none | applied | rejected | restarted
deriving DecidableEq, Repr

/-- The filter's step for a measurement `e` at `t` against the settled reference (R240, R241). -/
def filterStep (c : TagClass) (n : NodeEntry) (e : Int) (t : Nat) : NodeEntry × SampleFate :=
  if t < n.refNs + 4000000000 then (n, .none)
  else
    let s : Rat := ((e : Rat) - (n.refOff : Rat)) * 1000000 / ((t : Rat) - (n.refNs : Rat))
    let q := s - driftPpm n
    if n.samples != 0 && (c.outlierCppm : Rat) / 100 < absRat q then
      if n.outliers && n.outlierNeg == decide (q < 0) then
        ({ n with driftQ := driftOf s, samples := 1, outliers := false, outlierNeg := false }, .restarted)
      else ({ n with outliers := true, outlierNeg := decide (q < 0) }, .rejected)
    else
      let g : Rat := 1 / (2 ^ c.gainShift : Nat)
      let r : Rat := 1 / (n.samples + 1 : Nat)
      let a := if n.samples < 7 && g < r then r else g
      let d := clampInt (n.driftQ + roundRat (a * q * 256)) (-32768) 32767
      ({ n with driftQ := d, samples := min (n.samples + 1) 7, outliers := false, outlierNeg := false }, .applied)

/-- The reference after a measurement (R237): tentative after an uplink the part acknowledged. -/
def setReference (n : NodeEntry) (e : Int) (t : Nat) (acked : Bool) : NodeEntry :=
  if acked then { n with refNs := t, refOff := 0, altOff := sat32i e, altValid := true }
  else { n with refNs := t, refOff := sat32i e, altOff := 0, altValid := false }

/-- Count a sample's fate (R263). -/
def countFate (s : State) : SampleFate → State
  | .none => s
  | .applied => orbitCount s ocSamples
  | .rejected => orbitCount s ocOutliers
  | .restarted => orbitCount (orbitCount s ocOutliers) ocRestart

/-- A measurement of a NORMAL node's clock (R237, R240, R241). -/
def clockMeasure (s : State) (i : Nat) (e : Int) (t : Nat) (acked dup : Bool) : State :=
  match nodeAt s i with
  | none => s
  | some n =>
    match classOf s n.classId with
    | none => s
    | some c =>
      let r := filterStep c (settleRef n e t dup) e t
      countFate (modNode s i fun _ => setReference r.1 e t acked) r.2

/-- Return of an ADRIFT node (R250): NORMAL, its estimate restarted against the old reference, its reference set from the frame. -/
def adriftReturn (s : State) (i : Nat) (m : Option (Int × Nat)) (acked : Bool) : State :=
  match nodeAt s i with
  | none => s
  | some n =>
    let base := { n with adrift := false, misses := 0, outliers := false, outlierNeg := false, altValid := false, altOff := 0, adriftDeadline := 0 }
    let n' : NodeEntry :=
      match m with
      | some (e, t) =>
        let est :=
          if t < n.refNs + 4000000000 then { base with samples := 0 }
          else { base with samples := 1, driftQ := driftOf (((e : Rat) - (n.refOff : Rat)) * 1000000 / ((t : Rat) - (n.refNs : Rat))) }
        setReference est e t acked
      | none => { base with samples := 0 }
    let s := if n'.samples = 1 then orbitCount (orbitCount s ocRestart) ocSamples else s
    orbitCount (modNode s i fun _ => n') ocAdriftReturn

/-! The wake calendar. -/

/-- ASN of a signed Ephemeris instant, at least 0. -/
def asnAtI (s : State) (t : Int) : Nat :=
  ((s.orbit.anchorAsn : Int) + (t - s.orbit.anchorNs).fdiv (slotNs s)).toNat

/-- Kind of a route reference (R293): 0 DIRECT, 1 VIA, 2 RELAY, 3 PREREG. -/
def routeKind (n : NodeEntry) : Nat := n.routeRef / 65536 % 4

/-- Relay slot of a route reference. -/
def routeSlot (n : NodeEntry) : Nat := n.routeRef % 16384

/-- The part meets the node in contacts of its own: DIRECT, or a relay whose parent is the part (R293, R296; log 31). -/
def meetsPart (s : State) (n : NodeEntry) : Bool :=
  match routeKind n with
  | 0 => true
  | 2 => ((mapGet s.route.relays (routeSlot n)).map (·.parentPart)).getD false
  | _ => false

/-- A downlink frame waits for a node. -/
def downlinkWaits (s : State) (n : NodeEntry) : Bool := s.queue.records.any fun p => p.2.dest == n.meshAddr && !p.2.doomed

/-- Start of a node's next window of a wake, after its slot boundary, ns (R226, R230; log 32): its downlink listen where a frame waits
for it, otherwise the receive window of its uplink. -/
def wakeStartNs (s : State) (c : TagClass) (n : NodeEntry) : Int :=
  if c.dlOffsetUs != 0 && !n.adrift && downlinkWaits s n then ((c.dlOffsetUs : Int) - c.listenHalfUs) * 1000 else (c.ulOffsetUs : Int) * 1000

/-- P: the true slot that contains the start of the node's window of its next wake, at its predicted offset (R230, R237). -/
def planningSlot (s : State) (n : NodeEntry) : Nat :=
  match classOf s n.classId with
  | none => n.nextWake
  | some c =>
    let t := slotBoundary s n.nextWake + wakeStartNs s c n
    asnAtI s (t + roundRat (predictNs n t))

/-- The first wake at or after ASN `a` (R556). -/
def firstWake (n : NodeEntry) (a : Nat) : Nat :=
  let p := max n.wakePeriod 1
  a + (n.wakeOffset % p + p - a % p) % p

/-- Nodes of a bucket, the head first. -/
def bucket (s : State) (b : Nat) : List Nat := mapGetD [] s.orbit.calendar b

/-- Take a node out of the calendar. -/
def unfile (s : State) (i : Nat) : State :=
  modOrbit s fun o =>
    { o with calendar := (o.calendar.map fun p => (p.1, p.2.filter (· != i))).filter fun p => !p.2.isEmpty }

/-- A bucket has room: it holds at most 16,383 nodes (R230). -/
def bucketHasRoom (s : State) (p : Nat) : Bool := (bucket s (p % 65536)).length < 16383

/-- File a node, passing wakes whose bucket is full, each counted as deferred (R230). -/
def fileNode : Nat → State → Nat → State
  | 0, s, _ => s
  | k + 1, s, i =>
    match nodeAt s i with
    | none => s
    | some n =>
      let p := planningSlot s n
      if bucketHasRoom s p then modOrbit (bulkFresh s (.calendar i)) fun o => { o with calendar := mapSet o.calendar (p % 65536) (i :: bucket s (p % 65536)) }
      else
        fileNode k (orbitCount (modNode s i fun n => { n with nextWake := n.nextWake + max n.wakePeriod 1 }) ocDeferred) i

/-- Refile a node under its present next wake. -/
def refile (s : State) (i : Nat) : State := fileNode 65536 (unfile s i) i

/-- First filing of a node at the first wake at or after `a` (R556); while the engine is IDLE it stays unfiled with `next_wake` 0. -/
def fileFrom (s : State) (i a : Nat) : State :=
  match nodeAt s i with
  | none => s
  | some n =>
    if !numbering s || !meetsPart s n then modNode (unfile s i) i fun n => { n with nextWake := 0 }
    else refile (modNode s i fun n => { n with nextWake := firstWake n a }) i

/-- A command's filing would overfill a bucket (R230). -/
def overfills (s : State) (n : NodeEntry) (a : Nat) : Bool :=
  numbering s && meetsPart s n && !bucketHasRoom s (planningSlot s { n with nextWake := firstWake n a })

/-- A node is filed in the calendar. -/
def isFiled (s : State) (i : Nat) : Bool := s.orbit.calendar.any fun p => p.2.contains i

/-- The node waits for its JOIN_RSP to launch before it is filed (R556). -/
def awaitsJoin (s : State) (i : Nat) : Bool := ((nodeAt s i).map fun n => s.orbit.unjoined.contains n.meshAddr).getD false

/-- The engine takes an anchor: every node that meets the part is filed at its first wake at or after the anchor ASN + 2 (R556). -/
def refileAll (s : State) : State :=
  (mapKeys s.node.table).foldl (fun s i => if awaitsJoin s i then s else fileFrom s i (s.orbit.anchorAsn + 2)) s

/-- Keep a node out of the calendar until its JOIN_RSP launches, or end that (R556). -/
def holdJoin (s : State) (addr : W32) (on : Bool) : State :=
  modOrbit s fun o => { o with unjoined := (o.unjoined.filter (· != addr)) ++ if on then [addr] else [] }

/-- Whether a node's frames carry `ack_req`, as its last accepted uplink says (R233, log 100). -/
def noteBlink (s : State) (addr : W32) (blink : Bool) : State :=
  modOrbit s fun o => { o with blinks := (o.blinks.filter (· != addr)) ++ if blink then [addr] else [] }

/-- The next node of a bucket or of a relayed-pending list after an index: its `cal_next`. -/
def nextIn (l : List Nat) (i : Nat) : Nat :=
  match l with
  | [] => 0
  | a :: t => if a = i then t.headD 0 else nextIn t i

/-- `cal_next` of an index (R266, R296), 0 at the end of a list. -/
def calNext (s : State) (i : Nat) : Nat :=
  match s.orbit.calendar.find? fun p => p.2.contains i with
  | some p => nextIn p.2 i
  | none =>
    match s.route.relays.find? fun p => p.2.pend.contains i with
    | some p => nextIn p.2.pend i
    | none => 0

end Sys2Proof.Machine
end

