-- ==== Sys2Proof/Machine/Pending.lean ====
section
/-! DEFINITION. The pending-frame pool, the three-part FIFOs and how a pending frame ends (R38, R67, R384, R387 to R391). -/

namespace Sys2Proof.Machine

/-! Queue and dispatch counters in the order of R402. -/

def qcClassified : Nat := 0
def qcOverlimit : Nat := 1
def qcPoolFull : Nat := 2
def qcExpired : Nat := 3
def qcFlushed : Nat := 4
def qcReset : Nat := 5
def qcResetLost : Nat := 6
def qcCompactions : Nat := 7
def qcSubmitted : Nat := 8
def qcDeferred : Nat := 9
def qcRefused : Nat := 10
def qcWdResets : Nat := 11
def qcStarve : Nat := 12
def qcSamplesMissed : Nat := 13

/-! Frame buffers (R28, R29, R164). -/

/-- The channelizer group delay of a band in ns (R154). -/
def channelizerNs (b : Band) : Nat := match b with | .bandA | .bandB => 2900 | .bandC => 950

/-- The antenna instant of a reference point the ADC island captures now: less R154's delay and `rx_path_ns` (R168). -/
def antennaNs (s : State) (b : Band) : Nat := nowNs s - (channelizerNs b + (s.radio.rx.get b).rxPathNs)

/-- PSDU bytes of a reception that have arrived: from the first bit after the header, or in whole data symbols (R111, R133, R164). -/
def arrivedBytes (s : State) (c : Ctx) (r : Reception) : Nat :=
  match profileOf s c.profile with
  | none => r.bytes.length
  | some p =>
    let t := antennaNs s (bandOfD c.band)
    let n :=
      if isOfdm p then (t - (r.det.endNs + ofdmSymbolNs c.band)) / ofdmSymbolNs c.band * r.symbolBits / 8
      else (t - (r.det.endNs + bitsNs 24 (symbolRate p))) * (if r.rateHint % 2 = 1 then p.bitRate else symbolRate p) / 8000000000
    if c.state == .psdu then max r.bytes.length (min r.length n) else r.bytes.length

/-- Accepted frames that wait for the twin's acknowledgement of their counter (R30 step 6). -/
def heldUplinks (s : State) : List Uplink :=
  s.pair.waits.filterMap fun w => match w.hold with | .uplink u => some u | _ => none

/-- Frame-buffer granules in use: receptions under way, frames on their way, encrypted launches (R28, R29, R164). -/
def granulesInUse (s : State) : Nat :=
  let need (n : Nat) : Nat := ceilDiv n 256
  let rx := s.radio.ctxs.map fun x => ((x.2.rx.map fun r => need (arrivedBytes s x.2 r)).getD 0)
  let up := (s.path.uplinks ++ s.path.threads ++ heldUplinks s).map fun u => need u.psduLen
  let tx := s.radio.tx.toList.flatMap fun x => (x.queue ++ x.burst).map fun l => (l.psdu.map fun d => need d.length).getD 0
  (rx ++ up ++ tx).foldl (· + ·) 0

/-- Frame descriptors in use (R29). -/
def descriptorsInUse (s : State) : Nat :=
  (s.path.uplinks ++ s.path.threads ++ heldUplinks s).length
    + (s.radio.tx.toList.flatMap fun x => (x.queue ++ x.burst).filter (·.psdu.isSome)).length

/-- A descriptor and granules for `n` more bytes are free (R29). -/
def frameBufferRoom (s : State) (n : Nat) : Bool := descriptorsInUse s < 1024 && granulesInUse s + ceilDiv n 256 ≤ 8192

/-- Change the queue engine. -/
def modQueue (s : State) (f : QueueDom → QueueDom) : State := { s with queue := f s.queue }

/-- Add `n` to a queue counter (R402). -/
def queueCount (s : State) (i n : Nat) : State := modQueue s fun q => { q with counters := bumpBy q.counters i n }

/-! FIFOs (R384). -/

/-- Every entry of a FIFO, oldest first. -/
def fifoAll {α : Type} (f : Fifo α) : List α := f.head ++ f.middle ++ f.tail

/-- Move a full register tail to the middle. -/
def fifoSpill {α : Type} (f : Fifo α) : Fifo α :=
  if 16 ≤ f.tail.length then { f with middle := f.middle ++ f.tail, tail := [] } else f

/-- Refill a head that has fallen to 8 entries: from the middle, or from the register tail when the middle is empty. -/
def fifoRefill {α : Type} (f : Fifo α) : Fifo α :=
  if 8 < f.head.length then f
  else
    let n := 16 - f.head.length
    if f.middle.isEmpty then { f with head := f.head ++ f.tail.take n, tail := f.tail.drop n }
    else { f with head := f.head ++ f.middle.take n, middle := f.middle.drop n }

/-- Enter an entry: straight to the head when nothing stands between, else the register tail, which spills when full. -/
def fifoPush {α : Type} (f : Fifo α) (x : α) : Fifo α :=
  if f.middle.isEmpty && f.tail.isEmpty && f.head.length < 16 then { f with head := f.head ++ [x] }
  else
    let f := fifoSpill f
    { f with tail := f.tail ++ [x] }

/-- Keep only the entries that satisfy a test, each in its part. -/
def fifoFilter {α : Type} (f : Fifo α) (p : α → Bool) : Fifo α :=
  { f with head := f.head.filter p, middle := f.middle.filter p, tail := f.tail.filter p }

/-- Put an entry back at the front. -/
def fifoReturn {α : Type} (f : Fifo α) (x : α) : Fifo α := { f with head := x :: f.head }

/-! Pending records. -/

/-- A pending record. -/
def recordOf (s : State) (r : Nat) : Option Frame := mapGet s.queue.records r

/-- Change a pending record. -/
def modRecord (s : State) (r : Nat) (f : Frame → Frame) : State :=
  modQueue s fun q => { q with records := mapMod q.records r f }

/-- Granules of a body (R387). -/
def bodyGranules (n : Nat) : Nat := ceilDiv n 256

/-- Body granules in use. -/
def granulesUsed (s : State) : Nat := (s.queue.records.map fun p => bodyGranules p.2.payload.length).foldl (· + ·) 0

/-- A record and granules are free for a body of `n` bytes (R387). -/
def poolHasRoom (s : State) (n : Nat) : Bool :=
  s.queue.records.length < 16384 && granulesUsed s + bodyGranules n ≤ 28672

/-- The lowest free index of a sparse table whose keys rise, from `i` on. -/
def firstFree {α : Type} : SMap α → Nat → Nat
  | [], i => i
  | (k, _) :: t, i => if k = i then firstFree t (i + 1) else i

/-- Live frames of a queue. -/
def queueLive (s : State) (q : Nat) : List (Nat × Frame) := s.queue.records.filter fun p => p.2.queue == q

/-- A shaping queue. -/
def queueOf (s : State) (q : Nat) : ShapeQueue := nth ShapeQueue.reset s.queue.queues q

/-- Change a shaping queue. -/
def modShape (s : State) (q : Nat) (f : ShapeQueue → ShapeQueue) : State :=
  modQueue s fun d => { d with queues := modNth d.queues q f }

/-- A queue entry still names its frame: it is no hole (R388). -/
def entryLive (s : State) (x : QEntry) : Bool :=
  match recordOf s x.record with
  | some f => f.gen == x.gen
  | none => false

/-- Holes of a queue. -/
def queueHoles (s : State) (q : Nat) : Nat := ((fifoAll (queueOf s q).fifo).filter fun x => !entryLive s x).length

/-- Holes that reach the register head are discarded (R388). -/
def trimHead (s : State) (q : Nat) : State :=
  modShape s q fun x => { x with fifo := { x.fifo with head := x.fifo.head.filter (entryLive s) } }

/-- Put a frame in its place in a list in classification order. -/
def inPlace (x : Nat × Frame) : List (Nat × Frame) → List (Nat × Frame)
  | [] => [x]
  | y :: t => if x.2.seq < y.2.seq then x :: y :: t else y :: inPlace x t

/-- Frames in classification order. -/
def inOrder (l : List (Nat × Frame)) : List (Nat × Frame) := l.foldr inPlace []

/-- A frame leaves the middle of its queue: its record's generation advances, and its entry becomes a hole (R388). -/
def leaveQueue (s : State) (r : Nat) : State :=
  match recordOf s r with
  | none => s
  | some f => trimHead (modRecord s r fun f => { f with gen := f.gen + 1 }) f.queue

/-- Frames pending for a mesh address, in classification order. -/
def framesFor (s : State) (a : W32) : List (Nat × Frame) := inOrder (s.queue.records.filter fun p => p.2.dest == a)

/-- Take a record and enter its frame in its queue (R36 step 1, R387, R388): the record's index. -/
def park (s : State) (f : Frame) : State × Nat :=
  let r := firstFree s.queue.records 0
  let g := mapGetD 0 s.queue.gens r
  let s := modQueue (bulkFresh s (.pending r)) fun q => { q with records := mapSet q.records r { f with gen := g, seq := q.classified, since := s.upNs }, classified := q.classified + 1 }
  let s := modShape s f.queue fun x => { x with fifo := fifoPush x.fifo { record := r, gen := g } }
  (queueCount s qcClassified 1, r)

/-- A frame of the resident firmware (R387). -/
def firmwareFrame (s : State) (dest : W32) (ftype : Nat) (payload : List Byte) (ackReq : Bool) : Frame :=
  { gen := 0, seq := 0, source := .firmware, queue := s.queue.fwQueue, dest := dest, ftype := ftype, payload := payload
    ackReq := ackReq, tsReq := false, tsId := 0, expires := none, since := s.upNs, attempts := 0, planned := false
    onAir := false, doomed := false, lost := false, eui := 0, keyGen := 0xFF, lastLaunch := none }

/-- Park a firmware frame, or hold it until the pool has space (R387): its record, where it took one. -/
def parkFirmware (s : State) (f : Frame) : State × Option Nat :=
  if !poolHasRoom s f.payload.length then (modQueue s fun q => { q with fwHeld := q.fwHeld ++ [f] }, none)
  else if (queueOf s f.queue).limit != 0 && (queueOf s f.queue).limit ≤ (queueLive s f.queue).length then
    (queueCount s qcOverlimit 1, none)
  else
    let (s, r) := park s f
    (s, some r)

/-- The record number a `JoinRsp` carries while its frame is held for want of pool space. -/
def heldRecord : Nat := 0xFFFFFFFF

/-- Held firmware frames take the pool's space as it returns; a held JOIN_RSP finds its record. -/
def parkHeld (s : State) : State :=
  s.queue.fwHeld.foldl (fun s f =>
    if !poolHasRoom s f.payload.length then s
    else
      match parkFirmware (modQueue s fun q => { q with fwHeld := q.fwHeld.drop 1 }) f with
      | (s, some r) =>
        modOrbit s fun o => { o with joinRsps := o.joinRsps.map fun j =>
          if j.record = heldRecord && j.eui == f.eui then { j with record := r } else j }
      | (s, none) => s) s

/-- The launches that carry a record leave the plans and the launch queues, but for those on the air. -/
def dropLaunches (s : State) (r : Nat) : State :=
  let keep (l : Launch) : Bool := l.record != some r
  { s with
    orbit := { s.orbit with plans := s.orbit.plans.map fun p => { p with launches := p.launches.filter keep } }
    radio := { s.radio with tx := s.radio.tx.all fun x =>
      { x with queue := x.queue.filter keep, awaiting := x.awaiting.filter keep } } }

/-- Free a record: its generation advances, so its queue entry is a hole (R388); its launches go, and a node without further
frames leaves its relay's list (R296). -/
def freeRecord (s : State) (r : Nat) : State :=
  match recordOf s r with
  | none => s
  | some f =>
    let s := modQueue (dropLaunches s r) fun q =>
      { q with records := mapDel q.records r, gens := mapSet q.gens r (f.gen + 1) }
    let s := trimHead s f.queue
    let s := modOrbit s fun o => { o with joinRsps := o.joinRsps.filter fun j => j.record != r }
    let more := !(framesFor s f.dest).isEmpty
    let idx := (s.node.table.find? fun p => p.2.meshAddr == f.dest).map (·.1)
    { s with route := { s.route with
      broadcast := s.route.broadcast.filter fun b => b.record != r
      relays := if more then s.route.relays else
        s.route.relays.map fun p => (p.1, { p.2 with pend := p.2.pend.filter fun i => some i != idx }) } }

/-- Complete a pending frame with its one frame status (R38, R67): the completion goes to its transmit ring, if it came from one. -/
def completeFrame (s : State) (r : Nat) (status : Byte) (errDest errDesc : Bool) : State :=
  match recordOf s r with
  | none => s
  | some f =>
    let s := parkHeld (freeRecord s r)
    match f.source with
    | .ring ring idx era =>
      if f.lost then hostCount s hcTxRingLost
      else
        txComplete s ring idx era fun ph =>
          { index := idx, phase := ph, errDest := errDest, errDesc := errDesc, attempts := f.attempts, frameStatus := status
            lateLaunch := (f.lastLaunch.map fun l => l.2.2.2.2).getD false
            counter := (f.lastLaunch.map (·.1)).getD 0
            launchNs := BitVec.ofNat 64 ((f.lastLaunch.map fun l => l.2.1).getD 0)
            channel := (f.lastLaunch.map fun l => l.2.2.1).getD 0, band := (f.lastLaunch.map fun l => l.2.2.2.1).getD 0 }
    | _ => s

/-- A flush or expiry of a frame (R389 to R391): at once, or when its burst ends if its ramp has started. -/
def flushFrame (s : State) (r : Nat) : State :=
  match recordOf s r with
  | none => s
  | some f => if f.onAir then modRecord s r fun f => { f with doomed := true } else completeFrame s r fsFlushed false false

/-- Flush every pending frame of a mesh address. -/
def flushNode (s : State) (a : W32) : State := (framesFor s a).foldl (fun s p => flushFrame s p.1) s

/-! Work items (R379 to R381). -/

/-- Flow entry that serves a key (R381). -/
def flowIndex (k : W32) : Nat := (crc32 (leBytes 4 k.toNat)).toNat % 16384

/-- A flow entry; an unlisted one is free. -/
def flowOf (s : State) (i : Nat) : FlowEntry := mapGetD { busy := false, deferred := Fifo.empty } s.queue.flows i

/-- Set a flow entry. -/
def setFlow (s : State) (i : Nat) (f : FlowEntry) : State :=
  modQueue s fun q => { q with flows := if f.busy || !(fifoAll f.deferred).isEmpty then mapSet q.flows i f else mapDel q.flows i }

/-- A ready list. -/
def readyOf (s : State) (p : Nat) : Fifo WorkRec := nth Fifo.empty s.queue.ready p

/-- Change a ready list. -/
def modReady (s : State) (p : Nat) (f : Fifo WorkRec → Fifo WorkRec) : State := modQueue s fun q => { q with ready := modNth q.ready p f }

end Sys2Proof.Machine
end

