-- ==== Sys2Proof/Machine/Pwr.lean ====
section
/-! DEFINITION. Tide: domains, locks, entries, wakes, and the PWR commands (chapter 14). -/

namespace Sys2Proof.Machine

/-! Domain bits (R462). -/

def domCore0 : Nat := 2
def domFabric : Nat := 6
def domBulk7 : Nat := 14
def domNear : Nat := 15
def domBandA : Nat := 16
def domEth : Nat := 19
def domPcie : Nat := 20
def domPair : Nat := 21
def domCipher : Nat := 22
def domRef : Nat := 23

/-- Change a domain. -/
def modDom (s : State) (d : Nat) (f : Domain → Domain) : State :=
  { s with pwr := { s.pwr with doms := modNth s.pwr.doms d f } }

/-- A domain. -/
def domOf (s : State) (d : Nat) : Domain := nth Domain.reset s.pwr.doms d

/-- Code of a domain state (R462). -/
def domCode : DomState → Nat
  | .on => 0 | .retention => 1 | .off => 2 | .entering => 3 | .waking => 4

/-- Low states a domain allows (R462). -/
def lowAllowed (d : Nat) (off : Bool) : Bool :=
  if d = domRef then off
  else if off then [1, 3, 4, 5, 14, 15, 16, 17, 18, 19, 20, 21].contains d
  else 1 ≤ d && d ≤ 22

/-- Blocks of a domain that answer a handshake (R16, R465), numbered from 0 in the order of R16 (log 38). -/
def domBlocks (d : Nat) : Nat :=
  if d = domRef || d = 0 then 0
  else if 2 ≤ d && d ≤ 5 then 2
  else if d = domFabric then 9
  else if 16 ≤ d && d ≤ 18 then 3
  else if d = domEth then 2
  else 1

/-- Declared maximum handshake delay, µs (R462). -/
def domDelayUs (d : Nat) : Nat :=
  if d = 1 then 2
  else if 2 ≤ d && d ≤ 5 then 100
  else if d = domFabric || d = domCipher then 10
  else if 16 ≤ d && d ≤ 18 then 24
  else if d = domNear || d = domEth || d = domPcie then 5
  else 0

/-- Entry time in ns (R462). -/
def domEntryNs (d : Nat) : Nat :=
  if 2 ≤ d && d ≤ 5 then 2000
  else if 7 ≤ d && d ≤ 15 then 500
  else if 16 ≤ d && d ≤ 18 then 5000
  else if d = domEth then 2000
  else 1000

/-- Wake time in ns (R462). -/
def domWakeNs (d : Nat) (off : Bool) : Nat :=
  if d = 1 then (if off then 350000 else 25000)
  else if 2 ≤ d && d ≤ 5 then (if off then 40000 else 3000)
  else if d = domFabric || d = domCipher then 2000
  else if 7 ≤ d && d ≤ 15 then (if off then 20000 else 1500)
  else if 16 ≤ d && d ≤ 18 then (if off then 500000 else 60000)
  else if d = domEth then (if off then 100000 else 10000)
  else if d = domPcie then 10000
  else if d = domPair then 20000000
  else 0

/-! Locks (R463). -/

/-- Some band is not OFF. -/
def bandsNotOff (s : State) : Bool := bands.any fun b => bandState s b != .off

/-- Some Ethernet port is not in mode 0. -/
def ethInUse (s : State) : Bool := s.route.ports.any fun p => p.mode != 0

/-- A domain is held On (R463). -/
def lockedDom (s : State) (d : Nat) : Bool :=
  (bandsNotOff s && ([1, 2, 6, 15, 22, 23].contains d || (7 ≤ d && d ≤ 13)))
    || (16 ≤ d && d ≤ 18 && bandState s (bandOfD (d - 16)) != .off)
    || ((List.range 3).any fun k => resourceTested s (5 + k) && [6, 15, 16 + k, 23].contains d)
    || (ethInUse s && [6, 12, 19, 23].contains d)
    || ((s.role == .active || s.role == .standby) && (d = domPair || d = domRef))
    || (d = domBulk7 && !s.radio.snapshots.isEmpty)
    || (d = 1 && s.host.longOps.any fun op => entryFn op.e == 0x08)

/-- The condition R462 sets on a low state of a domain. -/
def lowCondition (s : State) (d : Nat) (off : Bool) : Bool :=
  if d = 1 then !off || !s.key.slots.any fun x => x.state == .loaded
  else if d = domBulk7 then !off || s.radio.snapshots.isEmpty
  else if d = domNear then !off || (granulesInUse s = 0 && descriptorsInUse s = 0)
  else if 16 ≤ d && d ≤ 18 then bandState s (bandOfD (d - 16)) == .off
  else if d = domEth then !ethInUse s
  else if d = domPair then s.role == .single
  else if d = domPcie then !off || s.straps.spiOnly
  else true

/-- FABRIC enters only after its heavy users (R467). -/
def fabricFree (s : State) : Bool :=
  [2, 3, 4, 5, 16, 17, 18, 19, 21, 22].all fun d => (domOf s d).state != .on

/-- A domain may enter a low state now. -/
def mayEnter (s : State) (d : Nat) (off : Bool) : Bool :=
  !lockedDom s d && lowCondition s d off && (d != domFabric || fabricFree s)

/-! Waking (R468, R469). -/

/-- Domains that a wake of a domain wakes with it (R16, R468). -/
def wakeCascade (d : Nat) : List Nat :=
  if 2 ≤ d && d ≤ 5 then [6, 15]
  else if 16 ≤ d && d ≤ 18 then [6, 15, 22, 1, 23]
  else if d = domEth || d = domPair then [6, 23]
  else if d = domPcie then [6]
  else if d = domCipher then [1]
  else []

/-- An access reaches one domain: a low domain starts its wake, an entry in progress is followed by one, a handshake not yet
entered is cancelled. -/
def wakeOne (s : State) (d : Nat) : State :=
  modDom s d fun x =>
    match x.state with
    | .on => { x with since := s.upNs, request := none, delaying := [] }
    | .retention => { x with state := .waking, wasOff := false, since := s.upNs }
    | .off => { x with state := .waking, wasOff := true, since := s.upNs }
    | .entering => { x with wakeNext := true }
    | .waking => x

/-- An access to a domain: the wake with its cascade. -/
def wakeDomain (s : State) (d : Nat) : State := (wakeCascade d ++ [d]).foldl wakeOne s

/-- Ethernet settings that Off loses return to their reset values (R462). -/
def ethLose (s : State) : State :=
  { s with route := { s.route with
    neighbours := []
    ports := s.route.ports.map fun p => { EthPort.reset with counters := p.counters, sent := p.sent } } }

/-- A core's domain goes Off: the item in its prefetch slot returns to the head of its list, and its flow entry is free (R462). -/
def emptyCore (s : State) (n : Nat) : State :=
  let c := nth { running := none, slot := none } s.queue.cores n
  let s := modQueue s fun q => { q with cores := modNth q.cores n fun _ => { running := none, slot := none } }
  match c.slot with
  | none => s
  | some w =>
    let i := flowIndex w.item.flowKey
    let s := modReady s w.item.prio.toNat fun l => fifoReturn l w
    if w.item.isAtomic then setFlow s i { flowOf s i with busy := false } else s

/-- What a domain loses as it reaches its low state (R462). -/
def domLose (s : State) (d : Nat) (off : Bool) : State :=
  if d = domCipher then clearLanes s fun _ => true
  else if !off then s
  else if d = 1 then zeroizeKeys s
  else if 3 ≤ d && d ≤ 5 then emptyCore (emptyCore s ((d - 2) * 2)) ((d - 2) * 2 + 1)
  else if 16 ≤ d && d ≤ 18 then
    modTx s (bandOfD (d - 16)) fun x => { x with lo := none, calEnd := none, calLo := none, bgDue := [true, true, true] }
  else if d = domEth then ethLose s
  else if d = domPair then { s with pair := { s.pair with link := .down } }
  else s

/-- What a domain does as its wake ends: KEY re-masks its slots after Retention, and takes its root and a new K_chal after Off
(R330, R348, R370, R462). -/
def domWoken (s : State) (d : Nat) (off : Bool) : State :=
  if d = 1 then
    if off then drawChal (loadRoot s) else modKey ((List.range 128).foldl remaskSlot s) fun k => { k with remaskAt := s.upNs }
  else s

/-! Entries (R464 to R467). -/

/-- `EV_DOMAIN_REFUSED`, at most once per second per domain (R465). -/
def domRefused (s : State) (d block late source : Nat) : State :=
  match (domOf s d).eventAt with
  | some t => if s.upNs < t + 1000000000 then s else raiseEvent (modDom s d fun x => { x with eventAt := some s.upNs }) evDomainRefused d block late source
  | none => raiseEvent (modDom s d fun x => { x with eventAt := some s.upNs }) evDomainRefused d block late source

/-- Domains that enter after the final response, in their order (R467). -/
def lateDoms : List Nat := [2, 6, 20, 23]

/-- A domain is already in the state a command asks for. -/
def inLow (s : State) (d : Nat) (off : Bool) : Bool :=
  match (domOf s d).state with
  | .off => true
  | .retention => !off
  | _ => false

/-- Take the first lowering command off the queue. -/
def popCommand (s : State) : State := { s with pwr := { s.pwr with commands := s.pwr.commands.drop 1 } }

/-- Change the lowering command at work. -/
def modCommand (s : State) (f : DomCommand → DomCommand) : State :=
  { s with pwr := { s.pwr with commands := modNth s.pwr.commands 0 f } }

/-- Final response of a lowering command. -/
def answerCommand (s : State) (c : DomCommand) (r : Reply) : State :=
  if c.answered then s else finishWhere s (fun op => op.e == c.e) fun _ => r

/-- A lowering command fails at a domain: every domain it has lowered returns to On, and it answers (R473). -/
def failCommand (s : State) (c : DomCommand) (detail : Nat) : State :=
  answerCommand (popCommand (c.done.foldl wakeDomain s)) c (refuse stRefusedState detail)

/-- The mask of a list of domains. -/
def domMask (l : List Nat) : Nat := l.foldl (fun m d => m + 2 ^ d) 0

/-- Go on with the lowering commands until a domain has to be asked or a low state takes its time (R467). -/
def domNext : Nat → State → State
  | 0, s => s
  | k + 1, s =>
    match s.pwr.commands with
    | [] => s
    | c :: _ =>
      match c.todo with
      | [] => domNext k (popCommand (answerCommand s c (okFigures [domMask c.done])))
      | d :: rest =>
        let s := if lateDoms.contains d then answerCommand s c (okFigures [domMask (c.done ++ c.todo)]) else s
        let c := { c with answered := c.answered || lateDoms.contains d }
        let s := modCommand s fun _ => c
        if inLow s d c.off then domNext k (modCommand s fun c => { c with todo := rest })
        else if !mayEnter s d c.off then domNext k (failCommand s c d)
        else if d = domRef then modDom s d fun x => { x with state := .entering, since := s.upNs, request := some (true, true) }
        else modDom s d fun x => { x with request := some (c.off, true), since := s.upNs, delaying := [] }

/-- Steps that `domNext` may take at once. -/
def domSteps : Nat := 1024

/-- A domain has entered, or its request was cancelled by a wake: the command that asked goes on with the next one. -/
def domGoOn (s : State) (d : Nat) (entered : Bool) : State :=
  match s.pwr.commands with
  | c :: _ =>
    if c.todo.head? = some d then
      domNext domSteps (modCommand s fun c =>
        { c with todo := c.todo.drop 1, done := if entered then c.done ++ [d] else c.done })
    else s
  | [] => s

/-- A block of a domain refuses (R465, R473): `late` 1 for a delay past its maximum. -/
def domRefuse (s : State) (d block late : Nat) : State :=
  match (domOf s d).request with
  | none => s
  | some (_, cmd) =>
    let s := modDom s d fun x => { x with request := none, delaying := [], since := s.upNs }
    let s := domRefused s d block late (natOf cmd)
    match cmd, s.pwr.commands with
    | true, c :: _ => if c.todo.head? = some d then domNext domSteps (failCommand s c (d + block * 256)) else s
    | _, _ => s

/-- Code of a block's last answer (R472, log 38): 1 agrees, 2 delays, 3 refuses. -/
def answerCode : BlockAnswer → Nat
  | .agree => 1 | .delay => 2 | .refuse => 3

/-- What a block answers (R465): a core with an item in service delays while it finishes it. -/
def blockAnswer (s : State) (d i : Nat) (a : BlockAnswer) : BlockAnswer :=
  let busy := 2 ≤ d && d ≤ 5 && ((s.queue.cores[(d - 2) * 2 + i]?).bind (·.running)).isSome
  if a == .agree && busy then .delay else a

/-- The blocks of a domain answer a handshake (R465): a block that is not in the list agrees. -/
def handshakeAnswerOp (s : State) (d : Nat) (answers : List BlockAnswer) : State :=
  let x := domOf s d
  match x.state, x.request with
  | .on, some (off, cmd) =>
    let a := (List.range (domBlocks d)).map fun i => blockAnswer s d i ((answers[i]?).getD .agree)
    let s := modDom s d fun x => { x with answers := a.map answerCode }
    match a.findIdx? (· == .refuse) with
    | some i => domRefuse s d i 0
    | none =>
      let late := (List.range a.length).filter fun i => a[i]? == some .delay
      if !late.isEmpty then modDom s d fun x => { x with delaying := late }
      else if !mayEnter s d off then
        if cmd then
          match s.pwr.commands with
          | c :: _ => domNext domSteps (failCommand (modDom s d fun x => { x with request := none }) c d)
          | [] => modDom s d fun x => { x with request := none }
        else modDom s d fun x => { x with request := none, since := s.upNs }
      else modDom s d fun x => { x with state := .entering, since := s.upNs, delaying := [] }
  | _, _ => s

/-- A block's delay passes its declared maximum (R465). -/
def delayExpiryOp (s : State) (d block : Nat) : State :=
  let x := domOf s d
  if x.state == .on && x.delaying.contains block && x.since + domDelayUs d * 1000 ≤ s.upNs then domRefuse s d block 1 else s

/-- A handshake period of a domain ends without an access (R464). -/
def handshakePeriodOp (s : State) (d : Nat) : State :=
  let x := domOf s d
  if x.policy = 1 && x.state == .on && x.request.isNone && !lockedDom s d && x.since + x.hsPeriodMs * 1000000 ≤ s.upNs
    && mayEnter s d x.targetOff then modDom s d fun x => { x with request := some (x.targetOff, false), since := s.upNs, delaying := [] }
  else s

/-- An idle timer expires (R464, R466): a locked domain restarts it. -/
def idleTimerOp (s : State) (d : Nat) : State :=
  let x := domOf s d
  if x.policy = 2 && x.state == .on && x.request.isNone && x.since + x.idleUs * 1000 ≤ s.upNs then
    if lockedDom s d then modDom s d fun x => { x with since := s.upNs }
    else modDom s d fun x => { x with state := .entering, request := some (false, false), since := s.upNs }
  else s

/-- An access reaches a domain (R468, R469): a request not yet entered is cancelled and its command goes on. -/
def domainWakeOp (s : State) (d : Nat) : State :=
  let hit := (wakeCascade d ++ [d]).filter fun x =>
    (domOf s x).state == .on && ((domOf s x).request.map (·.2)).getD false
  hit.foldl (fun s x => domGoOn s x false) (wakeDomain s d)

/-- The work scheduler wakes a core domain while an item is ready and none is On: the lowest-numbered in Retention, else the
lowest-numbered that is Off; a core on its way to On is waited for (R468). -/
def wakeCores (s : State) : State :=
  let cores := [2, 3, 4, 5]
  let at' := fun x => cores.find? fun d => (domOf s d).state == x
  if cores.any fun d => [DomState.on, .waking].contains (domOf s d).state then s
  else
    match at' .retention, at' .off with
    | some d, _ | none, some d => domainWakeOp s d
    | none, none => s

/-- An entry ends: the low state, what it loses, and the wake that followed it (R462, R469); a work item that is ready wakes a core domain (R468). REF is lowered by EPHEMERIS_FREEZE. -/
def entryCompleteOp (s : State) (d : Nat) : State :=
  let x := domOf s d
  match x.state, x.request with
  | .entering, some (off, cmd) =>
    if d = domRef || s.upNs < x.since + domEntryNs d then s
    else
      let s := domLose (modDom s d fun x => { x with state := if off then .off else .retention, request := none, wakeNext := false }) d off
      let s := if cmd then domGoOn s d true else s
      let s := if x.wakeNext then wakeDomain s d else s
      if 2 ≤ d && d ≤ 5 && s.queue.ready.any (fun l => !(fifoAll l).isEmpty) then wakeCores s else s
  | _, _ => s

/-- `PWR_DOMAIN_SET` with On answers once every domain it names is On (R473). -/
def wakeAnswers (s : State) : State :=
  finishWhere s (fun op => entryCmd op.e == some .pwrDomainSet && argBits op.e 1 0 == 0
    && (List.range 24).all fun d => !bitOf (argBits op.e 63 32) d || (domOf s d).state == .on)
    fun op => okFigures [op.ref]

/-- EPHEMERIS_FREEZE (R426, R467, R470): the RTC edge after Tide asked for the stop; a condition that fails by then ends the request. -/
def freezeOp (s : State) : State :=
  let x := domOf s domRef
  if x.state != .entering || s.clk.frozen.isSome then s
  else if !mayEnter s domRef true || ethInUse s || bandsNotOff s then
    let s := modDom s domRef fun x => { x with state := .on, request := none, wakeNext := false, since := s.upNs }
    match s.pwr.commands with
    | c :: _ => if c.todo.head? = some domRef then domNext domSteps (failCommand s c domRef) else s
    | [] => s
  else
    let s := modDom (freezeClock s) domRef fun x => { x with state := .off, request := none, wakeNext := false, since := s.upNs }
    let s := domGoOn s domRef true
    if x.wakeNext then wakeDomain s domRef else s

/-- RTC periods of a gap (R425, R426): the nominal number, off by an open value of at most 50 ppm of it and one more (R427, log 4). -/
def gapPeriods (s : State) (gapNs : Nat) : Nat × State :=
  let n := gapNs * 32768 / 1000000000
  let dev := n * 50 / 1000000 + 1
  let (k, s) := drawBelow s (2 * dev + 1)
  (n + k - dev, s)

/-- EPHEMERIS_RESUME (R426 step 4, R470): the settle time is over and the clock has locked. -/
def resumeOp (s : State) : State :=
  let x := domOf s domRef
  match s.clk.frozen with
  | none => s
  | some f =>
    if x.state != .waking || s.upNs < x.since + s.pwr.refSettleUs * 1000 then s
    else
      let (n, s) := gapPeriods s (s.upNs - f.atNs)
      wakeAnswers (modDom (resumeClock s n) domRef fun x => { x with state := .on, since := s.upNs })

/-- The TCXO_EN output (R531): low while REF is Off; high from the start of its wake, which starts the oscillator (log 112). -/
def tcxoEn (s : State) : Bool := (domOf s domRef).state != .off

/-- A wake ends (R468). REF is raised by EPHEMERIS_RESUME. -/
def wakeCompleteOp (s : State) (d : Nat) : State :=
  let x := domOf s d
  if x.state != .waking || d = domRef || s.upNs < x.since + domWakeNs d x.wasOff then s
  else wakeAnswers (domWoken (modDom s d fun x => { x with state := .on, since := s.upNs }) d x.wasOff)

/-- An access reaches each of these domains: one that is low starts its wake, one that is On restarts its idle time (log 39). -/
def accessDoms (s : State) (doms : List Nat) : State := doms.foldl domainWakeOp s

/-- Wake every domain of a mask. -/
def wakeMask (s : State) (mask : Nat) : State := accessDoms s ((List.range 24).filter fun d => d != 0 && bitOf mask d)

/-- Tide holds the locked domains On: one that is low wakes (R463). -/
def holdOn (s : State) : State := accessDoms s ((List.range 24).filter fun d => lockedDom s d && (domOf s d).state != .on)

/-- One of these domains is not On, so an access to it stalls (R16, R468). -/
def anyLow (s : State) (doms : List Nat) : Bool := doms.any fun d => (domOf s d).state != .on

/-- Banks of the node table; what a lookup, a shaping queue and a spill to Tail reach (R16, R25). -/
def tableDoms : List Nat := [7, 8]
def lookupDoms : List Nat := [7, 8, 1]
def tailDoms : List Nat := [9, 10]
def shaperDoms : List Nat := [9, 10, 11]

/-- Work of the part's own blocks that reaches these domains: while one of them is low it stalls, and starts the wake (R16, R468). -/
def worksOn (doms : List Nat) (f : State → State) (s : State) : State :=
  if anyLow s doms then accessDoms s doms else f (accessDoms s doms)

/-- Every domain an access to these needs: they and their cascades (R16, R468). -/
def withNeeds (doms : List Nat) : List Nat := (doms.flatMap fun d => wakeCascade d ++ [d]).eraseDups

/-- An access through a PCIe view reaches PCIE and FABRIC (R16, R468); a posted write takes effect while the wake goes on (log 39). -/
def accessView (s : State) : State := accessDoms s [domPcie, domFabric]

/-! PWR commands (R472, R473). -/

def pwrPolicySet : Cmd where
  args := fun e _ =>
    let d := argBits e 4 0
    1 ≤ d && d ≤ 22 && argBits e 6 5 ≤ 2 && 1 ≤ argBits e 31 16 && argBits e 31 16 ≤ 60000 && 10 ≤ argBits e 55 32
      && argBits e 55 32 ≤ 10000000 && lowAllowed d (argBit e 7)
      && (argBits e 6 5 != 2 || (!argBit e 7 && ([1, 15, 22].contains d || (7 ≤ d && d ≤ 14))))
  apply := setter fun e s => modDom s (argBits e 4 0) fun x =>
    { x with
      policy := argBits e 6 5, targetOff := argBit e 7, hsPeriodMs := argBits e 31 16, idleUs := argBits e 55 32
      since := s.upNs }
  sets := fun e _ => [(0x0201, argBits e 4 0)]

/-- Domains of a mask in the order in which a lowering command takes them (R467). -/
def lowerOrder (mask : Nat) : List Nat :=
  let named := ((List.range 24).filter (bitOf mask)).reverse
  (named.filter fun d => !lateDoms.contains d) ++ lateDoms.filter (bitOf mask)

def pwrDomainSet : Cmd where
  args := fun e _ =>
    let mask := argBits e 63 32
    argBits e 1 0 ≤ 2 && !bitOf mask 0 && mask < 2 ^ 24
      && (argBits e 1 0 = 0 || (List.range 24).all fun d => !bitOf mask d || lowAllowed d (argBits e 1 0 == 2))
  check := fun _ e s =>
    let off := argBits e 1 0 = 2
    if argBits e 1 0 = 0 then none
    else
      ((List.range 24).find? fun d =>
        bitOf (argBits e 63 32) d && !inLow s d off && (lockedDom s d || !lowCondition s d off)).map fun d => refuse stRefusedState d
  apply := fun _ e s =>
    let mask := argBits e 63 32
    if argBits e 1 0 = 0 then
      let t := wakeMask s mask
      if (List.range 24).all fun d => !bitOf mask d || (domOf s d).state == .on then (t, okFigures [0]) else (t, { status := stAccepted })
    else
      let off := argBits e 1 0 == 2
      let todo := lowerOrder mask
      if todo.all fun d => inLow s d off then (s, okFigures [0])
      else
        ({ s with pwr := { s.pwr with commands := s.pwr.commands ++ [{ e := e, off := off, todo := todo, done := [], answered := false }] } },
          { status := stAccepted })
  longRef := fun e s => domMask ((List.range 24).filter fun d => bitOf (argBits e 63 32) d && (domOf s d).state != .on)
  after := fun e s => if argBits e 1 0 != 0 && s.pwr.commands.length = 1 then domNext domSteps s else s

/-- A pending request of a domain (R472, log 38): 0 none, 1 Retention, 2 Off, 3 a wake after the entry. -/
def domPending (x : Domain) : Nat :=
  if x.wakeNext then 3
  else
    match x.request with
    | some (off, _) => if off then 2 else 1
    | none => 0

def pwrStatus : Cmd where
  apply := getter fun _ s =>
    okData ((List.range 24).flatMap fun d =>
      let x := domOf s d
      [domCode x.state, x.policy, natOf (lockedDom s d), domPending x].map (BitVec.ofNat 8))

def pwrRefSet : Cmd where
  args := fun e _ => 500 ≤ argBits e 15 0 && argBits e 15 0 ≤ 20000
  apply := setter fun e s => { s with pwr := { s.pwr with refSettleUs := argBits e 15 0 } }
  sets := fun _ _ => [(0x0241, 0)]

def pwrBlockQuery : Cmd where
  args := fun e _ => argBits e 4 0 ≤ 23
  apply := getter fun e s =>
    let d := argBits e 4 0
    okFigures ((List.range (domBlocks d)).flatMap fun i =>
      let a := nth 0 (domOf s d).answers i
      let row : List Int := [i, domDelayUs d, a]
      row)

end Sys2Proof.Machine
end

