-- ==== Sys2Proof/Machine/Node.lean ====
section
/-! DEFINITION. The node table: entries, buckets, insertion, relocation, deletion, the journal, learning, aging, scrub and compare
(chapter 7), with the counter streams of R139 to R141 and R372. -/

namespace Sys2Proof.Machine

/-! Table counters in the order of R292. -/

def ncLearnDrop : Nat := 5
def ncLearnFlood : Nat := 6
def ncJoinBadClass : Nat := 7
def ncInsertFail : Nat := 8
def ncRelocMoves : Nat := 9
def ncAgeDeleted : Nat := 10
def ncAgeCancelled : Nat := 11
def ncEccCorrected : Nat := 12
def ncEccUncorrected : Nat := 13
def ncShadowRepair : Nat := 14
def ncUnknownSrc : Nat := 15
def ncTableErr : Nat := 16
def ncJournalOverflow : Nat := 17

/-- Add one to a table counter (R292). -/
def nodeCount (s : State) (i : Nat) : State := modNodes s fun d => { d with counters := bump d.counters i }

/-! Counter streams. -/

/-- Change frame protection. -/
def modCrypt (s : State) (f : Crypt → Crypt) : State := { s with crypt := f s.crypt }

/-- A generation draws its epochs from `epoch_prev` (R372). -/
def drawsPrev (r : EpochRec) (g : Nat) : Bool := r.genPrev.toNat != 0xFF && r.genPrev.toNat == g

/-- Epoch in force for a generation (R372). -/
def epochFor (r : EpochRec) (g : Nat) : Nat := if drawsPrev r g then r.epochPrev.toNat else r.epochCur.toNat

/-- Ask flash for an epoch above `e` for a generation, unless it holds one or the epoch stands at 0xFFF (R141). -/
def requestEpoch (s : State) (g e : Nat) : State :=
  let r := s.crypt.flashEpochs
  if e < epochFor r g || 0xFFF ≤ e then s
  else
    let base := s.crypt.epochWrite.getD r
    let r' := if drawsPrev r g then { base with epochPrev := BitVec.ofNat 12 (e + 1) } else { base with epochCur := BitVec.ofNat 12 (e + 1) }
    { s with
      crypt := { s.crypt with epochWrite := some r' } }

/-- Where a stream under a generation may start: at its epoch in force, above every counter that a deleted entry's stream used under
it (R37, R140; DESIGN CHOICE, log 104). -/
def streamFloor (s : State) (g : Nat) : Nat := max (epochFor s.crypt.epochs g * 1048576) ((mapGet s.crypt.retired g).getD 0)

/-- The generations an entry's stream may have drawn from: both while its `key_gen` is unknown. -/
def streamGens (s : State) (n : NodeEntry) : List Nat :=
  let r := s.crypt.epochs
  if n.keyGen != 0xFF then [n.keyGen.toNat] else if r.genPrev = 0xFF then [r.genCur.toNat] else [r.genCur.toNat, r.genPrev.toNat]

/-- Keep the counters of an entry that goes from being sent again (R37). -/
def retireStream (s : State) (n : NodeEntry) : State :=
  let top (m : SMap Nat) (g : Nat) : SMap Nat := mapSet m g (max ((mapGet m g).getD 0) (n.txEpoch * 1048576 + n.txCount))
  modCrypt s fun c => { c with retired := (streamGens s n).foldl top c.retired }

/-! The 64-byte entry (R266). -/

/-- Two's-complement field. -/
def fieldOf (w : Nat) (x : Int) : Nat := unsignedOf w x

/-- The eight words of an entry at an index. -/
def entryWords (n : NodeEntry) (calNext : Nat) : List Nat :=
  [ 2 ^ 63 + natOf n.hit * 2 ^ 62 + n.relocSeq % 4 * 2 ^ 60 + natOf n.isStatic * 2 ^ 59 + n.role % 4 * 2 ^ 57
      + natOf n.coldChal * 2 ^ 56 + natOf n.adrift * 2 ^ 55 + n.learnPort % 8 * 2 ^ 52 + n.rxRing % 16 * 2 ^ 48
      + n.keyGen.toNat * 2 ^ 40 + n.attenDb % 32 * 2 ^ 35 + n.meshAddr.toNat
  , n.eui.toNat
  , n.rxCounter.toNat * 2 ^ 32 + n.txEpoch % 4096 * 2 ^ 20 + n.txCount % 2 ^ 20
  , n.classId % 65536 * 2 ^ 48 + n.band % 4 * 2 ^ 46 + n.chOff % 128 * 2 ^ 39 + calNext % 2 ^ 18 * 2 ^ 21
      + n.routeRef % 2 ^ 18 * 8 + n.rateReq % 4 * 2
  , n.wakePeriod % 2 ^ 24 * 2 ^ 40 + n.wakeOffset % 2 ^ 24 * 2 ^ 16 + fieldOf 16 n.driftQ
  , n.nextWake % 2 ^ 40 * 2 ^ 24 + n.uplinksDue % 256 * 2 ^ 16
      + (if n.adrift then n.adriftDeadline / 2 ^ 32 % 256
         else natOf n.altValid * 128 + n.misses % 4 * 32 + n.samples % 8 * 4 + natOf n.outliers * 2 + natOf n.outlierNeg)
  , n.refNs % 2 ^ 64
  , fieldOf 32 n.refOff * 2 ^ 32 + (if n.adrift then n.adriftDeadline % 2 ^ 32 else fieldOf 32 n.altOff) ]

/-- The 64 bytes of an entry. -/
def nodeBytes (n : NodeEntry) (calNext : Nat) : List Byte := (entryWords n calNext).flatMap (leBytes 8)

/-- `valid` of 64 entry bytes. -/
def entryValid (b : List Byte) : Bool := bitOf (leAt b 0 8) 63

/-- Read 64 entry bytes (R266, R267). -/
def entryOf (b : List Byte) : NodeEntry :=
  let w (i : Nat) : Nat := leAt b (8 * i) 8
  let ad := bitOf (w 0) 55
  { hit := bitOf (w 0) 62, relocSeq := bitsOf (w 0) 61 60, isStatic := bitOf (w 0) 59, role := bitsOf (w 0) 58 57
    coldChal := bitOf (w 0) 56, adrift := ad, learnPort := bitsOf (w 0) 54 52, rxRing := bitsOf (w 0) 51 48
    keyGen := BitVec.ofNat 8 (bitsOf (w 0) 47 40), attenDb := bitsOf (w 0) 39 35, meshAddr := BitVec.ofNat 32 (w 0)
    eui := BitVec.ofNat 64 (w 1), rxCounter := BitVec.ofNat 32 (bitsOf (w 2) 63 32), txEpoch := bitsOf (w 2) 31 20
    txCount := bitsOf (w 2) 19 0, classId := bitsOf (w 3) 63 48, band := bitsOf (w 3) 47 46, chOff := bitsOf (w 3) 45 39
    routeRef := bitsOf (w 3) 20 3, rateReq := bitsOf (w 3) 2 1, wakePeriod := bitsOf (w 4) 63 40
    wakeOffset := bitsOf (w 4) 39 16, driftQ := signedOf 16 (bitsOf (w 4) 15 0), nextWake := bitsOf (w 5) 63 24
    uplinksDue := bitsOf (w 5) 23 16, altValid := !ad && bitOf (w 5) 7, misses := if ad then 0 else bitsOf (w 5) 6 5
    samples := if ad then 0 else bitsOf (w 5) 4 2, outliers := !ad && bitOf (w 5) 1, outlierNeg := !ad && bitOf (w 5) 0
    adriftDeadline := if ad then bitsOf (w 5) 7 0 * 2 ^ 32 + bitsOf (w 7) 31 0 else 0, refNs := w 6
    refOff := signedOf 32 (bitsOf (w 7) 63 32), altOff := if ad then 0 else signedOf 32 (bitsOf (w 7) 31 0) }

/-- The bytes a read of an index returns: zeros where no entry stands. -/
def indexBytes (s : State) (i : Nat) : List Byte :=
  match nodeAt s i with
  | some n => nodeBytes n (calNext s i)
  | none => List.replicate 64 0

/-! Addresses and buckets. -/

/-- H_t of an EUI-64 (R270). -/
def addrHash (eui : W64) (t : Nat) : W32 := crc32 (leBytes 8 eui.toNat ++ [BitVec.ofNat 8 t])

/-- Bucket pair of a mesh address (R272). -/
def bucketPair (s : State) (a : W32) : Nat × Nat :=
  let h1 := (crc32 (leBytes 4 a.toNat) ^^^ s.node.hashSeed).toNat
  let h2 := (crc32 (leBytes 4 a.toNat ++ [0xA5]) ^^^ s.node.hashSeed).toNat
  let b1 := h1 % 65536
  (b1, bitsOf h2 15 3 * 8 + (b1 % 8 ^^^ (1 + bitsOf h2 18 16 % 7)))

/-- The four indices of a bucket (R268). -/
def waysOf (b : Nat) : List Nat := [4 * b, 4 * b + 1, 4 * b + 2, 4 * b + 3]

/-- The eight ways a lookup reads. -/
def lookupWays (s : State) (a : W32) : List Nat := let p := bucketPair s a; waysOf p.1 ++ waysOf p.2

/-- The copy a double hit returns: the one whose `reloc_seq` is one ahead (R276). -/
def resolveHits (l : List (Nat × NodeEntry)) : Option Nat :=
  match l with
  | [] => none
  | [x] => some x.1
  | x :: y :: _ => if y.2.relocSeq = (x.2.relocSeq + 1) % 4 then some y.1 else some x.1

/-- Lookup of a mesh address (R273): the index it returns. -/
def lookupAddr (s : State) (a : W32) : Option Nat :=
  resolveHits ((lookupWays s a).filterMap fun i =>
    match nodeAt s i with
    | some n => if n.meshAddr == a then some (i, n) else none
    | none => none)

/-- Lookup of an EUI-64 (R271). -/
def lookupEui (s : State) (eui : W64) : Option Nat :=
  resolveHits (((List.range 4).flatMap fun t =>
    let a := addrHash eui t
    (lookupWays s a).filterMap fun i =>
      match nodeAt s i with
      | some n => if n.meshAddr == a && n.eui == eui then some (i, n) else none
      | none => none).eraseDups)

/-- The node table is frozen (R100): nothing is learned or aged and no `hit` changes (log 87). -/
def tableFrozen (s : State) : Bool := s.part == .quiesced

/-- Every lookup that returns an entry sets its `hit` (R274). -/
def touchHit (s : State) (i : Nat) : State := if tableFrozen s then s else modNode s i fun n => { n with hit := true }

/-- The address of a new node: the first H_t that is free (R270). -/
def assignAddr (s : State) (eui : W64) : Option W32 :=
  ((List.range 4).map (addrHash eui)).find? fun a =>
    !reservedAddr a.toNat && a != s.air.routerAddr && (lookupAddr s a).isNone

/-! The journal (R288, R289). -/

/-- The 16 bytes of a journal record. -/
def journalBytes (r : JournalRec) : List Byte :=
  leBytes 4 r.seq.toNat ++ leBytes 4 (r.kind.toNat * 2 ^ 24 + r.index % 2 ^ 18) ++ leBytes 4 r.meshAddr.toNat
    ++ leBytes 4 (r.fromIndex % 2 ^ 18)

/-- Send a journal record with its entry to the standby, or keep it in the delta log (R445, R456). -/
def replicateJournal (s : State) (r : JournalRec) : State :=
  let body := indexBytes s r.index
  if replicating s then linkHold (linkSend s lmJournal (journalBytes r ++ body)) .launch
  else if copying s then
    deltaAdd s (.journal { seq := r.seq, kind := r.kind, index := r.index, meshAddr := r.meshAddr, fromIndex := r.fromIndex
                           entry := BitVec.ofNat 512 (leNat body) })
  else s

/-- Journal a change: `from` differs from `index` only for a relocation. At 16,384 unacknowledged records it overflows. -/
def journalAdd (s : State) (kind index : Nat) (addr : W32) (src : Nat) : State :=
  let r : JournalRec := { seq := s.node.journalSeq + 1, kind := BitVec.ofNat 8 kind, index := index, meshAddr := addr, fromIndex := src }
  let s :=
    if s.node.overflow then s
    else if 16384 ≤ s.node.journal.length then nodeCount (modNodes s fun d => { d with overflow := true }) ncJournalOverflow
    else modNodes s fun d => { d with journal := d.journal ++ [r], journalSeq := r.seq }
  replicateJournal s r

/-! Insertion and relocation (R275 to R277). -/

/-- The other bucket of the entry at an index. -/
def otherBucket (s : State) (i : Nat) : Nat :=
  match nodeAt s i with
  | some n => let p := bucketPair s n.meshAddr; if i / 4 = p.1 then p.2 else p.1
  | none => 0

/-- The first free way of a bucket. -/
def freeWay (s : State) (b : Nat) : Option Nat := (waysOf b).find? fun i => (nodeAt s i).isNone

/-- Plan a relocation path from a full bucket: the victims in order and the free way at its end. `rot` is the rotating pointer. -/
def planPath (s : State) : Nat → Nat → Nat → List Nat → Option (List Nat × Nat × Nat)
  | 0, _, _, _ => none
  | k + 1, b, rot, path =>
    let ways := (waysOf b).filter fun i => !path.contains i
    match ways.find? fun i => (freeWay s (otherBucket s i)).isSome with
    | some i => (freeWay s (otherBucket s i)).map fun f => (path ++ [i], f, rot)
    | none =>
      match ways[rot % max ways.length 1]? with
      | some i => planPath s k (otherBucket s i) ((rot + 1) % 4) (path ++ [i])
      | none => none

/-- A frame in hand follows its node to another index. -/
def Uplink.moved (u : Uplink) (i j : Nat) : Uplink := if u.nodeValid && u.index = i then { u with index := j } else u

/-- A moved index: the links of the calendar and of the relays' lists that name it are rewritten (R296), and so are the frames of the
node in hand, those that wait for the twin and cut-through series, which go on to its destination (R35). -/
def renameIndex (s : State) (i j : Nat) : State :=
  let ren (l : List Nat) : List Nat := l.map fun x => if x = i then j else x
  let held (w : Waiting) : Waiting := match w.hold with | .uplink u => { w with hold := .uplink (u.moved i j) } | _ => w
  let cut (k : CutRx) : CutRx := if k.index = i then { k with index := j } else k
  { s with
    path := { s.path with uplinks := s.path.uplinks.map (·.moved i j), threads := s.path.threads.map (·.moved i j) }
    pair := { s.pair with waits := s.pair.waits.map held }
    radio := { s.radio with ctxs := s.radio.ctxs.map fun p => (p.1, { p.2 with rx := p.2.rx.map fun r => { r with cut := r.cut.map cut } }) }
    orbit := { s.orbit with calendar := s.orbit.calendar.map fun p => (p.1, ren p.2) }
    route := { s.route with relays := s.route.relays.map fun p => (p.1, { p.2 with pend := ren p.2.pend }) } }

/-- Move the entry at `i` to the free index `j` (R275): copied with `hit` and `reloc_seq` advanced, then cleared at `i`. -/
def moveEntry (s : State) (i j : Nat) : State :=
  match nodeAt s i with
  | none => s
  | some n =>
    let n' := { n with hit := true, relocSeq := (n.relocSeq + 1) % 4 }
    let s := modNodes s fun d => { d with table := mapSet (mapDel d.table i) j n' }
    journalAdd (nodeCount (renameIndex s i j) ncRelocMoves) 3 j n.meshAddr i

/-- Execute a path from its far end: each victim moves to the way freed after it. The answer is the way freed at its start. -/
def runPath (s : State) (path : List Nat) (free : Nat) : State × Nat :=
  path.reverse.foldl (fun p i => (moveEntry p.1 i p.2, i)) (s, free)

/-- Write an entry at an index. -/
def writeEntry (s : State) (i : Nat) (n : NodeEntry) : State :=
  modNodes s fun d => { d with table := mapSet d.table i n }

/-- Insert an entry whose address is assigned (R275): the index it takes, none where 32 moves find no free way. -/
def insertEntry (s : State) (n : NodeEntry) : State × Option Nat :=
  let p := bucketPair s n.meshAddr
  match freeWay s p.1, freeWay s p.2 with
  | some i, _ => (writeEntry s i { n with hit := true }, some i)
  | none, some i => (writeEntry s i { n with hit := true }, some i)
  | none, none =>
    let near := ((waysOf p.1 ++ waysOf p.2).find? fun i => (freeWay s (otherBucket s i)).isSome)
    let plan :=
      match near with
      | some i => (freeWay s (otherBucket s i)).map fun f => ([i], f, s.node.rotor)
      | none => planPath s 32 p.1 s.node.rotor []
    match plan with
    | some (path, free, rot) =>
      let (s, i) := runPath (modNodes s fun d => { d with rotor := rot }) path free
      (writeEntry s i { n with hit := true }, some i)
    | none => (s, none)

/-- A failed insertion counts and raises its event at most once a second (R277, R290). -/
def insertFailed (s : State) (port : Nat) (eui : W64) : State :=
  let s := nodeCount s ncInsertFail
  let due := match s.node.insertFailAt with | none => true | some t => t + 1000000000 ≤ s.upNs
  if due then
    raiseEvent (modNodes s fun d => { d with insertFailAt := some s.upNs }) evInsertFail port (eui.toNat % 2 ^ 32)
      (eui.toNat / 2 ^ 32) (nth 0 s.node.counters ncInsertFail).toNat
  else s

/-- A fresh entry (R266, R275): its clock model at the reference (now, 0), its outgoing stream at the epoch of its generation, above
every counter an earlier entry used (R37). -/
def freshEntry (s : State) (eui : W64) (addr : W32) (port classId band chOff period offset keyGen : Nat) : NodeEntry :=
  { hit := true, relocSeq := 0, isStatic := false, role := 0, coldChal := false, adrift := false, learnPort := port, rxRing := 0
    keyGen := BitVec.ofNat 8 keyGen, attenDb := 0, meshAddr := addr, eui := eui, rxCounter := 0
    txEpoch := streamFloor s keyGen / 1048576, txCount := streamFloor s keyGen % 1048576, classId := classId, band := band, chOff := chOff, routeRef := 0
    rateReq := 0, wakePeriod := period, wakeOffset := offset, driftQ := 0, nextWake := 0, uplinksDue := 0, altValid := false
    misses := 0, samples := 0, outliers := false, outlierNeg := false, adriftDeadline := 0, refNs := nowNs s, refOff := 0, altOff := 0 }

/-! Deletion (R285). -/

/-- Unlink a node from its calendar bucket, its relay's list and its parent's child count; a relay's own slot is freed. -/
def unlinkNode (s : State) (i : Nat) (n : NodeEntry) : State :=
  let s := unfile s i
  let drop (r : SMap RelaySlot) (k : Nat) : SMap RelaySlot := mapMod r k fun x => { x with childCount := x.childCount - 1 }
  let r := s.route.relays.map fun p => (p.1, { p.2 with pend := p.2.pend.filter (· != i) })
  let r :=
    match routeKind n with
    | 1 => drop r (routeSlot n)
    | 2 =>
      let own := mapGet r (routeSlot n)
      let r := mapDel r (routeSlot n)
      match own with
      | some x => if x.parentPart then r else drop r x.parentSlot
      | none => r
    | _ => r
  { s with route := { s.route with relays := r } }

/-- Delete an entry in one step (R285), journalled with a kind: the derived-key cache drops its keys, and a schedule change
under way completes with `ST_NOT_FOUND` (log 33). -/
def deleteNode (s : State) (i kind : Nat) : State :=
  match nodeAt s i with
  | none => s
  | some n =>
    let s := modNodes (unlinkNode (retireStream s n) i n) fun d => { d with table := mapDel d.table i }
    let s := modKey s fun k => { k with cache := k.cache.filter fun p => p.2.eui != n.eui }
    let cmds := (s.orbit.schedUpdates.filter fun u => u.addr == n.meshAddr).map (·.cmd)
    let s := modOrbit s fun o =>
      { o with schedUpdates := o.schedUpdates.filter (·.addr != n.meshAddr)
               blinks := o.blinks.filter (· != n.meshAddr)
               unjoined := o.unjoined.filter (· != n.meshAddr) }
    let s := cmds.foldl (fun s c => finishWhere s (fun op => some op.e == c) fun _ => refuse stNotFound) s
    journalAdd s kind i n.meshAddr i

/-! Repair (R287). -/

/-- Index and word of a table error's key. -/
def errorsOf (s : State) (i : Nat) : SMap Bool := s.node.errors.filter fun p => p.1 / 8 = i

/-- Mark an entry under repair: its cause and affected words. -/
def markRepair (s : State) (i cause words : Nat) : State :=
  let r : Repair :=
    match mapGet s.node.repair i with
    | some r => { r with words := r.words ||| words }
    | none => { cause := cause, words := words }
  modNodes s fun d => { d with repair := mapSet d.repair i r }

/-- Read a word of the table (R286): a correctable error is corrected and counted, an uncorrectable one puts the entry under repair. -/
def readWord (s : State) (i w : Nat) : State :=
  match mapGet s.node.errors (8 * i + w) with
  | none => s
  | some bad =>
    let s := modNodes s fun d => { d with errors := mapDel d.errors (8 * i + w) }
    if bad then markRepair (nodeCount s ncEccUncorrected) i 0 (2 ^ w) else nodeCount s ncEccCorrected

/-- Read the eight words of an entry. -/
def readEntryWords (s : State) (i : Nat) : State := (List.range 8).foldl (fun s w => readWord s i w) s

/-- The lookup of an address reads all eight ways of its two candidate buckets, correcting as it reads (R273, R286). -/
def passAddr (s : State) (a : W32) : State := if s.node.errors.isEmpty then s else (lookupWays s a).foldl readEntryWords s

/-- The lookups of H_0 to H_3 read their buckets alike (R271, R273). -/
def passEui (s : State) (eui : W64) : State := (List.range 4).foldl (fun s t => passAddr s (addrHash eui t)) s

/-- An entry is under repair. -/
def underRepair (s : State) (i : Nat) : Bool := mapHas s.node.repair i

/-- Raise `EV_TABLE_MISMATCH` with the journal sequence of the repair record (R290). -/
def mismatchEvent (s : State) (i words cause : Nat) (addr : W32) : State :=
  raiseEvent s evTableMismatch i (cause * 256 + words) addr.toNat s.node.journalSeq.toNat

/-- The new epoch of a stream whose counter is lost (R141, R287): above every epoch its generation has in force; one that would pass
0xFFF is left the last counter of that epoch (R39, R375). -/
def lostStream (s : State) (n : NodeEntry) : Nat × Nat :=
  let e := (streamGens s n).foldl (fun m g => max m (max (epochFor s.crypt.flashEpochs g) (epochFor s.crypt.epochs g + 1))) 0
  if e ≤ 0xFFF then (e, 0) else (0xFFF, 0xFFFFF)

/-- Dynamic fields of the affected words at their repair values (R287). -/
def repairWords (s : State) (words : Nat) (n : NodeEntry) : NodeEntry :=
  let lost (w : Nat) : Bool := bitOf words w
  let n := if lost 0 then
    { n with hit := true, coldChal := true, adrift := false, keyGen := 0xFF, altValid := false, misses := 0, samples := 0
             outliers := false, outlierNeg := false, altOff := 0, adriftDeadline := 0 } else n
  let n := if lost 2 then
    { n with rxCounter := 0, coldChal := true, txEpoch := (lostStream s n).1, txCount := (lostStream s n).2 } else n
  let n := if lost 3 then { n with rateReq := 0 } else n
  let n := if lost 4 then { n with driftQ := 0, samples := 0 } else n
  let hold := ((classOf s n.classId).map (·.holdS)).getD 0
  let deadline := asnAt s (nowNs s + hold * 1000000000)
  let n := if lost 5 then
    { n with uplinksDue := 0, altValid := false, misses := 0, samples := 0, outliers := false, outlierNeg := false
             adriftDeadline := if n.adrift then deadline else 0 } else n
  if lost 6 || lost 7 then
    { n with refNs := nowNs s, refOff := 0, altOff := 0, samples := 0, altValid := false
             adriftDeadline := if n.adrift then deadline else 0 } else n

/-- Shadowed fields from the shadow copy (R287). -/
def fromShadow (h n : NodeEntry) : NodeEntry :=
  { n with isStatic := h.isStatic, role := h.role, learnPort := h.learnPort, rxRing := h.rxRing, attenDb := h.attenDb
           meshAddr := h.meshAddr, eui := h.eui, classId := h.classId, band := h.band, chOff := h.chOff, routeRef := h.routeRef
           wakePeriod := h.wakePeriod, wakeOffset := h.wakeOffset }

/-- A shadow address may stand at an index (R287). -/
def shadowPlaceable (s : State) (i : Nat) (a : W32) : Bool :=
  let p := bucketPair s a
  !reservedAddr a.toNat && (i / 4 == p.1 || i / 4 == p.2) && s.node.table.all fun x => x.1 == i || x.2.meshAddr != a

/-- Pending frames of a node that is gone complete with `err_dest` (log 33). -/
def orphanFrames (s : State) (a : W32) : State :=
  (framesFor s a).foldl (fun s p => if p.2.onAir then flushFrame s p.1 else completeFrame s p.1 fsFlushed true false) s

/-- Repair an entry (R287, R289). -/
def repairEntry (s : State) (i cause words : Nat) (shadow : List Byte) : State :=
  let s := modNodes s fun d => { d with repair := mapDel d.repair i, errors := d.errors.filter fun p => p.1 / 8 != i }
  let addr := ((nodeAt s i).map (·.meshAddr)).getD 0
  let gone (s : State) (c : Nat) : State :=
    match nodeAt s i with
    | none => mismatchEvent (journalAdd s 7 i addr i) i words c addr
    | some n =>
      let s := if bitOf words 2 then writeEntry s i (repairWords s words n) else s
      mismatchEvent (orphanFrames (deleteNode s i 7) n.meshAddr) i words c addr
  if !s.node.shadowOn then gone s 2
  else
    let c := if s.node.overflow then 3 else cause
    let h := entryOf shadow
    if !entryValid shadow then gone s c
    else if !shadowPlaceable s i h.meshAddr then gone s 4
    else
      let old := (nodeAt s i).getD (entryOf (List.replicate 64 0))
      let n := repairWords s words (fromShadow h old)
      let s := nodeCount (writeEntry s i n) ncShadowRepair
      let s := if bitOf words 2 then requestEpoch s n.keyGen.toNat (n.txEpoch - 1) else s
      let s := if bitOf words 5 then fileFrom s i (currentAsn s + 2)
        else if isFiled s i || bitOf words 3 then (if numbering s && meetsPart s n then refile s i else s) else s
      let s := journalAdd s 7 i n.meshAddr i
      mismatchEvent s i words c n.meshAddr

/-- The scrubber's read of one word (R286); an entry already under repair is repaired first (log 34). -/
def scrubWord (s : State) (shadow : List Byte) : State :=
  match s.node.repair with
  | (i, r) :: _ => repairEntry s i r.cause r.words shadow
  | [] =>
    let i := s.node.scrubPos / 8
    let s := readWord s i (s.node.scrubPos % 8)
    let s := modNodes s fun d => { d with scrubPos := (d.scrubPos + 1) % 2097152 }
    match mapGet s.node.repair i with
    | some r => repairEntry s i r.cause r.words shadow
    | none => s

/-- SCRUB_READ: it waits for the table's banks (R16). -/
def scrubOp (s : State) (shadow : List Byte) : State := worksOn tableDoms (scrubWord · shadow) s

/-- Words in which the shadowed fields of an entry differ from its shadow copy (R287). -/
def shadowDiff (s : State) (i : Nat) (shadow : List Byte) : Nat :=
  let h := entryOf shadow
  match nodeAt s i with
  | none => if entryValid shadow then 1 else 0
  | some n =>
    if !entryValid shadow then 1
    else
      natOf (n.isStatic != h.isStatic || n.role != h.role || n.learnPort != h.learnPort || n.rxRing != h.rxRing
          || n.attenDb != h.attenDb || n.meshAddr != h.meshAddr)
        + 2 * natOf (n.eui != h.eui)
        + 8 * natOf (n.classId != h.classId || n.band != h.band || n.chOff != h.chOff || n.routeRef != h.routeRef)
        + 16 * natOf (n.wakePeriod != h.wakePeriod || n.wakeOffset != h.wakeOffset)

/-- The compare's read of one entry (R286, R287, R289). -/
def compareEntry (s : State) (shadow : List Byte) : State :=
  let i := s.node.cmpPos
  let s := modNodes (readEntryWords s i) fun d => { d with cmpPos := (d.cmpPos + 1) % 262144 }
  let unacked := s.node.journal.any fun r => r.index == i || r.fromIndex == i
  match mapGet s.node.repair i with
  | some r => repairEntry s i r.cause r.words shadow
  | none =>
    let d := shadowDiff s i shadow
    if d = 0 || unacked then s else repairEntry s i 1 (d ||| 1) shadow

/-- SHADOW_COMPARE: with a shadow and no overflow; it waits for the table's banks (R16). -/
def compareOp (s : State) (shadow : List Byte) : State :=
  if !s.node.shadowOn || s.node.overflow then s else worksOn tableDoms (compareEntry · shadow) s

/-! Aging (R283, R284). -/

/-- Entries the scan leaves alone (R283, R296): static ones, those with frames, those under repair, relays with children. -/
def agingSkips (s : State) (i : Nat) (n : NodeEntry) : Bool :=
  let children := routeKind n == 2 && decide (0 < ((mapGet s.route.relays (routeSlot n)).map (·.childCount)).getD 0)
  n.isStatic || underRepair s i || children || !(framesFor s n.meshAddr).isEmpty

/-- A compare-and-delete at its commit in the node's flow: a hit since the visit cancels it (R284). -/
def commitDelete (s : State) (a : W32) : State :=
  let s := modNodes s fun d => { d with ageDeletes := d.ageDeletes.filter (· != a) }
  match (lookupAddr s a).bind fun i => (nodeAt s i).map fun n => (i, n) with
  | none => s
  | some (i, n) =>
    if n.hit then nodeCount s ncAgeCancelled
    else if agingSkips s i n then s
    else nodeCount (deleteNode s i 4) ncAgeDeleted

/-- The compare-and-deletes whose flow is free commit. -/
def commitDeletes (s : State) : State :=
  (s.node.ageDeletes.filter fun a => !(flowOf s (flowIndex a)).busy).foldl commitDelete s

/-- One visit of the aging scan: `hit` is cleared, or a compare-and-delete goes to the node's flow (R283, R284). -/
def ageEntry (s : State) : State :=
  let i := s.node.agePos
  let s := modNodes s fun d => { d with agePos := (d.agePos + 1) % 262144 }
  match nodeAt s i with
  | none => s
  | some n =>
    if agingSkips s i n then s
    else if n.hit then modNode s i fun n => { n with hit := false }
    else commitDeletes (modNodes s fun d =>
      { d with ageDeletes := if d.ageDeletes.contains n.meshAddr then d.ageDeletes else d.ageDeletes ++ [n.meshAddr] })

/-- AGING_VISIT: the scan rests with `age_s` 0, while the table is frozen (R100, R283) and on a standby (R282); it waits for the table's banks (R16). -/
def agingOp (s : State) : State := if s.node.ageS = 0 || tableFrozen s || s.role == .standby then s else worksOn tableDoms ageEntry s

/-! Learning (R279 to R281). -/

/-- A port's budgets. -/
def portOf (s : State) (p : Nat) : LearnPort := nth bandLearn s.node.learn p

/-- Change a port's budgets. -/
def modPort (s : State) (p : Nat) (f : LearnPort → LearnPort) : State := modNodes s fun d => { d with learn := modNth d.learn p f }

/-- Refill a port's token bucket to the present instant. -/
def refillPort (s : State) (p : Nat) : State :=
  modPort s p fun x => { x with tokens := min (x.burst * 1000000000) (x.tokens + x.rate * (s.upNs - x.filledAt)), filledAt := s.upNs }

/-- Entries that hold a `learn_port`. -/
def learnedBy (s : State) (p : Nat) : Nat := (s.node.table.filter fun x => x.2.learnPort == p).length

/-- Outcome of charging a port's budgets: count first, rate second (R279). -/
inductive Charge where
  | allowed | byCount | byRate
deriving DecidableEq, Repr

/-- Charge a port for one entry. -/
def chargePort (s : State) (p : Nat) : State × Charge :=
  let s := refillPort s p
  let x := portOf s p
  if x.count ≤ learnedBy s p then (s, .byCount)
  else if x.tokens < 1000000000 then (s, .byRate)
  else (modPort s p fun x => { x with tokens := x.tokens - 1000000000 }, .allowed)

/-- Return the token of an insertion that failed (R279). -/
def returnToken (s : State) (p : Nat) : State :=
  modPort s p fun x => { x with tokens := min (x.burst * 1000000000) (x.tokens + 1000000000) }

/-- A refusal by a budget is counted and raises `EV_LEARN_LIMIT` at most once a second per port (R280, R281). -/
def learnRefused (s : State) (p : Nat) (byCount : Bool) : State :=
  let x := portOf s p
  let s := nodeCount s (if x.flood then ncLearnFlood else ncLearnDrop)
  let s := modPort s p fun x => { x with refused := x.refused + 1 }
  let due := match x.eventAt with | none => true | some t => t + 1000000000 ≤ s.upNs
  if due then
    raiseEvent (modPort s p fun x => { x with eventAt := some s.upNs }) evLearnLimit p (x.refused + 1) (natOf byCount) (natOf x.flood)
  else s

/-! NODE commands (R291). -/

/-- Key of a command that selects by index, address or EUI: its `key_sel`, and the index it names. -/
def keyIndex (e : CmdEntry) (s : State) : Option Nat :=
  match argBits e 1 0 with
  | 0 => some (argBits e 49 32)
  | 1 => lookupAddr s (BitVec.ofNat 32 (argBits e 63 32))
  | _ => lookupEui s (BitVec.ofNat 64 (argBits e 95 32))

/-- The lookup that a key asks for reads its buckets (R273, R286). -/
def keyPass (e : CmdEntry) (s : State) : State :=
  match argBits e 1 0 with
  | 0 => s
  | 1 => passAddr s (BitVec.ofNat 32 (argBits e 63 32))
  | _ => passEui s (BitVec.ofNat 64 (argBits e 95 32))

/-- Key field in range: bits of the two words that the key does not use are zero. -/
def keyArgsOk (e : CmdEntry) : Bool :=
  match argBits e 1 0 with
  | 0 => argBits e 95 50 = 0
  | 1 => argBits e 95 64 = 0
  | 2 => true
  | _ => false

/-- The entry `NODE_ADD` asks for, at an address. -/
def addedEntry (e : CmdEntry) (s : State) (a : W32) : NodeEntry :=
  { freshEntry s (BitVec.ofNat 64 (argBits e 63 0)) a 5 (argBits e 79 64) (argBits e 81 80) (argBits e 88 82)
      (argBits e 119 96) (argBits e 151 128) 0xFF with
    rxRing := argBits e 95 92, attenDb := argBits e 156 152, isStatic := argBit e 157 }

def nodeAdd : Cmd where
  args := fun e _ => argBits e 81 80 ≤ 2 && argBits e 119 96 != 0 && argBits e 151 128 < argBits e 119 96
  check := fun _ e s =>
    match lookupEui s (BitVec.ofNat 64 (argBits e 63 0)) with
    | some i => some (refuse stRefusedState i)
    | none =>
      match classOf s (argBits e 79 64) with
      | none => some (refuse stBadArg)
      | some c =>
        orRefuse (refuseIf (classProfile c (argBits e 81 80) = 0) stBadArg)
          (refuseIf (overfills s (addedEntry e s 0) (currentAsn s + 2)) stNoRoom)
  apply := fun _ e s =>
    let eui := BitVec.ofNat 64 (argBits e 63 0)
    match assignAddr s eui with
    | none => (insertFailed s 5 eui, refuse stNoRoom)
    | some a =>
      match insertEntry s (addedEntry e s a) with
      | (s, none) => (insertFailed s 5 eui, refuse stNoRoom)
      | (s, some i) => (fileFrom (journalAdd s 2 i a i) i (currentAsn s + 2), okData (leBytes 4 i ++ leBytes 4 a.toNat))

def nodeRemove : Cmd where
  args := fun e _ => keyArgsOk e
  check := fun _ e s =>
    match (keyIndex e s).bind (nodeAt s) with
    | none => some (refuse stNotFound)
    | some n =>
      let children := routeKind n == 2 && decide (0 < ((mapGet s.route.relays (routeSlot n)).map (·.childCount)).getD 0)
      refuseIf (children || (!argBit e 2 && !(framesFor s n.meshAddr).isEmpty)) stRefusedState
  apply := setter fun e s =>
    let s := keyPass e s
    match keyIndex e s with
    | none => s
    | some i =>
      match nodeAt s i with
      | none => s
      | some n => deleteNode (flushNode s n.meshAddr) i 5
  sets := fun e s => (keyIndex e s).toList.map fun i => (0x0707, i)

def nodeRead : Cmd where
  args := fun e _ => keyArgsOk e && 1 ≤ argBits e 25 16 && argBits e 25 16 ≤ 1024 && (argBits e 1 0 = 0 || argBits e 25 16 = 1)
  check := fun _ e s =>
    match keyIndex e s with
    | none => some (refuse stNotFound)
    | some i => refuseIf ((List.range (argBits e 25 16)).all fun k => (nodeAt s (i + k)).isNone) stNotFound
  apply := fun _ e s =>
    let s := keyPass e s
    match keyIndex e s with
    | none => (s, refuse stNotFound)
    | some i =>
      let l := (List.range (min (argBits e 25 16) (262144 - i))).map (i + ·)
      (l.foldl readEntryWords s, okData (l.flatMap (indexBytes s)))

def nodeSet : Cmd where
  check := fun _ e s => refuseIf (nodeAt s (argBits e 17 0)).isNone stNotFound
  apply := setter fun e s =>
    let i := argBits e 17 0
    match nodeAt s i with
    | none => s
    | some n =>
      let n' := { n with
        rxRing := if argBit e 20 then argBits e 27 24 else n.rxRing
        attenDb := if argBit e 21 then argBits e 36 32 else n.attenDb
        isStatic := if argBit e 22 then argBit e 37 else n.isStatic }
      if n' = n then s else journalAdd (writeEntry s i n') 6 i n.meshAddr i

/-- The valid entries of a shadow image with their indices (R291). -/
def imageEntries (b : List Byte) : List (Nat × NodeEntry) :=
  (List.range (b.length / 64)).filterMap fun i =>
    let x := sliceBytes b (64 * i) 64
    if entryValid x then some (i, entryOf x) else none

/-- An image whose placements agree with R272, no address twice. -/
def imageOk (s : State) (l : List (Nat × NodeEntry)) : Bool :=
  l.all fun x =>
    let p := bucketPair s x.2.meshAddr
    (x.1 / 4 == p.1 || x.1 / 4 == p.2) && !reservedAddr x.2.meshAddr.toNat && l.all fun y => y.1 == x.1 || y.2.meshAddr != x.2.meshAddr

/-- An installed entry: the shadowed fields, every word at its repair values, `cold_chal` clear. -/
def installedEntry (s : State) (h : NodeEntry) : NodeEntry :=
  let n := repairWords s 0xFF { fromShadow h (entryOf (List.replicate 64 0)) with nextWake := 0 }
  { n with coldChal := false, txEpoch := epochFor s.crypt.epochs 0xFF, txCount := 0 }

def nodeTableLoad : Cmd where
  check := fun _ e s =>
    orRefuse (refuseIf (s.part != .coldWait && !s.node.table.isEmpty) stRefusedState)
      (refuseIf (!imageOk s (imageEntries (inBuf e))) stBadArg)
  apply := longStart
  finish := fun op s =>
    let l := imageEntries (inBuf op.e)
    let s := (mapKeys s.node.table).foldl unfile s
    let s := modNodes s fun d => { d with table := l.map fun x => (x.1, installedEntry s x.2) }
    let s := if numbering s then l.foldl (fun s x => fileFrom s x.1 (currentAsn s + 2)) s else s
    let s := l.foldl (fun s x => journalAdd s 2 x.1 x.2.meshAddr x.1) s
    some (s, okFigures [l.length])
  sets := fun e _ => (imageEntries (inBuf e)).map fun x => (0x0707, x.1)

def nodeLearnSet : Cmd where
  args := fun e _ => argBits e 2 0 ≤ 4 && 1 ≤ argBits e 47 32 && argBits e 82 64 ≤ 262144
  apply := setter fun e s =>
    let p := argBits e 2 0
    modPort (refillPort s p) p fun x =>
      { x with flood := argBit e 3, ring := argBits e 7 4, rate := argBits e 31 16, burst := argBits e 47 32
               count := argBits e 82 64, tokens := min x.tokens (argBits e 47 32 * 1000000000) }

def nodeAgeSet : Cmd where
  args := fun e _ => argBits e 31 0 = 0 || (60 ≤ argBits e 31 0 && argBits e 31 0 ≤ 2592000)
  apply := setter fun e s => modNodes s fun d => { d with ageS := argBits e 31 0 }

def nodeShadowSet : Cmd where
  args := fun e _ => 1024 ≤ argBits e 50 32 && argBits e 50 32 ≤ 262144 && argBits e 127 64 % 4096 = 0
  apply := setter fun e s =>
    modNodes s fun d => { d with shadowOn := argBit e 0, cmpRate := argBits e 50 32, shadowBase := argBits e 127 64, overflow := false }

/-- A journal sequence lies after another (32-bit, wrapping). -/
def seqAfter (a b : W32) : Bool := let d := (a - b).toNat; d != 0 && decide (d < 2 ^ 31)

def nodeJournalRead : Cmd where
  apply := fun _ e s =>
    let l := s.node.journal.filter fun r => seqAfter r.seq (BitVec.ofNat 32 (argBits e 31 0))
    (modNodes s fun d => { d with journal := l },
      { status := stOk, detail := s.node.journalSeq.toNat, data := l.flatMap journalBytes })

def nodeCounters : Cmd where
  apply := fun _ e s =>
    (if argBit e 0 then modNodes s fun d => { d with counters := clearCtrs d.counters } else s, okData (ctrBytes s.node.counters))

def nodeTableStatus : Cmd where
  apply := fun _ _ s =>
    let s := (List.range 5).foldl refillPort s
    let i (n : Nat) : Int := n
    (s, okFigures ([i s.node.table.length, i (s.node.table.filter fun x => x.2.role != 0).length]
      ++ (List.range 6).map (fun p => i (learnedBy s p)) ++ s.node.learn.map (fun x => i (x.tokens / 1000000000))
      ++ [i s.node.journalSeq.toNat, i (natOf s.node.overflow), i s.node.cmpPos]))

def nodeHashSeed : Cmd where
  check := fun _ _ s => refuseIf (!s.node.table.isEmpty) stRefusedState
  apply := setter fun e s => modNodes s fun d => { d with hashSeed := BitVec.ofNat 32 (argBits e 31 0) }

def nodeWriteRaw : Cmd where
  check := fun _ e s =>
    let p := bucketPair s (entryOf (inBuf e)).meshAddr
    refuseIf (argBits e 17 0 / 4 != p.1 && argBits e 17 0 / 4 != p.2) stBadArg
  apply := setter fun e s =>
    let i := argBits e 17 0
    let n := entryOf (inBuf e)
    let s := modNodes s fun d => { d with errors := d.errors.filter fun p => p.1 / 8 != i }
    let s := match nodeAt s i with | some old => if entryValid (inBuf e) && old.eui == n.eui then s else retireStream s old | none => s
    let s := if entryValid (inBuf e) then writeEntry s i n else modNodes (unfile s i) fun d => { d with table := mapDel d.table i }
    journalAdd s 6 i n.meshAddr i
  sets := fun e _ => [(0x0707, argBits e 17 0)]

def nodeScrubSet : Cmd where
  args := fun e _ => 10 ≤ argBits e 11 0 && argBits e 11 0 ≤ 3600
  apply := setter fun e s => modNodes s fun d => { d with scrubS := argBits e 11 0 }

end Sys2Proof.Machine
end

