-- ==== Sys2Proof/Machine/Lowpan.lean ====
section
/-! DEFINITION. 6LoWPAN header compression of RFC 6282 as far as R303 and R304 take it. -/

namespace Sys2Proof.Machine

/-- The half of a link-local address above its interface identifier (fe80::/64). -/
def linkLocalHi : Nat := 0xFE80000000000000

/-- Interface identifier a node's EUI-64 derives: bit 1 of its first octet inverted (R304). -/
def iidOfEui (eui : W64) : Nat := (eui ^^^ 0x0200000000000000#64).toNat

/-- EUI-64 of an interface identifier (R306). -/
def euiOfIid (iid : Nat) : W64 := BitVec.ofNat 64 iid ^^^ 0x0200000000000000#64

/-- Prefix of a compression context as address bits [127:64]; context 0 is the mesh prefix (R304). -/
def contextHi (s : State) (cid : Nat) : Option (Nat × Nat) :=
  if cid = 0 then some (64, s.route.meshPrefix.toNat) else (mapGet s.route.contexts cid).map fun c => (c.len, c.pfx.toNat)

/-- A part of a header being read: the bytes left, none after a refusal. -/
abbrev Reader := Option (List Byte)

/-- Take `n` bytes as a big-endian number. -/
def takeBe (n : Nat) (bs : List Byte) : Option (Nat × List Byte) :=
  if bs.length < n then none else some (beNat (bs.take n), bs.drop n)

/-- Read a compressed unicast address: `ctx` selects stateful modes, `cid` its context, `iid` the identifier the frame's own
address derives. -/
def readUnicast (s : State) (ctx : Bool) (mode cid : Nat) (iid : Option Nat) (isDest : Bool) (bs : List Byte) :
    Option (Nat × List Byte) :=
  let hi : Option Nat := if ctx then (contextHi s cid).map (·.2) else some linkLocalHi
  match mode with
  | 0 => if ctx then (if isDest then none else some (0, bs)) else takeBe 16 bs
  | 1 => hi.bind fun h => (takeBe 8 bs).map fun p => (h * 2 ^ 64 + p.1, p.2)
  | 2 => hi.bind fun h => (takeBe 2 bs).map fun p => (h * 2 ^ 64 + 0x000000FFFE000000 + p.1, p.2)
  | _ => hi.bind fun h => iid.map fun i => (h * 2 ^ 64 + i, bs)

/-- Read a compressed multicast address (M = 1, DAC = 0). -/
def readMulticast (mode : Nat) (bs : List Byte) : Option (Nat × List Byte) :=
  match mode with
  | 0 => takeBe 16 bs
  | 1 => (takeBe 6 bs).map fun p => (0xFF * 2 ^ 120 + p.1 / 2 ^ 40 * 2 ^ 112 + p.1 % 2 ^ 40, p.2)
  | 2 => (takeBe 4 bs).map fun p => (0xFF * 2 ^ 120 + p.1 / 2 ^ 24 * 2 ^ 112 + p.1 % 2 ^ 24, p.2)
  | _ => (takeBe 1 bs).map fun p => (0xFF02 * 2 ^ 112 + p.1, p.2)

/-- Traffic class and flow label under TF. -/
def readTf (tf : Nat) (bs : List Byte) : Option ((Nat × Nat) × List Byte) :=
  let cls (ecn dscp : Nat) : Nat := dscp * 4 + ecn
  match tf with
  | 0 => (takeBe 4 bs).map fun p => ((cls (bitsOf p.1 31 30) (bitsOf p.1 29 24), p.1 % 2 ^ 20), p.2)
  | 1 => (takeBe 3 bs).map fun p => ((cls (bitsOf p.1 23 22) 0, p.1 % 2 ^ 20), p.2)
  | 2 => (takeBe 1 bs).map fun p => ((cls (bitsOf p.1 7 6) (bitsOf p.1 5 0), 0), p.2)
  | _ => some ((0, 0), bs)

/-- UDP ports under P. -/
def readPorts (p : Nat) (bs : List Byte) : Option ((Nat × Nat) × List Byte) :=
  match p with
  | 0 => (takeBe 4 bs).map fun q => ((q.1 / 65536, q.1 % 65536), q.2)
  | 1 => (takeBe 3 bs).map fun q => ((q.1 / 256, 0xF000 + q.1 % 256), q.2)
  | 2 => (takeBe 3 bs).map fun q => ((0xF000 + q.1 / 65536, q.1 % 65536), q.2)
  | _ => (takeBe 1 bs).map fun q => ((0xF0B0 + q.1 / 16, 0xF0B0 + q.1 % 16), q.2)

/-- The bytes of an IPv6 header. -/
def ipv6Header (tc flow len nh hl src dst : Nat) : List Byte :=
  beBytes 4 (6 * 2 ^ 28 + tc * 2 ^ 20 + flow) ++ beBytes 2 len ++ [BitVec.ofNat 8 nh, BitVec.ofNat 8 hl] ++ beBytes 16 src ++ beBytes 16 dst

/-- The body of an IPHC packet: the next header number and the bytes after the IPv6 header. -/
def readBody (nhInline : Option Nat) (bs : List Byte) : Option (Nat × List Byte) :=
  match nhInline with
  | some nh => some (nh, bs)
  | none =>
    match bs with
    | [] => none
    | b :: t =>
      if b.toNat / 8 != 0x1E || bitOf b.toNat 2 then none
      else
        (readPorts (b.toNat % 4) t).bind fun p =>
          (takeBe 2 p.2).map fun c =>
            (17, beBytes 2 p.1.1 ++ beBytes 2 p.1.2 ++ beBytes 2 (8 + c.2.length) ++ beBytes 2 c.1 ++ c.2)

/-- Decompress an IPHC payload from a node whose frame goes to an address that derives `dstIid` (R303, R304). -/
def iphcDecode (s : State) (srcIid : Nat) (dstIid : Option Nat) (bs : List Byte) : Option (List Byte) := do
  let (h, bs) ← takeBe 2 bs
  let (cids, bs) ← if bitOf h 7 then takeBe 1 bs else some (0, bs)
  let ((tc, flow), bs) ← readTf (bitsOf h 12 11) bs
  let (nh, bs) ← if bitOf h 10 then some (none, bs) else (takeBe 1 bs).map fun p => (some p.1, p.2)
  let (hl, bs) ← match bitsOf h 9 8 with
    | 0 => takeBe 1 bs
    | 1 => some (1, bs)
    | 2 => some (64, bs)
    | _ => some (255, bs)
  let (src, bs) ← readUnicast s (bitOf h 6) (bitsOf h 5 4) (cids / 16) (some srcIid) false bs
  let (dst, bs) ←
    if bitOf h 3 then (if bitOf h 2 then none else readMulticast (bitsOf h 1 0) bs)
    else readUnicast s (bitOf h 2) (bitsOf h 1 0) (cids % 16) dstIid true bs
  let (n, body) ← readBody nh bs
  return ipv6Header tc flow body.length n hl src dst ++ body

/-- The packet of a LoWPAN payload: uncompressed under dispatch 0x41, else IPHC. -/
def lowpanDecode (s : State) (srcIid : Nat) (dstIid : Option Nat) (bs : List Byte) : Option (List Byte) :=
  match bs with
  | [] => none
  | b :: t =>
    if b.toNat = 0x41 then
      (if t.length < 40 || (t.headD 0).toNat / 16 != 6 || t.length < 40 + beNat (sliceBytes t 4 2) then none
       else some (t.take (40 + beNat (sliceBytes t 4 2))))
    else iphcDecode s srcIid dstIid bs

/-! Fields of an IPv6 packet. -/

def ipSrc (p : List Byte) : Nat := beNat (sliceBytes p 8 16)
def ipDst (p : List Byte) : Nat := beNat (sliceBytes p 24 16)
def ipHops (p : List Byte) : Nat := (nth 0 p 7).toNat
def ipNext (p : List Byte) : Nat := (nth 0 p 6).toNat

/-- A packet with its hop limit reduced by one. -/
def ipForward (p : List Byte) : List Byte := p.set 7 (BitVec.ofNat 8 (ipHops p - 1))

/-- The context with the longest prefix that gives the upper half of an address (R304). -/
def bestContext (s : State) (hi : Nat) : Option Nat :=
  let l := (List.range 16).filterMap fun c => (contextHi s c).bind fun x => if x.2 = hi then some (x.1, c) else none
  (l.foldl (fun b x => match b with | none => some x | some y => if y.1 < x.1 then some x else some y) none).map (·.2)

/-- How an identifier is carried: mode and inline bytes, given what derives it (R304). -/
def packIid (iid : Nat) (derived : Option Nat) : Nat × List Byte :=
  if derived = some iid then (3, [])
  else if iid / 65536 = 0x000000FFFE00 then (2, beBytes 2 (iid % 65536))
  else (1, beBytes 8 iid)

/-- A unicast address on send: the stateful bit, mode, context and inline bytes. -/
def packUnicast (s : State) (a : Nat) (derived : Option Nat) : Bool × Nat × Nat × List Byte :=
  let hi := a / 2 ^ 64
  let iid := a % 2 ^ 64
  match bestContext s hi with
  | some c => let m := packIid iid derived; (true, m.1, c, m.2)
  | none =>
    let m := packIid iid derived
    if hi = linkLocalHi && m.1 != 1 then (false, m.1, 0, m.2) else (false, 0, 0, beBytes 16 a)

/-- A multicast address on send: mode and inline bytes. -/
def packMulticast (a : Nat) : Nat × List Byte :=
  let flags := a / 2 ^ 112 % 256
  let low := a % 2 ^ 112
  if flags = 2 && low < 2 ^ 8 then (3, beBytes 1 low)
  else if low < 2 ^ 24 then (2, beBytes 1 flags ++ beBytes 3 low)
  else if low < 2 ^ 40 then (1, beBytes 1 flags ++ beBytes 5 low)
  else (0, beBytes 16 a)

/-- Traffic class and flow label on send: TF and inline bytes. -/
def packTf (tc flow : Nat) : Nat × List Byte :=
  let ecn := tc % 4
  let dscp := tc / 4
  if flow = 0 && tc = 0 then (3, [])
  else if flow = 0 then (2, beBytes 1 (ecn * 64 + dscp))
  else if dscp = 0 then (1, beBytes 3 (ecn * 2 ^ 22 + flow))
  else (0, beBytes 4 (ecn * 2 ^ 30 + dscp * 2 ^ 24 + flow))

/-- UDP header on send: NHC byte, ports, checksum. -/
def packUdp (b : List Byte) : List Byte :=
  let sp := beNat (sliceBytes b 0 2)
  let dp := beNat (sliceBytes b 2 2)
  let nhc (p : Nat) : List Byte := [BitVec.ofNat 8 (0xF0 + p)]
  let ports : List Byte :=
    if sp / 16 = 0xF0B && dp / 16 = 0xF0B then nhc 3 ++ beBytes 1 (sp % 16 * 16 + dp % 16)
    else if sp / 256 = 0xF0 then nhc 2 ++ beBytes 1 (sp % 256) ++ beBytes 2 dp
    else if dp / 256 = 0xF0 then nhc 1 ++ beBytes 2 sp ++ beBytes 1 (dp % 256)
    else nhc 0 ++ beBytes 2 sp ++ beBytes 2 dp
  ports ++ sliceBytes b 6 2 ++ b.drop 8

/-- Compress a packet for a KMA frame from the router to an address that derives `dstIid` (R303, R304). -/
def lowpanEncode (s : State) (dstIid : Option Nat) (pkt : List Byte) : List Byte :=
  if s.route.uncompressed then 0x41 :: pkt
  else
    let w := beNat (sliceBytes pkt 0 4)
    let tf := packTf (w / 2 ^ 20 % 256) (w % 2 ^ 20)
    let body := pkt.drop 40
    let udp := ipNext pkt = 17 && 8 ≤ body.length
    let hl := match ipHops pkt with | 1 => 1 | 64 => 2 | 255 => 3 | _ => 0
    let src := ipSrc pkt
    let dst := ipDst pkt
    let ps := if src = 0 then (true, 0, 0, []) else packUnicast s src (some s.route.routerIid.toNat)
    let mcast := dst / 2 ^ 120 = 0xFF
    let pm := packMulticast dst
    let pd := packUnicast s dst dstIid
    let cid := ps.2.2.1 != 0 || (!mcast && pd.2.2.1 != 0)
    let h := 0x6000 + tf.1 * 2 ^ 11 + natOf udp * 2 ^ 10 + hl * 2 ^ 8 + natOf cid * 128 + natOf ps.1 * 64 + ps.2.1 * 16
      + natOf mcast * 8 + (if mcast then pm.1 else natOf pd.1 * 4 + pd.2.1)
    beBytes 2 h ++ (if cid then beBytes 1 (ps.2.2.1 * 16 + (if mcast then 0 else pd.2.2.1)) else []) ++ tf.2
      ++ (if udp then [] else beBytes 1 (ipNext pkt)) ++ (if hl = 0 then beBytes 1 (ipHops pkt) else []) ++ ps.2.2.2
      ++ (if mcast then pm.2 else pd.2.2.2) ++ (if udp then packUdp body else body)

end Sys2Proof.Machine
end

