-- ==== Sys2Proof/Machine/Route.lean ====
section
/-! DEFINITION. The relay table, source routes, the prefix trie, mesh and IPv6 forwarding, and the ROUTE commands (chapter 8). -/

namespace Sys2Proof.Machine

/-! Routing counters in the order of R317. -/

def rcMeshEth : Nat := 0
def rcEthMesh : Nat := 1
def rcMeshMesh : Nat := 2
def rcHost : Nat := 3
def rcDrop : Nat := 4
def rcDefault : Nat := 5
def rcRefused : Nat := 6
def rcFrag : Nat := 7
def rcHopLimit : Nat := 8
def rcSpoof : Nat := 9
def rcTooLong : Nat := 10
def rcBroken : Nat := 11
def rcFloodSent : Nat := 12
def rcFloodDrop : Nat := 13

/-- Change routing. -/
def modRoute (s : State) (f : Routing → Routing) : State := { s with route := f s.route }

/-- Add one to a routing counter (R317). -/
def routeCount (s : State) (i : Nat) : State := modRoute s fun r => { r with counters := bump r.counters i }

/-- A relay slot. -/
def relayAt (s : State) (k : Nat) : Option RelaySlot := mapGet s.route.relays k

/-- Change a relay slot. -/
def modRelay (s : State) (k : Nat) (f : RelaySlot → RelaySlot) : State :=
  modRoute s fun r => { r with relays := mapMod r.relays k f }

/-- Walk up from a slot to the relay that meets the part: the slots from there upward, none where the walk meets a freed slot or
has not ended after `k` relays (R297). -/
def walkUp (s : State) : Nat → Nat → Option (List Nat)
  | 0, _ => none
  | k + 1, slot =>
    match relayAt s slot with
    | none => none
    | some r => if r.parentPart then some [slot] else (walkUp s k r.parentSlot).map fun l => slot :: l

/-- Relay slots on the way to a node, from the first hop downward (R298); empty for a node the part meets itself. -/
def hopSlots (s : State) (n : NodeEntry) : Option (List Nat) :=
  match routeKind n with
  | 1 => (walkUp s 8 (routeSlot n)).map List.reverse
  | 2 =>
    match relayAt s (routeSlot n) with
    | some r => if r.parentPart then some [] else (walkUp s 8 r.parentSlot).map List.reverse
    | none => none
  | _ => some []

/-- Source route of a node: relay addresses from the first hop downward. -/
def sourceRoute (s : State) (n : NodeEntry) : Option (List W32) :=
  (hopSlots s n).map fun l => l.filterMap fun k => (relayAt s k).map (·.meshAddr)

/-- The entry the part meets for a node: the node itself or its first-hop relay, with its index. -/
def metEntry (s : State) (i : Nat) (n : NodeEntry) : Option (Nat × NodeEntry) :=
  match sourceRoute s n with
  | some [] => some (i, n)
  | some (a :: _) => (lookupAddr s a).bind fun j => (nodeAt s j).map fun m => (j, m)
  | none => none

/-- Link a relayed node with frames into its first-hop relay's list, and out of every other (R296). -/
def relinkPending (s : State) (i : Nat) : State :=
  match nodeAt s i with
  | none => s
  | some n =>
    let clear (s : State) : State :=
      modRoute s fun r => { r with relays := r.relays.map fun p => (p.1, { p.2 with pend := p.2.pend.filter (· != i) }) }
    match hopSlots s n with
    | some (k :: _) =>
      if (framesFor s n.meshAddr).isEmpty then clear s
      else if ((relayAt s k).map fun r => r.pend.contains i).getD false then s
      else modRelay (clear s) k fun r => { r with pend := i :: r.pend }
    | _ => clear s

/-- PSDU bytes of a frame with `hops` relays and `len` payload bytes under a profile. -/
def psduLen (p : AirProfile) (hops len : Nat) : Nat :=
  15 + (if hops = 0 then 0 else 1 + 4 * hops) + len + micBytes p.micLen + fcsLen (if isOfdm p then 1 else p.fcsType)

/-- A payload fits the contact it goes in (R228, R299). -/
def fitsContact (s : State) (i : Nat) (n : NodeEntry) (len : Nat) : Bool :=
  match metEntry s i n with
  | none => true
  | some (_, m) =>
    match classOf s m.classId, nodeProfile s m with
    | some c, some p => psduLen p ((sourceRoute s n).getD []).length len ≤ c.contactPsduMax
    | _, _ => true

/-- A downlink frame for a node from the part's own paths: a DATA frame with `ack_req` (log 35). -/
def forwardFrame (s : State) (source : FrameSource) (queue : Nat) (dest : W32) (payload : List Byte) (life : Option Nat) : Frame :=
  { firmwareFrame s dest ftData payload true with
    source := source, queue := queue, expires := life.map fun ms => s.upNs + ms * 1000000 }

/-- Some ADRIFT node whose hold time has passed takes no frame (R250). -/
def adriftOver (s : State) (n : NodeEntry) : Bool := n.adrift && n.adriftDeadline ≤ currentAsn s

/-- Enter a frame for a node; the answer says whether a record took it. Ethernet frames that meet a full pool or a full queue are
dropped and counted (R387). -/
def enterFrame (s : State) (i : Nat) (f : Frame) : State × Bool :=
  let q := queueOf s f.queue
  if !poolHasRoom s f.payload.length then (queueCount s qcPoolFull 1, false)
  else if q.limit != 0 && q.limit ≤ (queueLive s f.queue).length then (queueCount s qcOverlimit 1, false)
  else
    let (s, _) := park s f
    (relinkPending s i, true)

/-- Mesh forwarding of a payload to the node at an index (R300, R301). -/
def meshForward (s : State) (i : Nat) (payload : List Byte) : State :=
  match nodeAt s i with
  | none => s
  | some n =>
    let s := touchHit s i
    if adriftOver s n then s
    else if !fitsContact s i n payload.length then routeCount s rcTooLong
    else
      let (s, ok) := enterFrame s i (forwardFrame s .mesh s.queue.fwQueue n.meshAddr payload none)
      if ok then routeCount s rcMeshMesh else s

/-- Add a broadcast frame to the broadcast list for a set of bands (R308); a full list drops it. -/
def floodAdd (s : State) (f : Frame) (bandMask : Nat) : State :=
  if 256 ≤ s.route.broadcast.length then routeCount s rcFloodDrop
  else if !poolHasRoom s f.payload.length then queueCount s qcPoolFull 1
  else
    let (s, r) := park s f
    modRoute s fun x => { x with broadcast := x.broadcast ++ [{ record := r, bands := bandMask }] }

/-! The prefix trie (R309 to R311). -/

/-- A route covers a destination's upper half. -/
def routeCovers (r : Route) (hi : Nat) : Bool := r.pfx.toNat / 2 ^ (64 - r.len) == hi / 2 ^ (64 - r.len)

/-- The longest route that covers a destination. -/
def trieBest (l : List Route) (hi : Nat) : Option Route :=
  (l.filter fun r => routeCovers r hi).foldl (fun b r =>
    match b with
    | none => some r
    | some x => if x.len < r.len then some r else some x) none

/-- Change the set of routes (R313): the part builds the changed nodes anew. -/
def setRoutes (s : State) (f : List Route → List Route) : State :=
  modRoute s fun r => { r with routes := f r.routes, trieGen := r.trieGen + 1 }

/-- A walk of the trie discards the routes it reads with an uncorrectable error (R27; log 105). -/
def walkTrie (s : State) (hi : Nat) : State :=
  (s.route.routes.filter fun r => routeCovers r hi && bulkBad s (.route r.pfx r.len)).foldl (fun s r =>
    setRoutes (bulkLose s (.route r.pfx r.len)) fun l => l.filter (· != r)) s

/-- Result of a lookup: length, action, target; the default route where no route covers it (R310). -/
def trieLookup (s : State) (hi : Nat) : Nat × Nat × Nat :=
  match trieBest s.route.routes hi with
  | some r => (r.len, r.action, r.target)
  | none => (0, s.route.defaultRoute.1, s.route.defaultRoute.2)

/-- Stage at whose node a route of a length is homed, from 0. -/
def homeStage (len : Nat) : Nat := (len - 1) / 8

/-- Compressed nodes of a route set: a stage and the address bits above its slots. -/
def trieNodes (l : List Route) : List (Nat × Nat) :=
  (l.flatMap fun r => (List.range (homeStage r.len)).map fun k => (k + 1, r.pfx.toNat / 2 ^ (64 - 8 * (k + 1)))).eraseDups

/-- Entry of a slot of a node: action and target of the longest route homed there that covers it, and its child. -/
def trieEntry (l : List Route) (stage top slot : Nat) : Nat × Nat × Option (Nat × Nat) :=
  let p := top * 256 + slot
  let sh := 64 - 8 * (stage + 1)
  let here := l.filter fun r => homeStage r.len == stage && routeCovers r (p * 2 ^ sh)
  let best := here.foldl (fun b r => match b with | none => some r | some x => if x.len < r.len then some r else some x) none
  let child := l.any fun r => stage < homeStage r.len && r.pfx.toNat / 2 ^ sh == p
  ((best.map (·.action)).getD 0, (best.map (·.target)).getD 0, if child then some (stage + 1, p) else none)

/-- Runs of equal entries of a node. -/
def trieRuns (l : List Route) (stage top : Nat) : Nat :=
  1 + ((List.range 255).filter fun i => trieEntry l stage top i != trieEntry l stage top (i + 1)).length

/-- Units a route set takes, both roots included (R310, R311). -/
def trieUnits (l : List Route) : Nat :=
  64 + ((trieNodes l).map fun n => ceilDiv (36 + 8 * trieRuns l n.1 n.2) 64).foldl (· + ·) 0

/-- A route set leaves at least 8,192 units free and holds at most 65,536 routes (R311). -/
def trieFits (l : List Route) : Bool := l.length ≤ 65536 && trieUnits l + 8192 ≤ 28672

/-! Delivery of accepted DATA frames (R300, R301). -/

/-- Deliver an uplink to a host ring (R66): MAC header and decrypted payload. -/
def hostDeliver (s : State) (u : Uplink) (ring : Nat) (status : Byte) : State × Bool :=
  rxWrite s ring fun buf ph =>
    { buf := buf, phase := ph, last := true, frameStatus := status, length := u.header.length + u.payload.length
      mode := ((profileOf s u.profile).map (·.mode)).getD 0, context := u.ctx, band := u.band, nodeValid := u.nodeValid
      nodeIndex := u.index, tsNs := BitVec.ofNat 64 u.tsNs, tsFrac := u.tsFrac, keyGen := u.keyGen, lqi := BitVec.ofNat 8 u.lqi
      rssi := u.rssiQ, frameCounter := u.counter, srcAddr := u.src, chunkSeq := 0, channel := u.channel, frameId := 0
      data := u.header ++ u.payload }

/-- Egress of a packet through a neighbour (R314). -/
def ethEgress (s : State) (neighbour : Nat) (pkt : List Byte) : State :=
  match mapGet s.route.neighbours neighbour with
  | none => ethCount s 0 ecNoNeighbour
  | some n =>
    let p := nth EthPort.reset s.route.ports n.port
    if !p.up then ethCount s n.port ecNoNeighbour
    else if p.mtu < pkt.length then ethCount s n.port ecTooBig
    else
      let tag : List Byte := if p.vlanId = 0 then [] else [0x81, 0x00] ++ beBytes 2 (p.vlanPcp * 8192 + p.vlanId)
      let frame := beBytes 6 n.mac.toNat ++ beBytes 6 p.mac.toNat ++ tag ++ ([0x86, 0xDD] : List Byte) ++ ipForward pkt
      routeCount (ethSendOne s n.port frame) rcMeshEth

/-- Send a packet to a node: compressed for it, its hop limit reduced. -/
def packetToNode (s : State) (i : Nat) (pkt : List Byte) : State :=
  match nodeAt s i with
  | none => s
  | some n => meshForward s i (lowpanEncode s (some (iidOfEui n.eui)) (ipForward pkt))

/-- The part's own mesh address or one of its port addresses (R301, R305). -/
def ownAddress (s : State) (a : Nat) : Bool :=
  a == s.route.meshPrefix.toNat * 2 ^ 64 + s.route.routerIid.toNat
    || s.route.ports.any fun p => p.addrs.any fun x => (x.map BitVec.toNat) == some a

/-- A route's action on a packet from the mesh. -/
def meshAction (s : State) (u : Uplink) (pkt : List Byte) (action target : Nat) : State :=
  match action with
  | 1 => ethEgress s (target % 256) pkt
  | 2 =>
    let s := match relayAt s (target % 16384) with | some r => passAddr s r.meshAddr | none => s
    match (relayAt s (target % 16384)).bind fun r => lookupAddr s r.meshAddr with
    | some i => packetToNode s i pkt
    | none => routeCount s rcBroken
  | 3 => routeCount (hostDeliver s u (target % 16) fsOk).1 rcHost
  | _ => routeCount s rcDrop

/-- A decompressed packet from the mesh (R301). -/
def routeUp (s : State) (u : Uplink) (ring : Nat) (pkt : List Byte) : State :=
  let dst := ipDst pkt
  let src := ipSrc pkt
  let hi := dst / 2 ^ 64
  let own (s : State) : State := routeCount (hostDeliver s u ring fsOk).1 rcHost
  if dst / 2 ^ 120 = 0xFF || hi = linkLocalHi || ownAddress s dst then own s
  else if s.route.srcCheck && src / 2 ^ 64 = s.route.meshPrefix.toNat && src % 2 ^ 64 != iidOfEui u.eui then routeCount s rcSpoof
  else if ipHops pkt ≤ 1 then routeCount s rcHopLimit
  else
    let inMesh := hi = s.route.meshPrefix.toNat
    let s := if inMesh then passEui s (euiOfIid (dst % 2 ^ 64)) else s
    match if inMesh then lookupEui s (euiOfIid (dst % 2 ^ 64)) else none with
    | some i => if s.route.meshRelay then packetToNode s i pkt else own s
    | none =>
      let s := walkTrie s hi
      match trieBest s.route.routes hi with
      | some r => meshAction s u pkt r.action r.target
      | none =>
        if s.route.defaultRoute.1 = 0 then own s
        else meshAction (routeCount s rcDefault) u pkt s.route.defaultRoute.1 s.route.defaultRoute.2

/-- The destination of an accepted DATA frame (R300). -/
def routeData (s : State) (u : Uplink) (ring : Nat) : State :=
  let d := (u.payload.headD 0).toNat
  let relayed := s.route.meshRelay && u.dest != s.air.routerAddr
  let s := if relayed then passAddr s u.dest else s
  match if relayed then lookupAddr s u.dest else none with
  | some i => meshForward s i u.payload
  | none =>
    if d < 0x40 then (hostDeliver s u ring fsOk).1
    else if d = 0x41 || d / 32 = 3 then
      let dst := if u.dest == s.air.routerAddr then some s.route.routerIid.toNat
        else if u.dest == addrBroadcast then none
        else ((lookupAddr s u.dest).bind (nodeAt s)).map fun n => iidOfEui n.eui
      match lowpanDecode s (iidOfEui u.eui) dst u.payload with
      | some pkt => routeUp s u ring pkt
      | none => routeCount s rcRefused
    else if d / 8 = 0x18 || d / 8 = 0x1C then routeCount (routeCount s rcRefused) rcFrag
    else routeCount s rcRefused

/-! ROUTE commands (R318, R319). -/

/-- The prefix and length an entry names; prefix bits past the length carry nothing. -/
def routeKey (e : CmdEntry) : Nat × Nat :=
  let sh := 64 - argBits e 70 64
  (argBits e 63 0 / 2 ^ sh * 2 ^ sh, argBits e 70 64)

/-- The route an entry asks for. -/
def routeOf (e : CmdEntry) : Route :=
  { pfx := BitVec.ofNat 64 (routeKey e).1, len := argBits e 70 64, action := argBits e 74 72, target := argBits e 95 80 }

/-- A route with a prefix and length is present. -/
def hasRoute (s : State) (k : Nat × Nat) : Bool := s.route.routes.any fun r => r.pfx.toNat == k.1 && r.len == k.2

/-- A target is meaningful for its action (R310, R319). -/
def targetOk (s : State) (action target : Nat) : Bool :=
  match action with
  | 1 => target < 256 && mapHas s.route.neighbours target
  | 2 => target < 16384 && (relayAt s target).isSome
  | 3 => target < 16
  | _ => true

def routeAdd : Cmd where
  args := fun e s =>
    let k := routeKey e
    1 ≤ k.2 && k.2 ≤ 64 && 1 ≤ argBits e 74 72 && argBits e 74 72 ≤ 4
      && !(k.2 = 64 && k.1 = s.route.meshPrefix.toNat)
  check := fun _ e s =>
    orRefuse (refuseIf (hasRoute s (routeKey e)) stRefusedState)
      (orRefuse (refuseIf (!targetOk s (argBits e 74 72) (argBits e 95 80)) stBadArg)
        (refuseIf (!trieFits (s.route.routes ++ [routeOf e])) stNoRoom))
  apply := setter fun e s =>
    setRoutes (bulkFresh s (.route (routeOf e).pfx (routeOf e).len)) fun l => l ++ [routeOf e]
  sets := fun e _ => [(0x0701, argBits e 70 0)]

def routeRemove : Cmd where
  args := fun e _ => 1 ≤ argBits e 70 64 && argBits e 70 64 ≤ 64
  check := fun _ e s => refuseIf (!hasRoute s (routeKey e)) stNotFound
  apply := setter fun e s =>
    setRoutes s fun l => l.filter fun x => !(x.pfx.toNat == (routeKey e).1 && x.len == (routeKey e).2)
  sets := fun e _ => [(0x0701, argBits e 70 0)]

def routeLookup : Cmd where
  apply := getter fun e s =>
    let r := trieLookup s (argBits e 127 64)
    okFigures [r.1, r.2.1, r.2.2]

def routeDefaultSet : Cmd where
  args := fun e _ => [0, 1, 3, 4].contains (argBits e 2 0)
  check := fun _ e s => refuseIf (!targetOk s (argBits e 2 0) (argBits e 31 16)) stBadArg
  apply := setter fun e s => modRoute s fun r => { r with defaultRoute := (argBits e 2 0, argBits e 31 16) }
  sets := fun _ _ => [(0x0704, 0)]

/-- Some node's pending list holds a packet. -/
def packetsPending (s : State) : Bool := s.queue.records.any fun p => p.2.ftype == ftData && !reservedAddr p.2.dest.toNat

def routeMeshSet : Cmd where
  check := fun _ e s =>
    refuseIf ((argBits e 63 0 != s.route.meshPrefix.toNat || argBits e 127 64 != s.route.routerIid.toNat) && packetsPending s) stRefusedState
  apply := setter fun e s =>
    modRoute s fun r =>
      { r with meshPrefix := BitVec.ofNat 64 (argBits e 63 0), routerIid := BitVec.ofNat 64 (argBits e 127 64)
               preregClass := argBits e 143 128, floodBands := argBits e 146 144, meshRelay := argBit e 147, srcCheck := argBit e 148 }
  sets := fun _ _ => [(0x0705, 0)]

def routeContextSet : Cmd where
  args := fun e _ => argBits e 3 0 != 0 && 1 ≤ argBits e 14 8 && argBits e 14 8 ≤ 64
  apply := setter fun e s =>
    modRoute s fun r =>
      if argBit e 4 then { r with contexts := mapSet r.contexts (argBits e 3 0) { len := argBits e 14 8, pfx := BitVec.ofNat 64 (argBits e 127 64) } }
      else { r with contexts := mapDel r.contexts (argBits e 3 0) }
  sets := fun e _ => [(0x0706, argBits e 3 0)]

/-- Slots of the walk up from a relay, at most `k` of them; none where it loops or meets a freed slot. -/
def climb (s : State) (k slot : Nat) : Option (List Nat) := walkUp s k slot

/-- What `ROUTE_NODE_SET` refuses (R295, R319). -/
def nodeSetCheck (s : State) (i role : Nat) (parent : W32) : Option Reply :=
  match nodeAt s i with
  | none => some (refuse stNotFound)
  | some n =>
    let own := relayAt s (routeSlot n)
    let children := routeKind n == 2 && decide (0 < (own.map (·.childCount)).getD 0)
    if routeKind n = 3 || (role = 0 && children) then some (refuse stRefusedState)
    else
      let up : Option Reply :=
        if parent = 0 then none
        else
          match (s.route.relays.find? fun p => p.2.meshAddr == parent).map (·.1) with
          | none => some (refuse stNotFound)
          | some k =>
            match climb s 7 k with
            | none => some (refuse stBadArg)
            | some l => refuseIf (routeKind n == 2 && l.contains (routeSlot n)) stBadArg
      let roles := (s.node.table.filter fun p => p.2.role != 0).length
      orRefuse up (refuseIf ((role != 0 && n.role = 0 && 16384 ≤ roles) || (role != 0 && routeKind n != 2 && 16384 ≤ s.route.relays.length)) stNoRoom)

/-- Count a child of a slot up or down. -/
def countChild (s : State) (k : Nat) (more : Bool) : State :=
  modRelay s k fun r => { r with childCount := if more then r.childCount + 1 else r.childCount - 1 }

/-- Take a node off its present parent. -/
def leaveParent (s : State) (n : NodeEntry) : State :=
  match routeKind n with
  | 1 => countChild s (routeSlot n) false
  | 2 => match relayAt s (routeSlot n) with
    | some r => if r.parentPart then s else countChild s r.parentSlot false
    | none => s
  | _ => s

/-- Set a node's role and parent in one step (R294 to R296). -/
def setNodeRoute (s : State) (i role : Nat) (parent : W32) : State :=
  match nodeAt s i with
  | none => s
  | some n =>
    let before := meetsPart s n
    let up := if parent = 0 then none else (s.route.relays.find? fun p => p.2.meshAddr == parent).map (·.1)
    let s := leaveParent s n
    let keep := routeKind n == 2
    let slot := if keep then routeSlot n else firstFree s.route.relays 0
    let pend := if keep then ((relayAt s slot).map (·.pend)).getD [] else []
    let kids := if keep then ((relayAt s slot).map (·.childCount)).getD 0 else 0
    let s :=
      if role = 0 then modRoute s fun r => { r with relays := if keep then mapDel r.relays slot else r.relays }
      else
        let x : RelaySlot :=
          { meshAddr := n.meshAddr, privileged := role == 2, parentPart := up.isNone, parentSlot := up.getD 0, pend := pend, childCount := kids }
        modRoute s fun r => { r with relays := mapSet r.relays slot x }
    let s := match up with | some k => countChild s k true | none => s
    let ref := if role != 0 then 2 * 65536 + slot else match up with | some k => 65536 + k | none => 0
    let n' := { n with role := role, routeRef := ref }
    let s := writeEntry s i n'
    let s := if role = n.role && ref = n.routeRef then s else journalAdd s 6 i n.meshAddr i
    let after := meetsPart s n'
    let s := if !before && after then fileFrom s i (currentAsn s + 2) else if before && !after then unfile s i else s
    relinkPending s i

def routeNodeSet : Cmd where
  args := fun e _ => argBits e 21 20 ≤ 2
  check := fun _ e s => nodeSetCheck s (argBits e 17 0) (argBits e 21 20) (BitVec.ofNat 32 (argBits e 63 32))
  apply := fun _ e s =>
    let s := setNodeRoute s (argBits e 17 0) (argBits e 21 20) (BitVec.ofNat 32 (argBits e 63 32))
    let slot := match nodeAt s (argBits e 17 0) with
      | some n => if routeKind n = 2 then routeSlot n else 0xFFFFFFFF
      | none => 0xFFFFFFFF
    (s, okData (leBytes 4 slot))
  sets := fun e _ => [(0x0707, argBits e 17 0)]

/-- The 16 bytes of a relay slot (R294). -/
def relayBytes (r : RelaySlot) : List Byte :=
  leBytes 8 (r.meshAddr.toNat * 2 ^ 32 + 2 ^ 31 + natOf r.privileged * 2 ^ 30 + natOf r.parentPart * 2 ^ 29 + r.parentSlot % 16384 * 2 ^ 15)
    ++ leBytes 8 (r.pend.headD 0 % 2 ^ 18 * 2 ^ 46 + natOf (!r.pend.isEmpty) * 2 ^ 45 + r.childCount % 2 ^ 18 * 2 ^ 27)

def routeNodeQuery : Cmd where
  check := fun _ e s => refuseIf (nodeAt s (argBits e 17 0)).isNone stNotFound
  apply := getter fun e s =>
    match nodeAt s (argBits e 17 0) with
    | none => refuse stNotFound
    | some n =>
      let slot := if routeKind n = 1 || routeKind n = 2 then relayAt s (routeSlot n) else none
      let path := (sourceRoute s n).getD []
      { status := stOk, figures := [(n.routeRef : Int)]
        data := sliceBytes ((slot.map relayBytes).getD []) 0 16 ++ sliceBytes (path.flatMap fun a => leBytes 4 a.toNat) 0 32 }

def routeStatus : Cmd where
  apply := getter fun _ s =>
    let u := trieUnits s.route.routes
    okFigures [s.route.routes.length, u, (28672 - u : Nat), s.route.relays.length, s.route.broadcast.length]

def routeCounters : Cmd where
  apply := fun _ e s =>
    (if argBit e 0 then modRoute s fun r => { r with counters := clearCtrs r.counters } else s, okData (ctrBytes s.route.counters))

def routeLowpanSet : Cmd where
  apply := setter fun e s => modRoute s fun r => { r with uncompressed := argBit e 0 }
  sets := fun _ _ => [(0x0741, 0)]

/-- First unit of a compressed node (R310): which one is open (log 4). -/
def triePlace (s : State) (n : Nat × Nat) : Nat := 64 + Config.triePlace s.route.trieGen n.1 n.2 % 28608

/-- An 8-byte trie entry (R310). -/
def trieEntryBytes (s : State) (x : Nat × Nat × Option (Nat × Nat)) : List Byte :=
  leBytes 8 (x.1 * 2 ^ 60 + x.2.1 % 2 ^ 28 * 2 ^ 32 + ((x.2.2.map (triePlace s)).getD 0) % 2 ^ 15)

/-- A compressed node (R310): the map of its runs, their count, an entry for each. -/
def trieNodeBytes (s : State) (n : Nat × Nat) : List Byte :=
  let l := s.route.routes
  let starts := (List.range 256).filter fun i => i == 0 || trieEntry l n.1 n.2 (i - 1) != trieEntry l n.1 n.2 i
  leBytes 32 (starts.foldl (fun m i => m + 2 ^ i) 0) ++ leBytes 4 starts.length
    ++ starts.flatMap fun i => trieEntryBytes s (trieEntry l n.1 n.2 i)

/-- Bytes of a trie unit (R310): the live root's entries and the compressed nodes; what lies past a node, in free units and in the
root that is not live is open (log 4). -/
def trieUnitBytes (s : State) (u : Nat) : List Byte :=
  let base := if s.route.rootB then 32 else 0
  let l := s.route.routes
  let units (n : Nat × Nat) : Nat := ceilDiv (36 + 8 * trieRuns l n.1 n.2) 64
  if base ≤ u && u < base + 32 then
    (List.range 8).flatMap fun i => trieEntryBytes s (trieEntry l 0 0 ((u - base) * 8 + i))
  else
    match if u < 64 then none else (trieNodes l).find? fun n => triePlace s n ≤ u && decide (u < triePlace s n + units n) with
    | some n =>
      let held := (trieNodeBytes s n).drop (64 * (u - triePlace s n))
      (held ++ sliceBytes (Config.trieUnit s.free u) 0 64).take 64
    | none => sliceBytes (Config.trieUnit s.free u) 0 64

def routeTrieRead : Cmd where
  args := fun e _ => argBits e 14 0 + argBits e 30 16 ≤ 28672 && 1 ≤ argBits e 30 16 && argBits e 30 16 ≤ 1024
  apply := fun _ e s =>
    ({ s with free := s.free + 1 }, okData ((List.range (argBits e 30 16)).flatMap fun k => trieUnitBytes s (argBits e 14 0 + k)))

end Sys2Proof.Machine
end

