-- ==== Sys2Proof/Machine/Eth.lean ====
section
/-! DEFINITION. Ethernet ingress and the ETH commands (R305 to R307, R314, R318, R319). -/

namespace Sys2Proof.Machine

/-- An Ethernet port. -/
def ethOf (s : State) (port : Nat) : EthPort := nth EthPort.reset s.route.ports port

/-- Deliver an Ethernet frame to a host ring (R66, R305): over 2,047 bytes it is counted and dropped. -/
def ethToHost (s : State) (port ring : Nat) (frame : List Byte) : State :=
  if 2047 < frame.length then ethCount s port ecHostLong
  else
    let ns := nowNs s - (ptpOf s port).ethRxNs
    (rxWrite s ring fun buf ph =>
      { buf := buf, phase := ph, last := true, frameStatus := fsOk, length := frame.length, mode := 0, context := 0, band := 3
        nodeValid := false, nodeIndex := 0, tsNs := BitVec.ofNat 64 ns, tsFrac := s.clk.timeFrac, keyGen := 0, lqi := 0, rssi := 0
        frameCounter := 0, srcAddr := 0, chunkSeq := 0, channel := port, frameId := 0, data := frame }).1

/-- Sum of the 16-bit words of a byte string. -/
def sum16 : List Byte → Nat
  | a :: b :: t => a.toNat * 256 + b.toNat + sum16 t
  | [a] => a.toNat * 256
  | [] => 0

/-- One's-complement fold of a sum. -/
def fold16 (x : Nat) : Nat := let y := x % 65536 + x / 65536; let y := y % 65536 + y / 65536; 65535 - y

/-- The Neighbor Advertisement that answers a solicitation for a port address (log 36). -/
def neighborAdvert (p : EthPort) (srcMac : List Byte) (pkt : List Byte) (target : Nat) : List Byte :=
  let asked := ipSrc pkt
  let dst := if asked = 0 then 0xFF02 * 2 ^ 112 + 1 else asked
  let mac : List Byte := if asked = 0 then [0x33, 0x33, 0, 0, 0, 1] else srcMac
  let flags := if asked = 0 then 0xA0 else 0xE0
  let body (sum : Nat) : List Byte :=
    ([136, 0] : List Byte) ++ beBytes 2 sum ++ [BitVec.ofNat 8 flags, 0, 0, 0] ++ beBytes 16 target ++ ([2, 1] : List Byte) ++ beBytes 6 p.mac.toNat
  let sum := fold16 (sum16 (beBytes 16 target ++ beBytes 16 dst ++ beBytes 4 32 ++ beBytes 4 58 ++ body 0))
  let tag : List Byte := if p.vlanId = 0 then [] else [0x81, 0x00] ++ beBytes 2 (p.vlanPcp * 8192 + p.vlanId)
  mac ++ beBytes 6 p.mac.toNat ++ tag ++ ([0x86, 0xDD] : List Byte) ++ ipv6Header 0 0 32 58 255 target dst ++ body sum

/-- The target of a Neighbor Solicitation for a port address (R305). -/
def solicitTarget (p : EthPort) (pkt : List Byte) : Option Nat :=
  if ipNext pkt = 58 && (nth 0 pkt 40).toNat = 135 && 64 ≤ pkt.length then
    let t := beNat (sliceBytes pkt 48 16)
    if p.addrs.any fun x => (x.map BitVec.toNat) == some t then some t else none
  else none

/-- A destination MAC address the port takes (R305). -/
def macOurs (p : EthPort) (mac : Nat) : Bool :=
  mac == p.mac.toNat || mac == 0xFFFFFFFFFFFF || mac == 0x333300000001
    || p.addrs.any fun x => (x.map fun a => 0x3333FF000000 + a.toNat % 2 ^ 24) == some mac

/-- Park a packet from Ethernet for the node at an index (R306). -/
def ethPark (s : State) (port i : Nat) (pkt : List Byte) : State :=
  match nodeAt s i with
  | none => s
  | some n =>
    let payload := lowpanEncode s (some (iidOfEui n.eui)) (ipForward pkt)
    if adriftOver s n then s
    else if !fitsContact s i n payload.length then routeCount s rcTooLong
    else
      let f := forwardFrame s (.eth port) (ethOf s port).queue n.meshAddr payload (some (ethOf s port).lifetimeMs)
      let (s, ok) := enterFrame s i f
      if ok then routeCount s rcEthMesh else s

/-- Send a packet once as a broadcast (R307, R308). -/
def ethFlood (s : State) (port : Nat) (pkt : List Byte) : State :=
  let f := forwardFrame s (.eth port) (ethOf s port).queue addrBroadcast (lowpanEncode s none (ipForward pkt)) (some (ethOf s port).lifetimeMs)
  floodAdd s { f with ackReq := false } s.route.floodBands

/-- A learning event on an Ethernet port (R306, R307). A standby learns nothing (R282). -/
def ethLearnEvent (s : State) (port : Nat) (eui : W64) (pkt : List Byte) : State :=
  if s.role == .standby then s
  else
    let lp := 3 + port
    match if s.route.preregClass = 0 || tableFrozen s then none else classOf s s.route.preregClass with
    | none =>
      let flood := (portOf s lp).flood
      let s := nodeCount (modPort s lp fun x => { x with refused := x.refused + 1 }) (if flood then ncLearnFlood else ncLearnDrop)
      if flood then ethFlood s port pkt else s
    | some c =>
      match chargePort s lp with
      | (s, .allowed) =>
        match assignAddr s eui with
        | none => insertFailed (returnToken s lp) lp eui
        | some a =>
          let (off, s) := drawBelow s c.wakePeriod
          let n := { freshEntry s eui a lp c.id (firstBand c) 0 c.wakePeriod off 0xFF with routeRef := 3 * 65536 }
          match insertEntry s n with
          | (s, none) => insertFailed (returnToken s lp) lp eui
          | (s, some i) => ethPark (journalAdd (nodeCount s lp) 1 i a i) port i pkt
      | (s, c) =>
        let flood := (portOf s lp).flood
        let s := learnRefused s lp (c == .byCount)
        if flood then ethFlood s port pkt else s

/-- Trie and default route for a packet from Ethernet (R305). -/
def ethTrie (s : State) (port : Nat) (frame pkt : List Byte) : State :=
  let act (s : State) (action target : Nat) : State :=
    match action with
    | 1 => ethCount s port ecHairpin
    | 2 =>
      let s := match relayAt s (target % 16384) with | some r => passAddr s r.meshAddr | none => s
      match (relayAt s (target % 16384)).bind fun r => lookupAddr s r.meshAddr with
      | some i => ethPark (touchHit s i) port i pkt
      | none => routeCount s rcBroken
    | 3 => routeCount (ethToHost s port (target % 16) frame) rcHost
    | _ => routeCount s rcDrop
  let s := walkTrie s (ipDst pkt / 2 ^ 64)
  match trieBest s.route.routes (ipDst pkt / 2 ^ 64) with
  | some r => act s r.action r.target
  | none => if s.route.defaultRoute.1 = 0 then s else act (routeCount s rcDefault) s.route.defaultRoute.1 s.route.defaultRoute.2

/-- An IPv6 packet to a node or beyond (R305 orders 6 to 8). -/
def ethForward (s : State) (port : Nat) (frame pkt : List Byte) : State :=
  let s := accessDoms s ([12, domEth] ++ lookupDoms ++ shaperDoms)
  if ipHops pkt ≤ 1 then routeCount s rcHopLimit
  else if ipDst pkt / 2 ^ 64 = s.route.meshPrefix.toNat then
    let eui := euiOfIid (ipDst pkt % 2 ^ 64)
    let s := passEui s eui
    match lookupEui s eui with
    | some i => ethPark (touchHit s i) port i pkt
    | none => ethLearnEvent s port eui pkt
  else ethTrie s port frame pkt

/-- A received Ethernet frame without its FCS (R305). PTP frames go to Ephemeris and are not classified here. -/
def ethRxOp (s : State) (port : Nat) (frame : List Byte) (fcsGood : Bool) : State :=
  let p := ethOf s port
  if !p.up || p.mode = 0 || resourceTested s port then s
  else
    let s := ethCount s port ecRxFrames
    let tagged := leAt frame 12 2 = 0x0081
    let l2 := if tagged then 18 else 14
    let ethType := beNat (sliceBytes frame (l2 - 2) 2)
    let pkt0 := frame.drop l2
    let pkt := pkt0.take (40 + beNat (sliceBytes pkt0 4 2))
    let isIp := ethType = 0x86DD && 40 ≤ pkt.length
    if !fcsGood || frame.length < 60 then ethCount s port ecRxFcs
    else if ethType = 0x88F7 then s
    else if tagged != (p.vlanId != 0) || (tagged && beNat (sliceBytes frame 14 2) % 4096 != p.vlanId) then ethCount s port ecVlan
    else if !macOurs p (beNat (sliceBytes frame 0 6)) then ethCount s port ecNotOurs
    else
      match if isIp then solicitTarget p pkt else none with
      | some t => ethSendOne (ethCount s port ecNsAnswered) port (neighborAdvert p (sliceBytes frame 6 6) pkt t)
      | none =>
        if !isIp || ipDst pkt / 2 ^ 120 = 0xFF || ownAddress s (ipDst pkt) then
          (if p.hostEn then ethToHost s port p.hostRing frame
           else if 2047 < frame.length then ethCount s port ecHostLong else s)
        else ethForward s port frame pkt

/-- Discard the frames in a port's FIFOs, counted as drops (R319). -/
def dropPortFrames (s : State) (port : Nat) : State :=
  let p := ethOf s port
  modEth s port fun x =>
    { x with rxFifo := [], txFifo := []
             counters := bumpBy (bumpBy x.counters ecTxDrop p.txFifo.length) ecOverrun p.rxFifo.length }

/-- An Ethernet link comes up or goes down (R318): frames sent so far belong to the link that ended. -/
def ethLinkOp (s : State) (port : Nat) (up : Bool) : State :=
  if (ethOf s port).mode = 0 || resourceTested s port then s
  else if up then modEth s port fun p => { p with up := true }
  else
    let s := modEth s port fun p => { p with up := false }
    modPtp s port fun q => { q with exchange := none }

/-! ETH commands. -/

def ethPortConfig : Cmd where
  args := fun e _ => argBits e 3 1 ≤ 5 && 1280 ≤ argBits e 31 16 && argBits e 31 16 ≤ 9216 && argBits e 111 100 ≤ 4094
  apply := fun _ e s =>
    let port := argBits e 0 0
    (holdOn (modEth (dropPortFrames s port) port fun p =>
      { p with mode := argBits e 3 1, mtu := argBits e 31 16, mac := BitVec.ofNat 48 (argBits e 95 48), vlanId := argBits e 111 100
               vlanPcp := argBits e 114 112, up := false, sent := [] }), { status := stAccepted })
  finish := fun op s => some (s, okFigures [natOf (ethOf s (argBits op.e 0 0)).up])
  sets := fun e _ => [(0x0F01, argBits e 0 0)]

/-- Speed of a port mode in Mb/s (R318). -/
def portSpeed (mode : Nat) : Nat := match mode with | 1 => 10000 | 2 => 5000 | 3 => 2500 | 4 => 1000 | 5 => 1000 | _ => 0

def ethPortStatus : Cmd where
  apply := getter fun e s =>
    let p := ethOf s (argBits e 0 0)
    okFigures [p.mode, natOf p.up, if p.up then portSpeed p.mode else 0, p.rxFifo.length, p.txFifo.length]

def ethAddrSet : Cmd where
  apply := setter fun e s =>
    modEth s (argBits e 0 0) fun p =>
      { p with addrs := modNth p.addrs (argBits e 2 1) fun _ => if argBit e 3 then some (BitVec.ofNat 128 (argBits e 159 32)) else none }
  sets := fun e _ => [(0x0F03, argBits e 2 0)]

def ethNeighbourSet : Cmd where
  apply := setter fun e s =>
    modRoute s fun r =>
      { r with neighbours :=
          if argBit e 9 then mapSet r.neighbours (argBits e 7 0) { port := argBits e 8 8, mac := BitVec.ofNat 48 (argBits e 79 32) }
          else mapDel r.neighbours (argBits e 7 0) }
  sets := fun e _ => [(0x0F04, argBits e 7 0)]

def ethHostSet : Cmd where
  args := fun e _ => argBits e 31 16 != 0
  apply := setter fun e s =>
    modEth s (argBits e 0 0) fun p =>
      { p with hostRing := argBits e 5 2, hostEn := argBit e 6, queue := argBits e 13 8, lifetimeMs := argBits e 31 16 }
  sets := fun e _ => [(0x0F05, argBits e 0 0)]

def ethCounters : Cmd where
  apply := fun _ e s =>
    let p := argBits e 0 0
    (if argBit e 1 then modEth s p fun x => { x with counters := clearCtrs x.counters } else s, okData (ctrBytes (ethOf s p).counters))

def ethMacTune : Cmd where
  args := fun e _ => 8 ≤ argBits e 11 8
  apply := setter fun e s => modEth s (argBits e 0 0) fun p => { p with rxPause := argBit e 1, txPause := argBit e 2, ipg := argBits e 11 8 }
  sets := fun e _ => [(0x0F41, argBits e 0 0)]

end Sys2Proof.Machine
end

