-- ==== Sys2Proof/Machine/Air.lean ====
section
/-! DEFINITION. The AIR commands (R143 to R148). -/

namespace Sys2Proof.Machine

/-- Change the air formats. -/
def modAir (s : State) (f : Air → Air) : State := { s with air := f s.air }

/-- What a command that must take effect at an ASN boundary answers while `busy` holds: refused at once, recorded, and judged
by the mode of the point (R90, R146). -/
def asnOnly (w : When) (busy : Bool) : Option Reply :=
  if !busy then none
  else
    match w with
    | .now => some (refuse stRefusedState)
    | .record => none
    | .judge m _ | .commit m _ => if m = 2 then none else some (refuse stStageInvalid)

/-- Read an air profile record (R143). -/
def airRecord (b : List Byte) : AirProfile :=
  { id := leAt b 0 2, bandMask := leAt b 2 1, mode := leAt b 3 1, bitRate := leAt b 4 4, modIndex := leAt b 8 1
    preambleBytes := leAt b 9 1, syncLen := leAt b 10 1, syncTol := leAt b 11 1, syncWord := leAt b 12 4
    whiten := leAt b 16 1 == 1, fcsType := if leAt b 3 1 = 2 then 1 else leAt b 17 1, pn9Seed := leAt b 18 2, micLen := leAt b 20 1
    tlMarginDb := leAt b 21 1, soundingSymbols := leAt b 22 1, maxPsdu := leAt b 24 2 }

/-- The 64 bytes of a profile (R143). -/
def airBytes (p : AirProfile) : List Byte :=
  leBytes 2 p.id ++ leBytes 1 p.bandMask ++ leBytes 1 p.mode ++ leBytes 4 p.bitRate ++ leBytes 1 p.modIndex
    ++ leBytes 1 p.preambleBytes ++ leBytes 1 p.syncLen ++ leBytes 1 p.syncTol ++ leBytes 4 p.syncWord
    ++ leBytes 1 (natOf p.whiten) ++ leBytes 1 p.fcsType ++ leBytes 2 p.pn9Seed ++ leBytes 1 p.micLen ++ leBytes 1 p.tlMarginDb
    ++ leBytes 1 p.soundingSymbols ++ [0] ++ leBytes 2 p.maxPsdu ++ List.replicate 38 0

/-- Rates that R103 gives a band in a mode. -/
def bandRates (band mode : Nat) : List Nat :=
  match band, mode with
  | 2, 0 => [250000, 500000, 1000000]
  | 2, 1 => [2000000]
  | _, 0 => [50000, 100000, 150000, 200000]
  | _, 1 => [200000, 300000, 400000]
  | _, _ => [0]

/-- Bits in which a sync word differs from an alignment of the preamble (R107). -/
def syncDistance (len word pattern : Nat) : Nat :=
  ((List.range len).filter fun i => bitOf word i != bitOf pattern i).length

/-- The sync word stands far enough from both alignments (R107). -/
def syncFar (p : AirProfile) : Bool :=
  2 * p.syncTol + 2 ≤ syncDistance p.syncLen p.syncWord 0x55555555 && 2 * p.syncTol + 2 ≤ syncDistance p.syncLen p.syncWord 0xAAAAAAAA

/-- Default sync word and tolerance of a length (R108). -/
def syncDefault (len : Nat) : Nat × Nat :=
  match len with | 16 => (0xE7A3, 1) | 24 => (0x9EB34D, 2) | _ => (0x3D7AC691, 3)

/-- Preamble and sync fields of a profile record (R143): their ranges and R107 hold whatever its mode (log 98). -/
def syncFieldsOk (p : AirProfile) : Bool :=
  8 ≤ p.preambleBytes && p.preambleBytes ≤ 64
    && [16, 24, 32].contains p.syncLen && p.syncTol ≤ 4 && p.syncWord < 2 ^ p.syncLen && syncFar p

/-- A profile record in its ranges (R143, R145). -/
def airRecordOk (b : List Byte) : Bool :=
  let p := airRecord b
  7 ≤ p.id && 1 ≤ p.bandMask && p.bandMask ≤ 7 && p.mode ≤ 2 && p.modIndex ≤ 1 && leAt b 16 1 ≤ 1 && leAt b 17 1 ≤ 1
    && 1 ≤ p.pn9Seed && p.pn9Seed ≤ 0x1FF && p.micLen ≤ 2 && p.tlMarginDb ≤ 15 && 4 ≤ p.soundingSymbols
    && p.soundingSymbols ≤ 16 && leAt b 23 1 = 0 && 21 ≤ p.maxPsdu && p.maxPsdu ≤ 2047 && leAt b 26 38 = 0
    && (if p.mode = 2 then p.bitRate = 0 else (bandRates 0 p.mode ++ bandRates 2 p.mode).contains p.bitRate) && syncFieldsOk p

/-- The fields `AIR_PROFILE_LOAD` accepts only at their defaults (R145). -/
def airDefaultsOk (p : AirProfile) : Bool :=
  p.pn9Seed == 0x1FF && (p.syncWord, p.syncTol) == syncDefault p.syncLen

/-- A profile is bound to a band or named by a cell (R145). -/
def profileInUse (s : State) (id : Nat) : Bool :=
  s.air.bind.toList.contains id || s.orbit.cells.any fun c => c.profile == id

/-- Refusals of a profile load (R145). -/
def profileLoadCheck (s : State) (id : Nat) : Option Reply :=
  orRefuse (refuseIf (profileInUse s id) stRefusedState)
    (refuseIf (!mapHas s.air.profiles id && 32 ≤ s.air.profiles.length) stNoRoom)

/-- Install a profile. -/
def profileLoad (e : CmdEntry) (s : State) : State :=
  modAir s fun a => { a with profiles := mapSet a.profiles (airRecord (inBuf e)).id (airRecord (inBuf e)) }

def airProfileLoad : Cmd where
  args := fun e _ => airRecordOk (inBuf e) && airDefaultsOk (airRecord (inBuf e))
  check := fun _ e s => profileLoadCheck s (airRecord (inBuf e)).id
  apply := setter profileLoad
  sets := fun e _ => [(0x0401, leAt (inBuf e) 0 2)]

def airProfileLoadRaw : Cmd where
  args := fun e _ => airRecordOk (inBuf e)
  check := fun _ e s => profileLoadCheck s (airRecord (inBuf e)).id
  apply := setter profileLoad
  sets := fun e _ => [(0x0401, leAt (inBuf e) 0 2)]

def airProfileRemove : Cmd where
  args := fun e _ => 7 ≤ argBits e 15 0
  check := fun _ e s =>
    orRefuse (refuseIf (!mapHas s.air.profiles (argBits e 15 0)) stNotFound)
      (refuseIf (profileInUse s (argBits e 15 0)) stRefusedState)
  apply := setter fun e s => modAir s fun a => { a with profiles := mapDel a.profiles (argBits e 15 0) }
  sets := fun e _ => [(0x0401, argBits e 15 0)]

/-- Minimum channel spacing of a GFSK mode on a band, in raster steps (R105); TL-OFDM has none in the table. -/
def minSpacing (p : AirProfile) : Nat :=
  match p.mode, p.bitRate, p.modIndex with
  | 0, 50000, _ => 1
  | 0, 100000, _ => 2
  | 0, 150000, _ => 3
  | 0, 200000, 0 => 3
  | 0, 200000, _ => 4
  | 1, 200000, 0 => 3
  | 1, 200000, _ => 4
  | 1, 300000, 0 => 4
  | 1, 300000, _ => 6
  | 1, 400000, 0 => 5
  | 1, 400000, _ => 8
  | 0, 250000, _ => 1
  | 0, 500000, _ => 1
  | 0, 1000000, _ => 2
  | 1, 2000000, 0 => 3
  | 1, 2000000, _ => 4
  | _, _, _ => 0

/-- A profile fits a band: its mask, its rate (R145). -/
def profileFitsBand (p : AirProfile) (band : Nat) : Bool := bitOf p.bandMask band && (bandRates band p.mode).contains p.bitRate

/-- A band's region profile spaces channels widely enough for a profile (R105). -/
def spacingOk (s : State) (b : Band) (p : AirProfile) : Bool :=
  match mapGet s.radio.regions (s.radio.tx.get b).region with
  | some r => minSpacing p ≤ r.step
  | none => true

/-- A profile qualifies on a band under its preamble qualification (R158). -/
def preQualOk (p : AirProfile) (preQual : Nat) : Bool := isOfdm p || preQual + 16 ≤ 8 * p.preambleBytes

def airProfileQuery : Cmd where
  check := fun _ e s => refuseIf (!mapHas s.air.profiles (argBits e 15 0)) stNotFound
  apply := getter fun e s => match profileOf s (argBits e 15 0) with | some p => okData (airBytes p) | none => refuse stNotFound

def airSetRouterAddress : Cmd where
  args := fun e _ => !reservedAddr (argBits e 31 0)
  check := fun _ _ s => refuseIf (anyBandEnabled s) stRefusedState
  apply := setter fun e s => modAir s fun a => { a with routerAddr := BitVec.ofNat 32 (argBits e 31 0) }
  sets := fun _ _ => [(0x0405, 0)]

/-- Tone maps of a node's mesh address. -/
def tonesOf (s : State) (addr : Nat) : ToneMaps := mapGetD ToneMaps.reset s.air.tones addr

/-- Change the tone maps of a mesh address. -/
def modTones (s : State) (addr : Nat) (f : ToneMaps → ToneMaps) : State :=
  modAir s fun a => { a with tones := mapSet a.tones addr (f (mapGetD ToneMaps.reset a.tones addr)) }

/-- A node index names a privileged node (R148). -/
def privNode (s : State) (i : Nat) : Option Reply :=
  match mapGet s.node.table i with
  | none => some (refuse stNotFound)
  | some n => refuseIf (n.role != 2) stRefusedState

/-- Mesh address of an index, 0 where it holds none. -/
def addrOfIndex (s : State) (i : Nat) : Nat := ((mapGet s.node.table i).map (·.meshAddr.toNat)).getD 0

/-- A map of a link in a direction (R135): 0 part transmit, 1 node transmit. -/
def toneMapOf (t : ToneMaps) (nodeTx : Bool) (id : Nat) : Option Nat :=
  if id = 0 then some mapZero else mapGet (if nodeTx then t.rx else t.tx) id

/-- AIR_TONE_MAP_READ (R144): a node that is not privileged is refused as AIR_TONE_MAP_WRITE refuses it, and a map the link does not
hold is not found (DESIGN CHOICE, log 96). -/
def airToneMapRead : Cmd where
  check := fun _ e s =>
    orRefuse (privNode s (argBits e 17 0))
      (refuseIf (toneMapOf (tonesOf s (addrOfIndex s (argBits e 17 0))) (argBit e 18) (argBits e 23 20)).isNone stNotFound)
  apply := getter fun e s =>
    okData (leBytes 39 ((toneMapOf (tonesOf s (addrOfIndex s (argBits e 17 0))) (argBit e 18) (argBits e 23 20)).getD 0))

/-- The TL-OFDM profile of a privileged node's link: its contact profile, else that of a DEDICATED cell. -/
def soundProfile (s : State) (i : Nat) : Option AirProfile :=
  let ids := ((nodeAt s i).bind (nodeProfile s)).toList
    ++ (s.orbit.cells.filter fun c => (c.kind == 4 || c.kind == 5) && c.target == i).filterMap fun c => profileOf s c.profile
  ids.find? isOfdm

/-- Frames of a CONTROL subtype pending for a mesh address. -/
def controlFrames (s : State) (addr : W32) (sub : Byte) : List Nat :=
  (s.queue.records.filter fun p => p.2.dest == addr && p.2.ftype == ftControl && p.2.payload.head? == some sub).map (·.1)

/-- Payload of a CONTROL TONE_MAP (R127, R138): `dir` 0, the receiver is to transmit under it. -/
def toneMapPayload (id m : Nat) : List Byte := [0x01#8, BitVec.ofNat 8 id, 0#8] ++ leBytes 39 m

/-- Offer a node a map to transmit under (R138, R445); an offer still pending gives way. -/
def offerMap (s : State) (i : Nat) (addr : W32) (id m : Nat) : State :=
  let s := (controlFrames s addr 1).foldl flushFrame s
  let s := modTones s addr.toNat fun t => { t with offered := some (id, m) }
  let s := replicateOffer s i (toneMapPayload id m)
  (parkFirmware s (firmwareFrame s addr ftControl (toneMapPayload id m) true)).1

/-- The SOUNDING_REQUEST of a node (R127, R148). -/
def requestSounding (s : State) (i : Nat) (addr : W32) : State :=
  let k := ((soundProfile s i).map (·.soundingSymbols)).getD 8
  (parkFirmware s (firmwareFrame s addr ftControl [0x02#8, BitVec.ofNat 8 k] true)).1

/-- Answer the `AIR_SOUND` commands of a node. -/
def answerSound (s : State) (addr : W32) (r : Reply) : State :=
  finishWhere s (fun op => entryCmd op.e == some .airSound && op.ref == addr.toNat) fun _ => r

/-- A receive map becomes active (R138): the earlier ones are kept for 2 s. An AIR_SOUND whose sounding has arrived answers with its
identifier and its bits per symbol (R144, R148). -/
def activateMap (s : State) (addr : W32) (id m : Nat) : State :=
  let until0 := s.upNs + 2000000000
  let asked := (tonesOf s addr.toNat).wantSounding
  let s := modTones s addr.toNat fun t =>
    { t with rxActive := id, offered := none
             old := (t.old ++ if t.rxActive = id then [] else [(t.rxActive, until0)]).filter fun o => o.1 != id }
  if asked then s else answerSound s addr (okFigures [id, mapBits m])

/-- The node has acknowledged a TONE_MAP frame (R138). -/
def mapAcked (s : State) (f : Frame) : State :=
  match (tonesOf s f.dest.toNat).offered with
  | some (id, m) =>
    if f.ftype = ftControl && f.payload == toneMapPayload id m then
      let s := modTones s f.dest.toNat fun t => { t with rx := mapSet t.rx id m }
      let s := if replicating s then linkSend s lmConfig (leBytes 4 (((s.node.table.find? fun p => p.2.meshAddr == f.dest).map (·.1)).getD 0)) else s
      activateMap s f.dest id m
    else s
  | none => s

/-- A contact of a node passed while a sounding is awaited: after 16 of them `AIR_SOUND` ends (R148). -/
def soundPassed (s : State) (addr : W32) : State :=
  let t := tonesOf s addr.toNat
  if !t.wantSounding || !(s.host.longOps.any fun op => entryCmd op.e == some .airSound && op.ref == addr.toNat) then s
  else if t.soundContacts + 1 < 16 then modTones s addr.toNat fun t => { t with soundContacts := t.soundContacts + 1 }
  else answerSound (modTones s addr.toNat fun t => { t with wantSounding := false }) addr (refuse stNotFound)

/-- Drop receive maps that are kept no longer; map 0 is fixed. -/
def dropMaps (t : ToneMaps) (gone : List (Nat × Nat)) : ToneMaps :=
  { t with old := t.old.filter fun o => !gone.contains o, rx := gone.foldl (fun m o => if o.1 = 0 then m else mapDel m o.1) t.rx }

/-- TONE_MAP_OLD_RETIRE (R138): 2 s after the acknowledgement a previous map goes. -/
def toneMapRetireOp (s : State) (addr : W32) : State :=
  match (tonesOf s addr.toNat).old.filter fun o => o.2 ≤ s.upNs with
  | [] => s
  | gone => modTones s addr.toNat fun t => dropMaps t gone

/-- A frame has come under a map (R138): the maps before that one go at once. -/
def mapUsed (s : State) (addr : W32) (id : Nat) : State :=
  let t := tonesOf s addr.toNat
  match if id = t.rxActive then t.old else t.old.takeWhile fun o => o.1 != id with
  | [] => s
  | gone => if id = t.rxActive || t.old.any (·.1 == id) then modTones s addr.toNat fun t => dropMaps t gone else s

/-- A transmit map comes into use (R138). -/
def useTxMap (s : State) (addr : W32) (id m : Nat) : State :=
  modTones s addr.toNat fun t => { t with tx := mapSet t.tx id m, txActive := id, txWaits := none }

/-- The part has acknowledged a frame of a node: a TONE_MAP it brought comes into use, or will when its thread takes it (R138). -/
def ackSent (s : State) (addr counter : W32) : State :=
  let s := { s with path := { s.path with threads := s.path.threads.map fun u =>
    if u.src == addr && u.counter == counter then { u with acked := true } else u } }
  match (tonesOf s addr.toNat).txWaits with
  | some (id, m, c) => if c == counter then useTxMap s addr id m else s
  | none => s

/-- AIR_SOUND (R148). The statuses for a node that is not privileged are those of AIR_TONE_MAP_WRITE (DESIGN CHOICE, log 96). -/
def airSound : Cmd where
  check := fun _ e s => privNode s (argBits e 17 0)
  apply := fun _ e s =>
    let addr := BitVec.ofNat 32 (addrOfIndex s (argBits e 17 0))
    let s := modTones s addr.toNat fun t => { t with wantSounding := true, soundContacts := 0 }
    (requestSounding s (argBits e 17 0) addr, { status := stAccepted })
  longRef := fun e s => addrOfIndex s (argBits e 17 0)
  sets := fun e _ => (List.range 16).map fun k => (0x0442, argBits e 17 0 * 64 + 32 + k)

def airCounters : Cmd where
  args := fun e _ => argBits e 1 0 ≤ 2
  apply := fun _ e s =>
    let b := bandOfD (argBits e 1 0)
    ((if argBit e 2 then modAir s fun a => { a with counters := a.counters.mod b clearCtrs } else s),
      okData (ctrBytes (s.air.counters.get b)))

/-- AIR_TONE_MAP_WRITE (R148). With `dir` 1 the identifier that is active is refused, since the issuer uses another one (R138; DESIGN
CHOICE, log 96). -/
def airToneMapWrite : Cmd where
  args := fun e _ => argBits e 23 20 != 0 && mapValid (leNat (inBuf e))
  check := fun _ e s =>
    orRefuse (privNode s (argBits e 17 0))
      (refuseIf (argBit e 18 && (tonesOf s (addrOfIndex s (argBits e 17 0))).rxActive == argBits e 23 20) stRefusedState)
  apply := setter fun e s =>
    let id := argBits e 23 20
    let m := leNat (inBuf e)
    let addr := addrOfIndex s (argBits e 17 0)
    if argBit e 18 then offerMap s (argBits e 17 0) (BitVec.ofNat 32 addr) id m
    else modTones s addr fun t => { t with tx := mapSet t.tx id m }
  sets := fun e _ => [(0x0442, argBits e 17 0 * 64 + argBits e 18 18 * 32 + argBits e 23 20)]

end Sys2Proof.Machine
end

