-- ==== Sys2Proof/Machine/Cells.lean ====
section
/-! DEFINITION. Channels, windows and allowed lists (R103, R149, R150, R200, R219), cells (R220 to R222), class timelines (R227),
the joint validity of a schedule, and dwell accounts (R256 to R258). -/

namespace Sys2Proof.Machine

/-! Channels. -/

/-- Highest channel number of a band (R103). -/
def channelMax (band : Nat) : Nat := match band with | 0 => 1000 | 1 => 2100 | _ => 83

/-- Raster of a band in kHz (R103). -/
def rasterKhz (band : Nat) : Nat := if band = 2 then 1000 else 100

/-- Centre of a channel in kHz (R103). -/
def channelKhz (band ch : Nat) : Nat :=
  match band with | 0 => 410000 + ch * 100 | 1 => 750000 + ch * 100 | _ => 2400000 + ch * 1000

/-- Window width in kHz (R149). -/
def windowKhz (band : Nat) : Nat := match band with | 0 => 20000 | 1 => 40000 | _ => 94000

/-- Occupied width of a profile on a band, kHz (R150): TL-OFDM takes the tones −56 to +56 (R128). -/
def occupiedKhz (p : AirProfile) (band : Nat) : Nat :=
  if isOfdm p then ceilDiv (113 * ofdmKhz band) ofdmPoints else minSpacing p * rasterKhz band

/-- A channel is receivable under a window centre given in 100 kHz units (R150). -/
def receivableAt (centre : Nat) (p : AirProfile) (band ch : Nat) : Bool :=
  let fc := channelKhz band ch
  let c := centre * 100
  let off := if fc < c then c - fc else fc - c
  decide (2 * off + occupiedKhz p band + 200 ≤ windowKhz band)

/-- A channel is receivable under the window in force. -/
def receivable (s : State) (b : Band) (p : AirProfile) (ch : Nat) : Bool :=
  receivableAt (s.radio.rx.get b).centre p (bandNum b) ch

/-- The region profile bound to a band. -/
def regionOf (s : State) (b : Band) : Option Region := mapGet s.radio.regions (s.radio.tx.get b).region

/-- The allowed list of a region profile (R219). -/
def allowedList (r : Region) : List Nat :=
  ((List.range r.count).filter fun k => !bitOf r.exclude k).map fun k => r.first + k * r.step

/-- The allowed list of a band. -/
def allowedOf (s : State) (b : Band) : List Nat := ((regionOf s b).map allowedList).getD []

/-- Channel of a channel offset in slot `n` (R219). -/
def channelAt (s : State) (b : Band) (n chOff : Nat) : Option Nat :=
  let hop := s.orbit.hop.get b
  (hop[(n + chOff) % max hop.length 1]?).bind fun i => (allowedOf s b)[i]?

/-! Cells. -/

def cellBeacon : Nat := 0
def cellJoin : Nat := 1
def cellRendezvous : Nat := 2
def cellBroadcast : Nat := 3
def cellDedRx : Nat := 4
def cellDedTx : Nat := 5
def cellParent : Nat := 6

/-- Read a cell record (R220). -/
def cellRecord (r : List Byte) : Cell :=
  { slotOffset := leAt r 0 2, startUs := leAt r 2 2, lengthUs := leAt r 4 2, profile := leAt r 6 2, chOff := leAt r 8 1
    band := leAt r 9 1 % 4, kind := leAt r 9 1 / 16 % 8, target := leAt r 10 3 % 262144, antenna := leAt r 13 1 % 4
    txLateMaxUs := leAt r 14 2 }

/-- Reserved bits and value ranges of a cell record that depend on nothing else (R220). -/
def cellRecordOk (r : List Byte) : Bool :=
  let c := cellRecord r
  let x := leAt r 9 1
  x / 4 % 4 = 0 && x < 128 && c.band ≤ 2 && c.kind ≤ 6 && leAt r 10 3 < 262144 && leAt r 13 1 ≤ 3
    && (c.txLateMaxUs ≤ 500 || c.txLateMaxUs = 0xFFFF) && 100 ≤ c.lengthUs
    && (if c.kind = cellParent then c.target ≤ 7
        else c.kind = cellDedRx || c.kind = cellDedTx || c.target = 0)

/-- Split a buffer into records of `k` bytes. -/
def chunks (k : Nat) : Nat → List Byte → List (List Byte)
  | 0, _ => []
  | n + 1, bs => if bs.length < k then [] else bs.take k :: chunks k n (bs.drop k)

/-- A part transmits, and never receives, in BEACON, BROADCAST and DEDICATED_TX cells (R221). -/
def cellTransmits (c : Cell) : Bool := c.kind == cellBeacon || c.kind == cellBroadcast || c.kind == cellDedTx

/-- A node index names a privileged node. -/
def isPrivNode (s : State) (i : Nat) : Bool := ((nodeAt s i).map (·.role == 2)).getD false

/-- A cell under the settings in force: its place in the slot, its profile, and every channel it can use (R150, R158, R219, R220, R222). -/
def cellOk (s : State) (c : Cell) : Bool :=
  let b := bandOfD c.band
  let hop := s.orbit.hop.get b
  let slotUs := s.orbit.slotLen * 10
  match profileOf s c.profile with
  | none => false
  | some p =>
    c.slotOffset < s.orbit.frameLen && c.startUs + c.lengthUs ≤ slotUs && c.startUs + 100 ≤ slotUs
      && c.chOff < hop.length && profileFitsBand p c.band && preQualOk p (s.radio.rx.get b).preQual
      && (!isOfdm p || ((c.kind == cellDedRx || c.kind == cellDedTx) && isPrivNode s c.target))
      && hop.all fun i =>
        match (allowedOf s b)[i]? with
        | some ch => receivable s b p ch
        | none => false

/-- A cell as it is used: BEACON and JOIN cells go under the profile bound to their band (R146; log 99). -/
def cellInForce (s : State) (c : Cell) : Cell :=
  let bound := s.air.bind.get (bandOfD c.band)
  if (c.kind == cellBeacon || c.kind == cellJoin) && bound != 0 then { c with profile := bound } else c

/-- A cell is a TL-OFDM receive cell. -/
def cellOfdmRx (s : State) (c : Cell) : Bool := !cellTransmits c && ((profileOf s c.profile).map isOfdm).getD false

/-- No slot offset holds more than 256 cells, or more than 32 TL-OFDM receive cells (R222). -/
def cellsCountOk (s : State) : Bool :=
  s.orbit.cells.all fun c =>
    let same := s.orbit.cells.filter fun d => d.slotOffset == c.slotOffset
    same.length ≤ 256 && (same.filter (cellOfdmRx s)).length ≤ 32

/-- Cells of a band. -/
def cellsOf (s : State) (band : Nat) : List Cell := s.orbit.cells.filter fun c => c.band == band

/-! Tag classes (R224, R227). -/

/-- The phase spans of a class under a contact profile, µs in ns (R227): downlink, uplink, follow-up. -/
def classSpans (c : TagClass) (p : AirProfile) (band : Nat) : List (Int × Int) :=
  let w : Int := c.listenHalfUs * 1000
  let d : Int := frameNs p band c.contactPsduMax
  let a : Int := ackNs p band
  let aimed (off : Nat) : List (Int × Int) :=
    if off = 0 then [] else [((off : Int) * 1000 - w, (off : Int) * 1000 + d + w + 20000 + a)]
  aimed c.dlOffsetUs ++ [((c.ulOffsetUs : Int) * 1000, (c.ulOffsetUs : Int) * 1000 + d + 20000 + a)] ++ aimed c.fuOffsetUs

/-- Two spans do not overlap. -/
def spansApart (x y : Int × Int) : Bool := x.2 ≤ y.1 || y.2 ≤ x.1

/-- Every two spans of a list stand apart. -/
def allApart : List (Int × Int) → Bool
  | [] => true
  | x :: l => l.all (spansApart x) && allApart l

/-- A class's timeline fits the slot under each contact profile it names (R227). -/
def classFits (s : State) (c : TagClass) : Bool :=
  [0, 1, 2].all fun band =>
    let id := classProfile c band
    id = 0 ||
      match profileOf s id with
      | none => false
      | some p =>
        let sp := classSpans c p band
        profileFitsBand p band && allApart sp && sp.all fun x => 0 ≤ x.1 && x.2 ≤ (slotNs s : Int)

/-- A node uses a class. -/
def classUsed (s : State) (id : Nat) : Bool := s.node.table.any fun p => p.2.classId == id

/-- Every loaded class fits, and every built-in class that a node uses (R225, R227). -/
def classesFit (s : State) : Bool :=
  s.orbit.classes.all fun p => (p.1 ≤ 3 && !classUsed s p.1) || classFits s p.2

/-! The schedule as a whole. -/

/-- The profiles that a band's receivers hold beside its cells: the bound one and those of reserved contexts (R158). -/
def heldProfiles (s : State) (b : Band) : List Nat :=
  (s.air.bind.get b) :: (s.radio.reserved.map fun i => mapGetD Ctx.idle s.radio.ctxs i).filterMap fun x =>
    if x.band = bandNum b then some x.profile else none

/-- A band's hopping sequence, cells, window and qualification agree (R150, R158, R219, R222). -/
def bandScheduleOk (s : State) (b : Band) : Bool :=
  (s.orbit.hop.get b).all (fun i => i < (allowedOf s b).length)
    && (cellsOf s (bandNum b)).all (fun c => cellOk s c && cellOk s (cellInForce s c))
    && (heldProfiles s b).all fun id => ((profileOf s id).map fun p => preQualOk p (s.radio.rx.get b).preQual).getD true

/-- What an immediate command answers that would leave an invalid schedule; a stage is judged as a whole (R90, R219). -/
def scheduleCheck (w : When) (ok : Bool) : Option Reply :=
  match w with
  | .now => refuseIf (!ok) stBadArg
  | _ => none

def airProfileBind : Cmd where
  args := fun e _ => argBits e 1 0 ≤ 2
  check := fun w e s =>
    let b := bandOfD (argBits e 1 0)
    let s' := modAir s fun a => { a with bind := a.bind.mod b fun _ => argBits e 31 16 }
    orRefuse
      (match profileOf s (argBits e 31 16) with
       | none => some (refuse stNotFound)
       | some p => orRefuse
           (refuseIf (!profileFitsBand p (argBits e 1 0) || !spacingOk s b p || !preQualOk p (s.radio.rx.get b).preQual) stBadArg)
           (scheduleCheck w (bandScheduleOk s' b)))
      (asnOnly w (bandEnabled s b))
  apply := setter fun e s => modAir s fun a => { a with bind := a.bind.mod (bandOfD (argBits e 1 0)) fun _ => argBits e 31 16 }
  sets := fun e _ => [(0x0403, argBits e 1 0)]

/-- `schedule_version` rises (R252). -/
def bumpSchedule (s : State) : State := modOrbit s fun o => { o with schedVersion := (o.schedVersion + 1) % 65536 }

/-! Dwell accounts. -/

/-- Key of a whole-band account. -/
def dwellBandKey : Nat := 0xFFFFFFFF

/-- Sub-interval of an instant: `dwell_window_s` / 64 each (R256). -/
def dwellSub (r : Region) (t : Nat) : Nat := t / max (r.dwellWindowS * 15625000) 1

/-- Value of an account at `t`, ns (R256). -/
def dwellSum (r : Region) (d : Dwell) (t : Nat) : Nat :=
  let k := dwellSub r t
  ((d.sub.filter fun p => p.1 ≤ k && k ≤ p.1 + 63).map (·.2)).foldl (· + ·) 0

/-- An account of a band. -/
def dwellAccount (x : TxBand) (key : Nat) : Dwell := (x.dwell.find? (·.key == key)).getD { key := key, sub := [], eventAt := none }

/-- Change an account of a band. -/
def setDwell (x : TxBand) (d : Dwell) : TxBand := { x with dwell := d :: x.dwell.filter (·.key != d.key) }

/-- Enter airtime in an account at an instant; sub-intervals older than the window go. -/
def dwellEnter (r : Region) (d : Dwell) (t air : Nat) : Dwell :=
  let k := dwellSub r t
  { d with sub := mapSet (d.sub.filter fun p => k ≤ p.1 + 63) k (mapGetD 0 d.sub k + air) }

/-- Launches planned or queued on a band and not yet on the air, a direct test excluded. -/
def dwellWaiting (s : State) (b : Band) : List Launch :=
  (s.orbit.plans.flatMap fun p => if p.handed then [] else p.launches.filter (·.band == bandNum b))
    ++ (s.radio.tx.get b).queue

/-- Enter a span in a list ordered by start. -/
def insertSpan (x : Nat × Nat) : List (Nat × Nat) → List (Nat × Nat)
  | [] => [x]
  | y :: l => if x.1 ≤ y.1 then x :: y :: l else y :: insertSpan x l

/-- Time that spans ordered by start cover, beyond an instant. -/
def spanCover : Nat → List (Nat × Nat) → Nat
  | _, [] => 0
  | done, x :: l => (x.2 - max done x.1) + spanCover (max done x.2) l

/-- Time that spans cover: bursts that run together count once. -/
def unionNs (l : List (Nat × Nat)) : Nat := spanCover 0 (l.foldr insertSpan [])

/-- The chain under the settings that its burst began with (R209, R211). -/
def inForce (x : TxBand) : TxBand :=
  match x.inBurst with
  | none => x
  | some t =>
    { x with
      driveQ := t.driveQ, rampLinear := t.rampLinear, rampUs := t.rampUs, paLeadUs := t.paLeadUs, paLagUs := t.paLagUs
      txPathNs := t.txPathNs, polarity := t.polarity, coexEnable := t.coexEnable, coexAbort := t.coexAbort, outLow := t.outLow }

/-- Span of a launch from ramp-up start to ramp-down end. -/
def launchSpan (x : TxBand) (l : Launch) : Nat × Nat := (l.tL - x.rampUs * 1000, l.tL + l.airNs + x.rampUs * 1000)

/-- An instant's sub-interval is the one containing `t` or one of the 63 before it (R256). -/
def inWindow (r : Region) (t start : Nat) : Bool := start ≤ t && dwellSub r t ≤ dwellSub r start + 63

/-- Spans charged to an account at `t` beside its entries: the burst in progress, and launches that will have started by then. -/
def dwellSpans (s : State) (b : Band) (r : Region) (key t : Nat) : List (Nat × Nat) :=
  let x := s.radio.tx.get b
  let mine (l : Launch) : Bool := key == dwellBandKey || l.channel == key
  let spans := ((dwellWaiting s b).filter mine).map (launchSpan x) ++ (x.burst.filter mine).map (launchSpan (inForce x))
  spans.filter fun p => inWindow r t p.1

/-- Value of an account at `t`, the burst in progress included (R256), ns. -/
def dwellValue (s : State) (b : Band) (r : Region) (key t : Nat) : Nat :=
  let x := s.radio.tx.get b
  let mine := x.burst.filter fun l => key == dwellBandKey || l.channel == key
  dwellSum r (dwellAccount x key) t + unionNs ((mine.map (launchSpan (inForce x))).filter fun p => inWindow r t p.1)

/-- The account a launch on a channel charges under a region profile; a channel outside the allowed list holds none (R256). -/
def dwellKeys (r : Region) (ch : Nat) : List Nat :=
  if r.dwellWhole then [dwellBandKey] else if (allowedList r).contains ch then [ch] else []

/-- The account that refuses a launch at `tL` with `airNs` on the air, if one does, with its value (R257). -/
def dwellRefuser (s : State) (b : Band) (ch tL airNs : Nat) : Option (Region × Nat × Nat) :=
  match regionOf s b with
  | none => none
  | some r =>
    (dwellKeys r ch).findSome? fun key =>
      let x := s.radio.tx.get b
      let spans := dwellSpans s b r key tL
      let base := dwellSum r (dwellAccount x key) tL
      let mine := (tL - x.rampUs * 1000, tL + airNs + x.rampUs * 1000)
      if r.dwellLimitMs * 1000000 < base + unionNs (mine :: spans) then some (r, key, base + unionNs spans) else none

/-- A refusal by an account: counted, and the first within one dwell window raises `EV_DWELL` (R257, R262). -/
def dwellDeny (s : State) (b : Band) (r : Region) (key v : Nat) : State :=
  let s := orbitCount s ocDwell
  let d := dwellAccount (s.radio.tx.get b) key
  let win := nowNs s / max (r.dwellWindowS * 1000000000) 1
  if d.eventAt = some win then s
  else
    raiseEvent (modTx s b fun x => setDwell x { d with eventAt := some win }) evDwell (bandNum b) key (v / 1000) r.dwellLimitMs

/-- The accounts of a band after its region profile changed from `old` to `new` (R258). -/
def dwellCarry (now : Nat) (old new : Region) (x : TxBand) : TxBand :=
  let total := dwellSum old (dwellAccount x dwellBandKey) now
  let fresh (key : Nat) : Dwell := dwellEnter new { key := key, sub := [], eventAt := none } now total
  if old.dwellWhole == new.dwellWhole && old.dwellWindowS = new.dwellWindowS then
    let added := if new.dwellWhole then [] else (allowedList new).filter fun c => !(allowedList old).contains c
    { x with dwell := (x.dwell.filter fun d => !added.contains d.key) ++ (if total = 0 then [] else added.map fresh) }
  else
    let keys := if new.dwellWhole then [] else allowedList new
    { x with dwell := if total = 0 then [] else fresh dwellBandKey :: keys.map fresh }

/-- Accounts as `ORBIT_DWELL_STATUS` lists them: channel, value in µs. -/
def dwellList (s : State) (b : Band) : List (Nat × Nat) :=
  match regionOf s b with
  | none => []
  | some r =>
    (if r.dwellWhole then [dwellBandKey] else allowedList r).map fun key =>
      (key, dwellValue s b r key (nowNs s) / 1000)

end Sys2Proof.Machine
end

