-- ==== Sys2Proof/Machine/RadioRx.lean ====
section
/-! DEFINITION. Demodulator contexts (R155 to R157), the snapshots and wake receiver (R171 to R175), and the receive-side RADIO
commands (R177, R178). -/

namespace Sys2Proof.Machine

/-! Receive counters in the order of R176. -/

def rxSyncDetect : Nat := 0
def rxHdrFail : Nat := 1
def rxFcsFail : Nat := 2
def rxFcsOkCount : Nat := 3
def rxCapturePre : Nat := 4
def rxCapturePost : Nat := 5
def rxCaptureIgnored : Nat := 6
def rxOverlapLost : Nat := 7
def rxCarrierLost : Nat := 8
def rxBlanked : Nat := 9
def rxRetuneLost : Nat := 10
def rxCtxShort : Nat := 11
def rxNoBuffer : Nat := 12
def rxAgcAttack : Nat := 13
def rxAgcClip : Nat := 14
def rxWakeMatches : Nat := 15

/-! Contexts. -/

/-- Change the radio. -/
def modRadio (s : State) (f : Radio → Radio) : State := { s with radio := f s.radio }

/-- A context. -/
def ctxOf (s : State) (i : Nat) : Ctx := mapGetD Ctx.idle s.radio.ctxs i

/-- Set a context. -/
def setCtx (s : State) (i : Nat) (c : Ctx) : State := modRadio s fun r => { r with ctxs := mapSet r.ctxs i c }

/-- A reception is in progress (R157). -/
def ctxBusy (c : Ctx) : Bool := c.state == .locked || c.state == .psdu || c.state == .sounding

/-- A window of a node's contact is open, or a frame heard in one is not yet judged: its context receives, or it waits for the
twin's acknowledgement (R248, R445). -/
def contactOpen (s : State) (a : W32) : Bool :=
  let mine (p : Purpose) : Bool := match p with | .ack _ b | .uplink b _ | .dedicated b _ => a == b | _ => false
  (s.radio.ctxs.any fun x => mine x.2.purpose && (ctxBusy x.2 || (x.2.state != .idle && decide (nowNs s < x.2.listenEnd))))
    || s.pair.waits.any fun w => match w.hold with | .uplink u => u.src == a | _ => false

/-- A context reserved as a standing listener. -/
def ctxReserved (s : State) (i : Nat) : Bool := s.radio.reserved.contains i

/-- The receivers rest after a RADIO reset until the slotframe boundary, while a numbering runs (R96, log 88). -/
def rxRests (s : State) : Bool := s.radio.rxHeld.isSome && numbering s

/-- The state in which a context of a band listens now: BLANKED around a burst (R170), IDLE while the receivers rest (R96). -/
def listenState (s : State) (b : Band) : CtxState :=
  if rxRests s then .idle else if (s.radio.tx.get b).blank then .blanked else .armed

/-- The mesh address whose tone maps a context holds (R165). -/
def ctxNode (c : Ctx) : Option W32 :=
  match c.purpose with
  | .ack _ a | .uplink a _ | .dedicated a _ => some a
  | _ => none

/-- A context armed: it takes its band's settings and its node's receive maps (R165, R177). -/
def armed (s : State) (c : Ctx) (st : CtxState) : Ctx :=
  let r := s.radio.rx.get (bandOfD c.band)
  { c with
    state := st
    rx := none
    maps := ((ctxNode c).map fun a => (tonesOf s a.toNat).rx).getD []
    set :=
      { preQual := r.preQual, syncRssiMinQ := r.syncRssiMinQ, ofdmThr := r.ofdmThr, captureSwitch := r.captureSwitch
        captureMargin := r.captureMargin, carrierDrop := r.carrierDrop, diagRing := r.diagRing } }

/-- A context that is done: IDLE, or armed again where it is a standing listener on an ON band or still inside its listen. -/
def ctxRest (s : State) (i : Nat) : State :=
  let c := ctxOf s i
  let again := (c.listenEnd > nowNs s && !rxRests s) || ctxReserved s i
  if again && bandState s (bandOfD c.band) == .on then setCtx s i (armed s c (listenState s (bandOfD c.band)))
  else if ctxReserved s i then setCtx s i { c with state := .idle, rx := none }
  else setCtx s i { Ctx.idle with frames := c.frames }

/-- Back to IDLE, keeping a standing listener's settings. -/
def ctxIdle (s : State) (i : Nat) : State :=
  let c := ctxOf s i
  setCtx s i (if ctxReserved s i then { c with state := .idle, rx := none } else { Ctx.idle with frames := c.frames })

/-- RSSI as reported (R167): it saturates at −130 and +10 dBm. -/
def rssiField (q : Int) : Int := clampInt q (-520) 40

/-- The terminal entry of a cut-through series (R361): a failure poisons every piece of it. Nothing is written once its ring was
torn down (R362). -/
def endCut (s : State) (i : Nat) (status : Byte) (lqi : Nat) : State :=
  let c := ctxOf s i
  match c.rx with
  | none => s
  | some r =>
    match r.cut with
    | none => s
    | some k =>
      let s := setCtx s i { c with rx := some { r with cut := none } }
      let s := if status == fsOk then s else { s with crypt := { s.crypt with counters := bump s.crypt.counters 4 } }
      if !k.live then s
      else
        (rxWrite s k.ring fun buf ph =>
          { buf := buf, phase := ph, last := true, frameStatus := status, length := 0, mode := ((profileOf s c.profile).map (·.mode)).getD 0
            context := i, band := c.band, nodeValid := true, nodeIndex := k.index, tsNs := BitVec.ofNat 64 r.det.endNs
            tsFrac := r.det.endFrac, keyGen := k.keyGen, lqi := BitVec.ofNat 8 lqi, rssi := rssiField r.det.rssiQ, frameCounter := k.counter
            srcAddr := k.src, chunkSeq := k.pieces, channel := c.channel, frameId := k.frameId, data := [] }).1

/-- A reception that is lost ends its cut-through series (R362). -/
def poisonCut (s : State) (i : Nat) : State := endCut s i fsTagFail 0

/-- Contexts of a band that satisfy a test, by number. -/
def bandCtxs (s : State) (b : Band) (p : Ctx → Bool) : List Nat :=
  (s.radio.ctxs.filter fun x => x.2.band == bandNum b && p x.2).map (·.1)

/-- Lose every reception in progress on a band, each counted in a receive counter. -/
def loseReceptions (s : State) (b : Band) (counter : Nat) : State :=
  (bandCtxs s b ctxBusy).foldl (fun s i => ctxRest (poisonCut (rxCount s b counter) i) i) s

/-- Arm or disarm the standing listeners of a band with its service state. -/
def armReserved (s : State) (b : Band) (on : Bool) : State :=
  (bandCtxs s b fun c => c.purpose == .reserved && !ctxBusy c).foldl (fun s i =>
    setCtx s i (armed s (ctxOf s i) (if on then listenState s b else .idle))) s

/-! Windows. -/

/-- The window centre a sealed stage holds for a band and its ASN (R177). -/
def pendingWindow (s : State) (b : Band) : Option (Nat × Nat) :=
  s.host.stages.findSome? fun st =>
    if st.checkState = 3 && st.mode = 2 then
      (st.cmds.filter fun e => entryCmd e == some .radioWindowSet && argBits e 1 0 == bandNum b).getLast?.map fun e =>
        (argBits e 31 16, st.point)
    else none

/-- Move a window: on an enabled band the retune takes 120 µs and loses the receptions in progress (R151). -/
def moveWindow (s : State) (b : Band) (centre : Nat) : State :=
  if bandEnabled s b then
    loseReceptions (modRx s b fun r => { r with centre := centre, retuneEnd := some (nowNs s + 120000) }) b rxRetuneLost
  else modRx s b fun r => { r with centre := centre }

/-- A band argument in bits [1:0]. -/
def argBand (e : CmdEntry) : Band := bandOfD (argBits e 1 0)

/-- The band argument is 0 to 2. -/
def bandArgOk (e : CmdEntry) : Bool := argBits e 1 0 ≤ 2

def radioWindowSet : Cmd where
  args := fun e _ =>
    match argBits e 1 0 with
    | 0 => 4200 ≤ argBits e 31 16 && argBits e 31 16 ≤ 5000
    | 1 => 7700 ≤ argBits e 31 16 && argBits e 31 16 ≤ 9400
    | _ => false
  check := fun w e s =>
    let s' := modRx s (argBand e) fun r => { r with centre := argBits e 31 16 }
    orRefuse (asnOnly w (bandEnabled s (argBand e))) (scheduleCheck w (bandScheduleOk s' (argBand e)))
  apply := setter fun e s => moveWindow s (argBand e) (argBits e 31 16)
  sets := fun e _ => [(0x0301, argBits e 1 0)]

/-- An absent figure of a result without a byte layout (log 10). -/
def noFigure : Int := -1

def radioWindowQuery : Cmd where
  args := fun e _ => bandArgOk e
  apply := getter fun e s =>
    match pendingWindow s (argBand e) with
    | some (c, n) => okFigures [((s.radio.rx.get (argBand e)).centre : Int), c, n]
    | none => okFigures [((s.radio.rx.get (argBand e)).centre : Int), noFigure, noFigure]

def radioRxCounters : Cmd where
  args := fun e _ => bandArgOk e
  apply := fun _ e s =>
    let b := argBand e
    ((if argBit e 2 then modRx s b fun r => { r with counters := clearCtrs r.counters } else s),
      okData (ctrBytes (s.radio.rx.get b).counters))

/-- Code of a context state (R156). -/
def ctxCode : CtxState → Nat
  | .idle => 0 | .armed => 1 | .locked => 2 | .psdu => 3 | .sounding => 4 | .blanked => 5

/-- RADIO_CONTEXT_STATUS (R177): with no reception the `rssi` reads 0 (DESIGN CHOICE, log 90). -/
def radioContextStatus : Cmd where
  args := fun e _ => 1 ≤ argBits e 24 16 && argBits e 8 0 + argBits e 24 16 ≤ 512
  apply := getter fun e s =>
    okFigures ((List.range (argBits e 24 16)).flatMap fun k =>
      let c := ctxOf s (argBits e 8 0 + k)
      let row : List Int :=
        [ctxCode c.state, c.band, c.channel, c.profile, (c.rx.map fun r => rssiField r.det.rssiQ).getD 0, c.frames]
      row)

def radioDiagRing : Cmd where
  args := fun e _ => bandArgOk e
  apply := setter fun e s => modRx s (argBand e) fun r => { r with diagRing := argBits e 11 8 }
  sets := fun e _ => [(0x0305, argBits e 1 0)]

/-! Snapshots. -/

/-- Free-pool units in use (R25, R26). -/
def snapUnits (s : State) : Nat := (s.radio.snapshots.map (·.units)).foldl (· + ·) 0

/-- A band holds an armed or capturing snapshot. -/
def snapBusy (s : State) (band : Nat) : Bool := s.radio.snapshots.any fun x => x.band == band && x.state != .complete

/-- The next free snapshot identifier from `n` on, 8 bits. -/
def freeSnapId (l : List Snapshot) : Nat → Nat → Nat
  | 0, n => n
  | k + 1, n => if l.any (·.id == n) then freeSnapId l k ((n + 1) % 256) else n

/-- The snapshot of an identifier. -/
def snapOf (s : State) (id : Nat) : Option Snapshot := s.radio.snapshots.find? (·.id == id)

/-- The snapshot of a band that has not completed. -/
def liveSnap (s : State) (b : Band) : Option Snapshot :=
  s.radio.snapshots.find? fun x => x.band == bandNum b && x.state != .complete

/-- Bytes of a snapshot. -/
def snapBytes (x : Snapshot) : Nat := x.units * 1048576

def radioSnapshotArm : Cmd where
  args := fun e s =>
    bandArgOk e && 1 ≤ argBits e 7 4 && argBits e 7 4 ≤ 8 && argBits e 9 8 ≤ 2
      && (!argBit e 2 || (1 ≤ argBits e 31 16 && argBits e 31 16 ≤ 1000))
      && (argBits e 9 8 != 1 || nowNs s < argBits e 95 32)
  check := fun _ e s =>
    orRefuse (refuseIf (!bandEnabled s (argBand e) || snapBusy s (argBits e 1 0)) stRefusedState)
      (refuseIf (13 < snapUnits s + argBits e 7 4) stNoRoom)
  apply := fun _ e s =>
    let id := freeSnapId s.radio.snapshots 256 s.radio.nextSnap
    let now := argBits e 9 8 = 0
    let x : Snapshot :=
      { id := id, band := argBits e 1 0, power := argBit e 2, units := argBits e 7 4, trigger := argBits e 9 8
        triggerId := argBits e 15 12, avgMs := argBits e 31 16, startNs := argBits e 95 32
        state := if now then .capturing else .armed, firstNs := if now then nowNs s else 0
        blanks := if (s.radio.tx.get (argBand e)).blank then [(nowNs s, none)] else [], data := [] }
    (holdOn (modRadio s fun r => { r with snapshots := r.snapshots ++ [x], nextSnap := (id + 1) % 256 }), { status := stAccepted })
  longRef := fun _ s => freeSnapId s.radio.snapshots 256 s.radio.nextSnap

/-- `n` open bytes. -/
def drawBytes (s : State) (n : Nat) : List Byte × State :=
  ((List.range n).map fun k => BitVec.ofNat 8 (Config.freeNat (s.free + k)), { s with free := s.free + n })

def radioSnapshotRead : Cmd where
  check := fun _ e s =>
    match snapOf s (argBits e 7 0) with
    | none => some (refuse stNotFound)
    | some x => refuseIf (snapBytes x < argBits e 63 32 + e.bufLen.toNat) stBadArg
  apply := fun _ e s =>
    match snapOf s (argBits e 7 0) with
    | some x =>
      if x.state == .complete then (s, okData (sliceBytes x.data (argBits e 63 32) e.bufLen.toNat))
      else
        let (d, s) := drawBytes s e.bufLen.toNat
        (s, okData d)
    | none => (s, refuse stNotFound)

/-- Release a snapshot; the arming command of one that has not completed ends refused (log 37). -/
def releaseSnapshot (s : State) (id : Nat) : State :=
  let s := modRadio s fun r => { r with snapshots := r.snapshots.filter fun x => x.id != id }
  finishWhere s (fun op => entryCmd op.e == some .radioSnapshotArm && op.ref == id) fun _ => refuse stRefusedState

def radioSnapshotRelease : Cmd where
  check := fun _ e s => refuseIf (snapOf s (argBits e 7 0)).isNone stNotFound
  apply := setter fun e s => releaseSnapshot s (argBits e 7 0)

/-- An armed snapshot's trigger time has come (R172). -/
def snapshotStartOp (s : State) (b : Band) : State :=
  match liveSnap s b with
  | some x =>
    if x.state == .armed && x.trigger = 1 && x.startNs ≤ nowNs s then
      modRadio s fun r => { r with snapshots := r.snapshots.map fun y =>
        if y.id == x.id then { y with state := .capturing, firstNs := nowNs s } else y }
    else s
  | none => s

/-- The band's blanking begins or ends: the snapshots in hand note it (R171). -/
def snapBlanked (s : State) (b : Band) (on : Bool) : State :=
  let now := nowNs s
  let note (x : Snapshot) : Snapshot :=
    { x with blanks := if on then x.blanks ++ [(now, none)] else x.blanks.map fun p => if p.2.isNone then (p.1, some now) else p }
  modRadio s fun r => { r with snapshots := r.snapshots.map fun x => if x.band == bandNum b && x.state != .complete then note x else x }

/-- Records of a 1 MiB unit of POWER data, and the bytes of one (R171). -/
def powerRecords (band : Nat) : Nat := if band = 2 then 2097 else 819
def powerBytes (band : Nat) : Nat := if band = 2 then 500 else 1280

/-- Time a capture takes, ns (R171): its units of samples, or of averaging intervals. -/
def captureNs (x : Snapshot) : Nat :=
  if x.power then x.units * powerRecords x.band * x.avgMs * 1000000 else x.units * (if x.band = 2 then 1048576 else 4096000)

/-- RAW sample `k` falls into a blanking interval (R171): the ADC takes 64 samples/µs on bands A and B, 250 on C. -/
def sampleDark (x : Snapshot) (k : Nat) : Bool :=
  let t := x.firstNs + k * 1000 / (if x.band = 2 then 250 else 64)
  x.blanks.any fun p => decide (p.1 ≤ t) && ((p.2.map fun e => decide (t < e)).getD true)

/-- RAW data from sample `k` on: blanked samples are zero. -/
def rawSamples (x : Snapshot) : Nat → List Byte → List Byte
  | k, a :: b :: c :: d :: t => (if sampleDark x k then [0, 0, 0, 0] else [a, b, c, d]) ++ rawSamples x (k + 1) t
  | _, _ => []

/-- POWER data by units: the records of one, then zeros. -/
def powerData (n : Nat) : Nat → List Byte → List Byte
  | 0, _ => []
  | k + 1, d => (d.take n ++ List.replicate (1048576 - (d.take n).length) 0) ++ powerData n k (d.drop n)

/-- What a capture stores (R171). The row's bytes are the receiver's samples, or its records averaged over the unblanked time. -/
def snapContent (x : Snapshot) (data : List Byte) : List Byte :=
  if x.power then powerData (powerRecords x.band * powerBytes x.band) x.units data
  else (rawSamples x 0 data ++ List.replicate (snapBytes x) 0).take (snapBytes x)

/-- A capture has filled its units (R171): the arming command answers, with the antenna power of full scale an open value. -/
def snapshotEndOp (s : State) (b : Band) (data : List Byte) : State :=
  match liveSnap s b with
  | some x =>
    if x.state != .capturing || nowNs s < x.firstNs + captureNs x then s
    else
      let s := modRadio s fun r => { r with snapshots := r.snapshots.map fun y =>
        if y.id == x.id then { y with state := .complete, data := snapContent x data } else y }
      let (f, s) := drawNat s
      finishWhere s (fun op => entryCmd op.e == some .radioSnapshotArm && op.ref == x.id) fun _ =>
        okFigures [x.id, x.firstNs, signedOf 16 f]
  | none => s

/-! The wake receiver. -/

/-- Bits in which two 32-bit patterns differ. -/
def diffBits (a b : Nat) : Nat := ((List.range 32).filter fun i => bitOf a i != bitOf b i).length

/-- A pattern the wake receiver takes (R174). -/
def wakePatternOk (p tol : Nat) : Bool :=
  let ones := ((List.range 32).filter (bitOf p)).length
  10 ≤ ones && ones ≤ 22 && 2 * tol + 2 ≤ diffBits p 0x55555555 && 2 * tol + 2 ≤ diffBits p 0xAAAAAAAA

def radioWakeConfig : Cmd where
  args := fun e _ =>
    argBits e 6 4 ≤ 6 && 3040 ≤ argBits e 31 16 && argBits e 31 16 ≤ 3800 && wakePatternOk (argBits e 63 32) (argBits e 6 4)
  apply := setter fun e s => modRadio s fun r => { r with wake :=
    { r.wake with
      enable := argBit e 0, actEvent := argBit e 1, tol := argBits e 6 4, freq := argBits e 31 16
      pattern := BitVec.ofNat 32 (argBits e 63 32), domainMask := BitVec.ofNat 32 (argBits e 95 64) } }
  sets := fun _ _ => [(0x0309, 0)]

def radioWakeStatus : Cmd where
  apply := getter fun _ s =>
    let n := (nth 0 s.radio.rx.b.counters rxWakeMatches).toNat
    okFigures [natOf s.radio.wake.enable, n, s.radio.wake.lastRtc.toNat]

/-! Expert settings. -/

def radioSyncTune : Cmd where
  args := fun e _ =>
    bandArgOk e && 8 ≤ argBits e 15 8 && argBits e 15 8 ≤ 64 && -520 ≤ argSigned e 31 16 && argSigned e 31 16 ≤ -160
      && 30 ≤ argBits e 39 32 && argBits e 39 32 ≤ 95
  check := fun w e s =>
    scheduleCheck w (bandScheduleOk (modRx s (argBand e) fun r => { r with preQual := argBits e 15 8 }) (argBand e))
  apply := setter fun e s => modRx s (argBand e) fun r =>
    { r with preQual := argBits e 15 8, syncRssiMinQ := argSigned e 31 16, ofdmThr := argBits e 39 32 }
  sets := fun e _ => [(0x03C1, argBits e 1 0)]

def radioCaptureSet : Cmd where
  args := fun e _ => bandArgOk e && 6 ≤ argBits e 15 8 && argBits e 15 8 ≤ 30
  apply := setter fun e s => modRx s (argBand e) fun r =>
    { r with captureSwitch := argBit e 2, captureMargin := argBits e 7 4, carrierDrop := argBits e 15 8 }
  sets := fun e _ => [(0x03C2, argBits e 1 0)]

def radioAgcSet : Cmd where
  args := fun e _ =>
    bandArgOk e && argBits e 3 2 ≤ 2 && argBits e 15 8 ≤ 60 && argBits e 15 8 % 2 = 0 && 20 ≤ argBits e 31 16
      && argBits e 31 16 ≤ 2000
  apply := setter fun e s => modRx s (argBand e) fun r =>
    { r with
      agcMode := argBits e 3 2, agcFixed := argBits e 15 8, agcRelease := argBits e 31 16
      agcGain := if argBits e 3 2 = 2 then argBits e 15 8 else r.agcGain }
  sets := fun e _ => [(0x03C3, argBits e 1 0)]

def radioRssiCal : Cmd where
  args := fun e _ =>
    bandArgOk e && -80 ≤ argSigned e 31 16 && argSigned e 31 16 ≤ 80 && -80 ≤ argSigned e 47 32 && argSigned e 47 32 ≤ 160
  apply := setter fun e s => modRx s (argBand e) fun r =>
    { r with rssiOffsetQ := argSigned e 31 16, extGainQ := argSigned e 47 32 }
  sets := fun e _ => [(0x03C4, argBits e 1 0)]

def radioRxPathDelay : Cmd where
  args := fun e _ => bandArgOk e && argBits e 31 16 ≤ 10000
  apply := setter fun e s => modRx s (argBand e) fun r => { r with rxPathNs := argBits e 31 16 }
  sets := fun e _ => [(0x03C5, argBits e 1 0)]

/-- The first run of `n` contexts from `i` on that are IDLE and not reserved, below 480. -/
def freeRun (s : State) (n : Nat) : Nat → Nat → Option Nat
  | 0, _ => none
  | k + 1, i =>
    if 480 < i + n then none
    else if (List.range n).all fun j => (ctxOf s (i + j)).state == .idle && !ctxReserved s (i + j) then some i
    else freeRun s n k (i + 1)

def radioContextReserve : Cmd where
  args := fun e s =>
    bandArgOk e && 1 ≤ argBits e 12 4 && argBits e 12 4 ≤ 64 && argBits e 31 16 ≤ channelMax (argBits e 1 0)
      && match profileOf s (argBits e 47 32) with
         | some p =>
           !isOfdm p && profileFitsBand p (argBits e 1 0) && preQualOk p (s.radio.rx.get (argBand e)).preQual
             && receivable s (argBand e) p (argBits e 31 16)
         | none => false
  check := fun _ e s =>
    refuseIf (512 < s.radio.reserved.length + argBits e 12 4 + 64 || (freeRun s (argBits e 12 4) 480 0).isNone) stNoRoom
  apply := fun _ e s =>
    let n := argBits e 12 4
    let first := (freeRun s n 480 0).getD 0
    let on := bandState s (argBand e) == .on
    let s := modRadio s fun r => { r with reserved := r.reserved ++ (List.range n).map (first + ·) }
    let s := (List.range n).foldl (fun s k =>
      setCtx s (first + k) (armed s
        { Ctx.idle with
          purpose := .reserved, band := argBits e 1 0, channel := argBits e 31 16, profile := argBits e 47 32
          frames := (ctxOf s (first + k)).frames } (if on then listenState s (argBand e) else .idle))) s
    (s, okFigures [first, n])
  sets := fun e s => (List.range (argBits e 12 4)).map fun k => (0x03C6, (freeRun s (argBits e 12 4) 480 0).getD 0 + k)

/-- RADIO_CONTEXT_RELEASE (R177): a range not wholly reserved is not found (DESIGN CHOICE, log 91). -/
def radioContextRelease : Cmd where
  args := fun e _ => 1 ≤ argBits e 24 16 && argBits e 8 0 + argBits e 24 16 ≤ 512
  check := fun _ e s =>
    refuseIf (!(List.range (argBits e 24 16)).all fun k => ctxReserved s (argBits e 8 0 + k)) stNotFound
  apply := setter fun e s =>
    let ids := (List.range (argBits e 24 16)).map (argBits e 8 0 + ·)
    let s := modRadio s fun r => { r with reserved := r.reserved.filter fun i => !ids.contains i }
    ids.foldl (fun s i => if ctxBusy (ctxOf s i) then s else ctxIdle s i) s
  sets := fun e _ => (List.range (argBits e 24 16)).map fun k => (0x03C6, argBits e 8 0 + k)

end Sys2Proof.Machine
end

