-- ==== Sys2Proof/Machine/RadioTx.lean ====
section
/-! DEFINITION. Transmit chains: launch queues, bursts and their cuts, front-end lines, band service states, region profiles,
calibrations, and the transmit-side RADIO commands (chapter 5). -/

namespace Sys2Proof.Machine

/-! Transmit counters in the order of R210. -/

def tcLaunch : Nat := 0
def tcLate : Nat := 1
def tcLateCancel : Nat := 2
def tcBusyCancel : Nat := 3
def tcAckAbandoned : Nat := 4
def tcAckNoSynth : Nat := 5
def tcCoexDenied : Nat := 6
def tcCoexAbort : Nat := 7
def tcEclipseCut : Nat := 8
def tcCalChan : Nat := 9
def tcCalFail : Nat := 10
def tcCalBg : Nat := 11
def tcCalOverdue : Nat := 12
def tcBandFaults : Nat := 13
def tcFaultRxLost : Nat := 14
def tcLateWorst : Nat := 15

/-- Ramp time in ns (R211). -/
def rampNs (x : TxBand) : Nat := x.rampUs * 1000

/-- Ramp-down end of a launch at its instant `t`. -/
def endNs (x : TxBand) (l : Launch) (t : Nat) : Nat := t + l.airNs + rampNs x

/-- TL-OFDM launch. -/
def launchOfdm (s : State) (l : Launch) : Bool := ((profileOf s l.profile).map isOfdm).getD false

/-- LO span on each side of the LO, in raster steps (R181). -/
def loSpan (band : Nat) : Nat := if band = 2 then 25 else 80

/-- A channel lies within the LO span of an LO (R181). -/
def inSpan (band lo ch : Nat) : Bool := lo ≤ ch + loSpan band && ch ≤ lo + loSpan band

/-- Two carriers stand at least the larger of their minimum spacings apart (R181). -/
def spacedApart (s : State) (a b : Launch) : Bool :=
  let m (l : Launch) : Nat := ((profileOf s l.profile).map minSpacing).getD 0
  let d := if a.channel < b.channel then b.channel - a.channel else a.channel - b.channel
  max (m a) (m b) ≤ d

/-- The settings that a burst beginning now keeps. -/
def burstSet (x : TxBand) : BurstSet :=
  { driveQ := x.driveQ, rampLinear := x.rampLinear, rampUs := x.rampUs, paLeadUs := x.paLeadUs, paLagUs := x.paLagUs
    txPathNs := x.txPathNs, polarity := x.polarity, coexEnable := x.coexEnable, coexAbort := x.coexAbort, outLow := x.outLow }

/-- Ramp-down end of a carrier of the burst. -/
def carrierEndNs (x : TxBand) (l : Launch) : Nat := endNs (inForce x) l (max l.tL l.tA)

/-- End of the burst in progress: the last ramp-down. -/
def burstEndNs (x : TxBand) : Nat := (x.burst.map (carrierEndNs x)).foldl max 0

/-- Carriers of the burst that are active at `t` (R191). -/
def activeCarriers (x : TxBand) (t : Nat) : List Launch := x.burst.filter fun l => t < carrierEndNs x l

/-- A launch that R191 to R193 govern. -/
def isAckLaunch (l : Launch) : Bool := l.kind == .ack || l.kind == .challenge

/-- Two bursts overlap in time. -/
def launchesMeet (x : TxBand) (a b : Launch) : Bool :=
  let s (l : Launch) : Nat × Nat := (max l.tL l.tA - rampNs x, endNs x l (max l.tL l.tA))
  (s a).1 < (s b).2 && (s b).1 < (s a).2

/-- Two launches may share a burst (R179, R181). -/
def mayShare (s : State) (x : TxBand) (a b : Launch) : Bool :=
  x.linear && !launchOfdm s a && !launchOfdm s b && a.lo == b.lo && inSpan a.band a.lo a.channel && inSpan b.band a.lo b.channel
    && spacedApart s a b

/-- A launch meets no other of a list that it cannot share a burst with, and its burst holds at most `k` carriers. -/
def launchFits (s : State) (x : TxBand) (l : Launch) (others : List Launch) (k : Nat) : Bool :=
  let met := others.filter (launchesMeet x l)
  met.all (mayShare s x l) && decide (met.length < k)

/-- Carriers a burst may hold (R179). -/
def maxCarriers (x : TxBand) : Nat := if x.linear then 4 else 1

/-- Insert a launch in a queue ordered by tL (R187). -/
def insertLaunch (l : Launch) : List Launch → List Launch
  | [] => [l]
  | q :: t => if l.tL < q.tL then l :: q :: t else q :: insertLaunch l t

/-- A launch with no content of its own yet. -/
def blankLaunch (s : State) (kind : LaunchKind) (band tL : Nat) : Launch :=
  { id := s.radio.nextLaunch, kind := kind, band := band, tL := tL, asn := currentAsn s, nodeAsn := 0, channel := 0, lo := 0
    profile := 0, attenDb := 0, lateNs := 0, airNs := 0, record := none, addr := 0, ackReq := false, phaseNs := 0, payload := []
    psdu := none, counter := 0, keyGen := 0, decided := false, cmd := none, readyNs := 0, tA := 0, pendingBit := false
    followUp := false, mapId := 0, toneMap := mapZero, carrier := .queued }

/-- Take a launch identifier. -/
def takeLaunchId (s : State) : State := modRadio s fun r => { r with nextLaunch := r.nextLaunch + 1 }

/-! Lines (R194, R195). -/

/-- Lines at their safe levels (R194). -/
def safeLines (x : TxBand) : TxBand :=
  { x with paEn := false, lnaByp := false, trSw := false, antSel := 0, coexReq := false, coexPri := false }

/-- Levels of the output pins `x_PA_EN`, `x_LNA_BYP`, `x_TR_SW`, `x_ANT_SEL[0]`, `x_ANT_SEL[1]`, `x_COEX_REQ` and `x_COEX_PRI`, true
high: `fe_polarity` and `out_active_low` turn an active line low (R194, R211). -/
def lineLevels (x : TxBand) : List Bool :=
  let y := inForce x
  let low (k : Nat) : Bool := bitOf y.polarity k
  [ x.paEn != low 0, x.lnaByp != low 1, x.trSw != low 2, bitOf x.antSel 0 != low 3, bitOf x.antSel 1 != low 3
  , x.coexReq != y.outLow, x.coexPri != y.outLow ]

/-- A band's lines may leave their safe levels: the band is ON or DRAINING and the gate is open (R194, R199). -/
def linesLive (s : State) (b : Band) : Bool := (bandState s b == .on || bandState s b == .draining) && s.pair.gateOpen

/-- The burst's lines are released as if its ramp had ended at `t` (R195). -/
def releaseFrom (s : State) (b : Band) (t : Nat) : State := modTx s b fun x => { x with quietFrom := t + 16000 }

/-! Cancellation and cuts (R189, R190). -/

/-- Final response of a direct launch's command (R211). -/
def answerDirect (s : State) (l : Launch) (r : Reply) : State :=
  if l.kind == .direct then finishWhere s (fun op => entryCmd op.e == some .radioTxAt && op.ref == l.id) fun _ => r else s

/-- Listens for the acknowledgement of a launch that will not come. -/
def dropAckListens (s : State) (l : Launch) : State :=
  let mine (p : Purpose) : Bool := match p with | .ack id _ => id == l.id | _ => false
  let s := modOrbit s fun o => { o with plans := o.plans.map fun p => { p with listens := p.listens.filter fun x => !mine x.purpose } }
  (s.radio.ctxs.filter fun x => mine x.2.purpose && !ctxBusy x.2).foldl (fun s x => ctxIdle s x.1) s

/-- The frame of a launch returns to its pending list, or completes if it was flushed meanwhile (R38, R391). -/
def returnFrame (s : State) (l : Launch) : State :=
  match l.record with
  | none => s
  | some r =>
    match recordOf s r with
    | none => s
    | some f =>
      if f.doomed then completeFrame s r fsFlushed false false
      else modRecord s r fun f => { f with planned := false, onAir := false }

/-- A launch that was cut short counts neither as an attempt nor towards a miss (R245). -/
def unlaunch (s : State) (l : Launch) : State :=
  if l.carrier != .onAir then s
  else
    let s := match l.record with
      | some r => modRecord s r fun f => { f with attempts := f.attempts - 1 }
      | none => s
    modOrbit s fun o => { o with plans := o.plans.map fun p =>
      { p with contacts := p.contacts.map fun c => { c with dls := c.dls.filter (· != l.id) } } }

/-! The synthesiser's needs (R184, R235). -/

/-- End of the last burst, of a calibration and of the acknowledgements that wait: when the chain is free for a channel calibration. -/
def chainFree (x : TxBand) : Nat :=
  max (max (burstEndNs x) x.driveOff) (max (x.calEnd.getD 0) (((x.queue.filter isAckLaunch).map fun l => endNs x l l.tL).foldl max 0))

/-- The channel calibration that a band needs or runs: its LO and its start (R184): just in time for the first launch that needs
another LO, or when the chain frees; in PENDING_ON the first LO it needs. -/
def calNeed (s : State) (b : Band) : Option (Nat × Nat) :=
  let x := s.radio.tx.get b
  match x.calLo, x.calEnd with
  | some lo, some t => some (lo, t - 48000)
  | _, _ =>
    let wants := (x.queue.filter fun l => !isAckLaunch l).map fun l => (l.tL, l.lo)
    let parks := (x.parks.filter fun p => nowNs s < p.untilNs).map fun p => (p.byNs, p.lo)
    match ((wants ++ parks).foldr insertSpan []).find? fun w => x.lo != some w.2 with
    | some w => some (w.2, max (chainFree x) (w.1 - rampNs x - 50000))
    | none =>
      if x.state == .pendingOn && x.lo.isNone then
        (allowedOf s b).head?.map fun ch => (ch, (x.onAfter.getD 0) - 2000000)
      else none

/-- A channel calibration whose start has come runs, and nothing but a band fault ends it early (R184). -/
def calStarts (s : State) (b : Band) : State :=
  let x := s.radio.tx.get b
  if x.calLo.isSome then s
  else
    match calNeed s b with
    | some (lo, start) => if start ≤ nowNs s then modTx s b fun x => { x with calLo := some lo, calEnd := some (start + 48000) } else s
    | none => s

/-- Take a launch off its queue; a calibration for it that has started goes on. -/
def unqueue (s : State) (l : Launch) : State :=
  modTx (calStarts s (bandOfD l.band)) (bandOfD l.band) fun x => { x with queue := x.queue.filter fun q => q.id != l.id }

/-- Queue a launch on its band. -/
def enqueueLaunch (s : State) (l : Launch) : State :=
  modTx (calStarts s (bandOfD l.band)) (bandOfD l.band) fun x => { x with queue := insertLaunch l x.queue }

/-- Cancel a queued launch: `late` with `ST_TX_LATE`, otherwise `ST_BAND_BUSY` (R189, R190). -/
def cancelLaunch (s : State) (l : Launch) (late : Bool) : State :=
  let b := bandOfD l.band
  let s := unqueue s l
  let s := txCount s b (if late then tcLateCancel else tcBusyCancel)
  let s := returnFrame (dropAckListens s l) l
  let s := if (s.radio.tx.get b).burst.isEmpty then releaseFrom s b (nowNs s) else s
  answerDirect s l (refuse (if late then stTxLate else stBandBusy))

/-- Cancel every queued launch of a band with `ST_BAND_BUSY`. -/
def cancelAll (s : State) (b : Band) : State := (s.radio.tx.get b).queue.foldl (fun s l => cancelLaunch s l false) s

/-- Airtime of a burst's launches goes to the dwell accounts: each channel its carrier's, the band the burst once (R256).
`stop` ends a burst that was cut. -/
def chargeBurst (s : State) (b : Band) (stop : Option Nat) : State :=
  let x := s.radio.tx.get b
  let span (l : Launch) : Nat × Nat :=
    let (t, e) := launchSpan (inForce x) l
    (t, match stop with | some e' => min e (max t e') | none => e)
  let whole := unionNs (x.burst.map span)
  let first := (x.burst.map fun l => (span l).1).foldl min ((x.burst.head?.map fun l => (span l).1).getD 0)
  match regionOf s b with
  | none => s
  | some r =>
    if x.burst.isEmpty then s
    else
      let s := modTx s b fun x => setDwell x (dwellEnter r (dwellAccount x dwellBandKey) first whole)
      if r.dwellWhole then s
      else
        x.burst.foldl (fun s l =>
          if (allowedList r).contains l.channel then
            modTx s b fun x => setDwell x (dwellEnter r (dwellAccount x l.channel) (span l).1 ((span l).2 - (span l).1))
          else s) s

/-- A running burst is cut: its frames return to their pending lists, and their launches count as `ST_BAND_BUSY` (R190). -/
def cutBurst (s : State) (b : Band) (counter : Option Nat) : State :=
  let x := s.radio.tx.get b
  if x.burst.isEmpty then s
  else
    let stop := nowNs s + rampNs (inForce x) + 1000
    let cut := (activeCarriers x (nowNs s)).filter fun l => l.carrier != .over
    let s := chargeBurst s b (some stop)
    let s := cut.foldl (fun s l =>
      answerDirect (returnFrame (unlaunch (dropAckListens (txCount s b tcBusyCancel) l) l) l) l (refuse stBandBusy)) s
    let ids := cut.map (·.id)
    let s := modTx s b fun x =>
      { x with burst := [], awaiting := x.awaiting.filter fun l => !ids.contains l.id, quietFrom := stop + 16000, driveOff := stop }
    match counter with
    | some c => txCount s b c
    | none => s

/-! Band service states (R203 to R207). -/

/-- Set a band's service state. -/
def setBand (s : State) (b : Band) (st : BandState) : State := modTx s b fun x => { x with state := st }

/-- The band enters service at a boundary: its standing listeners arm, the enable command answers with the ASN (R204, R207). -/
def bandGoesOn (s : State) (b : Band) : State :=
  let s := armReserved (modTx s b fun x =>
    { x with state := .on, onAfter := none, attempts := 0, offPending := false, lnaByp := s.pair.gateOpen && x.lnaStatic }) b true
  finishWhere s (fun op => entryCmd op.e == some .radioBandEnable && argBits op.e 1 0 == bandNum b) fun _ => okFigures [currentAsn s]

/-- The enable command of a band ends refused. -/
def enableEnds (s : State) (b : Band) (st : Nat) : State :=
  finishWhere s (fun op => entryCmd op.e == some .radioBandEnable && argBits op.e 1 0 == bandNum b) fun _ => refuse st

/-- Every context of a band goes to IDLE, the receptions lost counted where a counter is named. -/
def idleContexts (s : State) (b : Band) (counter : Option Nat) : State :=
  (bandCtxs s b fun c => c.state != .idle).foldl (fun s i =>
    let s := if ctxBusy (ctxOf s i) then (match counter with | some c => txCount s b c | none => s) else s
    ctxIdle (poisonCut s i) i) s

/-- The band is OFF: lines safe, no context, nothing queued (R203). -/
def bandGoesOff (s : State) (b : Band) : State :=
  let s := cancelAll s b
  let s := idleContexts s b none
  let s := modTx s b fun x => { safeLines x with state := .off, onAfter := none, offPending := false, attempts := 0 }
  enableEnds s b stRefusedState

/-- The band drains: queued launches are cancelled, armed contexts leave (R205). -/
def bandDrains (s : State) (b : Band) : State :=
  let s := cancelAll (modTx s b fun x => { x with state := .draining, offPending := false }) b
  (bandCtxs s b fun c => !ctxBusy c && c.state != .idle).foldl ctxIdle s

/-- The band enters FAULT (R206). -/
def bandFaults (s : State) (b : Band) : State :=
  let s := cutBurst s b none
  let s := cancelAll s b
  let s := idleContexts s b (some tcFaultRxLost)
  let now := nowNs s
  txCount (modTx s b fun x =>
    { safeLines x with
      state := .fault, attempts := 3, onAfter := some (now + 1), offPending := false, calEnd := none, calLo := none
      calFails := 0 }) b tcBandFaults

/-- A slotframe boundary at or after `t` has begun: the present slot is one. -/
def atFrameBoundary (s : State) (t : Nat) : Bool :=
  numbering s && isFrameBoundary s (currentAsn s) && decide ((t : Int) ≤ slotBoundary s (currentAsn s))

/-- BAND_ON (R204). -/
def bandOnOp (s : State) (b : Band) : State :=
  let x := s.radio.tx.get b
  match x.state, x.onAfter with
  | .pendingOn, some t => if atFrameBoundary s t then bandGoesOn s b else s
  | _, _ => s

/-- FAULT_RETURN_ATTEMPT (R207): one at each of the next three slotframe boundaries. -/
def faultReturnOp (s : State) (b : Band) (ok : Bool) : State :=
  let x := s.radio.tx.get b
  if x.state == .fault && x.attempts != 0 && atFrameBoundary s (x.onAfter.getD 0) then
    let now := nowNs s
    if ok then bandGoesOn (modTx (txCount s b tcCalChan) b fun x => { x with calFails := 0 }) b
    else
      let s := txCount (modTx s b fun x => { x with attempts := x.attempts - 1, onAfter := some (now + 1) }) b tcCalFail
      if x.attempts = 1 then enableEnds s b stBandBusy else s
  else s

/-- BAND_DRAIN_END (R205). -/
def drainEndOp (s : State) (b : Band) : State :=
  let x := s.radio.tx.get b
  if x.state == .draining && x.burst.isEmpty && (bandCtxs s b ctxBusy).isEmpty then bandGoesOff s b else s

/-- BAND_FAULT (R206). -/
def bandFaultOp (s : State) (b : Band) : State :=
  match bandState s b with
  | .off | .fault => s
  | _ => bandFaults s b

/-! Calibrations (R184 to R186). -/

/-- CHANNEL_CALIBRATION (R184): after 48 µs it has locked, or it repeats, and a second failure in a row is a fault. -/
def channelCalOp (s : State) (b : Band) (locked : Bool) : State :=
  let s := calStarts s b
  match calNeed s b with
  | none => s
  | some (lo, start) =>
    if nowNs s < start + 48000 then s
    else if locked then
      txCount (modTx s b fun x => { x with lo := some lo, calLo := none, calEnd := some (start + 48000), calFails := 0 }) b tcCalChan
    else
      let fails := (s.radio.tx.get b).calFails
      let s := txCount (txCount s b tcCalChan) b tcCalFail
      if fails = 0 then modTx s b fun x => { x with calLo := some lo, calEnd := some (start + 96000), calFails := 1 }
      else bandFaults s b

/-- Row of a background calibration (R185). -/
def bgIndex : BgCal → Nat
  | .loIq => 0 | .bias => 1 | .dacOffset => 2

/-- Duration and interval of a background calibration, ns (R185). -/
def bgTimes (i : Nat) : Nat × Nat := match i with | 0 => (24000, 60000000000) | 1 => (8000, 10000000000) | _ => (6000, 10000000000)

/-- A background calibration is due: by its interval, on request, or the first by a die temperature that has moved 8 °C (R185). -/
def bgIsDue (s : State) (x : TxBand) (i : Nat) (tempQ : Int) : Bool :=
  nth false x.bgDue i || decide (nth 0 x.bgAt i + (bgTimes i).2 ≤ s.upNs) || (i = 0 && 32 ≤ (tempQ - x.bgTempQ).natAbs)

/-- The next planned use of the synthesiser or driver (R185): launches with the calibrations before them, and parked positions. -/
def nextUse (s : State) (x : TxBand) : List Nat :=
  let cal (lo : Nat) : Nat := if x.lo = some lo then 0 else 50000
  (x.queue.map fun l => l.tL - rampNs x - cal l.lo)
    ++ ((x.parks.filter fun p => nowNs s < p.untilNs && x.lo != some p.lo).map fun p => p.byNs - rampNs x - 50000)

/-- A gap long enough for a background calibration (R185). -/
def bgGap (s : State) (b : Band) (dur : Nat) : Bool :=
  let x := s.radio.tx.get b
  let now := nowNs s
  (bandCtxs s b ctxBusy).isEmpty && x.burst.isEmpty && x.calLo.isNone && decide (x.calEnd.getD 0 ≤ now)
    && (nextUse s x).all fun t => now + dur + 2000 ≤ t

/-- The calibrations a `RADIO_TX_CAL_RUN` asked for have all run (R213). -/
def calRunAnswers (s : State) (b : Band) : State :=
  finishWhere s (fun op => entryCmd op.e == some .radioTxCalRun && argBits op.e 1 0 == bandNum b
    && (List.range 3).all fun i => !bitOf op.ref i || !nth false (s.radio.tx.get b).bgDue i) fun op => okFigures [op.ref]

/-- Count background calibrations newly found overdue (R186): on a band that is not OFF (DESIGN CHOICE, log 101). -/
def bgOverdue (s : State) (b : Band) : State :=
  if bandState s b == .off then s
  else
    (List.range 3).foldl (fun s i =>
      let x := s.radio.tx.get b
      if !nth false x.bgOver i && decide (nth 0 x.bgAt i + 4 * (bgTimes i).2 < s.upNs) then
        txCount (modTx s b fun x => { x with bgOver := modNth x.bgOver i fun _ => true }) b tcCalOverdue
      else s) s

/-- BACKGROUND_CALIBRATION (R185). `tempQ` is the die temperature, 0.25 °C. -/
def backgroundCalOp (s : State) (b : Band) (which : BgCal) (tempQ : Int) : State :=
  let i := bgIndex which
  let s := bgOverdue (calStarts s b) b
  let x := s.radio.tx.get b
  if bgIsDue s x i tempQ && bgGap s b (bgTimes i).1 then
    let now := nowNs s
    let s := txCount (modTx s b fun x =>
      { x with
        calEnd := some (now + (bgTimes i).1), calLo := none, bgAt := modNth x.bgAt i fun _ => s.upNs
        bgDue := modNth x.bgDue i fun _ => false, bgOver := modNth x.bgOver i fun _ => false
        bgTempQ := if i = 0 then tempQ else x.bgTempQ }) b tcCalBg
    calRunAnswers s b
  else s

/-! Region profiles (R200, R201). -/

/-- Read a region profile record (R200). -/
def regionRecord (r : List Byte) : Region :=
  { id := leAt r 0 2, band := leAt r 2 1, lbt := bitOf (leAt r 3 1) 0, dwellWhole := bitOf (leAt r 3 1) 1, first := leAt r 4 2
    step := leAt r 6 2, count := leAt r 8 2, exclude := leAt r 12 16, dwellLimitMs := leAt r 28 4, dwellWindowS := leAt r 32 2 }

/-- The 64 bytes of a region profile. -/
def regionBytes (r : Region) : List Byte :=
  leBytes 2 r.id ++ leBytes 1 r.band ++ leBytes 1 (natOf r.lbt + 2 * natOf r.dwellWhole) ++ leBytes 2 r.first ++ leBytes 2 r.step
    ++ leBytes 2 r.count ++ leBytes 2 0 ++ leBytes 16 r.exclude ++ leBytes 4 r.dwellLimitMs ++ leBytes 2 r.dwellWindowS
    ++ List.replicate 30 0

/-- A region profile record in its ranges, every listed channel in the band's range (R200, R201). -/
def regionRecordOk (b : List Byte) : Bool :=
  let r := regionRecord b
  1 ≤ r.id && r.band ≤ 2 && leAt b 3 1 ≤ 3 && 1 ≤ r.step && r.step ≤ 100 && 1 ≤ r.count && r.count ≤ 128 && leAt b 10 2 = 0
    && r.first + (r.count - 1) * r.step ≤ channelMax r.band && 1 ≤ r.dwellLimitMs && r.dwellLimitMs ≤ 3600000
    && r.dwellLimitMs ≤ r.dwellWindowS * 1000 && 1 ≤ r.dwellWindowS && r.dwellWindowS ≤ 3600 && leAt b 34 30 = 0

/-- A region profile is bound to a band. -/
def regionBound (s : State) (id : Nat) : Bool := s.radio.tx.toList.any fun x => x.region == id

def radioRegionLoad : Cmd where
  args := fun e _ => regionRecordOk (inBuf e)
  check := fun _ e s =>
    let id := leAt (inBuf e) 0 2
    orRefuse (refuseIf (regionBound s id) stRefusedState)
      (refuseIf (!mapHas s.radio.regions id && 16 ≤ s.radio.regions.length) stNoRoom)
  apply := setter fun e s => modRadio s fun r => { r with regions := mapSet r.regions (leAt (inBuf e) 0 2) (regionRecord (inBuf e)) }
  sets := fun e _ => [(0x0340, leAt (inBuf e) 0 2)]

def radioRegionRemove : Cmd where
  check := fun _ e s =>
    orRefuse (refuseIf (!mapHas s.radio.regions (argBits e 15 0)) stNotFound)
      (refuseIf (regionBound s (argBits e 15 0)) stRefusedState)
  apply := setter fun e s => modRadio s fun r => { r with regions := mapDel r.regions (argBits e 15 0) }
  sets := fun e _ => [(0x0340, argBits e 15 0)]

/-- Bind a region profile: the dwell accounts carry across (R258). -/
def bindRegion (s : State) (b : Band) (id : Nat) : State :=
  let now := nowNs s
  match regionOf s b, mapGet s.radio.regions id with
  | some old, some new => modTx s b fun x => { dwellCarry now old new x with region := id }
  | _, _ => modTx s b fun x => { x with region := id, dwell := [] }

def radioRegionBind : Cmd where
  args := fun e _ => bandArgOk e
  check := fun w e s =>
    let b := argBand e
    orRefuse (asnOnly w (bandEnabled s b))
      (match mapGet s.radio.regions (argBits e 31 16) with
       | none => some (refuse stNotFound)
       | some r =>
         let tight := match profileOf s (s.air.bind.get b) with | some p => r.step < minSpacing p | none => false
         orRefuse (refuseIf (r.band != argBits e 1 0 || tight) stBadArg)
           (scheduleCheck w (bandScheduleOk (bindRegion s b (argBits e 31 16)) b)))
  apply := setter fun e s => bindRegion s (argBand e) (argBits e 31 16)
  sets := fun e _ => [(0x0342, argBits e 1 0)]

def radioRegionQuery : Cmd where
  check := fun _ e s => refuseIf (!mapHas s.radio.regions (argBits e 15 0)) stNotFound
  apply := getter fun e s =>
    match mapGet s.radio.regions (argBits e 15 0) with
    | some r => okData (regionBytes r)
    | none => refuse stNotFound

/-! Band commands. -/

/-- The preconditions of an enable (R204). -/
def enableReady (s : State) (b : Band) : Bool :=
  s.air.bind.get b != 0 && (s.radio.tx.get b).region != 0 && s.crypt.routerEui != 0

/-- A staged enable's commit ASN must be a slotframe boundary (R204). -/
def enablePoint (w : When) (s : State) : Option Reply :=
  match w with
  | .judge 2 p | .commit 2 p => refuseIf (!isFrameBoundary s p) stStageInvalid
  | _ => none

def radioBandEnable : Cmd where
  args := fun e _ => bandArgOk e
  check := fun w e s =>
    let b := argBand e
    orRefuse (refuseIf ((bandState s b != .off && bandState s b != .fault) || !enableReady s b || resourceTested s (5 + bandNum b)) stRefusedState)
      (enablePoint w s)
  apply := fun w e s =>
    let b := argBand e
    let s := wakeDomain s (domBandA + bandNum b)
    let now := nowNs s
    let t := match bandState s b, w with
      | .fault, _ => modTx s b fun x => { x with attempts := 3, onAfter := some now }
      | _, .commit 2 _ => armReserved (setBand s b .on) b true
      | _, _ => modTx s b fun x => { x with state := .pendingOn, onAfter := some (now + 2000000) }
    (holdOn t, { status := stAccepted })
  sets := fun e _ => [(0x0344, argBits e 1 0)]

def radioBandDisable : Cmd where
  args := fun e _ => bandArgOk e
  check := fun _ e s => refuseIf (bandState s (argBand e) == .off) stRefusedState
  apply := fun w e s =>
    let b := argBand e
    let s' :=
      match bandState s b, w with
      | .on, .commit 2 _ => bandDrains s b
      | .on, _ => modTx s b fun x => { x with offPending := true }
      | .draining, _ => s
      | _, _ => bandGoesOff s b
    (s', okReply)
  sets := fun e _ => [(0x0344, argBits e 1 0)]

/-- Code of a band state (R203). -/
def bandCode : BandState → Nat
  | .off => 0 | .pendingOn => 1 | .on => 2 | .draining => 3 | .fault => 4

def radioBandStatus : Cmd where
  args := fun e _ => bandArgOk e
  apply := getter fun e s =>
    let x := s.radio.tx.get (argBand e)
    let ages : List Int := x.bgAt.map fun t => ((s.upNs - t) / 1000000 : Nat)
    okFigures ([(bandCode x.state : Int), (x.lo.map Int.ofNat).getD noFigure, x.attempts] ++ ages)

def radioTxPowerSet : Cmd where
  args := fun e _ => bandArgOk e && -80 ≤ argSigned e 15 8 && argSigned e 15 8 ≤ 40
  apply := setter fun e s => modTx s (argBand e) fun x =>
    { x with driveQ := argSigned e 15 8, bgDue := if x.driveQ = argSigned e 15 8 then x.bgDue else modNth x.bgDue 1 fun _ => true }
  sets := fun e _ => [(0x0347, argBits e 1 0)]

def radioTxCounters : Cmd where
  args := fun e _ => bandArgOk e
  apply := fun _ e s =>
    let b := argBand e
    let s := bgOverdue s b
    ((if argBit e 2 then modTx s b fun x => { x with counters := clearCtrs x.counters } else s),
      okData (ctrBytes (s.radio.tx.get b).counters))

def radioCoexConfig : Cmd where
  args := fun e _ => bandArgOk e && 20 ≤ argBits e 31 16 && argBits e 31 16 ≤ 1000
  apply := setter fun e s => modTx s (argBand e) fun x =>
    { x with
      coexEnable := argBit e 2, coexAbort := argBit e 3, gntLow := argBit e 4, outLow := argBit e 5
      coexLeadUs := argBits e 31 16, priMask := argBits e 36 32
      coexReq := x.coexReq && (argBit e 2 || x.inBurst.isSome), coexPri := x.coexPri && (argBit e 2 || x.inBurst.isSome)
      grant := x.grant != (x.gntLow != argBit e 4), grantAt := if x.grant || x.gntLow == argBit e 4 then x.grantAt else nowNs s }
  sets := fun e _ => [(0x0349, argBits e 1 0)]

def radioTxModeSet : Cmd where
  args := fun e _ => bandArgOk e
  check := fun w e s => asnOnly w (bandEnabled s (argBand e))
  apply := setter fun e s => modTx s (argBand e) fun x =>
    if x.linear = argBit e 2 then x
    else { x with linear := argBit e 2, modeAt := nowNs s, bgDue := modNth x.bgDue 1 fun _ => true }
  sets := fun e _ => [(0x0380, argBits e 1 0)]

def radioTxTiming : Cmd where
  args := fun e _ =>
    bandArgOk e && 1 ≤ argBits e 12 8 && argBits e 12 8 ≤ 16 && argBits e 12 8 + 1 ≤ argBits e 20 16 && argBits e 20 16 ≤ 19
      && argBits e 27 24 ≤ 8 && argBits e 40 32 ≤ 500
  apply := setter fun e s => modTx s (argBand e) fun x =>
    { x with
      rampLinear := argBit e 2, rampUs := argBits e 12 8, paLeadUs := argBits e 20 16, paLagUs := argBits e 27 24
      lateMaxUs := argBits e 40 32 }
  sets := fun e _ => [(0x0381, argBits e 1 0)]

def radioTxPathDelay : Cmd where
  args := fun e _ => bandArgOk e && argBits e 31 16 ≤ 10000
  apply := setter fun e s => modTx s (argBand e) fun x => { x with txPathNs := argBits e 31 16 }
  sets := fun e _ => [(0x0382, argBits e 1 0)]

def radioFeConfig : Cmd where
  args := fun e _ => bandArgOk e
  apply := setter fun e s => modTx s (argBand e) fun x =>
    { x with
      polarity := argBits e 7 4, lnaNext := argBit e 8
      lnaStatic := if numbering s then x.lnaStatic else argBit e 8 }
  sets := fun e _ => [(0x0383, argBits e 1 0)]

/-- The launch of a `RADIO_TX_AT` (R211, R212): the PSDU with its FCS, no protection. -/
def directLaunch (e : CmdEntry) (s : State) (p : AirProfile) : Launch :=
  let band := argBits e 1 0
  let x := s.radio.tx.get (argBand e)
  let ch := argBits e 31 16
  let psdu := inBuf e ++ fcsOf (if isOfdm p then 1 else p.fcsType) (inBuf e)
  let keep := match x.lo with | some lo => x.linear && !isOfdm p && inSpan band lo ch | none => false
  { blankLaunch s .direct band (argBits e 127 64) with
    asn := asnAt s (argBits e 127 64), channel := ch, lo := if keep then x.lo.getD ch else ch, profile := p.id
    attenDb := argBits e 52 48, lateNs := x.lateMaxUs * 1000, airNs := frameNs p band psdu.length, psdu := some psdu
    cmd := some e }

/-- RADIO_TX_AT (R211 to R213). A full launch queue, and a radio that SYS_QUIESCE stops, answer as a band that is not ON (DESIGN CHOICE,
log 102). -/
def radioTxAt : Cmd where
  args := fun e s =>
    let tl := argBits e 127 64
    bandArgOk e && argBits e 31 16 ≤ channelMax (argBits e 1 0) && nowNs s + 200000 ≤ tl && tl ≤ nowNs s + 10000000000
      && match profileOf s (argBits e 47 32) with
         | some p => profileFitsBand p (argBits e 1 0)
         | none => false
  check := fun _ e s =>
    match profileOf s (argBits e 47 32) with
    | none => some (refuse stBadArg)
    | some p =>
      let x := s.radio.tx.get (argBand e)
      orRefuse (refuseIf (p.maxPsdu < e.bufLen.toNat + fcsLen (if isOfdm p then 1 else p.fcsType)) stBadLength)
        (refuseIf (x.state != .on || radioStopped s || 64 ≤ x.queue.length
          || !launchFits s x (directLaunch e s p) (dwellWaiting s (argBand e) ++ x.burst) (maxCarriers x)) stBandBusy)
  apply := fun _ e s =>
    match profileOf s (argBits e 47 32) with
    | none => (s, refuse stBadArg)
    | some p =>
      let l := directLaunch e s p
      match dwellRefuser s (argBand e) l.channel l.tL l.airNs with
      | some (r, key, v) => (dwellDeny s (argBand e) r key v, refuse stDwellLimit)
      | none => (enqueueLaunch (takeLaunchId s) l, { status := stAccepted })
  longRef := fun _ s => s.radio.nextLaunch

def radioTxCalRun : Cmd where
  args := fun e _ => bandArgOk e
  apply := fun _ e s =>
    if argBits e 6 4 = 0 then (s, okFigures [0])
    else
      (modTx s (argBand e) fun x => { x with bgDue := (List.range 3).map fun i => nth false x.bgDue i || argBit e (4 + i) },
        { status := stAccepted })
  longRef := fun e _ => argBits e 6 4

end Sys2Proof.Machine
end

