-- ==== Sys2Proof/Machine/Shaper.lean ====
section
/-! DEFINITION. The shaper: airtime, virtual times, gates and the choice of a frame for a transmission opportunity (R392 to R395). -/

namespace Sys2Proof.Machine

/-- Gate entry that holds position `pos` of a cycle (R395). -/
def gateAt : List Gate → Nat → Option Gate
  | [], _ => none
  | g :: t, pos => if pos < g.slots then some g else gateAt t (pos - g.slots)

/-- Queue `q` is open on a band in slot `n` (R395). -/
def gateOpen (s : State) (b : Band) (n q : Nat) : Bool :=
  let l := s.queue.gates.get b
  if l.entries.isEmpty then true
  else
    let cycle := (l.entries.map (·.slots)).foldl (· + ·) 0
    match gateAt l.entries (((n : Int) - l.takeover) % (max cycle 1 : Nat)).toNat with
    | some g => bitOf g.openMask.toNat q
    | none => true

/-- Bits per data symbol of the tone map the part sends to a node under a TL-OFDM profile (R183). -/
def txMapBits (s : State) (addr : W32) : Nat :=
  let t := tonesOf s addr.toNat
  mapBits ((toneMapOf t false t.txActive).getD mapZero)

/-- The duration of an `n`-byte PSDU to a mesh address, preamble start to last bit, ns. -/
def airTimeNs (s : State) (p : AirProfile) (band n : Nat) (addr : W32) : Nat :=
  overheadNs p band + psduNs p band n false (txMapBits s addr)

/-- Computed `ovh_noack_us` of a profile on a band (R394). -/
def ovhNoAck (s : State) (p : AirProfile) (band : Nat) : Rat :=
  let r : Rat := (2 * (s.radio.tx.get (bandOfD band)).rampUs : Nat)
  if isOfdm p then ((5 * ofdmSymbolNs band : Nat) : Rat) / 1000 + r
  else (((8 * p.preambleBytes + p.syncLen + 24) * 1000000 : Nat) : Rat) / ((max (symbolRate p) 1 : Nat) : Rat) + r

/-- Duration of the profile's 33-byte ACK, µs (R123, R394). -/
def ackUs (p : AirProfile) (band : Nat) : Rat :=
  if isOfdm p then ((overheadNs p band + ceilDiv 264 104 * ofdmSymbolNs band : Nat) : Rat) / 1000
  else (((8 * p.preambleBytes + p.syncLen + 24 + 264) * 1000000 : Nat) : Rat) / ((max (symbolRate p) 1 : Nat) : Rat)

/-- L_f of an `n`-byte PSDU, µs (R394). -/
def airtimeUs (s : State) (p : AirProfile) (band n : Nat) (addr : W32) (ackReq : Bool) : Rat :=
  let set := mapGetD (0xFFFF, 0xFFFF) s.queue.overheads p.id
  let ovh : Rat :=
    if ackReq then (if set.1 = 0xFFFF then ovhNoAck s p band + 20 + ackUs p band else (set.1 : Nat))
    else if set.2 = 0xFFFF then ovhNoAck s p band else (set.2 : Nat)
  let data : Rat :=
    if isOfdm p then ((psduNs p band n false (txMapBits s addr) : Nat) : Rat) / 1000
    else ((8 * n * 1000000 : Nat) : Rat) / ((max p.bitRate 1 : Nat) : Rat)
  data + ovh

/-- F of a candidate, in 1/16 µs (R392). -/
def virtualF (s : State) (b : Band) (q : Nat) (airUs : Rat) : Nat :=
  let x := queueOf s q
  max (x.v.get b) (s.queue.v.get b) + (airUs * 16 / ((max x.weight 1 : Nat) : Rat) + 1 / 2).floor.toNat

/-- Charge a placed frame (R393): V_q and V take its F, 48 bits wide. -/
def shaperCharge (s : State) (b : Band) (q f : Nat) : State :=
  let s := modShape s q fun x => { x with v := x.v.mod b fun _ => f % 2 ^ 48 }
  modQueue s fun d => { d with v := d.v.mod b fun _ => f % 2 ^ 48 }

/-- A pending frame that a plan may take: not chosen already, not on the air. -/
def frameFree (f : Frame) : Bool := !f.planned && !f.onAir && !f.doomed && f.ftype != ftJoinRsp

/-- Relays between the part and a mesh address. -/
def hopsTo (s : State) (addr : W32) : Nat :=
  (((s.node.table.find? fun p => p.2.meshAddr == addr).bind fun p => sourceRoute s p.2).getD []).length

/-- Free frames of a queue on the pending lists of some addresses, the oldest of each (R393). -/
def queueCandidates (s : State) (q : Nat) (dests : List W32) : List (Nat × Frame) :=
  let all := inOrder (s.queue.records.filter fun x => x.2.queue == q && frameFree x.2 && dests.contains x.2.dest)
  all.foldl (fun l x => if l.any (fun y => y.2.dest == x.2.dest) then l else l ++ [x]) []

/-- The candidate with the smaller F; the first on equal values. -/
def betterOf (a : Option (Nat × Frame × Nat)) (x : Nat × Frame × Nat) : Option (Nat × Frame × Nat) :=
  match a with
  | none => some x
  | some y => if x.2.2 < y.2.2 then some x else some y

/-- The frame the shaper chooses for some addresses under a profile in slot `n` on a band, with its F (R393). -/
def shaperChoose (s : State) (b : Band) (n : Nat) (p : AirProfile) (dests : List W32) : Option (Nat × Frame × Nat) :=
  ((List.range 64).filter (gateOpen s b n)).foldl (fun best q =>
    (queueCandidates s q dests).foldl (fun best x =>
      let len := psduLen p (hopsTo s x.2.dest) x.2.payload.length
      betterOf best (x.1, x.2, virtualF s b q (airtimeUs s p (bandNum b) len x.2.dest x.2.ackReq))) best) none

/-- Addresses whose frames go in a contact with the node at an index: its own, and for a relay those of its relayed-pending list (R297). -/
def contactAddrs (s : State) (n : NodeEntry) : List W32 :=
  let relayed :=
    if routeKind n = 2 then ((relayAt s (routeSlot n)).map fun r => r.pend.filterMap fun i => (nodeAt s i).map (·.meshAddr)).getD []
    else []
  n.meshAddr :: relayed

end Sys2Proof.Machine
end

