-- ==== Sys2Proof/Machine/Campaign.lean ====
section
/-! DEFINITION. The node campaign: its blocks, payloads, targets, rounds, and the frames it queues (R492 to R498). -/

namespace Sys2Proof.Machine

/-- Change the campaign. -/
def modCmp (s : State) (f : Campaign → Campaign) : State := { s with cmp := f s.cmp }

/-- Blocks of the image (R492). -/
def blockCount (c : Campaign) : Nat := ceilDiv c.imageLen (max c.blkLen 1)

/-- Payload of an ANNOUNCE (R493). -/
def announcePayload (c : Campaign) : List Byte :=
  [0x01#8] ++ leBytes 2 c.id ++ leBytes 4 c.imageLen ++ leBytes 2 c.blkLen ++ leBytes 2 (blockCount c) ++ c.hash
    ++ leBytes 5 c.startAsn ++ leBytes 4 c.roundSlots ++ leBytes 4 c.bcastSlots ++ leBytes 5 c.activateAsn

/-- Payload of a BLOCK (R493); the last block is filled with 0 to `blk_len` (log 57). -/
def blockPayload (c : Campaign) (k : Nat) : List Byte :=
  [0x02#8] ++ leBytes 2 c.id ++ leBytes 2 k ++ memReadBytes 0 c.image (k * c.blkLen) c.blkLen

/-- A block that the store gives with an uncorrectable error is discarded: no band sends it (R27; log 105). -/
def loseBlock (s : State) (k : Nat) : State :=
  modCmp (bulkLose s (.block k)) fun c =>
    { c with wanted := { a := c.wanted.a.filter (· != k), b := c.wanted.b.filter (· != k), c := c.wanted.c.filter (· != k) } }

/-- The class of the campaign's targets may use a band (R494; log 57). -/
def campaignBand (s : State) (b : Nat) : Bool :=
  match classOf s s.cmp.classId with
  | some c => classProfile c b != 0
  | none => false

/-- The round slot `n` lies in, and its slot in that round (R494). -/
def campaignSlot (s : State) (n : Nat) : Option (Nat × Nat) :=
  let c := s.cmp
  if c.state != .running || n < c.startAsn || c.roundSlots = 0 then none
  else
    let k := (n - c.startAsn) / c.roundSlots
    if c.maxRounds ≤ k then none else some (k, (n - c.startAsn) % c.roundSlots)

/-- Blocks a round wants: every block in round 0, later those with a want count (R494). -/
def wantedBlocks (c : Campaign) (round : Nat) : List Nat :=
  (List.range (blockCount c)).filter fun k => round == 0 || 1 ≤ mapGetD 0 c.want k

/-- A round's broadcast begins: its blocks, those that found no room in the last one, and its ANNOUNCE are to be sent on each band of
the class (R494). -/
def openRound (s : State) (round : Nat) : State :=
  let w := wantedBlocks s.cmp round
  let more (left : List Nat) : List Nat := (List.range (blockCount s.cmp)).filter fun k => w.contains k || left.contains k
  modCmp s fun c =>
    { c with planRound := some round, wanted := c.wanted.all more, announce := { a := true, b := true, c := true }
             current := { a := none, b := none, c := none } }

/-- The round repeats its current block: the item that built it was lost (R380). -/
def repeatBlock (s : State) : State :=
  let again (cur : Option Nat) (l : List Nat) : List Nat :=
    match cur with
    | some k => if l.contains k then l else k :: l
    | none => l
  if s.cmp.state != .running then s
  else modCmp s fun c => { c with wanted := { a := again c.current.a c.wanted.a, b := again c.current.b c.wanted.b, c := again c.current.c c.wanted.c } }

/-- A frame of the campaign for one target, which asks for an acknowledgement (R494, R495; log 57). -/
def campaignFrame (s : State) (addr : W32) (payload : List Byte) : Frame := firmwareFrame s addr ftCampaign payload true

/-- Queue a campaign frame for a target, unless the same one waits already. -/
def queueCampaign (s : State) (addr : W32) (payload : List Byte) : State :=
  let same (f : Frame) : Bool := f.dest == addr && f.ftype == ftCampaign && f.payload == payload && !f.doomed
  if s.queue.records.any (fun p => same p.2) || s.queue.fwHeld.any same then s else (parkFirmware s (campaignFrame s addr payload)).1

/-- Queue the ANNOUNCE of every target in some state (R494, R497). -/
def announceTo (s : State) (p : Target → Bool) : State :=
  (s.cmp.targets.filter p).foldl (fun s t => queueCampaign s t.meshAddr (announcePayload s.cmp)) s

/-- Change a target. -/
def modTarget (s : State) (addr : W32) (f : Target → Target) : State :=
  modCmp s fun c => { c with targets := c.targets.map fun t => if t.meshAddr == addr then f t else t }

/-- The campaign ends: every target that is not COMPLETE becomes FAILED (R497); one that was told of the activation stays (log 57). -/
def endCampaign (s : State) : State :=
  modCmp s fun c =>
    { c with state := .ended, wanted := { a := [], b := [], c := [] }, announce := { a := false, b := false, c := false }, collecting := false
             current := { a := none, b := none, c := none }
             targets := c.targets.map fun t => if t.state < 3 then { t with state := 4 } else t }

/-- The campaign ends when every target is COMPLETE or FAILED (R497). -/
def endIfDone (s : State) : State :=
  if s.cmp.state == .running && s.cmp.targets.all (fun t => decide (3 ≤ t.state)) then endCampaign s else s

/-- The acknowledgement of a campaign frame (R494, R497). -/
def campaignAcked (s : State) (f : Frame) : State :=
  if f.ftype != ftCampaign then s
  else
    let activates := leAt f.payload 56 5 != 0
    match f.payload.head? with
    | some 0x01#8 =>
      endIfDone (modTarget s f.dest fun t =>
        if t.state = 0 then { t with state := 1 } else if t.state = 3 && activates then { t with state := 5 } else t)
    | _ => s

/-- A campaign frame has gone out (R499): blocks sent by broadcast and unicast count. -/
def campaignSent (s : State) (payload : List Byte) (unicast : Bool) : State :=
  if payload.head? != some 0x02#8 then s
  else modCmp s fun c => if unicast then { c with sentUcast := c.sentUcast + 1 } else { c with sentBcast := c.sentBcast + 1 }

/-- Pending campaign frames of the part complete with `FS_FLUSHED` (R500). -/
def flushCampaign (s : State) : State :=
  let s := modQueue s fun q => { q with fwHeld := q.fwHeld.filter fun f => f.ftype != ftCampaign }
  (s.queue.records.filter fun p => p.2.ftype == ftCampaign && p.2.source == .firmware).foldl (fun s p => flushFrame s p.1) s

/-- A takeover (R498): the campaign goes on from the next round boundary; every target that is not COMPLETE becomes ANNOUNCED. -/
def campaignTakeover (s : State) : State :=
  if s.cmp.state != .running then s
  else
    let k := if s.cmp.startAsn ≤ currentAsn s then some ((currentAsn s - s.cmp.startAsn) / max s.cmp.roundSlots 1) else none
    modCmp s fun c =>
      { c with round := k, planRound := k, collecting := true, want := [], wanted := { a := [], b := [], c := [] }
               announce := { a := false, b := false, c := false }, current := { a := none, b := none, c := none }
               targets := c.targets.map fun t => if t.state < 3 then { t with state := 1 } else t }

end Sys2Proof.Machine
end

