-- ==== Sys2Proof/Machine/Planner.lean ====
section
/-! DEFINITION. The plan of a slot: due contacts, aimed downlinks, listens, cells, beacons, broadcasts, and what may be placed where
(R223, R226, R231 to R239, R252, R257, R261, R556). -/

namespace Sys2Proof.Machine

/-- Change the plan of slot `n`. -/
def modPlan (s : State) (n : Nat) (f : Plan → Plan) : State :=
  modOrbit s fun o => { o with plans := o.plans.map fun p => if p.asn = n then f p else p }

/-- Add a listen to the plan of slot `n`. -/
def addListen (s : State) (n : Nat) (l : Listen) : State := modPlan s n fun p => { p with listens := p.listens ++ [l] }

/-- Place a launch in the plan of slot `n`; its record is chosen, and leaves its queue (R388). -/
def addLaunch (s : State) (n : Nat) (l : Launch) : State :=
  let s := modPlan (takeLaunchId s) n fun p => { p with launches := p.launches ++ [l] }
  match l.record with
  | some r => leaveQueue (modRecord s r fun f => { f with planned := true }) r
  | none => s

/-- Cells of slot `n` on a band (R220), BEACON and JOIN cells under the band's bound profile (R146). -/
def slotCells (s : State) (n : Nat) (b : Band) : List Cell :=
  (s.orbit.cells.filter fun c => c.band == bandNum b && c.slotOffset == n % max s.orbit.frameLen 1).map (cellInForce s)

/-- A non-negative instant. -/
def instant (t : Int) : Nat := t.toNat

/-- Instant of a cell in slot `n`, ns. -/
def cellStart (s : State) (n : Nat) (c : Cell) : Nat := instant (slotBoundary s n) + c.startUs * 1000

/-- The PARENT cells that are listened to: those of the candidate followed, or of every candidate when the last was passed over (R253, R255). -/
def parentCell (s : State) (c : Cell) : Bool :=
  c.kind == cellParent && c.target < s.orbit.parents.length
    && match s.orbit.parent with
       | some k => k == c.target
       | none => true

/-- A node's frames carry no `ack_req`: its listens are blink listens (R233, log 100). -/
def isBlink (s : State) (addr : W32) : Bool := s.orbit.blinks.contains addr

/-- Listens that no launch may blank (R234): a blink listen may be. -/
def isProtected (s : State) : Purpose → Bool
  | .ack _ _ | .parent _ _ => true
  | .uplink a _ | .dedicated a _ => !isBlink s a
  | _ => false

/-- Spans of a band that no launch may blank: protected listens planned or armed, and PARENT cells of slot `n` and the next. -/
def protectedSpans (s : State) (b : Band) (n : Nat) : List (Nat × Nat) :=
  let planned := (s.orbit.plans.flatMap fun p => if p.handed then [] else p.listens).filterMap fun l =>
    if l.band = bandNum b && isProtected s l.purpose then some (l.startNs, l.endNs) else none
  let armed := s.radio.ctxs.filterMap fun x =>
    if x.2.band = bandNum b && isProtected s x.2.purpose && x.2.state != .idle then some (x.2.listenStart, x.2.listenEnd) else none
  let cells := [n, n + 1].flatMap fun m =>
    ((slotCells s m b).filter (parentCell s)).map fun c => (cellStart s m c, cellStart s m c + c.lengthUs * 1000)
  planned ++ armed ++ cells

/-- A launch's blanking interval misses every protected span (R170, R234). -/
def blankingOk (s : State) (b : Band) (n : Nat) (l : Launch) : Bool :=
  let x := s.radio.tx.get b
  let lo := l.tL - 20000
  let hi := endNs x l l.tL + 16000
  (protectedSpans s b n).all fun p => p.2 ≤ lo || hi ≤ p.1

/-- Two launches stand apart (R235): the chain is free of the earlier one and of a change of bias (R182), and a calibration that the
later one needs (R184) clears the earlier one widened by its late bound. -/
def launchesApart (s : State) (x : TxBand) (a b : Launch) : Bool :=
  let (e, l) := if a.tL ≤ b.tL then (a, b) else (b, a)
  let bias := if !x.linear && launchOfdm s e != launchOfdm s l then 10000 else 0
  let cal := if e.lo = l.lo then 0 else e.lateNs + 50000
  endNs x e e.tL + max cal bias ≤ l.tL - rampNs x

/-- LO positions held for acknowledgements in an interval (R235), planned or handed over. -/
def parksIn (s : State) (b : Band) (lo hi : Nat) : List Park :=
  let planned := s.orbit.plans.flatMap fun p => if p.handed then [] else p.parks.filter (·.band == bandNum b)
  (planned ++ (s.radio.tx.get b).parks).filter fun k => k.byNs < hi && lo < k.untilNs

/-- The driver's bias for a launch: linear in linear mode and for TL-OFDM (R179, R182). -/
def biasOf (s : State) (x : TxBand) (l : Launch) : Bool := x.linear || launchOfdm s l

/-- The chain can carry a launch beside the others of its band (R235): a free carrier, one kept free for planned acknowledgements in
linear mode; no other LO where one is parked, with the calibrations that would take (log 103); the 10 µs of a change of `tx_mode`
(R182); the 30 µs kept free for overdue calibrations (R186). -/
def chainOk (s : State) (b : Band) (n : Nat) (l : Launch) : Bool :=
  let x := s.radio.tx.get b
  let others := dwellWaiting s b ++ x.burst
  let met := others.filter fun o => !launchesApart s x l o
  let held := x.linear && (s.orbit.plans.any fun p => p.asn == n && p.listens.any fun q =>
    q.band == bandNum b && match q.purpose with | .uplink a _ | .dedicated a _ => !isBlink s a | _ => false)
  let k := maxCarriers x - natOf held
  let start := instant (slotBoundary s n) + 30000
  met.all (mayShare s x l) && decide (met.length < k)
    && ((parksIn s b (l.tL - rampNs x - 50000) (endNs x l l.tL + l.lateNs + 50000)).all fun p => p.lo == l.lo)
    && (biasOf s x l == x.biasLinear || decide (x.modeAt + 10000 ≤ l.tL - rampNs x))
    && (x.bgWindow != some n || decide (start ≤ l.tL - rampNs x))

/-- The LO of a launch on a channel: the channel itself, or in linear mode a parked LO, one in use or the one in force that can carry
it (R181, R235). -/
def chooseLo (s : State) (b : Band) (p : AirProfile) (tL air ch : Nat) : Nat :=
  let x := s.radio.tx.get b
  if !x.linear || isOfdm p then ch
  else
    let span (lo : Nat) : Bool := inSpan (bandNum b) lo ch
    let parked := ((parksIn s b (tL - 100000) (tL + air + 100000)).map (·.lo)).find? span
    let near := ((dwellWaiting s b ++ x.burst).find? fun o =>
      o.tL ≤ tL + air + 100000 && tL ≤ o.tL + o.airNs + 100000 && span o.lo && !launchOfdm s o).map (·.lo)
    (parked.orElse fun _ => near.orElse fun _ => x.lo.filter span).getD ch

/-- Place a launch if the dwell accounts, the protected listens and the chain allow it (R234, R235, R257): the answer says whether
it was placed. -/
def tryPlace (s : State) (n : Nat) (l : Launch) : State × Bool :=
  let b := bandOfD l.band
  match dwellRefuser s b l.channel l.tL l.airNs with
  | some (r, key, v) => (dwellDeny s b r key v, false)
  | none =>
    if blankingOk s b n l && chainOk s b n l then (addLaunch s n l, true) else (orbitCount s ocBlocked, false)

/-! Contacts. -/

/-- A wake passes: the next one, under new values once an acknowledged change takes effect (R231, R232). -/
def advanceWake (s : State) (i : Nat) : State :=
  match nodeAt s i with
  | none => s
  | some n =>
    let next := n.nextWake + max n.wakePeriod 1
    match s.orbit.schedUpdates.find? fun u => u.addr == n.meshAddr && u.acked && u.effectiveAsn ≤ next with
    | some u =>
      let s := modOrbit s fun o => { o with schedUpdates := o.schedUpdates.filter (· != u) }
      modNode s i fun n =>
        let m := { n with classId := u.classId, band := u.band, chOff := u.chOff, wakePeriod := u.wakePeriod, wakeOffset := u.wakeOffset
                          uplinksDue := min 255 (n.uplinksDue + 1) }
        { m with nextWake := firstWake m u.effectiveAsn }
    | none => modNode s i fun n => { n with nextWake := next, uplinksDue := min 255 (n.uplinksDue + 1) }

/-- A contact that cannot be planned is deferred (R231). -/
def deferContact (s : State) (i : Nat) : State := orbitCount (refile (advanceWake s i) i) ocDeferred

/-- What a contact is planned with: its entry, class, profile, channel and the boundary of its own slot. -/
structure ContactPlan where
  index : Nat
  node : NodeEntry
  cls : TagClass
  profile : AirProfile
  channel : Nat
  baseNs : Int
  nodeAsn : Nat
deriving DecidableEq, Repr

/-- TL-OFDM is for privileged nodes (R143, R183). -/
def mayUse (p : AirProfile) (n : NodeEntry) : Bool := !isOfdm p || n.role == 2

/-- The contact of a node at its next wake, if it can be planned: its band ON, its class, profile and channel known. -/
def contactPlanOf (s : State) (i : Nat) (n : NodeEntry) : Option ContactPlan :=
  (classOf s n.classId).bind fun c => (nodeProfile s n).bind fun p =>
    (channelAt s (bandOfD n.band) n.nextWake n.chOff).bind fun ch =>
      if bandState s (bandOfD n.band) == .on && !radioStopped s && mayUse p n then
        some { index := i, node := n, cls := c, profile := p, channel := ch, baseNs := slotBoundary s n.nextWake, nodeAsn := n.nextWake }
      else none

/-- The contact of a due node. -/
def contactPlan (s : State) (i : Nat) : Option ContactPlan := (nodeAt s i).bind (contactPlanOf s i)

/-- The listen for a frame whose preamble is expected at `nominal` on the node's clock (R238). -/
def contactListen (s : State) (k : ContactPlan) (purpose : Int → Purpose) (prio : Nat) (nominal : Int) (follow : Bool) : Listen :=
  let aim : Rat := if follow then 0 else aimNs k.cls k.node nominal
  let g : Rat := if follow then followGuardNs s k.cls k.node else guardNs s k.cls k.node nominal
  let ref : Int := refPointNs k.profile k.node.band
  { purpose := purpose (nominal + ref), band := k.node.band, channel := k.channel, profile := k.profile.id, prio := prio
    startNs := instant ((nominal : Rat) + aim - g).floor, endNs := instant (ceilRat ((nominal : Rat) + (ref : Rat) + aim + g)) }

/-- Extend the time until which the contact of a node in plan `n` may still be met. -/
def contactUntil (s : State) (n : Nat) (addr : W32) (t : Nat) : State :=
  modPlan s n fun p => { p with contacts := p.contacts.map fun c => if c.addr == addr then { c with untilNs := max c.untilNs t } else c }

/-- Enter a contact in plan `n` (R248): a node met there before keeps its contact. -/
def enterContact (s : State) (n : Nat) (c : Contact) : State :=
  let met := s.orbit.plans.any fun p => p.asn == n && p.contacts.any fun x => x.addr == c.addr
  if met then
    contactUntil (modPlan s n fun p =>
      { p with contacts := p.contacts.map fun x => if x.addr == c.addr then { x with expected := x.expected || c.expected } else x }) n c.addr c.untilNs
  else orbitCount (modPlan s n fun p => { p with contacts := p.contacts ++ [c] }) ocPlanned

/-- A contact of a node until `t`: expected where `uplinks_due` has reached `keepalive_k` (R248). -/
def plannedContact (k : ContactPlan) (due t : Nat) : Contact :=
  { addr := k.node.meshAddr, nodeAsn := k.nodeAsn, expected := k.cls.keepaliveK != 0 && decide (k.cls.keepaliveK ≤ due)
    met := false, dls := [], follow := false, untilNs := t }

/-- Hold an LO position in plan `n`. -/
def addPark (s : State) (n : Nat) (k : Park) : State := modPlan s n fun p => { p with parks := p.parks ++ [k] }

/-- The LO parked for the acknowledgement of an uplink from the earliest end of its frame (R191, R235): its channel, or in linear mode
one LO for all the uplinks parked for at the time, midway between their channels, where one serves them. -/
def parkUplink (s : State) (n : Nat) (k : ContactPlan) (l : Listen) : State :=
  let band := k.node.band
  let b := bandOfD band
  let x := s.radio.tx.get b
  let q : Park :=
    { band := band, channel := k.channel, lo := k.channel, byNs := l.startNs + frameNs k.profile band 21
      untilNs := l.endNs + frameNs k.profile band k.cls.contactPsduMax + 20000 }
  if !x.linear || isOfdm k.profile then addPark s n q
  else
    match x.parks.find? fun o => o.byNs < q.untilNs && q.byNs < o.untilNs && inSpan band o.lo k.channel with
    | some o => addPark s n { q with lo := o.lo }
    | none =>
      let near := (parksIn s b q.byNs q.untilNs).filter fun o => !x.parks.contains o
      let low := (near.map (·.channel)).foldl min k.channel
      let high := (near.map (·.channel)).foldl max k.channel
      let mid := (low + high) / 2
      if inSpan band mid low && inSpan band mid high then
        addPark (modOrbit s fun o => { o with plans := o.plans.map fun p =>
          { p with parks := p.parks.map fun o => if !p.handed && near.contains o then { o with lo := mid } else o } }) n { q with lo := mid }
      else addPark s n q

/-- The uplink listen of a contact, entered as a planned contact; a listen that may bring an ACK parks the LO (R233, R235). -/
def planUplink (s : State) (n : Nat) (k : ContactPlan) : State :=
  let nominal := k.baseNs + (k.cls.ulOffsetUs : Int) * 1000
  let l := contactListen s k (fun e => .uplink k.node.meshAddr e) 2 nominal false
  let s := enterContact (addListen s n l) n (plannedContact k (min 255 (k.node.uplinksDue + 1)) l.endNs)
  if isBlink s k.node.meshAddr then s else parkUplink s n k l

/-- An aimed downlink at `nominal` on the node's clock, with the listen for its acknowledgement (R238, R239, R244, R393). -/
def planAimed (s : State) (n : Nat) (k : ContactPlan) (nominal : Int) (offsetNs lateUs : Nat) (follow : Bool) : State :=
  let b := bandOfD k.node.band
  if k.node.adrift then s
  else
    match shaperChoose s b n k.profile (contactAddrs s k.node) with
    | none => s
    | some (r, f, vf) =>
      let g : Rat := if follow then followGuardNs s k.cls k.node else guardNs s k.cls k.node nominal
      let aim : Rat := if follow then 0 else aimNs k.cls k.node nominal
      let slack : Rat := ((k.cls.listenHalfUs * 1000 : Nat) : Rat) - g
      if slack < ((s.orbit.minSlackUs * 1000 : Nat) : Rat) then orbitCount s ocNoSlack
      else
        let x := s.radio.tx.get b
        let len := psduLen k.profile (hopsTo s f.dest) f.payload.length
        let sounds := f.ftype == ftSounding
        let t := tonesOf s k.node.meshAddr.toNat
        let id := if sounds then 0 else t.txActive
        let air := if sounds then frameNs k.profile k.node.band len + leAt f.payload 0 1 * ofdmSymbolNs k.node.band
          else airTimeNs s k.profile k.node.band len k.node.meshAddr
        let tL := instant (nominal + roundRat aim)
        let late := min ((if lateUs = 0xFFFF then x.lateMaxUs else lateUs) * 1000) slack.floor.toNat
        let l : Launch :=
          { blankLaunch s (if isOfdm k.profile then .sounding else .data) k.node.band tL with
            asn := n, nodeAsn := k.nodeAsn, channel := k.channel, lo := chooseLo s b k.profile tL air k.channel
            profile := k.profile.id, attenDb := k.node.attenDb, lateNs := late, airNs := air, record := some r
            addr := k.node.meshAddr, ackReq := f.ackReq, phaseNs := offsetNs, followUp := follow
            mapId := id, toneMap := (toneMapOf t false id).getD mapZero }
        match tryPlace s n l with
        | (s, false) => s
        | (s, true) =>
          let s := enterContact (shaperCharge s b f.queue vf) n (plannedContact k k.node.uplinksDue (endNs x l tL))
          if !f.ackReq then s
          else
            let ack := nominal + (air : Int) + ((k.cls.listenHalfUs + 20 : Nat) : Int) * 1000
            let q := contactListen s k (fun _ => .ack l.id k.node.meshAddr) 1 ack follow
            contactUntil (addListen s n q) n k.node.meshAddr q.endNs

/-- Nodes of a bucket that are filed for slot `n` and for no later turn of the calendar (R231). Their planning slot is judged to
the nearest turn: a measurement or a class change since the filing may have moved it by some slots (log 41). -/
def dueNodes (s : State) (n : Nat) : List Nat :=
  (bucket s (n % 65536)).filter fun i => match nodeAt s i with | some m => decide (planningSlot s m < n + 32768) | none => false

/-- Uplink listens of the contacts: those that may bring an ACK, then blink listens (R233). -/
def planUplinks (s : State) (n : Nat) (ks : List ContactPlan) : State :=
  let blink (k : ContactPlan) : Bool := isBlink s k.node.meshAddr
  ((ks.filter fun k => !blink k) ++ ks.filter blink).foldl (fun s k => planUplink s n k) s

/-- Downlinks of the contacts, then their follow-ups, each with its acknowledgement reception (R233). -/
def planDownlinks (s : State) (n : Nat) (ks : List ContactPlan) : State :=
  let s := ks.foldl (fun s k =>
    if k.cls.dlOffsetUs = 0 then s
    else planAimed s n k (k.baseNs + (k.cls.dlOffsetUs : Int) * 1000) (k.cls.dlOffsetUs * 1000) 0xFFFF false) s
  ks.foldl (fun s k =>
    if k.cls.fuOffsetUs = 0 then s
    else planAimed s n k (k.baseNs + (k.cls.fuOffsetUs : Int) * 1000) (k.cls.fuOffsetUs * 1000) 0xFFFF true) s

/-- The next wakes of the nodes that were due; a node that cannot be planned is deferred (R231). -/
def advanceDue (s : State) (due : List Nat) (ks : List ContactPlan) : State :=
  due.foldl (fun s i => if ks.any fun k => k.index == i then refile (advanceWake s i) i else deferContact s i) s

/-! Offers whose acceptance a failed active unit did not replicate (R445). -/

/-- The entry as a schedule change leaves it (R232). -/
def scheduledEntry (u : SchedUpdate) (n : NodeEntry) : NodeEntry :=
  { n with classId := u.classId, band := u.band, chOff := u.chOff, wakePeriod := u.wakePeriod, wakeOffset := u.wakeOffset }

/-- The change that a replicated SCHEDULE_UPDATE payload offers to a node, once accepted (R445). -/
def schedOffer (addr : W32) (b : List Byte) : SchedUpdate :=
  { addr := addr, band := leAt b 15 1, chOff := leAt b 14 1, classId := leAt b 16 2, wakePeriod := leAt b 1 4, wakeOffset := leAt b 5 4
    effectiveAsn := leAt b 9 5, tries := 0, acked := true, cmd := none }

/-- Wakes of a node under an offered schedule that are planned in slot `n`. -/
def offerWakes (s : State) (n : Nat) (m : NodeEntry) (u : SchedUpdate) : List NodeEntry :=
  ([n - 1, n, n + 1].filter fun w => decide (u.effectiveAsn ≤ w) && w % max m.wakePeriod 1 == m.wakeOffset % max m.wakePeriod 1).filterMap fun w =>
    let q := { m with nextWake := w }
    if planningSlot s q = n then some q else none

/-- The uplink listens of slot `n` under offered schedules, beside those under the old ones. -/
def planOffers (s : State) (n : Nat) : State :=
  s.pair.offers.foldl (fun s o =>
    match nodeAt s o.1, o.2.head? with
    | some m, some 0x05#8 =>
      let u := schedOffer m.meshAddr o.2
      (offerWakes s n (scheduledEntry u m) u).foldl (fun s q =>
        match contactPlanOf s o.1 q with
        | some k => addListen s n (contactListen s k (fun e => .uplink q.meshAddr e) 2 (k.baseNs + (k.cls.ulOffsetUs : Int) * 1000) false)
        | none => s) s
    | _, _ => s) s

/-! Cells. -/

/-- What a DEDICATED cell is planned with. -/
def dedicatedPlan (s : State) (n : Nat) (c : Cell) : Option ContactPlan :=
  (nodeAt s c.target).bind fun m => (classOf s m.classId).bind fun k => (profileOf s c.profile).bind fun p =>
    (channelAt s (bandOfD c.band) n c.chOff).bind fun ch =>
      if !mayUse p m then none else some { index := c.target, node := { m with band := c.band }, cls := k, profile := p, channel := ch, baseNs := slotBoundary s n, nodeAsn := n }

/-- A band's retune takes the first 120 µs of the first slot the new window governs, be it at hand or sealed in a stage: no
receive cell starts in it (R151). -/
def insideRetune (s : State) (n : Nat) (c : Cell) : Bool :=
  let b := bandOfD c.band
  let sealed := match pendingWindow s b with
    | some (_, point) => bandEnabled s b && point == n && decide ((cellStart s n c : Int) < slotBoundary s n + 120000)
    | none => false
  sealed || match (s.radio.rx.get b).retuneEnd with
    | some t => decide (cellStart s n c < t)
    | none => false

/-- A DEDICATED_RX cell: a planned uplink of its node (R221, R236). -/
def planDedicatedRx (s : State) (n : Nat) (c : Cell) : State :=
  match if c.kind = cellDedRx && !insideRetune s n c then dedicatedPlan s n c else none with
  | none => s
  | some k =>
    let l := contactListen s k (fun e => .dedicated k.node.meshAddr e) 2 (k.baseNs + (c.startUs : Int) * 1000) false
    let s := enterContact (addListen s n l) n (plannedContact k k.node.uplinksDue l.endNs)
    if isBlink s k.node.meshAddr then s else parkUplink s n k l

/-- A DEDICATED_TX cell: an aimed downlink to its node. -/
def planDedicatedTx (s : State) (n : Nat) (c : Cell) : State :=
  match if c.kind = cellDedTx then dedicatedPlan s n c else none with
  | none => s
  | some k => planAimed s n k (k.baseNs + (c.startUs : Int) * 1000) (c.startUs * 1000) c.txLateMaxUs false

/-- A listen over a span of a cell. -/
def cellListen (s : State) (n : Nat) (c : Cell) (ch : Nat) (purpose : Purpose) (prio lengthUs : Nat) : State :=
  addListen s n
    { purpose := purpose, band := c.band, channel := ch, profile := c.profile, prio := prio, startNs := cellStart s n c
      endNs := cellStart s n c + lengthUs * 1000 }

/-- PARENT, RENDEZVOUS and JOIN listens of a slot; in ACQUIRING nothing of it. -/
def planListen (s : State) (n : Nat) (c : Cell) : State :=
  match channelAt s (bandOfD c.band) n c.chOff, profileOf s c.profile with
  | some ch, some p =>
    if insideRetune s n c then s
    else if parentCell s c then
      cellListen s n c ch (.parent c.target ((c.startUs : Int) * 1000 + refPointNs p c.band)) 3 c.lengthUs
    else if c.kind = cellRendezvous then cellListen s n c ch .rendezvous 4 c.lengthUs
    else if c.kind = cellJoin then cellListen s n c ch (.join (c.slotOffset * 256 + c.chOff)) 5 (c.lengthUs / 2)
    else s
  | _, _ => s

/-- Late bound of a cell's launch, ns (R220, R239). -/
def cellLateNs (s : State) (c : Cell) : Nat :=
  (if c.txLateMaxUs = 0xFFFF then (s.radio.tx.get (bandOfD c.band)).lateMaxUs else c.txLateMaxUs) * 1000

/-- A launch of a cell on its channel. -/
def cellLaunch (s : State) (n : Nat) (c : Cell) (p : AirProfile) (ch : Nat) (kind : LaunchKind) (tL len : Nat) (rec : Option Nat) : Launch :=
  let air := frameNs p c.band len
  { blankLaunch s kind c.band tL with
    asn := n, nodeAsn := n, channel := ch, lo := chooseLo s (bandOfD c.band) p tL air ch, profile := p.id
    lateNs := cellLateNs s c, airNs := air, record := rec, phaseNs := c.startUs * 1000 }

/-- The beacon of a BEACON cell (R252). -/
def planBeacon (s : State) (n : Nat) (c : Cell) : State :=
  match channelAt s (bandOfD c.band) n c.chOff, profileOf s c.profile with
  | some ch, some p => (tryPlace s n (cellLaunch s n c p ch .beacon (cellStart s n c) (psduLen p 0 28) none)).1
  | _, _ => s

/-- Frames that a cell may send to everyone or to a joining node: records with their queue's gate open. -/
def cellRecords (s : State) (n : Nat) (c : Cell) : List (Nat × LaunchKind) :=
  let b := bandOfD c.band
  let ok (r : Nat) : Bool :=
    match recordOf s r with
    | some f => gateOpen s b n f.queue && !f.doomed && !((dwellWaiting s b).any fun l => l.record == some r)
    | none => false
  let floods := (s.route.broadcast.filter fun x => bitOf x.bands c.band && ok x.record).map fun x => (x.record, LaunchKind.broadcast)
  let rsps := (s.orbit.joinRsps.filter fun j =>
    j.band == c.band && decide (n ≤ j.untilAsn) && ok j.record && ((recordOf s j.record).map fun f => !f.planned).getD false
      && match j.cell with
         | some (off, ch, heard) => c.kind == cellJoin && off == c.slotOffset && ch == c.chOff && decide (heard < n)
         | none => c.kind == cellBroadcast).map fun j => (j.record, LaunchKind.joinRsp)
  if c.kind = cellBroadcast then rsps ++ floods else rsps

/-- F of a record on a band under a cell's profile. -/
def recordF (s : State) (b : Band) (p : AirProfile) (r : Nat) : Nat :=
  match recordOf s r with
  | some f => virtualF s b f.queue (airtimeUs s p (bandNum b) (psduLen p 0 f.payload.length) f.dest false)
  | none => 0

/-- Queue of a record. -/
def recordQueue (s : State) (r : Nat) : Nat := ((recordOf s r).map (·.queue)).getD 0

/-- Among records to everyone in one queue, the first on the list goes first (R393). -/
def oldestOfQueue (s : State) (recs : List (Nat × LaunchKind)) (x : Nat × LaunchKind) : Bool :=
  let q (r : Nat) : Option (W32 × Nat) := (recordOf s r).map fun f => (f.dest, f.queue)
  match recs.find? fun y => y.2 == x.2 && q y.1 == q x.1 with
  | some y => x.2 != .broadcast || y.1 == x.1
  | none => true

/-- Fill a cell's span back to back, 20 µs apart, while the frames fit (R223, R393): least F first, among equals the lower queue. -/
def fillCell (n : Nat) (c : Cell) (p : AirProfile) (ch endT : Nat) : Nat → List (Nat × LaunchKind) → Nat → State → State
  | 0, _, _, s => s
  | k + 1, recs, t, s =>
    let b := bandOfD c.band
    let before (x y : Nat × LaunchKind) : Bool :=
      recordF s b p x.1 < recordF s b p y.1 || (recordF s b p x.1 = recordF s b p y.1 && recordQueue s x.1 < recordQueue s y.1)
    let best := (recs.filter (oldestOfQueue s recs)).foldl (fun a x =>
      match a with
      | none => some x
      | some y => if before x y then some x else some y) none
    match best with
    | none => s
    | some (r, kind) =>
      let rest := recs.filter fun x => x.1 != r
      match recordOf s r with
      | none => fillCell n c p ch endT k rest t s
      | some f =>
        let l := cellLaunch s n c p ch kind t (psduLen p 0 f.payload.length) (some r)
        if endT < t + l.airNs then fillCell n c p ch endT k rest t s
        else
          let vf := recordF s b p r
          match tryPlace s n l with
          | (s, true) => fillCell n c p ch endT k rest (t + l.airNs + 20000) (shaperCharge s b f.queue vf)
          | (s, false) => fillCell n c p ch endT k rest t s

/-- Place a campaign frame of a cell at an instant, if it ends in the cell (R494). -/
def placeCampaign (s : State) (n : Nat) (c : Cell) (p : AirProfile) (ch endT t : Nat) (payload : List Byte) : State × Bool :=
  let l := { cellLaunch s n c p ch .campaign t (psduLen p 0 payload.length) none with payload := payload }
  if endT < t + l.airNs then (s, false) else tryPlace s n l

/-- The first BROADCAST cell of a round's broadcast phase on a band opens with the ANNOUNCE (R494). -/
def openCell (s : State) (n : Nat) (c : Cell) (p : AirProfile) (ch endT t : Nat) : State :=
  let b := bandOfD c.band
  match campaignSlot s n with
  | none => s
  | some (k, pos) =>
    if s.cmp.bcastSlots ≤ pos || !campaignBand s c.band then s
    else
      let s := if s.cmp.planRound = some k then s else openRound s k
      if !(s.cmp.announce.get b) then s
      else
        match placeCampaign s n c p ch endT t (announcePayload s.cmp) with
        | (s, true) => modCmp s fun x => { x with announce := x.announce.mod b fun _ => false }
        | (s, false) => s

/-- Wanted blocks fill the time left in a cell, in ascending order (R494). -/
def fillBlocks (n : Nat) (c : Cell) (p : AirProfile) (ch endT : Nat) : List Nat → Nat → State → State
  | [], _, s => s
  | k :: rest, t, s =>
    let b := bandOfD c.band
    if bulkBad s (.block k) then fillBlocks n c p ch endT rest t (loseBlock s k)
    else match placeCampaign s n c p ch endT t (blockPayload s.cmp k) with
    | (s, true) =>
      let air := frameNs p c.band (psduLen p 0 (5 + s.cmp.blkLen))
      fillBlocks n c p ch endT rest (t + air + 20000) (modCmp s fun x =>
        { x with wanted := x.wanted.mod b fun l => l.filter (· != k), current := x.current.mod b fun _ => some k })
    | (s, false) => s

/-- Where the next frame of a cell may start: 20 µs after the last one placed in its span on its channel; in saturated mode after
those on other channels too, with the calibration between them (R184, R223). -/
def cellNext (s : State) (n : Nat) (c : Cell) (ch from0 endT : Nat) : Nat :=
  let x := s.radio.tx.get (bandOfD c.band)
  let mine := (s.orbit.plans.filter (·.asn == n)).flatMap fun p =>
    p.launches.filter fun l => l.band == c.band && (!x.linear || l.channel == ch) && decide (from0 ≤ l.tL) && decide (l.tL < endT)
  (mine.map fun l => l.tL + l.airNs + if l.channel = ch then 20000 else 50000 + l.lateNs + 2 * rampNs x).foldl max from0

/-- The response half of a JOIN cell, or a BROADCAST cell with the campaign's frames (R223, R393, R494). -/
def planFill (s : State) (n : Nat) (c : Cell) : State :=
  match channelAt s (bandOfD c.band) n c.chOff, profileOf s c.profile with
  | some ch, some p =>
    let from0 := cellStart s n c + (if c.kind = cellJoin then c.lengthUs * 1000 / 2 else 0)
    let endT := cellStart s n c + c.lengthUs * 1000
    let s := if c.kind = cellBroadcast then openCell s n c p ch endT from0 else s
    let recs := cellRecords s n c
    let s := fillCell n c p ch endT recs.length recs (cellNext s n c ch from0 endT) s
    match c.kind = cellBroadcast && campaignBand s c.band, campaignSlot s n with
    | true, some (k, pos) =>
      if s.cmp.planRound = some k && pos < s.cmp.bcastSlots then
        fillBlocks n c p ch endT (s.cmp.wanted.get (bandOfD c.band)) (cellNext s n c ch from0 endT) s
      else s
    | _, _ => s
  | _, _ => s

/-- Background listening (R157, R233): under the band's bound profile on every channel of its allowed list (log 25). -/
def planBackground (s : State) (n : Nat) (b : Band) : State :=
  if (profileOf s (s.air.bind.get b)).isNone then s
  else (allowedOf s b).foldl (fun s ch => addListen s n
    { purpose := .background, band := bandNum b, channel := ch, profile := s.air.bind.get b, prio := 6
      startNs := instant (slotBoundary s n), endNs := instant (slotBoundary s (n + 1)) }) s

/-- The bands that a plan concerns. -/
def planBands (s : State) : List Band := bands.filter fun b => bandState s b == .on && !radioStopped s

/-- The listens of a band's PARENT, RENDEZVOUS and JOIN cells, the launches of its JOIN, BEACON and BROADCAST cells, and background
listening, in planning order (R233). -/
def planBand (s : State) (n : Nat) (b : Band) : State :=
  let cells := slotCells s n b
  let s := cells.foldl (fun s c => planListen s n c) s
  let s := (cells.filter fun c => c.kind == cellJoin).foldl (fun s c => planFill s n c) s
  let s := (cells.filter fun c => c.kind == cellBeacon).foldl (fun s c => planBeacon s n c) s
  planBackground ((cells.filter fun c => c.kind == cellBroadcast).foldl (fun s c => planFill s n c) s) n b

/-- The first 30 µs of the next slot in which no acknowledgement is expected are kept free while a background calibration is overdue
(R186). -/
def keepWindow (s : State) (n : Nat) (b : Band) : State :=
  let x := s.radio.tx.get b
  let t := instant (slotBoundary s n)
  let waited := s.orbit.plans.any fun p => !p.handed && p.listens.any fun l =>
    l.band == bandNum b && decide (l.startNs < t + 30000) && decide (t < l.endNs) && match l.purpose with | .ack _ _ => true | _ => false
  if !x.bgOver.contains true || !(parksIn s b t (t + 30000)).isEmpty || waited then s
  else modTx s b fun x => { x with bgWindow := match x.bgWindow with | some m => if n ≤ m + 1 then some m else some n | none => some n }

/-- Acquisition listening: one context per channel of the allowed list of each ON band with PARENT cells (R217). -/
def planAcquire (s : State) (n : Nat) (b : Band) : State :=
  if bandState s b != .on || radioStopped s then s
  else
    match (cellsOf s (bandNum b)).find? fun c => c.kind == cellParent with
    | none => s
    | some c =>
      let t := instant (slotBoundary s n)
      (allowedOf s b).foldl (fun s ch => addListen s n
        { purpose := .acquire, band := bandNum b, channel := ch, profile := c.profile, prio := 3, startNs := t, endNs := t + slotNs s }) s

/-- JOIN_RSP frames that were not sent in their four slotframes are discarded (R223). -/
def discardJoinRsps (s : State) (n : Nat) : State :=
  (s.orbit.joinRsps.filter fun j => decide (j.untilAsn < n)).foldl (fun s j =>
    if ((recordOf s j.record).map (·.planned)).getD false then s
    else modOrbit (freeRecord s j.record) fun o => { o with joinRsps := o.joinRsps.filter fun x => x.record != j.record || x.eui != j.eui }) s

/-- The empty plan of slot `n`: the antenna position of each band is that of its first cell, else 0 (R196). -/
def blankPlan (s : State) (n : Nat) : Plan :=
  { asn := n, t0 := instant (slotBoundary s n), listens := [], launches := [], contacts := []
    antenna := bands.map fun b => ((slotCells s n b).head?.map (·.antenna)).getD 0, parks := [], handed := false }

/-- Build the plan of slot `n` (R233): the windows of planned uplinks stand before any launch is placed, so that none covers them (R234). -/
def planSlot (s : State) (n : Nat) : State :=
  let s := modOrbit s fun o => { o with plans := o.plans ++ [blankPlan s n], prepared := some n }
  if s.orbit.state == .acquiring then bands.foldl (fun s b => planAcquire s n b) s
  else
    let s := bands.foldl bgOverdue (discardJoinRsps s n)
    let bad := (dueNodes s n).filter fun i => bulkBad s (.calendar i)
    let s := bad.foldl (fun s i => unfile (bulkLose s (.calendar i)) i) s
    let due := dueNodes s n
    let ks := due.filterMap (contactPlan s)
    let cells := (planBands s).flatMap fun b => slotCells s n b
    let s := cells.foldl (fun s c => planDedicatedRx s n c) (planUplinks s n ks)
    let s := (planBands s).foldl (fun s b => keepWindow s n b) s
    let s := cells.foldl (fun s c => planDedicatedTx s n c) (planDownlinks s n ks)
    let s := advanceDue s due ks
    let s := if s.role == .active then planOffers s n else s
    (planBands s).foldl (fun s b => planBand s n b) s

end Sys2Proof.Machine
end

