-- ==== Sys2Proof/Machine/Crypt.lean ====
section
/-! DEFINITION. Frame protection (R351 to R378, R559): frame keys and nonces, CCM*, outgoing counter streams (R139 to R141), the
generation roll, the cold-start challenge, the lanes, the CRYPT commands. -/

namespace Sys2Proof.Machine

/-! Protection counters in the order of R376. -/

def xcTagFail : Nat := 0
def xcGenOld : Nat := 1
def xcGenSwitch : Nat := 2
def xcCtFrames : Nat := 3
def xcCtPoisoned : Nat := 4
def xcCtFallback : Nat := 5
def xcChalSent : Nat := 6
def xcChalPassed : Nat := 7
def xcChalFail : Nat := 8
def xcChalJoin : Nat := 9
def xcExhausted : Nat := 10
def xcLaneWait : Nat := 11
def xcRawBlocks : Nat := 12

/-- Add `n` to a protection counter (R376). -/
def cryptCount (s : State) (i n : Nat) : State := modCrypt s fun c => { c with counters := bumpBy c.counters i n }

/-! Keys and nonces. -/

/-- The all-ones value in the EUI position: the group key (R352). -/
def groupEui : W64 := 0xFFFFFFFFFFFFFFFF#64

/-- Security level of a frame (R117): the MIC code plus 1, plus 4 when encrypted. -/
def securityLevel (enc : Bool) (micCode : Nat) : Nat := natOf enc * 4 + micCode + 1

/-- The 13-byte nonce (R353): the sender's EUI in printed order, its counter, the security level. -/
def frameNonce (eui : W64) (counter : W32) (level : Nat) : List Byte :=
  beBytes 8 eui.toNat ++ beBytes 4 counter.toNat ++ [BitVec.ofNat 8 level]

/-- A PSDU under protection (R354, R113): header, payload, MIC, FCS. -/
def sealPsdu (eui : W64) (key hdr payload : List Byte) (counter : W32) (micCode fcsType : Nat) (enc : Bool) : List Byte :=
  let (c, mic) := ccmSeal key (frameNonce eui counter (securityLevel enc micCode)) hdr payload (micBytes micCode) enc
  let body := hdr ++ c ++ mic
  body ++ fcsOf fcsType body

/-- A PSDU the part sends (R115, R116, R354): under `router_eui`, with the profile's MIC and FCS. -/
def buildPsdu (s : State) (p : AirProfile) (ftype : Nat) (dest : W32) (path : List W32) (keyGen : Byte) (counter : W32) (key payload : List Byte)
    (ackReq pending : Bool) (micMin : Nat) : List Byte :=
  let mic := max p.micLen micMin
  let hdr := macHeader (frameControl ftype mic ackReq pending (!path.isEmpty)) dest s.air.routerAddr path keyGen counter
  sealPsdu s.crypt.routerEui key hdr payload counter mic (if isOfdm p then 1 else p.fcsType) (typeEnc ftype)

/-! Cipher lanes (R364, R365). -/

/-- Change a lane. -/
def modLane (s : State) (i : Nat) (f : Lane → Lane) : State := modCrypt s fun c => { c with lanes := modNth c.lanes i f }

/-- A lane. -/
def laneOf (s : State) (i : Nat) : Lane := nth Lane.reset s.crypt.lanes i

/-- A lane's mask generator must be reseeded before `n` operations more: every 1 ms and every 256 operations (R365). -/
def laneStale (s : State) (i n : Nat) : Bool := 256 < (laneOf s i).ops + n || (laneOf s i).seededAt + 1000000 < s.upNs

/-- Reseed a lane's mask generator from the entropy source; nothing while the reserve is empty (R341, R365). -/
def reseedLane (s : State) (i : Nat) : State :=
  match drawMask s 16 with
  | none => s
  | some (m, s) => modLane s i fun l => { l with ops := 0, seededAt := s.upNs, seed := m.setWidth 128 }

/-- `n` operations of a lane: reseeded first where that is due, counted as delayed where no mask can be had (R365, R376). -/
def laneRun (s : State) (i n : Nat) : State :=
  let s := if laneStale s i n then reseedLane s i else s
  let s := if laneStale s i n then cryptCount s xcLaneWait 1 else s
  modLane s i fun l => { l with ops := l.ops + n }

/-- One frame operation: its key register is cleared at the end, as its key came from the cache (R365). -/
def frameLane (s : State) : State := modLane (laneRun s 0 1) 0 fun l => { l with keyShare0 := 0, keyShare1 := 0, slot := none }

/-! Outgoing counter streams (R139 to R141, R372). -/

/-- Where a frame's counter comes from: a node's stream or the broadcast stream. -/
inductive Stream where
  | node (i : Nat)
  | group
deriving DecidableEq, Repr

/-- Epoch and next count of a stream. -/
def streamAt (s : State) : Stream → Nat × Nat
  | .node i => match nodeAt s i with | some n => (n.txEpoch, n.txCount) | none => (0, 0)
  | .group => (s.crypt.bcast.toNat / 1048576, s.crypt.bcast.toNat % 1048576)

/-- Generation a stream draws its epochs under. -/
def streamGen (s : State) : Stream → Nat
  | .node i => match nodeAt s i with | some n => n.keyGen.toNat | none => 0
  | .group => s.crypt.epochs.genCur.toNat

/-- Set a stream. -/
def setStream (s : State) (st : Stream) (epoch count : Nat) : State :=
  match st with
  | .node i => modNode s i fun n => { n with txEpoch := epoch, txCount := count }
  | .group => modCrypt s fun c => { c with bcast := BitVec.ofNat 32 (epoch * 1048576 + count) }

/-- The generation's epoch is exhausted: a cold start found it at 0xFFF, or a stream ran out under it (R375). -/
def genExhausted (s : State) (g : Nat) : Bool :=
  if drawsPrev s.crypt.epochs g then s.crypt.exhausted.2 else s.crypt.exhausted.1

/-- Mark a generation's epoch exhausted. -/
def exhaustGen (s : State) (g : Nat) : State :=
  modCrypt s fun c =>
    { c with exhausted := if drawsPrev c.epochs g then (c.exhausted.1, true) else (true, c.exhausted.2) }

/-- Flash holds the record of the generation in force: no switch of R373 waits for its write. -/
def flashNames (s : State) (g : Nat) : Bool :=
  s.crypt.epochs.genCur.toNat != g || s.crypt.flashEpochs.genCur == s.crypt.epochs.genCur

/-- The epoch in force of a generation rises to the one a stream has moved to (R140). -/
def raiseEpoch (s : State) (g e : Nat) : State :=
  modCrypt s fun c =>
    let r := if drawsPrev c.epochs g then { c.epochs with epochPrev := BitVec.ofNat 12 (max e c.epochs.epochPrev.toNat) }
      else { c.epochs with epochCur := BitVec.ofNat 12 (max e c.epochs.epochCur.toNat) }
    { c with epochs := r }

/-- A stream after its counter `e`, `c` is taken: past 0xF_FFFF it moves to the epoch flash holds, at least the next one, with
count 0; after the last counter of epoch 0xFFF the epoch is exhausted (R141, R375). -/
def streamPassed (s : State) (st : Stream) (g e c : Nat) : State :=
  let s := if 0xE0000 ≤ c + 1 then requestEpoch s g e else s
  if c < 0xFFFFF then setStream s st e (c + 1)
  else if e = 0xFFF then exhaustGen s g
  else setStream s st (max (e + 1) (epochFor s.crypt.flashEpochs g)) 0

/-- Take the next counter of a stream (R37, R139, R141): none while its epoch is exhausted (counted, R375) or while it must wait
for a flash write or the standby's word. -/
def takeCounter (s : State) (st : Stream) : State × Option W32 :=
  let g := streamGen s st
  let (e, c) := streamAt s st
  let f := epochFor s.crypt.flashEpochs g
  if genExhausted s g then (cryptCount s xcExhausted 1, none)
  else if !flashNames s g || (epochHeld s && decide (f ≤ e)) then (s, none)
  else if f < e then (requestEpoch s g f, none)
  else (raiseEpoch (streamPassed s st g e c) g e, some (BitVec.ofNat 32 (e * 1048576 + c)))

/-! The generation roll (R373, R374). -/

/-- Ask flash for the epoch record, with its changes (R475). -/
def writeEpochs (s : State) (r : EpochRec) : State :=
  { s with
    crypt := { s.crypt with epochWrite := some r } }

/-- The switch to a new generation (R373): the record turns over and goes to flash, the broadcast stream
restarts. -/
def rollSwitch (s : State) (new : Nat) : State :=
  let turn (r : EpochRec) : EpochRec := { genCur := BitVec.ofNat 8 new, epochCur := 0, genPrev := r.genCur, epochPrev := r.epochCur }
  let base := s.crypt.epochWrite.getD s.crypt.flashEpochs
  let s := modCrypt s fun c =>
    { c with epochs := turn c.epochs, bcast := 0, retired := mapDel c.retired new, roll := none, exhausted := (false, c.exhausted.1) }
  writeEpochs s (turn base)

/-- A committed roll whose `switch_asn` has come. -/
def rollAt (s : State) (n : Nat) : State :=
  match s.crypt.roll with
  | some r => if r.switchAsn ≤ n then rollSwitch s r.newGen else s
  | none => s

/-- The previous generation's binding is cleared (R374): the record empties `gen_prev`, frames queued for its nodes complete
`FS_KEY_STALE`. -/
def rollEnds (s : State) (g : Nat) : State :=
  if s.crypt.epochs.genPrev.toNat = 0xFF || s.crypt.epochs.genPrev.toNat != g then s
  else
    let drop (r : EpochRec) : EpochRec := { r with genPrev := 0xFF, epochPrev := 0 }
    let base := s.crypt.epochWrite.getD s.crypt.flashEpochs
    let s := writeEpochs (modCrypt s fun c => { c with epochs := drop c.epochs, exhausted := (c.exhausted.1, false) }) (drop base)
    let stale := (s.node.table.filter fun p => p.2.keyGen.toNat = g).map fun p => p.2.meshAddr
    (s.queue.records.filter fun p => stale.contains p.2.dest).foldl (fun s p =>
      if p.2.onAir then modRecord s p.1 fun f => { f with doomed := true } else completeFrame s p.1 fsKeyStale false false) s

/-- `KEY_GEN_MAP` with the end of a roll that a cleared binding is (R374). -/
def keyGenMapRoll : Cmd :=
  { keyGenMap with
    apply := fun w e s =>
      let (s, r) := keyGenMap.apply w e s
      (if argBit e 15 then rollEnds s (argBits e 7 0) else s, r) }

/-- The generation of a roll is bound to a LOADED DERIVE slot (R373). -/
def rollBound (s : State) (e : CmdEntry) : Bool :=
  match bindingOf s (argBits e 7 0) with
  | some (_, sl) => (slotOf s sl).state == .loaded && (slotOf s sl).use == 0
  | none => false

/-- Where a roll's switch may lie (R373): with a band enabled and the epoch not exhausted, a slotframe boundary at least two
slotframes after the commit point. -/
def rollPoint (w : When) (e : CmdEntry) (s : State) : Option Reply :=
  let sw := argBits e 103 64
  match w with
  | .judge 2 p | .commit 2 p =>
    refuseIf (anyBandEnabled s && !s.crypt.exhausted.1 && (!isFrameBoundary s sw || sw < p + 2 * s.orbit.frameLen)) stStageInvalid
  | _ => none

def cryptGenRoll : Cmd where
  args := fun e s => argBits e 7 0 ≤ 254 && argBits e 7 0 != s.crypt.epochs.genCur.toNat
  check := fun w e s =>
    orRefuse (asnOnly w (anyBandEnabled s && !s.crypt.exhausted.1))
      (orRefuse (rollPoint w e s)
        (orRefuse (refuseIf (s.crypt.epochs.genPrev.toNat != 0xFF) stRefusedState)
          (match w with | .now => refuseIf (!rollBound s e) stKeyAbsent | _ => none)))
  apply := setter fun e s =>
    if anyBandEnabled s then modCrypt s fun c => { c with roll := some { newGen := argBits e 7 0, switchAsn := argBits e 103 64 } }
    else rollSwitch s (argBits e 7 0)
  sets := fun _ _ => [(0x0904, 0)]

/-! The cold-start challenge (R368 to R371). -/

/-- The nonce for a node (R370). -/
def chalNonce (s : State) (eui : W64) : List Byte :=
  (cmac (beBytes 16 s.key.kChal.toNat) (leBytes 8 eui.toNat ++ leBytes 2 s.crypt.epochs.epochCur.toNat)).take 8

/-- Payload of a CHALLENGE (R371). -/
def chalPayload (s : State) (eui : W64) (seen : W32) : List Byte :=
  [0x03#8] ++ chalNonce s eui ++ leBytes 4 seen.toNat ++ List.replicate 3 0

/-- Place a node under the challenge (R368). -/
def challengeNode (s : State) (i : Nat) : State := modNode s i fun n => { n with coldChal := true }

/-! The commands (R377, R378). -/

/-- The status record (R559). -/
def cryptStatusBytes (s : State) : List Byte :=
  let r := s.crypt.epochs
  let prev := r.genPrev.toNat != 0xFF
  let under := (s.node.table.filter fun p => prev && p.2.keyGen == r.genPrev).length
  let flags := natOf s.crypt.roll.isSome + natOf s.crypt.exhausted.1 * 2 + natOf s.crypt.exhausted.2 * 4
  [r.genCur, r.genPrev] ++ leBytes 2 r.epochCur.toNat ++ leBytes 2 (if prev then r.epochPrev.toNat else 0)
    ++ leBytes 2 (0xFFF - r.epochCur.toNat) ++ leBytes 2 (if prev then 0xFFF - r.epochPrev.toNat else 0)
    ++ [BitVec.ofNat 8 flags, BitVec.ofNat 8 ((s.crypt.roll.map (·.newGen)).getD 0xFF)] ++ leBytes 4 under
    ++ leBytes 4 (s.node.table.filter fun p => p.2.coldChal).length ++ leBytes 8 ((s.crypt.roll.map (·.switchAsn)).getD 0) ++ leBytes 4 0

def cryptStatus : Cmd where
  apply := getter fun _ s => okData (cryptStatusBytes s)

def cryptCounters : Cmd where
  apply := fun _ e s =>
    (if argBit e 0 then modCrypt s fun c => { c with counters := clearCtrs c.counters } else s, okData (ctrBytes s.crypt.counters))

def cryptRouterEuiSet : Cmd where
  args := fun e _ => argBits e 127 64 != 0
  check := fun _ _ s => refuseIf (anyBandEnabled s) stRefusedState
  apply := setter fun e s => modCrypt s fun c => { c with routerEui := BitVec.ofNat 64 (argBits e 127 64) }
  sets := fun _ _ => [(0x0903, 0)]

def cryptNodeChallenge : Cmd where
  check := fun _ e s => refuseIf (nodeAt s (argBits e 17 0)).isNone stNotFound
  apply := setter fun e s => challengeNode s (argBits e 17 0)

/-- Raw blocks of a command, run on lane 14 (R367): the lane keeps the slot's key as two shares. -/
def rawBlocks (e : CmdEntry) (s : State) : State × Reply :=
  let slot := argBits e 6 0
  let n := argBits e 9 8
  match readSlot s slot with
  | (s, none) => (s, refuse stKeyBadSlot)
  | (s, some key) =>
    let s := cryptCount (laneRun (chargeUse s slot n) 14 n) xcRawBlocks n
    let x := slotOf s slot
    let s := modLane s 14 fun l => { l with keyShare0 := x.share0.setWidth 128, keyShare1 := x.share1.setWidth 128, slot := some slot }
    let blocks := (List.range n).map fun k => argBytes e (8 + 16 * k) 16
    (s, okData (blocks.flatMap fun b => if argBit e 7 then aesDecrypt key b else aesEncrypt key b))


def cryptRawBlock : Cmd where
  args := fun e _ => 1 ≤ argBits e 9 8 && argBits e 9 8 ≤ 2
  check := fun _ e s =>
    let x := slotOf s (argBits e 6 0)
    orRefuse (notUnlocked s) (orRefuse (slotRefusal s (argBits e 6 0) 3)
      (refuseIf (!x.isVolatile && decide (x.usesLeft < argBits e 9 8)) stKeySpent))
  apply := fun _ e s => if masksOut s then (cryptCount s xcLaneWait 1, deferReply) else rawBlocks e s
  finish := fun op s => onceMasked rawBlocks op.e s

def cryptCutThroughSet : Cmd where
  args := fun e _ => 513 ≤ argBits e 42 32
  apply := setter fun e s => modCrypt s fun c => { c with ctMask := argBits e 15 0, ctMinLen := argBits e 42 32 }
  sets := fun _ _ => [(0x0942, 0)]

def cryptLaneAssign : Cmd where
  args := fun e _ => argBits e 1 0 ≤ 2
  apply := setter fun e s => modCrypt s fun c => { c with pairLanes := argBits e 1 0 }
  sets := fun _ _ => [(0x0943, 0)]

/-- The vector of a command, sealed on a lane (R354). -/
def ccmVector (e : CmdEntry) (s : State) : State × Reply :=
  let b := inBuf e
  let a := leAt b 29 1
  let (c, mic) := ccmSeal (sliceBytes b 0 16) (sliceBytes b 16 13) (sliceBytes b 30 a) (b.drop (30 + a)) (micBytes (argBits e 5 4)) (bitOf (argBits e 2 0) 2)
  (frameLane s, okData (c ++ mic))

def cryptCcmVector : Cmd where
  args := fun e _ => argBits e 2 0 != 0 && argBits e 2 0 != 4 && argBits e 5 4 ≤ 2
  check := fun _ e _ =>
    let b := inBuf e
    let a := leAt b 29 1
    refuseIf (64 < a || b.length < 30 + a || 30 + a + 16 < b.length) stBadLength
  apply := fun _ e s => if masksOut s then (cryptCount s xcLaneWait 1, deferReply) else ccmVector e s
  finish := fun op s => onceMasked ccmVector op.e s

end Sys2Proof.Machine
end

