-- ==== Sys2Proof/Machine/Orbit.lean ====
section
/-! DEFINITION. The Orbit commands (R264, R265), the anchor (R217), schedule changes by air (R232), missed contacts and ADRIFT
(R248 to R250), the time parent's misses (R253 to R255). -/

namespace Sys2Proof.Machine

/-! Frame lengths and the anchor. -/

/-- The state as slot `n` is governed: new lengths that wait for their anchor count from it on (R215). -/
def frameInForce (s : State) (n : Nat) : State :=
  match s.orbit.nextFrame with
  | some (slotLen, frameLen, a) =>
    if n < a then s
    else modOrbit s fun o =>
      { o with slotLen := slotLen, frameLen := frameLen, anchorAsn := a, anchorNs := (slotBoundary s a).toNat, nextFrame := none }
  | none => s

/-- The earliest instant of a new anchor: the preparation lead plus 2 ms ahead (R215, R217). -/
def anchorFloor (s : State) : Nat := nowNs s + leadNs s + 2000000

def orbitStart : Cmd where
  args := fun e s => anchorFloor s ≤ argBits e 159 96
  check := fun _ _ s => refuseIf (s.orbit.state != .idle) stRefusedState
  apply := setter fun e s =>
    let s := modOrbit s fun o =>
      { o with follow := argBit e 0, anchorAsn := argBits e 71 32, anchorNs := argBits e 159 96, anchored := true, slot := none
               prepared := none, nextFrame := none, runPending := false, parentMiss := 0, parentNext := none }
    modOrbit (refileAll (modOrbit s fun o => { o with state := .run })) fun o => { o with state := .idle }
  sets := fun _ _ => [(0x0504, 0)]

/-- The engine returns to IDLE; plans go, cells, classes, calendar and clock models stay (R218). -/
def orbitStopped (s : State) : State :=
  modOrbit (discardPlans (modRadio s fun r => { r with rxHeld := none }) 0) fun o =>
    { o with state := .idle, anchored := false, slot := none, prepared := none, nextFrame := none, runPending := false, plans := [] }

def orbitStop : Cmd where
  check := fun _ _ s => refuseIf (bands.any fun b => bandState s b != .off) stRefusedState
  apply := setter fun _ s => orbitStopped s

/-- A time uncertainty as a figure, ns rounded up; absent while unset. -/
def uTimeFigure (s : State) : Int := match uTime s with | some u => ceilRat u | none => noFigure

def orbitStatus : Cmd where
  apply := getter fun _ s =>
    okFigures [engineCode s.orbit.state, if numbering s then (currentAsn s : Int) else noFigure
      , if s.orbit.anchored then (s.orbit.anchorAsn : Int) else noFigure, if s.orbit.anchored then (s.orbit.anchorNs : Int) else noFigure
      , s.orbit.schedVersion, match s.orbit.parent with | some k => (k : Int) | none => noFigure, uTimeFigure s]

/-- ORBIT_START's t_a (R217): the engine enters RUN, or ACQUIRING in follow mode. Nodes that came since the start are filed. -/
def anchorReachedOp (s : State) : State :=
  if s.orbit.anchored && s.orbit.state == .idle && decide (s.orbit.anchorNs ≤ nowNs s) then
    let s := modOrbit s fun o => { o with state := if o.follow then .acquiring else .run }
    (mapKeys s.node.table).foldl (fun s i =>
      match nodeAt s i with
      | some n => if meetsPart s n && !awaitsJoin s i && !isFiled s i && n.nextWake = 0 then fileFrom s i (s.orbit.anchorAsn + 2) else s
      | none => s) s
  else s

/-- An immediate change of the schedule advances its version; a commit does so once for its stage (R252). -/
def changedSchedule (w : When) (s : State) : State := if w = .now then bumpSchedule s else s

/-- The whole schedule is valid: cells, hopping sequences, classes (R219, R222, R227). -/
def scheduleOk (s : State) : Bool := bands.all (bandScheduleOk s) && cellsCountOk s && classesFit s

/-- `ORBIT_FRAME_SET` (R215): with a band enabled the anchor moves to the commit's ASN; with none it takes effect at once. -/
def setFrame (w : When) (slotLen frameLen : Nat) (s : State) : State :=
  match w, anyBandEnabled s with
  | .judge 2 p, true | .commit 2 p, true =>
    modOrbit s fun o =>
      { o with anchorAsn := p, anchorNs := (slotBoundary s p).toNat, slotLen := slotLen, frameLen := frameLen, nextFrame := none }
  | _, _ =>
    if !numbering s then modOrbit s fun o => { o with slotLen := slotLen, frameLen := frameLen }
    else
      let n := asnAt s (anchorFloor s)
      let a := if slotBoundary s n < (anchorFloor s : Int) then n + 1 else n
      modOrbit s fun o => { o with nextFrame := some (slotLen, frameLen, a) }

/-- The commit point of a frame change with a band enabled is a slotframe boundary under both lengths (R215). -/
def framePoint (w : When) (frameLen : Nat) (s : State) : Option Reply :=
  match w with
  | .judge 2 p | .commit 2 p =>
    refuseIf (anyBandEnabled s && (p % max s.orbit.frameLen 1 != 0 || p % max frameLen 1 != 0)) stStageInvalid
  | _ => none

def orbitFrameSet : Cmd where
  args := fun e _ => 200 ≤ argBits e 11 0 && argBits e 11 0 ≤ 4000 && 1 ≤ argBits e 31 16
  check := fun w e s =>
    orRefuse (asnOnly w (anyBandEnabled s)) (orRefuse (framePoint w (argBits e 31 16) s)
      (scheduleCheck w (scheduleOk (modOrbit s fun o => { o with slotLen := argBits e 11 0, frameLen := argBits e 31 16 }))))
  apply := fun w e s => (changedSchedule w (setFrame w (argBits e 11 0) (argBits e 31 16) s), okReply)
  sets := fun _ _ => [(0x0504, 0)]

/-! Cells, hopping, parents. -/

/-- The cells of a buffer. -/
def cellsIn (e : CmdEntry) : List (List Byte) := chunks 16 1024 (inBuf e)

/-- Replace every cell of a band. -/
def setCells (e : CmdEntry) (s : State) : State :=
  modOrbit s fun o => { o with cells := (o.cells.filter fun c => c.band != argBits e 1 0) ++ (cellsIn e).map cellRecord }

def orbitStageCells : Cmd where
  args := fun e _ => bandArgOk e && (cellsIn e).all fun r => cellRecordOk r && (cellRecord r).band == argBits e 1 0
  check := fun w e s =>
    let s' := setCells e s
    orRefuse (asnOnly w (anyBandEnabled s)) (orRefuse (refuseIf (1024 < s'.orbit.cells.length) stNoRoom)
      (scheduleCheck w (bandScheduleOk s' (argBand e) && cellsCountOk s')))
  apply := fun w e s => (changedSchedule w (setCells e s), okReply)
  sets := fun e _ => [(0x0505, argBits e 1 0)]

/-- Replace the hopping sequence of a band. -/
def setHop (e : CmdEntry) (s : State) : State :=
  modOrbit s fun o => { o with hop := o.hop.mod (argBand e) fun _ => (inBuf e).map (·.toNat) }

def orbitHopSet : Cmd where
  args := fun e _ => bandArgOk e && 1 ≤ argBits e 14 8
  check := fun w e s =>
    orRefuse (asnOnly w (anyBandEnabled s)) (scheduleCheck w (bandScheduleOk (setHop e s) (argBand e)))
  apply := fun w e s => (changedSchedule w (setHop e s), okReply)
  sets := fun e _ => [(0x0506, argBits e 1 0)]

/-- The candidates of a buffer (R253, R264): router address, band, reserved bytes. -/
def parentRecords (e : CmdEntry) : List (List Byte) := chunks 8 8 (inBuf e)

def orbitParentSet : Cmd where
  args := fun e _ => argBits e 3 0 ≤ 8 && (parentRecords e).all fun r => leAt r 4 1 ≤ 2 && leAt r 5 3 = 0
  check := fun w _ s => asnOnly w (anyBandEnabled s)
  apply := setter fun e s =>
    let l := (parentRecords e).map fun r => { addr := BitVec.ofNat 32 (leAt r 0 4), band := leAt r 4 1 : Candidate }
    modOrbit s fun o =>
      { o with parents := l, parent := if l.isEmpty then none else some 0, parentMiss := 0, parentDepth := none, parentNext := none }
  sets := fun _ _ => [(0x0507, 0)]

/-! Classes. -/

/-- Read a tag class record (R224). -/
def classRecord (r : List Byte) : TagClass :=
  { id := leAt r 0 2, aged := leAt r 2 1 == 1, profileA := leAt r 4 2, profileB := leAt r 6 2, profileC := leAt r 8 2
    dlOffsetUs := leAt r 10 2, ulOffsetUs := leAt r 12 2, fuOffsetUs := leAt r 14 2, listenHalfUs := leAt r 16 2
    guardMinUs := leAt r 18 2, guardMaxUs := leAt r 20 2, residCppm := leAt r 22 2, agedPpm := leAt r 24 1
    gainShift := leAt r 25 1, outlierCppm := leAt r 26 2, keepaliveK := leAt r 28 1, dlRetryMax := leAt r 29 1
    holdS := leAt r 30 2, wakePeriod := leAt r 32 4, contactPsduMax := leAt r 36 2 }

/-- A tag class record in its ranges (R224); what depends on the slot is judged with the timeline (R227). -/
def classRecordOk (r : List Byte) : Bool :=
  let c := classRecord r
  4 ≤ c.id && leAt r 2 1 ≤ 1 && leAt r 3 1 = 0 && leAt r 38 26 = 0
    && 50 ≤ c.listenHalfUs && c.listenHalfUs ≤ 5000 && 10 ≤ c.guardMinUs && c.guardMinUs ≤ 1000
    && c.guardMinUs ≤ c.guardMaxUs && c.guardMaxUs ≤ 20000 && 1 ≤ c.residCppm && c.residCppm ≤ 1000
    && 1 ≤ c.agedPpm && c.agedPpm ≤ 128 && 1 ≤ c.gainShift && c.gainShift ≤ 6 && 50 ≤ c.outlierCppm && c.outlierCppm ≤ 3200
    && 1 ≤ c.dlRetryMax && c.dlRetryMax ≤ 15 && 10 ≤ c.holdS && 1 ≤ c.wakePeriod && c.wakePeriod ≤ 16777215
    && 21 ≤ c.contactPsduMax && c.contactPsduMax ≤ 2047
    && (c.dlOffsetUs = 0 || c.listenHalfUs ≤ c.dlOffsetUs) && (c.fuOffsetUs = 0 || c.listenHalfUs ≤ c.fuOffsetUs)

/-- Offsets of a class within the slot (R224). -/
def classInSlot (s : State) (c : TagClass) : Bool :=
  c.dlOffsetUs ≤ s.orbit.slotLen * 10 && c.ulOffsetUs ≤ s.orbit.slotLen * 10 && c.fuOffsetUs ≤ s.orbit.slotLen * 10

/-- Load a class. -/
def setClass (e : CmdEntry) (s : State) : State :=
  let c := classRecord (inBuf e)
  modOrbit s fun o => { o with classes := mapSet o.classes c.id c }

/-- Refusals of a class load (R259, R265). -/
def classLoadCheck (w : When) (e : CmdEntry) (s : State) : Option Reply :=
  let c := classRecord (inBuf e)
  orRefuse (asnOnly w (anyBandEnabled s && classUsed s c.id))
    (orRefuse (refuseIf (!mapHas s.orbit.classes c.id && decide (64 ≤ s.orbit.classes.length)) stNoRoom)
      (scheduleCheck w (classInSlot s c && classFits s c)))

def orbitClassLoad : Cmd where
  args := fun e _ => classRecordOk (inBuf e) && (classRecord (inBuf e)).gainShift = 3 && (classRecord (inBuf e)).outlierCppm = 200
  check := classLoadCheck
  apply := fun w e s => (changedSchedule w (setClass e s), okReply)
  sets := fun e _ => [(0x0508, (classRecord (inBuf e)).id)]

def orbitClassLoadRaw : Cmd where
  args := fun e _ => classRecordOk (inBuf e)
  check := classLoadCheck
  apply := fun w e s => (changedSchedule w (setClass e s), okReply)
  sets := fun e _ => [(0x0508, (classRecord (inBuf e)).id)]

def orbitClassRemove : Cmd where
  args := fun e _ => 4 ≤ argBits e 15 0
  check := fun w e s =>
    let id := argBits e 15 0
    orRefuse (refuseIf (!mapHas s.orbit.classes id) stNotFound)
      (orRefuse (asnOnly w (anyBandEnabled s && classUsed s id)) (refuseIf (classUsed s id) stRefusedState))
  apply := fun w e s => (changedSchedule w (modOrbit s fun o => { o with classes := mapDel o.classes (argBits e 15 0) }), okReply)
  sets := fun e _ => [(0x0508, argBits e 15 0)]

/-! Nodes. -/

/-- Send the contact state of a node to the standby (R445). -/
def sendContact (s : State) (i : Nat) : State :=
  if replicating s then linkSend s lmContact (leBytes 4 i ++ indexBytes s i) else s

/-- The change an `ORBIT_NODE_SCHEDULE` asks for: `effective_asn` is the first wake under the new values at least 2 wake periods,
old and new, after the node's next contact (log 42). -/
def askedSchedule (e : CmdEntry) (s : State) (n : NodeEntry) : SchedUpdate :=
  let p := argBits e 79 56
  let base := max (currentAsn s) n.nextWake + 2 * max p n.wakePeriod
  { addr := n.meshAddr, band := argBits e 21 20, chOff := argBits e 30 24, classId := argBits e 47 32, wakePeriod := p
    wakeOffset := argBits e 103 80, effectiveAsn := firstWake { n with wakePeriod := p, wakeOffset := argBits e 103 80 } base
    tries := 0, acked := false, cmd := some e }

/-- The SCHEDULE_UPDATE payload (R127, R232). -/
def schedPayload (u : SchedUpdate) (version : Nat) : List Byte :=
  [0x05#8] ++ leBytes 4 u.wakePeriod ++ leBytes 4 u.wakeOffset ++ leBytes 5 u.effectiveAsn ++ leBytes 1 u.chOff ++ leBytes 1 u.band
    ++ leBytes 2 u.classId ++ leBytes 2 version ++ [0#8]

/-- A pending frame carries a schedule change. -/
def carriesSched (u : SchedUpdate) (f : Frame) : Bool :=
  f.dest == u.addr && f.ftype == ftControl && f.payload.take 18 == (schedPayload u 0).take 18

def orbitNodeSchedule : Cmd where
  args := fun e _ => argBits e 21 20 ≤ 2 && argBits e 79 56 != 0 && argBits e 103 80 < argBits e 79 56
  check := fun _ e s =>
    match nodeAt s (argBits e 17 0) with
    | none => some (refuse stNotFound)
    | some n =>
      match classOf s (argBits e 47 32) with
      | none => some (refuse stBadArg)
      | some c =>
        let u := askedSchedule e s n
        orRefuse (refuseIf (classProfile c u.band = 0) stBadArg) (refuseIf (overfills s (scheduledEntry u n) u.effectiveAsn) stNoRoom)
  apply := fun _ e s =>
    match nodeAt s (argBits e 17 0) with
    | none => (s, refuse stNotFound)
    | some n =>
      let u := askedSchedule e s n
      let payload := schedPayload u s.orbit.schedVersion
      let s := modOrbit s fun o => { o with schedUpdates := o.schedUpdates ++ [u] }
      let s := replicateOffer s (argBits e 17 0) payload
      ((parkFirmware s (firmwareFrame s n.meshAddr ftControl payload true)).1, { status := stAccepted })

/-- A schedule change takes effect now: its `effective_asn` is not after the node's next wake. -/
def applySched (s : State) (i : Nat) (u : SchedUpdate) : State :=
  let s := modOrbit s fun o => { o with schedUpdates := o.schedUpdates.filter (· != u) }
  refile (modNode s i fun n => let m := scheduledEntry u n; { m with nextWake := firstWake m (max u.effectiveAsn (currentAsn s + 2)) }) i

/-- The acknowledgement of a SCHEDULE_UPDATE (R232): the command's final response, the new values from `effective_asn`. -/
def schedAcked (s : State) (f : Frame) : State :=
  match s.orbit.schedUpdates.find? fun u => !u.acked && carriesSched u f with
  | none => s
  | some u =>
    let v := { u with acked := true }
    let s := modOrbit s fun o => { o with schedUpdates := o.schedUpdates.map fun x => if x = u then v else x }
    let s := orbitCount s ocSched
    let s := finishWhere s (fun op => some op.e == u.cmd) fun _ => okFigures [u.effectiveAsn]
    match lookupAddr s u.addr with
    | none => s
    | some i =>
      let s := if replicating s then linkSend s lmConfig (leBytes 4 i) else s
      if ((nodeAt s i).map fun n => decide (u.effectiveAsn ≤ n.nextWake)).getD false then applySched s i v else s

/-- A contact passed with a SCHEDULE_UPDATE unacknowledged: after 4 of them the command ends and the old values stand (R232). -/
def schedPassed (s : State) (addr : W32) : State :=
  match s.orbit.schedUpdates.find? fun u => !u.acked && u.addr == addr with
  | none => s
  | some u =>
    if u.tries + 1 < 4 then
      modOrbit s fun o => { o with schedUpdates := o.schedUpdates.map fun x => if x = u then { u with tries := u.tries + 1 } else x }
    else
      let s := modOrbit s fun o => { o with schedUpdates := o.schedUpdates.filter (· != u) }
      let s := finishWhere s (fun op => some op.e == u.cmd) fun _ => refuse stNotFound
      (s.queue.records.filter fun p => carriesSched u p.2).foldl (fun s p => flushFrame s p.1) s

/-- The contact state of R229 with the current G and p, in the table's order. -/
def contactFigures (s : State) (i : Nat) (n : NodeEntry) : List Int :=
  let g : Int := match classOf s n.classId with | some c => roundRat (guardNs s c n (nowNs s)) | none => noFigure
  [n.classId, n.band, n.chOff, n.wakePeriod, n.wakeOffset, n.nextWake, calNext s i, n.driftQ, n.refNs, n.refOff, n.altOff
  , natOf n.altValid, n.samples, n.misses, natOf n.outliers, natOf n.adrift, n.adriftDeadline, n.uplinksDue, n.rateReq, g
  , roundRat (predictNs n (nowNs s))]

def orbitNodeStatus : Cmd where
  check := fun _ e s => refuseIf (nodeAt s (argBits e 17 0)).isNone stNotFound
  apply := getter fun e s =>
    match nodeAt s (argBits e 17 0) with
    | some n => okFigures (contactFigures s (argBits e 17 0) n)
    | none => refuse stNotFound

def orbitDriftSet : Cmd where
  check := fun _ e s => refuseIf (nodeAt s (argBits e 17 0)).isNone stNotFound
  apply := setter fun e s =>
    modNode s (argBits e 17 0) fun n =>
      { n with driftQ := argSigned e 47 32, samples := if argBit e 18 then 0 else n.samples
               outliers := if argBit e 18 then false else n.outliers, outlierNeg := if argBit e 18 then false else n.outlierNeg }

/-! The remaining commands. -/

def orbitReportSet : Cmd where
  apply := setter fun e s => modOrbit s fun o => { o with dupMask := argBits e 15 0 }
  sets := fun _ _ => [(0x050C, 0)]

def orbitDwellStatus : Cmd where
  args := fun e _ => bandArgOk e
  apply := getter fun e s => okData ((dwellList s (argBand e)).flatMap fun p => leBytes 4 p.1 ++ leBytes 4 p.2)

def orbitCounters : Cmd where
  apply := fun _ e s =>
    (if argBit e 0 then modOrbit s fun o => { o with counters := clearCtrs o.counters } else s, okData (ctrBytes s.orbit.counters))

def orbitPrepLead : Cmd where
  args := fun e _ => 500 ≤ argBits e 15 0 && argBits e 15 0 ≤ 10000
  apply := setter fun e s => modOrbit s fun o => { o with leadUs := argBits e 15 0 }
  sets := fun _ _ => [(0x0542, 0)]

def orbitTimingSet : Cmd where
  args := fun e _ => argBits e 7 0 ≤ 200 && 1 ≤ argBits e 31 16 && argBits e 31 16 ≤ 10000
  apply := setter fun e s => modOrbit s fun o => { o with minSlackUs := argBits e 7 0, uncThresholdUs := argBits e 31 16 }
  sets := fun _ _ => [(0x0543, 0)]

/-! Misses. -/

/-- Downlinks planned or queued for a node go back to its pending list (R249). -/
def dropDownlinks (s : State) (addr : W32) : State :=
  let mine (l : Launch) : Bool := l.addr == addr && l.record.isSome
  let planned := (s.orbit.plans.flatMap (·.launches)).filter mine
  let queued := s.radio.tx.toList.flatMap fun x => x.queue.filter mine
  let s := (planned ++ queued).foldl (fun s l => returnFrame (unqueue (dropAckListens s l) l) l) s
  modOrbit s fun o => { o with plans := o.plans.map fun p => { p with launches := p.launches.filter fun l => !mine l } }

/-- ADRIFT is entered (R249, R267): the estimate's record gives way to the deadline, `hold_s` from now in slots rounded up, and pending
frames are held until then. -/
def enterAdrift (s : State) (i : Nat) (n : NodeEntry) : State :=
  let hold := ((classOf s n.classId).map (·.holdS)).getD 0
  let until0 := currentAsn s + ceilDiv (hold * 1000000000) (max (slotNs s) 1)
  let s := modNode s i fun n =>
    { n with adrift := true, adriftDeadline := until0, altValid := false, altOff := 0, misses := 0, samples := 0, outliers := false
             outlierNeg := false }
  let s := dropDownlinks s n.meshAddr
  raiseEvent (orbitCount s ocAdriftEntry) evNodeAdrift i n.meshAddr.toNat (framesFor s n.meshAddr).length (currentAsn s)

/-- A contact is expected: a keepalive is due, or a downlink with `ack_req` was launched (R248). -/
def contactExpected (c : Contact) : Bool := c.expected || !c.dls.isEmpty

/-- An expected contact of a node whose windows have closed without a frame from it. -/
def missedContact (s : State) (addr : W32) : Option (Nat × Contact) :=
  if contactOpen s addr then none else s.orbit.plans.findSome? fun p =>
    (p.contacts.find? fun c => c.addr == addr && contactExpected c && !c.met && decide (c.untilNs ≤ nowNs s)).map fun c => (p.asn, c)

/-- CONTACT_MISS (R248, R249). -/
def contactMissOp (s : State) (i : Nat) : State :=
  match nodeAt s i with
  | none => s
  | some n =>
    match missedContact s n.meshAddr with
    | none => s
    | some (asn, c) =>
      let s := modPlan s asn fun p => { p with contacts := p.contacts.map fun x => if x = c then { x with expected := false, dls := [] } else x }
      let s := orbitCount (modNode s i fun n => if n.adrift then n else { n with misses := min 3 (n.misses + 1) }) ocMiss
      sendContact (if n.misses + 1 = 3 && !n.adrift then enterAdrift s i n else s) i

/-- ADRIFT_DEADLINE (R250): the hold time ends and every held frame completes `FS_FLUSHED`. -/
def adriftDeadlineOp (s : State) (i : Nat) : State :=
  match nodeAt s i with
  | some n => if n.adrift && numbering s && decide (n.adriftDeadline ≤ currentAsn s) then flushNode s n.meshAddr else s
  | none => s

/-- The candidate after `k`, if the list has one. -/
def nextCandidate (s : State) (k : Nat) : Option Nat := if k + 1 < s.orbit.parents.length then some (k + 1) else none

/-- PARENT_CELL_MISSED (R254, R255): a PARENT cell of the candidate followed passed on an ON band without its beacon; the third in a
row loses it, and the next one is taken from the next slotframe boundary. Until then no cell counts. -/
def parentMissedOp (s : State) (b : Band) : State :=
  if s.orbit.parents.isEmpty || !enginePlans s || bandState s b != .on || s.orbit.parentNext.isSome then s
  else
    let s := orbitCount s ocParentMissed
    match s.orbit.parent with
    | none => s
    | some k =>
      if s.orbit.parentMiss + 1 < 3 then modOrbit s fun o => { o with parentMiss := o.parentMiss + 1 }
      else
        let nxt := nextCandidate s k
        let asn := currentAsn s
        let s := raiseEvent s evTimeParentLost k (nxt.getD 0xFFFFFFFF) (asn % 2 ^ 32) (asn / 2 ^ 32)
        modOrbit s fun o =>
          { o with state := .holdover, parentMiss := 0, parent := if nxt.isSome then o.parent else none, parentNext := nxt, parentDepth := none }

end Sys2Proof.Machine
end

