-- ==== Sys2Proof/Machine/Engine.lean ====
section
/-! DEFINITION. The Orbit engine at work on slots: preparation (R43, R233), hand-off to the contexts and launch queues (R36, R157),
the slot boundary (R214). -/

namespace Sys2Proof.Machine

/-! What governs a slot that is still ahead. -/

/-- A slotframe boundary at or after instant `t` lies at or before slot `n`. -/
def frameBoundaryBy (s : State) (t n : Nat) : Bool :=
  let l := max s.orbit.frameLen 1
  decide ((t : Int) ≤ slotBoundary s (n / l * l))

/-- A gate list whose takeover is at or before slot `n` governs it (R396). -/
def gatesAt (n : Nat) (g : GateList) : GateList :=
  match g.pending with
  | some (l, a) => if a ≤ n then { entries := l, takeover := a, pending := none } else g
  | none => g

/-- The state as slot `n` will find it, for its preparation: frame lengths, gate lists, a band that is ON from a slotframe
boundary at or before it (R204), the engine state and the time parent it begins with (R217, R254). -/
def slotView (s : State) (n : Nat) : State :=
  let s := frameInForce s n
  let s := modQueue s fun q => { q with gates := q.gates.all (gatesAt n) }
  let s := bands.foldl (fun s b =>
    modTx s b fun x =>
      match x.state, x.onAfter with
      | .pendingOn, some t => if frameBoundaryBy s t n then { x with state := .on } else x
      | _, _ => x) s
  modOrbit s fun o =>
    let boundary := n % max o.frameLen 1 = 0
    let st := if o.state = .idle then (if o.follow then .acquiring else .run)
      else if o.runPending && boundary then .run else o.state
    { o with state := st, parent := if boundary && o.parentNext.isSome then o.parentNext else o.parent }

/-- What planning under a view of the state changes in the state itself: the plans, the calendar and the nodes' next wakes, the
frames chosen, the counters, events. -/
def mergePlanned (s p : State) : State :=
  let band (b : Band) (x : TxBand) : TxBand :=
    let y := p.radio.tx.get b
    { x with counters := y.counters, bgOver := y.bgOver, bgWindow := y.bgWindow, dwell := if y.region = x.region then y.dwell else x.dwell }
  { s with
    free := p.free, host := p.host, node := p.node, route := p.route
    pwr := { s.pwr with bulkErrors := p.pwr.bulkErrors, bulkLost := p.pwr.bulkLost }
    cmp := { s.cmp with planRound := p.cmp.planRound, wanted := p.cmp.wanted, announce := p.cmp.announce, current := p.cmp.current }
    queue := { p.queue with gates := s.queue.gates }
    orbit := { s.orbit with
      plans := p.orbit.plans, prepared := p.orbit.prepared, calendar := p.orbit.calendar, counters := p.orbit.counters
      joinRsps := p.orbit.joinRsps, schedUpdates := p.orbit.schedUpdates }
    radio := { s.radio with
      nextLaunch := p.radio.nextLaunch
      tx := { a := band .bandA s.radio.tx.a, b := band .bandB s.radio.tx.b, c := band .bandC s.radio.tx.c } } }

/-- A `tx_mode` that slot `n` changes does so at its boundary (R182). -/
def modeView (s v : State) (n : Nat) : State :=
  bands.foldl (fun v b => if (v.radio.tx.get b).linear == (s.radio.tx.get b).linear then v
    else modTx v b fun x => { x with modeAt := instant (slotBoundary v n) }) v

/-- The slot prepared next. -/
def nextPrepared (s : State) : Nat := match s.orbit.prepared with | some n => n + 1 | none => s.orbit.anchorAsn

/-- Hand-off point of a slot with boundary `t0` (R36). -/
def handOffNs (t0 : Nat) : Nat := t0 - 50000

/-- A plan complete past its hand-off point (R42, R261, R262). -/
def overrunEvent (s : State) (n : Nat) : State :=
  let now := nowNs s
  match s.orbit.plans.find? (·.asn == n) with
  | none => s
  | some p =>
    if now ≤ handOffNs p.t0 then s
    else
      let started := (p.contacts.filter fun c => p.listens.any fun l =>
        decide (l.startNs < now) && match l.purpose with | .ack _ a | .uplink a _ | .dedicated a _ => a == c.addr | _ => false).length
      raiseEvent (orbitCount s ocOverrun) evSlotOverrun (n % 2 ^ 32) ((now - handOffNs p.t0) / 1000) started s.test.pace

/-- SLOT_PREPARATION (R43, R233): the next slot is prepared from its normal start on, under what will govern it; `staged` gives
the settings of sealed stages whose point is at or before it. -/
def slotPreparationOp (staged : Nat → State → State) (s : State) : State :=
  let n := nextPrepared s
  let view := modeView s (slotView (staged n s) n) n
  if !s.orbit.anchored || !firmwareRuns s || decide ((nowNs s : Int) < slotBoundary view n - (leadNs s : Int)) then s
  else overrunEvent (mergePlanned s (planSlot view n)) n

/-! Hand-off (R157). -/

/-- Order of assignments: priority, then channel, then band. -/
def listenBefore (a b : Listen) : Bool :=
  a.prio < b.prio || (a.prio = b.prio && (a.channel < b.channel || (a.channel = b.channel && a.band ≤ b.band)))

/-- Enter a listen in that order. -/
def insertListen (l : Listen) : List Listen → List Listen
  | [] => [l]
  | x :: t => if listenBefore x l then x :: insertListen l t else l :: x :: t

/-- A context that an assignment may take: not reserved, and idle, or searching past its listen end or where `yields` says so. -/
def ctxFree (s : State) (yields : Ctx → Bool) (i : Nat) : Bool :=
  !s.radio.reserved.contains i &&
    match mapGet s.radio.ctxs i with
    | none => true
    | some c => c.state == .idle || ((c.state == .armed || c.state == .blanked) && (decide (c.listenEnd ≤ nowNs s) || yields c))

/-- Background listening serves unused contexts only (R157): it yields to an assignment, and to the next slot's. -/
def yieldsTo (l : Listen) (c : Ctx) : Bool := c.purpose == .background && (l.purpose != .background || decide (c.listenEnd ≤ l.startNs))

/-- The context an assignment takes: the lowest free one; TL-OFDM only from 480 up (R155). -/
def freeCtx (s : State) (ofdm : Bool) (yields : Ctx → Bool) : Option Nat :=
  if ofdm then (List.range 32).findSome? fun k => if ctxFree s yields (480 + k) then some (480 + k) else none
  else (List.range 512).find? (ctxFree s yields)

/-- Arm a context for a listen; a plan that comes late listens from its arrival (R44). A listen that finds no context is dropped and
counted, background listening apart. -/
def armListen (s : State) (l : Listen) : State :=
  let b := bandOfD l.band
  if l.endNs ≤ nowNs s then s
  else
    match freeCtx s (((profileOf s l.profile).map isOfdm).getD false) (yieldsTo l) with
    | none => if l.purpose == .background then s else rxCount s b rxCtxShort
    | some i =>
      setCtx s i (armed s
        { Ctx.idle with
          purpose := l.purpose, band := l.band, channel := l.channel, profile := l.profile, prio := l.prio
          listenStart := max l.startNs (nowNs s), listenEnd := l.endNs, lateFrom := if l.startNs < nowNs s then nowNs s else 0
          frames := (ctxOf s i).frames } (if (s.radio.tx.get b).blank then .blanked else .armed))

/-- A band takes the part of a plan that concerns it: ON, or PENDING_ON for the boundary that turns it on. -/
def bandTakes (s : State) (b : Band) : Bool := bandState s b == .on || bandState s b == .pendingOn

/-- Queue the launches of a plan; one that finds 64 launches waiting goes back to its pending list (R187). -/
def queuePlanned (s : State) (l : Launch) : State :=
  let b := bandOfD l.band
  if bandTakes s b && (s.radio.tx.get b).queue.length < 64 then enqueueLaunch s l else unplanLaunch s l

/-- Contacts whose whole window lies behind a late plan are deferred and cannot be missed (R261). -/
def deferPassed (s : State) (p : Plan) : State :=
  let gone := p.contacts.filter fun c => c.untilNs ≤ nowNs s && !c.met
  let s := gone.foldl (fun s _ => orbitCount s ocDeferred) s
  modPlan s p.asn fun q => { q with contacts := q.contacts.filter fun c => !gone.contains c }

/-- Hand one plan over. -/
def handPlan (s : State) (p : Plan) : State :=
  let s := modPlan s p.asn fun q => { q with handed := true, launches := [] }
  let s := deferPassed s p
  let rests := match s.radio.rxHeld with | some n => decide (p.asn < n) | none => false
  let listens := if rests then [] else (p.listens.filter fun l => bandTakes s (bandOfD l.band)).foldr insertListen []
  let s := listens.foldl armListen s
  let s := p.parks.foldl (fun s k => modTx s (bandOfD k.band) fun x => { x with parks := x.parks ++ [k] }) s
  p.launches.foldl queuePlanned s

/-- PLAN_HAND_OFF (R36, R44, R157): from 50 µs before the boundary. A standby's plans stay unarmed (R452). -/
def planHandOffOp (s : State) : State :=
  if s.role == .standby || radioStopped s then s
  else
    match s.orbit.plans.find? fun p => !p.handed with
    | some p => if handOffNs p.t0 ≤ nowNs s then handPlan s p else s
    | none => s

/-! The boundary (R214). -/

/-- The radio stops (R100): nothing new is received or launched; frames in progress finish. -/
def radioHalts (s : State) : State :=
  let s := bands.foldl cancelAll { s with quiescing := true }
  let s := (s.radio.ctxs.filter fun x => x.2.state == .armed || x.2.state == .blanked).foldl (fun s x => ctxIdle s x.1) s
  let s := (s.orbit.plans.flatMap (·.launches)).foldl unplanLaunch s
  modOrbit s fun o => { o with plans := [], prepared := o.slot }

/-- A SYS_QUIESCE waits for the slot boundary. -/
def quiesceWaits (s : State) : Bool := !s.quiescing && s.part == .run && s.host.longOps.any fun op => entryCmd op.e == some .sysQuiesce

/-- What a contact that has passed leaves: an unacknowledged schedule change, a sounding not heard (R148, R232). -/
def contactPassed (s : State) (c : Contact) : State := soundPassed (schedPassed s c.addr) c.addr

/-- Plans of earlier slots go once every window of theirs has closed and no expected contact waits to be judged a miss. -/
def dropPlans (s : State) (n : Nat) : State :=
  let closed (p : Plan) : Bool :=
    decide (p.asn < n) && p.contacts.all fun c => decide (c.untilNs ≤ nowNs s) && !contactOpen s c.addr && !(contactExpected c && !c.met && s.role != .standby)
  let gone := s.orbit.plans.filter closed
  let s := (gone.flatMap (·.launches)).foldl unplanLaunch s
  let s := (gone.flatMap (·.contacts)).foldl contactPassed s
  modOrbit s fun o => { o with plans := o.plans.filter fun p => !closed p }

/-- A band at a slot boundary: antenna position, static bypass, a disable that waited, parked positions (R196, R205). -/
def bandBoundary (s : State) (n : Nat) (b : Band) : State :=
  let pos := (s.orbit.plans.find? (·.asn == n)).map fun p => nth 0 p.antenna (bandNum b)
  let s := modTx s b fun x =>
    { x with antSel := if !x.burst.isEmpty || nowNs s < x.quietFrom then x.antSel else if linesLive s b then pos.getD x.antSel else 0
             lnaStatic := x.lnaNext, lnaByp := if x.trSw then x.lnaByp else linesLive s b && x.lnaNext
             parks := x.parks.filter fun k => nowNs s < k.untilNs }
  let s := modRx s b fun x => { x with retuneEnd := match x.retuneEnd with | some t => if t ≤ nowNs s then none else some t | none => none }
  if (s.radio.tx.get b).offPending && bandState s b == .on then bandDrains s b else s

/-- The receivers that a RADIO reset stopped listen again (R96). -/
def receiversBack (s : State) : State :=
  if s.radio.rxHeld.isNone then s
  else
    let s := modRadio s fun r => { r with rxHeld := none }
    bands.foldl (fun s b => if bandState s b == .on then armReserved s b true else s) s

/-- The engine at a slotframe boundary: RUN after a re-anchoring, the next candidate (R217, R254). -/
def frameBoundary (s : State) : State :=
  let s := receiversBack s
  modOrbit s fun o =>
    { o with state := if o.runPending then .run else o.state, runPending := false
             parent := if o.parentNext.isSome then o.parentNext else o.parent, parentNext := none
             parentMiss := if o.parentNext.isSome then 0 else o.parentMiss }

/-- The slot that begins next. -/
def nextSlot (s : State) : Nat := match s.orbit.slot with | some n => n + 1 | none => s.orbit.anchorAsn

/-- SLOT_BOUNDARY (R214): the next slot begins once its boundary has come. -/
def slotBoundaryOp (s : State) : State :=
  let n := nextSlot s
  if !numbering s || decide ((nowNs s : Int) < slotBoundary (frameInForce s n) n) then s
  else
    let s := modOrbit (frameInForce s n) fun o => { o with slot := some n }
    let s := slotTriggers s n
    let s := if isFrameBoundary s n then frameBoundary s else s
    let s := modQueue s fun q => { q with gates := q.gates.all (gatesAt n) }
    let s := rollAt s n
    let s := bands.foldl (fun s b => bandBoundary s n b) s
    let s := if quiesceWaits s then radioHalts s else s
    dropPlans s n

end Sys2Proof.Machine
end

