-- ==== Sys2Proof/Machine/Access.lean ====
section
/-! DEFINITION. The host's accesses to the rings, doorbells, mailboxes and registers of its views, session loss and the
function-level reset (R52 to R60, R65, R94, R97, R98, R552, R553). -/

namespace Sys2Proof.Machine

/-! Sessions and stages. -/

/-- A session that is lost keeps running its fetched commands; their responses are dropped. Its entries carry a channel number
that no view has. -/
def lostSession : Session → Session
  | .mbox v => .chan v 511
  | .chan v n => .chan v (256 + n % 256)
  | .spi => .spi

/-- An entry after a session is lost. -/
def lostEntry (x : Session) (e : CmdEntry) : CmdEntry := if e.session = x then { e with session := lostSession x } else e

/-- Rename an entry wherever the part holds it at work. -/
def mapEntries (f : CmdEntry → CmdEntry) (s : State) : State :=
  let l (x : Launch) : Launch := { x with cmd := x.cmd.map f }
  { s with
    host := { s.host with fetched := s.host.fetched.map f, longOps := s.host.longOps.map fun o => { o with e := f o.e } }
    pwr := { s.pwr with commands := s.pwr.commands.map fun c => { c with e := f c.e } }
    orbit := { s.orbit with
      plans := s.orbit.plans.map fun p => { p with launches := p.launches.map l }
      schedUpdates := s.orbit.schedUpdates.map fun u => { u with cmd := u.cmd.map f } }
    pair := { s.pair with waits := s.pair.waits.map fun w => match w.hold with
      | .response e r final => { w with hold := .response (f e) r final }
      | _ => w }
    radio := { s.radio with tx := s.radio.tx.all fun x =>
      { x with queue := x.queue.map l, burst := x.burst.map l, awaiting := x.awaiting.map l } } }

/-- Ephemeris time of a commit point (R87, R214): none where it names an ASN and no numbering runs. -/
def commitNs (s : State) (mode point : Nat) : Option Int :=
  match mode with
  | 0 => some (nowNs s)
  | 1 => some (point : Int)
  | _ => if numbering s then some (slotBoundary (frameInForce s point) point) else none

/-- True elapsed time until which a sealed stage's record can be queried (R554): 60 s after its point. -/
def recordEnd (s : State) (mode point : Nat) : Nat :=
  s.upNs + 60000000000 + (((commitNs s mode point).getD (nowNs s)) - (nowNs s : Int)).toNat

/-- Answer and drop every command at work that a test picks, with one status. -/
def endCommands (s : State) (p : CmdEntry → Bool) (status : Nat) : State :=
  let gone := s.host.fetched.filter p ++ (s.host.longOps.filter fun o => p o.e).map (·.e)
  let fetched := s.host.fetched.filter fun e => !p e
  let longs := s.host.longOps.filter fun o => !p o.e
  let s := { s with host := { s.host with fetched := fetched, longOps := longs } }
  gone.foldl (fun s e => respond s e (refuse status) true) s

/-- Discard a stage (R94): its locks go, its commands end with `ST_FUNCTION_RESET`; a sealed one keeps its record (R95). -/
def discardStage (s : State) (st : Stage) : State :=
  let s := endCommands s (fun e => e.stageId.toNat = st.id) stFunctionReset
  let sealed := s.host.stages.map fun x => if x.id = st.id && x.checkState = 3 then { x with checkState := 5, commit := none } else x
  let rest := s.host.stages.filter fun x => !(x.id = st.id && x.checkState ≤ 3)
  { s with host := { s.host with stages := if st.checkState = 3 then sealed else rest } }

/-- Discard every live stage that a test picks. -/
def discardStages (s : State) (p : Stage → Bool) : State :=
  (s.host.stages.filter fun x => x.checkState ≤ 3 && p x).foldl discardStage s

/-- A session is lost (R97). -/
def loseSession (s : State) (x : Session) : State :=
  mapEntries (lostEntry x) (discardStages s fun st => st.owner == some x)

/-- Commands of a channel fetched and not yet answered: each has a response entry reserved. -/
def outstandingOf (s : State) (x : Session) : Nat :=
  let held (w : Waiting) : Bool := match w.hold with | .response e _ final => final && e.session == x | _ => false
  (s.host.fetched.filter fun e => e.session == x).length + (s.host.longOps.filter fun o => o.e.session == x).length
    + (s.pair.waits.filter held).length

/-! Rings. -/

/-- Sizes of a ring kind (R58): the time-stamp queue has 64 entries whatever the field. -/
def sizeOk (r : RingId) (log2 : Nat) : Bool :=
  match r with | .chan _ => 1 ≤ log2 && log2 ≤ 8 | .ts => true | _ => 4 ≤ log2 && log2 ≤ 12

/-- `CTRL` bits of a ring kind that hold a field (R59). -/
def ctrlMask (r : RingId) : W32 := match r with | .rx _ => 0x80FF3F3F#32 | _ => 0x80FF3F1F#32

/-- The register set of a ring, none where the view has no such ring (R53, R54). -/
def ringRegs (s : State) (v : View) : RingId → Option RingRegs
  | .event => some (viewOf s v).event.regs
  | .chan n => ((viewOf s v).chans[n]?).map (·.regs)
  | .rx n => if v = .unpriv then (s.host.rx[n]?).map (·.regs) else none
  | .tx n => if v = .unpriv then (s.host.tx[n]?).map (·.regs) else none
  | .ts => if v = .unpriv then some s.host.ts.regs else none

/-- Change the register set of a ring. -/
def modRing (s : State) (v : View) (r : RingId) (f : RingRegs → RingRegs) : State :=
  match r with
  | .event => modView s v fun w => { w with event := { w.event with regs := f w.event.regs } }
  | .chan n => modChan s v n fun c => { c with regs := f c.regs }
  | .rx n => if v = .unpriv then { s with host := { s.host with rx := modNth s.host.rx n fun x => { x with regs := f x.regs } } } else s
  | .tx n => if v = .unpriv then { s with host := { s.host with tx := modNth s.host.tx n fun x => { x with regs := f x.regs } } } else s
  | .ts => if v = .unpriv then { s with host := { s.host with ts := { s.host.ts with regs := f s.host.ts.regs } } } else s

/-- A ring's contents empty, for a start or a teardown. -/
def emptyRing (s : State) (v : View) (start : Bool) : RingId → State
  | .event => modView s v fun w => { w with event := { w.event with entries := [] } }
  | .chan n => if start then modChan s v n fun c => { c with responses := [], rspProd := 0 } else s
  | .rx n =>
    { s with host := { s.host with rx := modNth s.host.rx n fun x =>
      { x with posted := [], entries := if start then [] else x.entries } } }
  | .tx n =>
    if start then { s with host := { s.host with tx := modNth s.host.tx n fun x => { x with completions := [], era := x.era + 1, live := 0 } } }
    else s
  | .ts => { s with host := { s.host with ts := { s.host.ts with entries := [] } } }

/-- A ring starts: indices 0, first pass, faults cleared (R552). `dma` is how far its host memory answers (log 82). -/
def startRing (s : State) (v : View) (r : RingId) (ctrl : W32) (dma : Option Nat) : State :=
  let s := modRing (emptyRing s v true r) v r fun x =>
    { x with ctrl := ctrl, prod := 0, cons := 0, rspCons := 0, active := true, faultSize := false, faultDma := false
             faultBuf := false, phase := true, unreported := 0, dmaLeft := dma }
  match r with
  | .event => modView s v (flushLatches 18)
  | _ => s

/-- Cut-through series of the rings that satisfy a test end without a terminal entry (R362). -/
def dropCuts (s : State) (p : Nat → Bool) : State :=
  let off (r : Reception) : Reception := { r with cut := r.cut.map fun k => if p k.ring then { k with live := false } else k }
  modRadio s fun r => { r with ctxs := r.ctxs.map fun x => (x.1, { x.2 with rx := x.2.rx.map off }) }

/-- A ring is torn down (R552). -/
def stopRing (s : State) (v : View) (r : RingId) (ctrl : W32) : State :=
  let s := emptyRing s v false r
  let busy (x : RingRegs) : RingRegs :=
    { x with ctrl := ctrl, unreported := 0, active := match r with | .tx n => decide (0 < (nth TxRing.reset s.host.tx n).live) | _ => false }
  let s := modRing s v r busy
  match r with
  | .chan n => loseSession s (.chan v n)
  | .rx n => dropCuts s fun k => k == n
  | _ => s

/-- A write of `CTRL` (R59, R552): a rising `enable` starts the ring or records `fault_size`, a falling one tears it down. -/
def ctrlWrite (s : State) (v : View) (r : RingId) (value : W32) (dma : Option Nat) : State :=
  let c := value &&& ctrlMask r
  match ringRegs s v r with
  | none => s
  | some x =>
    if bitOf c.toNat 31 && !(ringOn x && x.active) then
      if sizeOk r (bitsOf c.toNat 3 0) then startRing s v r c dma
      else modRing s v r fun x => { x with ctrl := c &&& 0x7FFFFFFF#32, faultSize := true, active := false }
    else if !bitOf c.toNat 31 && ringOn x then stopRing s v r c
    else modRing s v r fun x => { x with ctrl := c }

/-- Entries that an index write from `old` to `new` passes. -/
def indexGap (size : Nat) (old new : BitVec 12) : Nat := (new.toNat + size - old.toNat % size) % size

/-- The PCIe views answer: not under the SPI-only strap, nor while the link is under test (R50, R501). -/
def viewsAnswer (s : State) : Bool := pcieExists s && partAnswers s && !resourceTested s 2

def commandProdOp (s : State) (v : View) (ch : Nat) (value : W32) : State :=
  if viewsAnswer s then modRing s v (.chan ch) fun r => { r with prod := value.setWidth 12 } else s

def rspConsOp (s : State) (v : View) (ch : Nat) (value : W32) : State :=
  if !viewsAnswer s then s
  else modChan s v ch fun c =>
    { c with regs := { c.regs with rspCons := value.setWidth 12 }
             responses := c.responses.drop (indexGap (ringSize c.regs) c.regs.rspCons (value.setWidth 12)) }

def eventConsOp (s : State) (v : View) (value : W32) : State :=
  if !viewsAnswer s then s
  else modView s v fun w =>
    let r := w.event.regs
    flushLatches 18 { w with event :=
      { regs := { r with cons := value.setWidth 12 }, entries := w.event.entries.drop (indexGap (ringSize r) r.cons (value.setWidth 12)) } }

/-- Buffers posted to a receive ring; one shorter than 2,048 bytes stops it (R59, R66). -/
def postBufs (r : RxRing) (value : W32) (bufs : List PostedBuf) : RxRing :=
  let new := bufs.take (indexGap (ringSize r.regs) r.regs.prod (value.setWidth 12))
  let good := new.takeWhile fun b => decide (2048 ≤ b.len.toNat)
  let regs := { r.regs with prod := value.setWidth 12 }
  if !ringOn regs || !regs.active then { r with regs := regs }
  else if good.length < new.length then { r with regs := { regs with active := false, faultBuf := true }, posted := r.posted ++ good }
  else { r with regs := regs, posted := r.posted ++ good }

def rxProdOp (s : State) (ring : Nat) (value : W32) (bufs : List PostedBuf) : State :=
  if !viewsAnswer s then s
  else { s with host := { s.host with rx := modNth s.host.rx ring fun r => postBufs r value bufs } }

def txProdOp (s : State) (ring : Nat) (value : W32) : State :=
  if viewsAnswer s then modRing s .unpriv (.tx ring) fun r => { r with prod := value.setWidth 12 } else s

def tsConsOp (s : State) (value : W32) : State :=
  if !viewsAnswer s then s
  else { s with host := { s.host with ts :=
    { regs := { s.host.ts.regs with cons := value.setWidth 12 }
      entries := s.host.ts.entries.drop (indexGap 64 s.host.ts.regs.cons (value.setWidth 12)) } } }

def ringEnableOp (s : State) (v : View) (r : RingId) (ctrl : W32) (dma : Option Nat) : State :=
  if viewsAnswer s && bitOf ctrl.toNat 31 then ctrlWrite s v r ctrl dma else s

def ringTeardownOp (s : State) (v : View) (r : RingId) (ctrl : W32) : State :=
  if viewsAnswer s && !bitOf ctrl.toNat 31 then ctrlWrite s v r ctrl none else s

/-- The holdoff after a ring's first unreported entry ends (R59). -/
def holdoffExpiryOp (s : State) (v : View) (r : RingId) : State :=
  match ringRegs s v r with
  | some x =>
    if x.unreported = 0 then s
    else modRing (modView s v fun w => signalVector w (ringVector x)) v r fun x => { x with unreported := 0 }
  | none => s

/-! Mailbox mirror, plain registers. -/

/-- The event shown in a view's mirror (R52). -/
def mirrorEvent (s : State) (v : View) : Option EventEntry :=
  if ringOn (viewOf s v).event.regs then none else (viewOf s v).latches.head?

/-- Writing `evt_ack` retires it. -/
def evtAckOp (s : State) (v : View) : State :=
  if (mirrorEvent s v).isSome then modView s v fun w => { w with latches := w.latches.drop 1 } else s

/-- The ring at a register offset of a view, and the offset in its set (R53, R54, R57). -/
def ringAt (v : View) (off : Nat) : Option (RingId × Nat) :=
  if 0x40 ≤ off && off < 0x80 then some (.event, off - 0x40)
  else if 0x100 ≤ off && off < (if v = .priv then 0x200 else 0x400) then some (.chan ((off - 0x100) / 64), off % 64)
  else if v = .priv then none
  else if 0x1000 ≤ off && off < 0x1400 then some (.rx ((off - 0x1000) / 64), off % 64)
  else if 0x1400 ≤ off && off < 0x1800 then some (.tx ((off - 0x1400) / 64), off % 64)
  else if 0x1800 ≤ off && off < 0x1840 then some (.ts, off - 0x1800)
  else none

/-- A write of an MSI-X table word: unmasking a pending vector signals it. -/
def msixWrite (w : ViewIf) (i : Nat) (value : W32) : ViewIf :=
  let w := { w with msix := if value = 0 then mapDel w.msix i else mapSet w.msix i value }
  if i % 4 = 3 && !bitOf value.toNat 0 && bitOf w.msixPending.toNat (i / 4) then
    signalVector { w with msixPending := w.msixPending &&& ~~~(1#64 <<< (i / 4)) } (i / 4)
  else w

/-- A write of a register with no behaviour of its own (R53, R54, R57): reserved bits and read-only registers ignore it. -/
def plainWrite (s : State) (v : View) (off : Nat) (value : W32) : State :=
  if off % 4 != 0 then s
  else if off = 0x20 then
    modView s v fun w => { w with evEnable := value &&& (if v = .priv then 0x0003FFFF#32 else BitVec.ofNat 32 evBoth) }
  else if 0x500 ≤ off && off < 0x5A0 then modView s v fun w => { w with mbox := mapSet w.mbox ((off - 0x500) / 4) value }
  else if 0x8000 ≤ off && off < 0x8400 then modView s v fun w => msixWrite w ((off - 0x8000) / 4) value
  else
    match ringAt v off with
    | some (r, 0x00) => modRing s v r fun x => { x with baseLo := value &&& 0xFFFFFFC0#32 }
    | some (r, 0x04) => modRing s v r fun x => { x with baseHi := value }
    | some (.chan n, 0x08) => modRing s v (.chan n) fun x => { x with auxLo := value &&& 0xFFFFFFC0#32 }
    | some (.chan n, 0x0C) => modRing s v (.chan n) fun x => { x with auxHi := value }
    | _ => s

/-- Every register write but `MBOX_CTRL.go`. -/
def writeReg (s : State) (v : View) (off : Nat) (value : W32) : State :=
  match ringAt v off with
  | some (r, 0x10) => ctrlWrite s v r value none
  | some (.chan n, 0x14) => modRing s v (.chan n) fun r => { r with prod := value.setWidth 12 }
  | some (.event, 0x18) =>
    modView s v fun w =>
      let r := w.event.regs
      flushLatches 18 { w with event :=
        { regs := { r with cons := value.setWidth 12 }, entries := w.event.entries.drop (indexGap (ringSize r) r.cons (value.setWidth 12)) } }
  | some (.chan n, 0x1C) =>
    modChan s v n fun c =>
      { c with regs := { c.regs with rspCons := value.setWidth 12 }
               responses := c.responses.drop (indexGap (ringSize c.regs) c.regs.rspCons (value.setWidth 12)) }
  | _ => if off = 0x400 then (if bitOf value.toNat 1 then evtAckOp s v else s) else plainWrite s v off value

def registerWriteOp (s : State) (v : View) (off : Nat) (value : W32) : State :=
  if viewsAnswer s then plainWrite s v off value else s

/-! Function-level reset. -/

/-- Channels of a view (R45). -/
def viewChans (v : View) : Nat := if v = .priv then 4 else 12

/-- Every session of a view is lost. -/
def loseViewSessions (s : State) (v : View) : State :=
  (List.range (viewChans v)).foldl (fun s n => loseSession s (.chan v n)) (loseSession s (.mbox v))

/-- Frames of the transmit rings are discarded without a completion (R98): at once, or at the end of the burst they are in. -/
def loseRingFrames (s : State) : State :=
  let isRing (f : Frame) : Bool := match f.source with | .ring _ _ _ => true | _ => false
  (s.queue.records.filter fun p => isRing p.2 && !p.2.lost).foldl (fun s p =>
    if p.2.onAir then modRecord s p.1 fun f => { f with lost := true, doomed := true }
    else hostCount (parkHeld (freeRecord s p.1)) hcTxRingLost) s

/-- A view's function-level reset (R98). -/
def flrOp (s : State) (v : View) : State :=
  if !pcieExists s then s
  else
    let s := loseViewSessions s v
    let s := modView s v fun w => { ViewIf.reset v with latches := w.latches, signalled := w.signalled }
    if v = .priv then s
    else
      let s := dropCuts (loseRingFrames s) fun _ => true
      { s with host := { s.host with
        rx := List.replicate 16 RxRing.reset, ts := TsQueue.reset
        tx := s.host.tx.map fun x => { TxRing.reset with era := x.era + 1 } } }

/-- Every PCIe session is lost (R97, R501): the channels' `enable` falls, the mailboxes stop. -/
def losePcie (s : State) : State :=
  [View.priv, View.unpriv].foldl (fun s v =>
    let s := loseViewSessions s v
    modView s v fun w => { w with mboxBusy := false, mboxWaits := false, chans := w.chans.map fun c =>
      { c with regs := { c.regs with ctrl := c.regs.ctrl &&& 0x7FFFFFFF#32, active := false, unreported := 0 } } }) s

end Sys2Proof.Machine
end

