-- ==== Sys2Proof/Machine/Queue.lean ====
section
/-! DEFINITION. The work scheduler, the classification of transmit-ring frames, FIFO resets, sampling, the bulk-memory arbiter, the
QUEUE commands (R379 to R404). -/

namespace Sys2Proof.Machine

/-! Classification of host frames (R67, R387). -/

/-- Complete a transmit entry at classification. -/
def refuseEntry (s : State) (ring idx era : Nat) (errDest errDesc : Bool) : State :=
  txComplete s ring idx era fun ph =>
    { index := idx, phase := ph, errDest := errDest, errDesc := errDesc, attempts := 0, frameStatus := fsFlushed
      lateLaunch := false, counter := 0, launchNs := 0, channel := 0, band := 0 }

/-- PSDU bytes of a host broadcast on the profile that makes it longest. -/
def broadcastLen (s : State) (len : Nat) : Nat :=
  ((s.air.bind.toList.filterMap (profileOf s)).map fun p => psduLen p 0 len).foldl max (15 + len + 8 + 2)

/-- The frame of a transmit entry. -/
def ringFrame (s : State) (ring idx era : Nat) (e : TxEntry) (payload : List Byte) : Frame :=
  let ms := bitsOf e.life.toNat 31 16
  { firmwareFrame s e.destAddr ftData payload (bitOf e.ctl.toNat 22 && e.destAddr != addrBroadcast) with
    source := .ring ring idx era, queue := bitsOf e.ctl.toNat 21 16, tsReq := bitOf e.ctl.toNat 23
    tsId := e.life.setWidth 16, expires := if ms = 0 then none else some (s.upNs + ms * 1000000) }

/-- Bands that are ON, as a mask. -/
def onBands (s : State) : Nat := (bands.map fun b => if bandState s b = .on then 2 ^ bandNum b else 0).foldl (· + ·) 0

/-- Enter a host frame in its queue, or complete it where its limit is reached (R387). -/
def enterHost (s : State) (f : Frame) (ring idx era : Nat) (enter : State → State) : State :=
  let q := queueOf s f.queue
  if q.limit != 0 && q.limit ≤ (queueLive s f.queue).length then refuseEntry (queueCount s qcOverlimit 1) ring idx era false false
  else enter s

/-- Classify a fetched entry (R67, R228, R250, R299, R308, R387). -/
def classifyEntry (s : State) (ring idx era : Nat) (e : TxEntry) (payload : List Byte) : State :=
  let f := ringFrame s ring idx era e payload
  if bitsOf e.ctl.toNat 31 24 != 0 || bitsOf e.ctl.toNat 15 11 != 0 || e.rsvd != 0 then refuseEntry s ring idx era false true
  else if e.destAddr = addrBroadcast then
    if 2047 < broadcastLen s payload.length then refuseEntry s ring idx era false true
    else if 256 ≤ s.route.broadcast.length then refuseEntry (routeCount s rcFloodDrop) ring idx era false false
    else if onBands s = 0 then refuseEntry s ring idx era false false
    else enterHost s f ring idx era fun s => floodAdd s f (onBands s)
  else
    let s := passAddr s e.destAddr
    match lookupAddr s e.destAddr with
    | none => refuseEntry s ring idx era true false
    | some i =>
      match nodeAt s i with
      | none => refuseEntry s ring idx era true false
      | some n =>
        let s := touchHit s i
        if !fitsContact s i n payload.length then
          refuseEntry (if routeKind n = 1 then routeCount s rcTooLong else s) ring idx era false true
        else if adriftOver s n then refuseEntry s ring idx era false false
        else enterHost s f ring idx era fun s => relinkPending (park s f).1 i

/-- TRANSMIT_RING_FETCH (R387): in RUN, while the pool has room (R84, R99, R100). -/
def txFetchOp (s : State) (ring : Nat) (e : TxEntry) (payload : List Byte) : State :=
  let r := nth TxRing.reset s.host.tx ring
  let body := sliceBytes payload 0 (bitsOf e.ctl.toNat 10 0)
  if !pcieExists s || !inRun s || radioStopped s || s.key.tampered || !ringOn r.regs || !r.regs.active || r.regs.prod = r.regs.cons
    || !poolHasRoom s body.length then s
  else if dmaFails r.regs then { s with host := { s.host with tx := modNth s.host.tx ring fun x => { x with regs := dmaStop x.regs } } }
  else
    let s := { s with host := { s.host with tx := modNth s.host.tx ring fun x => { x with regs := advanceCons (dmaUse x.regs), live := x.live + 1 } } }
    let s := accessDoms s (lookupDoms ++ shaperDoms)
    classifyEntry s ring r.regs.cons.toNat r.era e body

/-- LIFETIME_EXPIRY (R389, R391). -/
def lifetimeOp (s : State) (record : Nat) : State :=
  match recordOf s record with
  | none => s
  | some f =>
    match f.expires with
    | none => s
    | some t =>
      if s.upNs < t then s
      else if anyLow s shaperDoms then accessDoms s shaperDoms
      else if f.onAir then modRecord s record fun f => { f with doomed := true }
      else queueCount (completeFrame s record fsFlushed false false) qcExpired 1

/-! The work scheduler (R379 to R385). -/

/-- Free Tail cells of the ready-list and deferred-chain region (R385): one item to a cell. -/
def workCellsFree (s : State) : Nat :=
  let used := ((s.queue.ready.map fun f => f.middle.length) ++ s.queue.flows.map fun p => p.2.deferred.middle.length).foldl (· + ·) 0
  393216 - used

/-- Free Tail cells of the shaping-queue region (R385): three entries to a cell. -/
def shapeCellsFree (s : State) : Nat := 131072 - (s.queue.queues.map fun q => ceilDiv q.fifo.middle.length 3).foldl (· + ·) 0

/-- The head of a free flow entry's deferred chain goes to the tail of its ready list (R381). -/
def releaseFlow (s : State) (i : Nat) : State :=
  let f := flowOf s i
  match fifoAll f.deferred with
  | [] => setFlow s i { f with busy := false }
  | w :: _ =>
    let rest := match f.deferred.head with
      | _ :: t => fifoRefill { f.deferred with head := t }
      | [] => let g := fifoRefill f.deferred; { g with head := g.head.drop 1 }
    modReady (setFlow s i { busy := false, deferred := rest }) w.item.prio.toNat fun l => fifoPush l w

/-- The outcome of a lost item (R380). -/
def loseItem (s : State) (w : WorkRec) : State :=
  let k := w.item.flowKey
  match w.item.prio.toNat with
  | 0 => if k = 0xFFFFFF0B#32 && decide (s.clk.nextUpdate ≤ nowNs s) then modClk s fun c => { c with nextUpdate := nextServo c } else s
  | 1 =>
    match s.path.uplinks.find? fun u => u.src == k with
    | some u => { s with path := { s.path with uplinks := s.path.uplinks.erase u } }
    | none => s
  | 2 =>
    match s.path.threads.find? fun u => u.src == k with
    | some u => { s with path := { s.path with threads := s.path.threads.erase u } }
    | none => s
  | 3 =>
    match s.host.fetched.find? fun e => 0xFFFFFF00 + entryFn e = k.toNat with
    | some e => respond { s with host := { s.host with fetched := s.host.fetched.erase e } } e (refuse stFunctionReset) true
    | none => s
  | 4 => modNodes s fun d => { d with ageDeletes := d.ageDeletes.filter (· != k) }
  | 5 => repeatBlock s
  | 6 =>
    if k = 0xFFFFFF0A#32 then modQueue s fun q => { q with sampleLost := true }
    else if k = 0xFFFFFF0E#32 then modTest s fun t => { t with telemLost := true }
    else s
  | _ => s

/-- An item may be dispatched: it needs no flow entry, or its entry is free and no item of the entry on a ready list came before it
(R381, log 108). -/
def dispatchable (s : State) (w : WorkRec) : Bool :=
  let i := flowIndex w.item.flowKey
  let first (x : WorkRec) : Bool := x.item.isAtomic && flowIndex x.item.flowKey == i && decide (x.enqNs.toNat < w.enqNs.toNat)
  !w.item.isAtomic || (!(flowOf s i).busy && !(s.queue.ready.any fun l => (fifoAll l).any first))

/-- A work item enters its ready list, or the deferred chain of a flow entry that is busy or has a chain (R381, log 108). -/
def enterWork (s : State) (item : WorkItem) : State :=
  let w : WorkRec := { item := item, enqNs := s.clk.timeNs }
  let s := queueCount s qcSubmitted 1
  let i := flowIndex item.flowKey
  let f := flowOf s i
  if item.isAtomic && (f.busy || !(fifoAll f.deferred).isEmpty) then
    queueCount (setFlow s i { f with deferred := fifoPush f.deferred w }) qcDeferred 1
  else modReady s item.prio.toNat fun l => fifoPush l w

/-- Submit a work item: at the reserve an item of priority 4 to 7 is refused; with no cell free every producer is held (R385). -/
def submitWork (s : State) (item : WorkItem) : State :=
  let free := workCellsFree s
  if free = 0 || !s.queue.held.isEmpty then modQueue s fun q => { q with held := q.held ++ [item] }
  else if free ≤ 1024 && 4 ≤ item.prio.toNat then loseItem (queueCount s qcRefused 1) { item := item, enqNs := s.clk.timeNs }
  else enterWork s item

/-- Held producers submit again as cells free (R385). -/
def resumeProducers (s : State) : State :=
  if s.queue.held.isEmpty || workCellsFree s = 0 then s
  else s.queue.held.foldl submitWork (modQueue s fun q => { q with held := [] })

/-- Remove the first entry that satisfies a test from a list. -/
def dropFirst {α : Type} (p : α → Bool) : List α → List α
  | [] => []
  | x :: t => if p x then t else x :: dropFirst p t

/-- The oldest dispatchable item of the lowest-numbered list that has one, taken off it; its flow entry becomes busy (R380, R382). -/
def takeWork (s : State) : Option (WorkRec × State) :=
  match (List.range 8).find? fun p => (fifoAll (readyOf s p)).any (dispatchable s) with
  | none => none
  | some p =>
    let f := readyOf s p
    let ok := dispatchable s
    match (fifoAll f).find? ok with
    | none => none
    | some w =>
      let f' : Fifo WorkRec :=
        if f.head.any ok then { f with head := dropFirst ok f.head }
        else if f.middle.any ok then { f with middle := dropFirst ok f.middle } else { f with tail := dropFirst ok f.tail }
      let s := modReady s p fun _ => fifoRefill f'
      let i := flowIndex w.item.flowKey
      some (w, if w.item.isAtomic then setFlow s i { flowOf s i with busy := true } else s)

/-- A core's state. -/
def coreOf (s : State) (n : Nat) : CoreState := nth { running := none, slot := none } s.queue.cores n

/-- Set a core's state. -/
def setCore (s : State) (n : Nat) (c : CoreState) : State := modQueue s fun q => { q with cores := modNth q.cores n fun _ => c }

/-- Fill one core: it starts its prefetched item, and its slot refills (R383). A core whose domain is not On takes nothing. -/
def fillCore (s : State) (n : Nat) : State :=
  if domState s (2 + n / 2) != .on then s
  else
    let c := coreOf s n
    let c := if c.running.isNone then { running := c.slot, slot := none } else c
    let s := setCore s n c
    if c.slot.isSome then s
    else
      match takeWork s with
      | none => s
      | some (w, s) => setCore s n (if c.running.isNone then { running := some w, slot := none } else { c with slot := some w })

/-- Dispatch while cores can take items: two rounds start and prefetch on every core; with an item ready and no core domain On, one
is woken (R468). -/
def dispatchWork (s : State) : State :=
  let s := resumeProducers ((List.range 8 ++ List.range 8).foldl fillCore s)
  if (List.range 8).any fun p => (fifoAll (readyOf s p)).any (dispatchable s) then wakeCores s else s

/-- WORK_SUBMIT. -/
def workSubmitOp (s : State) (item : WorkItem) : State := if firmwareRuns s then dispatchWork (submitWork s item) else s

/-- CORE_ITEM_COMPLETE (R381, R383). -/
def coreCompleteOp (s : State) (n : Nat) : State :=
  match (coreOf s n).running with
  | none => s
  | some w =>
    let s := setCore s n { coreOf s n with running := none }
    dispatchWork (if w.item.isAtomic then commitDeletes (releaseFlow s (flowIndex w.item.flowKey)) else s)

/-- A control core restarts (R401): its item in service is lost, its prefetched item returns to the head of its list. -/
def coreRestart (s : State) (n : Nat) : State :=
  let c := coreOf s n
  let s := setCore s n { running := none, slot := none }
  let s := match c.slot with
    | none => s
    | some w =>
      let s := modReady s w.item.prio.toNat fun l => fifoReturn l w
      if w.item.isAtomic then setFlow s (flowIndex w.item.flowKey) { flowOf s (flowIndex w.item.flowKey) with busy := false } else s
  let s := match c.running with
    | none => s
    | some w =>
      let s := loseItem s w
      if w.item.isAtomic then releaseFlow s (flowIndex w.item.flowKey) else s
  dispatchWork s

/-! FIFO moves and resets (R384, R386). -/

/-- The mismatch of a FIFO's two copies: 0 head, 1 tail, 2 count. -/
def mismatchOf {α : Type} (f : Fifo α) : Option Nat :=
  if f.skew.1 != 0 then some 0 else if f.skew.2.1 != 0 then some 1 else if f.skew.2.2 != 0 then some 2 else none

/-- Count and report a FIFO reset (R386). -/
def reportReset (s : State) (fifo lost ptr : Nat) : State :=
  let s := queueCount (queueCount s qcReset 1) qcResetLost lost
  raiseEvent s evQueuePtrMismatch fifo lost ptr (nth 0 s.queue.counters qcReset).toNat

/-- Reset a FIFO after a mismatch of pointer `ptr` (R386). -/
def resetFifo (s : State) (f : FifoId) (ptr : Nat) : State :=
  let s := bulkFresh s (.tailCell f)
  match f with
  | .shaping q =>
    let live := queueLive s q
    let s := modShape s q fun x => { x with fifo := Fifo.empty }
    reportReset (live.foldl (fun s p => flushFrame s p.1) s) q live.length ptr
  | .ready p =>
    let gone := fifoAll (readyOf s p)
    let s := gone.foldl loseItem (modReady s p fun _ => Fifo.empty)
    let s := gone.foldl (fun s w =>
      if w.item.isAtomic && !(flowOf s (flowIndex w.item.flowKey)).busy then releaseFlow s (flowIndex w.item.flowKey) else s) s
    dispatchWork (reportReset s (0x100 + p) gone.length ptr)
  | .deferred i =>
    let gone := fifoAll (flowOf s i).deferred
    let s := gone.foldl loseItem (setFlow s i { busy := false, deferred := Fifo.empty })
    dispatchWork (reportReset s (0x200 + i) gone.length ptr)

/-- A spill (R384): a full register tail goes to the middle; a mismatch of the pointers resets the FIFO instead. -/
def spillTail (s : State) (f : FifoId) : State :=
  match f with
  | .shaping q =>
    match mismatchOf (queueOf s q).fifo with
    | some p => resetFifo s f p
    | none => modShape s q fun x => { x with fifo := fifoSpill x.fifo }
  | .ready p =>
    match mismatchOf (readyOf s p) with
    | some k => resetFifo s f k
    | none => modReady s p fifoSpill
  | .deferred i =>
    match mismatchOf (flowOf s i).deferred with
    | some k => resetFifo s f k
    | none => setFlow s i { flowOf s i with deferred := fifoSpill (flowOf s i).deferred }

/-- A refill (R384): a head of at most 8 entries refills; a mismatch of the pointers resets the FIFO instead, and so does a cell whose
link check fails or that holds an uncorrectable error: a mismatch of the head pointer (R27, R386; log 105). -/
def refillTail (s : State) (f : FifoId) : State :=
  if bulkBad s (.tailCell f) then resetFifo (bulkLose s (.tailCell f)) f 0
  else match f with
  | .shaping q =>
    match mismatchOf (queueOf s q).fifo with
    | some p => resetFifo s f p
    | none => trimHead (modShape s q fun x => { x with fifo := fifoRefill x.fifo }) q
  | .ready p =>
    match mismatchOf (readyOf s p) with
    | some k => resetFifo s f k
    | none => modReady s p fifoRefill
  | .deferred i =>
    match mismatchOf (flowOf s i).deferred with
    | some k => resetFifo s f k
    | none => setFlow s i { flowOf s i with deferred := fifoRefill (flowOf s i).deferred }

/-- TAIL_SPILL and TAIL_REFILL wait for Tail's banks (R16). -/
def tailSpillOp (s : State) (f : FifoId) : State := worksOn tailDoms (spillTail · f) s
def tailRefillOp (s : State) (f : FifoId) : State := worksOn tailDoms (fun s => resumeProducers (refillTail s f)) s

/-- QUEUE_COMPACTION (R388): more holes than live entries plus 48. -/
def compactionOp (s : State) (q : Nat) : State :=
  if queueHoles s q ≤ (queueLive s q).length + 48 then s
  else if anyLow s tailDoms then accessDoms s tailDoms
  else queueCount (modShape s q fun x => { x with fifo := { x.fifo with middle := x.fifo.middle.filter (entryLive s) } }) qcCompactions 1

/-! Sampling (R397). -/

/-- The sample of a queue. -/
def sampleOf (s : State) (q : Nat) (late : Bool) : Sample :=
  if s.queue.sampleLost then { timeNs := 0, delayUs := 0, late := true, missed := true, depth := 0 }
  else
    let live := queueLive s q
    let age := (live.map fun p => (s.upNs - p.2.since) / 1000).foldl max 0
    { timeNs := s.clk.timeNs, delayUs := min age 0xFFFFFFFF, late := late, missed := false, depth := live.length }

/-- QUEUE_SAMPLE (R397). -/
def queueSampleOp (s : State) : State :=
  if s.queue.sampleMs = 0 || s.upNs < s.queue.sampleAt || !firmwareRuns s then s
  else
    let late := s.queue.sampleAt < s.upNs
    let missed := s.queue.sampleLost
    let rings := (List.range 64).foldl (fun m q => mapSet m q ((sampleOf s q late :: mapGetD [] m q).take 256)) s.queue.samples
    let s := modQueue s fun d => { d with samples := rings, sampleLost := false, sampleAt := d.sampleAt + d.sampleMs * 1000000 }
    if missed then queueCount s qcSamplesMissed 64 else s

/-- The 16 bytes of a sample record. -/
def sampleBytes (x : Sample) : List Byte :=
  leBytes 8 x.timeNs.toNat ++ leBytes 4 x.delayUs ++ leBytes 4 (natOf x.late * 2 ^ 31 + natOf x.missed * 2 ^ 30 + x.depth)

/-! The bulk-memory arbiter (R398 to R400). -/

/-- Class of a requester. -/
def arbClass (s : State) (n : Nat) : Nat := bitsOf s.queue.classMap.toNat (2 * n + 1) (2 * n)

/-- The requester a bank grants next (R399). -/
def arbWinner (s : State) (x : BankArb) (req : Nat) : Option Nat :=
  let asking := (List.range 16).filter (bitOf req)
  match (List.range 4).find? fun c => asking.any fun n => arbClass s n == c with
  | none => none
  | some c =>
    let last := nth 15 x.last c
    ((List.range 16).map fun k => (last + 1 + k) % 16).find? fun n => asking.contains n && arbClass s n == c

/-- A requester loses a decision (R400). -/
def starveOne (bank : Nat) (s : State) (n : Nat) : State :=
  let v := nth 0 s.queue.starve n + 1
  let s := modQueue s fun q => { q with starve := modNth q.starve n fun _ => v, starveMax := modNth q.starveMax n (max v) }
  let due := match nth none s.queue.starveAt n with | some t => decide (t + 1000000000 ≤ s.upNs) | none => true
  if v ≤ s.queue.starveThr || !due then s
  else
    raiseEvent (queueCount (modQueue s fun q => { q with starveAt := modNth q.starveAt n fun _ => some s.upNs }) qcStarve 1)
      evStarve n bank v (arbClass s n)

/-- BANK_ARBITRATION (R399, R400). -/
def arbitrationOp (s : State) (bank : Nat) (req : W16) : State :=
  let x := nth BankArb.reset s.queue.banks bank
  match arbWinner s x req.toNat with
  | none => s
  | some w =>
    let s := modQueue s fun q =>
      { q with
        banks := modNth q.banks bank fun _ => { owner := some w, last := modNth x.last (arbClass s w) fun _ => w }
        grants := modNth q.grants w (· + 1), starve := modNth q.starve w fun _ => 0 }
    ((List.range 16).filter fun n => bitOf req.toNat n && n != w).foldl (starveOne bank) s

/-! The QUEUE commands (R403, R404). -/

def queueConfig : Cmd where
  args := fun e _ => 1 ≤ argBits e 15 8 && argBits e 31 16 ≤ 16384
  apply := setter fun e s => modShape s (argBits e 5 0) fun x => { x with weight := argBits e 15 8, limit := argBits e 31 16 }
  sets := fun e _ => [(0x0A01, argBits e 5 0)]

def queueFlush : Cmd where
  apply := fun _ e s =>
    let gone := s.queue.records.filter fun p => bitOf (argBits e 63 0) p.2.queue
    (gone.foldl (fun s p => flushFrame s p.1) (queueCount s qcFlushed gone.length), okFigures [(gone.length : Int)])

def queueStatus : Cmd where
  apply := getter fun e s =>
    let q := argBits e 5 0
    let live := queueLive s q
    let gates := bands.map fun b => ((natOf (gateOpen s b (currentAsn s) q) : Nat) : Int)
    let row : List Int := [(live.length : Int), (queueHoles s q : Int), (((live.map fun p => (s.upNs - p.2.since) / 1000).foldl max 0 : Nat) : Int),
      ((queueOf s q).weight : Int)]
    okFigures (row ++ ((queueOf s q).v.toList.map Int.ofNat) ++ gates)

/-- An overhead argument in its range. -/
def ovhOk (x : Nat) : Bool := x ≤ 20000 || x == 0xFFFF

def queueOverheadSet : Cmd where
  args := fun e _ => ovhOk (argBits e 31 16) && ovhOk (argBits e 47 32)
  check := fun _ e s => refuseIf (profileOf s (argBits e 15 0)).isNone stNotFound
  apply := setter fun e s =>
    modQueue s fun q => { q with overheads := mapSet q.overheads (argBits e 15 0) (argBits e 31 16, argBits e 47 32) }
  sets := fun e _ => [(0x0A04, argBits e 15 0)]

/-- Entries of a gate list. -/
def gateEntries (e : CmdEntry) : List (List Byte) := chunks 12 32 (inBuf e)

/-- The takeover lies far enough ahead of now (R396); with no anchor held no instant is judged. -/
def takeoverFar (s : State) (asn : Nat) : Bool :=
  !s.orbit.anchored || decide (((nowNs s + leadNs s + 2000000 : Nat) : Int) ≤ slotBoundary s asn)

def queueGateSet : Cmd where
  args := fun e _ => bandArgOk e && argBits e 7 2 ≤ 32 && (gateEntries e).all fun r => leAt r 0 2 != 0 && leAt r 2 2 == 0
  check := fun w e s =>
    match w with
    | .now | .judge _ _ => refuseIf (!takeoverFar s (argBits e 103 64)) stBadArg
    | _ => none
  apply := setter fun e s =>
    let l := (gateEntries e).map fun r => ({ slots := leAt r 0 2, openMask := BitVec.ofNat 64 (leAt r 4 8) } : Gate)
    modQueue s fun q => { q with gates := q.gates.mod (argBand e) fun g => { g with pending := some (l, argBits e 103 64) } }
  sets := fun e _ => [(0x0A05, argBits e 1 0)]

def queueSampleSet : Cmd where
  args := fun e _ => argBits e 15 0 = 0 || (10 ≤ argBits e 15 0 && argBits e 15 0 ≤ 10000)
  apply := setter fun e s =>
    modQueue s fun q => { q with sampleMs := argBits e 15 0, sampleAt := s.upNs + argBits e 15 0 * 1000000 }
  sets := fun _ _ => [(0x0A06, 0)]

def queueSamplesRead : Cmd where
  args := fun e _ => 1 ≤ argBits e 16 8 && argBits e 16 8 ≤ 256
  apply := getter fun e s => okData (((mapGetD [] s.queue.samples (argBits e 5 0)).take (argBits e 16 8)).flatMap sampleBytes)

def queueCounters : Cmd where
  apply := fun _ e s =>
    (if argBit e 0 then modQueue s fun q => { q with counters := clearCtrs q.counters } else s, okData (ctrBytes s.queue.counters))

def queueFwSet : Cmd where
  apply := setter fun e s => modQueue s fun q => { q with fwQueue := argBits e 5 0 }
  sets := fun _ _ => [(0x0A09, 0)]

def queueArbClass : Cmd where
  apply := setter fun e s => modQueue s fun q => { q with classMap := BitVec.ofNat 32 (argBits e 31 0) }
  sets := fun _ _ => [(0x0A41, 0)]

def queueArbStarve : Cmd where
  args := fun e _ => 16 ≤ argBits e 15 0
  apply := setter fun e s => modQueue s fun q => { q with starveThr := argBits e 15 0 }
  sets := fun _ _ => [(0x0A42, 0)]

def queueWatchdogSet : Cmd where
  args := fun e _ => 10 ≤ argBits e 15 0 && argBits e 15 0 ≤ 1000
  apply := setter fun e s => modQueue s fun q => { q with wdUs := argBits e 15 0 }
  sets := fun _ _ => [(0x0A43, 0)]

def queueArbStatus : Cmd where
  apply := fun _ _ s =>
    let reqs := (List.range 16).flatMap fun n =>
      let row : List Int := [(arbClass s n : Int), ((nth 0 s.queue.grants n : Nat) : Int), ((nth 0 s.queue.starveMax n : Nat) : Int)]
      row
    let owners := s.queue.banks.map fun x => match x.owner with | some n => (n : Int) | none => noFigure
    (modQueue s fun q => { q with starveMax := List.replicate 16 0 }, okFigures (reqs ++ owners))

def queueWorkStatus : Cmd where
  apply := getter fun _ s =>
    let lists := s.queue.ready.flatMap fun f =>
      let row : List Int := [((f.head.length + f.tail.length : Nat) : Int), (f.middle.length : Int)]
      row
    let busy := (s.queue.flows.filter fun p => p.2.busy).length
    let deferred := (s.queue.flows.map fun p => (fifoAll p.2.deferred).length).foldl (· + ·) 0
    let rest : List Int := [shapeCellsFree s, workCellsFree s, busy, deferred].map Int.ofNat
    okFigures (lists ++ rest)

end Sys2Proof.Machine
end

