-- ==== Sys2Proof/Machine/Wave.lean ====
section
/-! DEFINITION. Modulation: GFSK deviations (R103, R104, R106, R107), the tones of TL-OFDM with its training, pilots, signal symbol,
data symbols, constellations and sounding symbols (R128 to R136). -/

namespace Sys2Proof.Machine

/-- A PSDU under a profile: its PHY header or signal field, and its whitened bytes (R109, R114, R132, R133). -/
def onAir (p : AirProfile) (fcsType toneMap rateHint : Nat) (psdu : List Byte) : Nat × List Byte :=
  if isOfdm p then (signalField psdu.length toneMap fcsType, pn9 p.pn9Seed psdu)
  else (phyHeader psdu.length fcsType p.whiten rateHint, if p.whiten then pn9 p.pn9Seed psdu else psdu)

/-- The low `n` bits of a number, bit 0 first. -/
def lowBits (n v : Nat) : List Bool := (List.range n).map (bitOf v)

/-- Output bits of the PN9 generator from a seed (R114). -/
def pnBits (seed n : Nat) : List Bool := ((pn9 seed (List.replicate (ceilDiv n 8) 0)).flatMap bitsLsb).take n

/-! GFSK. -/

/-- Bits before the PSDU: the preamble 0x55, the sync word and the PHY header, each least significant bit first (R106, R107, R109). -/
def gfskHead (p : AirProfile) (phy : Nat) : List Bool :=
  (List.replicate p.preambleBytes 0x55#8).flatMap bitsLsb ++ lowBits p.syncLen p.syncWord ++ lowBits 24 phy

/-- h × Rs / 2 in Hz (R104). -/
def deviationHz (p : AirProfile) : Int := ((p.modIndex + 1) * symbolRate p / 4 : Nat)

/-- Deviation of a 2-level symbol: under a 4-GFSK profile on the outer deviations (R104). -/
def twoLevel (p : AirProfile) (b : Bool) : Int := (if b then 1 else -1) * (if p.mode = 1 then 3 else 1) * deviationHz p

/-- Deviation of a pair of bits in 4-GFSK (R104). -/
def fourLevel (p : AirProfile) (a b : Bool) : Int := (if a then 1 else -1) * (if b then 3 else 1) * deviationHz p

/-- 4-level symbols of bits, pair by pair. -/
def fourLevels (p : AirProfile) : List Bool → List Int
  | a :: b :: t => fourLevel p a b :: fourLevels p t
  | _ => []

/-- A GFSK frame (R103): `whitened` is its PSDU as it goes out. -/
def gfskWave (p : AirProfile) (phy : Nat) (fourLevelPsdu : Bool) (whitened : List Byte) : Wave :=
  let body := whitened.flatMap bitsLsb
  .gfsk (symbolRate p) 50
    ((gfskHead p phy).map (twoLevel p) ++ (if fourLevelPsdu then fourLevels p body else body.map (twoLevel p)))

/-! TL-OFDM tones (R128, R129). -/

/-- Tones −64 to +63. -/
def allTones : List Int := (List.range 128).map fun (k : Nat) => (k : Int) - 64

/-- Pilots. -/
def isPilot (t : Int) : Bool := [7, 21, 35, 49].contains t.natAbs

/-- Null tones: 0, those below −56 and those above +56. -/
def isNull (t : Int) : Bool := t == 0 || 56 < t.natAbs

/-- Data tones in ascending frequency: data tone `d` is the `d`-th. -/
def dataTones : List Int := allTones.filter fun t => !isNull t && !isPilot t

def toneZero : Tone := { i := 0, q := 0, norm := 1 }

/-- A real tone of sign 1 − 2 × bit. -/
def toneSign (b : Bool) : Tone := { i := if b then -1 else 1, q := 0, norm := 1 }

/-- Data tones filled into a symbol, its pilots carrying 1 − 2 × q(n) (R129, R131): `data` runs over the data tones. -/
def fillTones (pilot : Bool) : List Int → List Tone → List Tone
  | [], _ => []
  | t :: ts, data =>
    if isNull t then toneZero :: fillTones pilot ts data
    else if isPilot t then toneSign pilot :: fillTones pilot ts data
    else data.headD toneZero :: fillTones pilot ts (data.drop 1)

/-- Symbol `n`, counted from the signal symbol: its pilot bit is q(n) of the generator with seed 0x1FF (R131). -/
def ofdmSymbol (n : Nat) (data : List Tone) : List Tone := fillTones (((pnBits 0x1FF (n + 1)).getLast?).getD false) allTones data

/-- Signs of the short training on tones −56 to +56 (R130). -/
def shortSigns : List Int := [1, -1, 1, 1, -1, -1, 1, 1, -1, -1, 1, 1, -1, 1]

/-- Short training (R130): every eighth tone carries (1 + j) × s, scaled to the power of a data symbol, whose 112 tones have unit
power each: 14 × 8 = 112 (log 97). -/
def shortTones : List Int → List Int → List Tone
  | [], _ => []
  | t :: ts, signs =>
    if isNull t || t % 8 != 0 then toneZero :: shortTones ts signs
    else { i := 2 * signs.headD 0, q := 2 * signs.headD 0, norm := 1 } :: shortTones ts (signs.drop 1)

/-- Long training (R130): p(i) of the generator with seed 0x1FF, stepping once per tone carried (log 97). -/
def longTones : List Int → List Bool → List Tone
  | [], _ => []
  | t :: ts, ps => if isNull t then toneZero :: longTones ts ps else toneSign (ps.headD false) :: longTones ts (ps.drop 1)

/-- Training symbols: two short, two long. -/
def training : List (List Tone) :=
  let short := shortTones allTones shortSigns
  let long := longTones allTones (pnBits 0x1FF 112)
  [short, short, long, long]

/-! Constellations (R134). -/

/-- Level of one bit, of two and of three, Gray mapped. -/
def level1 (b : Bool) : Int := if b then 1 else -1
def level2 (a b : Bool) : Int := level1 a * (if b then 1 else 3)
def level3 (a b c : Bool) : Int := level1 a * (if b then (if c then 3 else 1) else (if c then 5 else 7))

/-- A tone of a code from the bits it takes, b0 first. -/
def toneOf (code : Nat) (bits : List Bool) : Tone :=
  let b := fun k => nth false bits k
  match code with
  | 1 => { i := level1 (b 0), q := 0, norm := 1 }
  | 2 => { i := level1 (b 0), q := level1 (b 1), norm := 2 }
  | 3 => { i := level2 (b 0) (b 1), q := level2 (b 2) (b 3), norm := 10 }
  | 4 => { i := level3 (b 0) (b 1) (b 2), q := level3 (b 3) (b 4) (b 5), norm := 42 }
  | _ => toneZero

/-- The data tones of one symbol under a map, in ascending order, tones that are off skipped (R133). -/
def loadTones (m : Nat) : Nat → Nat → List Bool → List Tone
  | 0, _, _ => []
  | k + 1, d, bits => toneOf (toneCode m d) bits :: loadTones m k (d + 1) (bits.drop (codeBits (toneCode m d)))

/-- Data symbols from number `n` on. -/
def dataSymbols (m n : Nat) : Nat → List Bool → List (List Tone)
  | 0, _ => []
  | k + 1, bits => ofdmSymbol n (loadTones m 104 0 bits) :: dataSymbols m (n + 1) k (bits.drop (mapBits m))

/-- The signal symbol (R132): the field four times, copies 1 and 3 inverted, BPSK. -/
def signalTones (field : Nat) : List Tone :=
  (List.range 4).flatMap fun k => (lowBits 26 field).map fun b => toneOf 1 [b != (k % 2 == 1)]

/-- Sounding symbols (R136): p(i) from the first one on, stepping once per data tone. -/
def soundingSymbols (n k : Nat) : List (List Tone) :=
  (List.range k).map fun j => ofdmSymbol (n + j) (((pnBits 0x1FF (104 * (j + 1))).drop (104 * j)).map toneSign)

/-- A TL-OFDM frame with `k` sounding symbols (R130 to R133, R136): its last data symbol is padded with zero bits before whitening. -/
def ofdmWave (p : AirProfile) (band field m : Nat) (psdu : List Byte) (k : Nat) : Wave :=
  let n := ceilDiv (8 * psdu.length) (max (mapBits m) 1)
  let padded := psdu ++ List.replicate (ceilDiv (n * mapBits m) 8 - psdu.length) 0
  .ofdm (ofdmKhz band) ofdmPoints ofdmCyclic
    (training ++ [ofdmSymbol 0 (signalTones field)] ++ dataSymbols m 1 n ((pn9 p.pn9Seed padded).flatMap bitsLsb)
      ++ soundingSymbols (n + 1) k)

/-- Output level at the transmit pin in 0.25 dBm (R179, R180): a linear carrier 12 dB and a TL-OFDM stream 9 dB below the drive, less
the contact's attenuation. -/
def outputLevelQ (x : TxBand) (ofdm : Bool) (attenDb : Nat) : Int :=
  x.driveQ - (if ofdm then 36 else if x.linear then 48 else 0) - 4 * (attenDb : Int)

/-- Modulate a frame whose `psdu` is not whitened yet: `mapId` and `m` its tone map, `four` a 4-level PSDU under a 4-GFSK profile
(R111), `k` its sounding symbols. TL-OFDM frames other than tests carry CRC-32 (R143). -/
def modulate (p : Option AirProfile) (f : AirFrame) (fcsType mapId m : Nat) (four : Bool) (k : Nat) : AirFrame :=
  match p with
  | none => f
  | some p =>
    let four := four && p.mode == 1
    let (phy, out) := onAir p fcsType mapId (natOf four) f.psdu
    { f with phy := phy, psdu := out, wave := if isOfdm p then ofdmWave p f.band phy m f.psdu k else gfskWave p phy four out }

/-- The bits of a signal symbol from the soft values of its 104 data tones (R132): the four copies combine before each bit is
decided; a bit whose copies balance takes its value from `tie`. -/
def combineCopies (soft : List Int) (tie : Nat) : Nat :=
  let bit (i : Nat) : Nat :=
    let v := nth 0 soft i - nth 0 soft (26 + i) + nth 0 soft (52 + i) - nth 0 soft (78 + i)
    if v = 0 then natOf (bitOf tie i) else if 0 < v then 1 else 0
  ((List.range 26).map fun i => bit i * 2 ^ i).foldl (· + ·) 0

end Sys2Proof.Machine
end

