-- ==== Sys2Proof/Machine/Test.lean ====
section
/-! DEFINITION. Tests, telemetry, fault injection, the pace monitor, the TEST commands (R501 to R509, R513 to R520). -/

namespace Sys2Proof.Machine

/-- The test, running or last run, of a resource. -/
def runOf (s : State) (r : Nat) : Option TestRun := nth none s.test.runs r

/-- Change the test of a resource. -/
def modRun (s : State) (r : Nat) (f : TestRun → TestRun) : State :=
  modTest s fun t => { t with runs := modNth t.runs r fun x => x.map f }

/-- Stop causes. -/
def causeDuration : Nat := 1
def causeStop : Nat := 2
def causeGate : Nat := 4

/-- Lanes of a link (R504). -/
def linkLanes (link : Nat) : Nat := match link with | 2 | 3 => 2 | 4 => 8 | _ => 1

/-- A saturating 32-bit count. -/
def sat32n (x : Nat) : Nat := min x 0xFFFFFFFF

/-- Bits and errors that locked lanes have counted since they were last written down: how many the manual does not say. -/
def accrueLanes (s : State) (r : Nat) : State :=
  match runOf s r with
  | none => s
  | some t =>
    if !t.running then s
    else
      let (lanes, s) := t.lanes.foldl (fun (acc : List LaneCheck × State) l =>
        if !l.locked then (acc.1 ++ [l], acc.2)
        else
          let (b, s) := drawNat acc.2
          let (e, s) := drawBelow s (b + 1)
          (acc.1 ++ [{ l with bits := l.bits + b, errors := sat32n (l.errors + e) }], s)) ([], s)
      modRun s r fun t => { t with lanes := lanes }

/-- Give a resource back (R501, R502): its test has stopped. -/
def stopTest (s : State) (r cause : Nat) : State :=
  if !resourceTested s r then s
  else
    let s := modRun (accrueLanes s r) r fun t => { t with running := false, endAt := none, cause := cause }
    if r = 2 then { s with host := { s.host with pcieUp := true } }
    else if r < 5 then s
    else
      let b := bandOfD (r - 5)
      let s := modTx s b safeLines
      (bandCtxs s b fun c => c.purpose == .test).foldl (fun s i => setCtx s i { Ctx.idle with frames := (ctxOf s i).frames }) s

/-- The Eclipse gate closes on tests that drive gated outputs (R509). -/
def stopGatedTests (s : State) : State :=
  [5, 6, 7].foldl (fun s r =>
    if ((runOf s r).map fun t => t.kind == 0 || t.kind == 1 || t.kind == 3).getD false then stopTest s r causeGate else s) s

/-- TEST_DURATION_EXPIRY (R502). -/
def testDurationOp (s : State) (r : Nat) : State :=
  match (runOf s r).bind (·.endAt) with
  | some t => if t ≤ s.upNs then stopTest s r causeDuration else s
  | none => s

/-- Change a lane of a running test that checks. -/
def checkLane (s : State) (link lane : Nat) (p : LaneCheck → Bool) (f : LaneCheck → LaneCheck) : State :=
  match runOf s link with
  | some t =>
    if t.running && t.dir != 1 && (nth none (t.lanes.map some) lane).any p then
      modRun s link fun t => { t with lanes := modNth t.lanes lane f }
    else s
  | none => s

/-- CHECKER_LOCKED (R504). -/
def checkerLockedOp (s : State) (link lane : Nat) : State :=
  checkLane s link lane (fun l => !l.locked) fun l => { l with locked := true }

/-- CHECKER_LOCK_LOSS (R504): 32 errors within 1,024 bits, after `bits` bits more under lock; of the errors before those bits the
manual says nothing. -/
def checkerLossOp (s : State) (link lane bits : Nat) : State :=
  let (more, t) := drawBelow s (bits - 1024 + 1)
  checkLane t link lane (·.locked) fun l =>
    { l with locked := false, bits := l.bits + bits, errors := sat32n (l.errors + 32 + more), losses := min (l.losses + 1) 0xFFFF }

/-- Length and second tap of a pattern: PRBS7 x^7 + x^6 + 1, PRBS15 x^15 + x^14 + 1, PRBS31 x^31 + x^28 + 1 (R503). -/
def prbsTaps (pattern : Nat) : Nat × Nat := match pattern with | 0 => (7, 6) | 1 => (15, 14) | _ => (31, 28)

/-- The next line bit of a pattern, not inverted, after its register of the last bits, and the register with it (R503). -/
def prbsNext (pattern reg : Nat) : Bool × Nat :=
  let (n, m) := prbsTaps pattern
  let b := bitOf reg (n - 1) != bitOf reg (m - 1)
  (b, (2 * reg + natOf b) % 2 ^ n)

/-- Line bits that a lane's generator sends from a register content. -/
def prbsBits (pattern : Nat) : Nat → Nat → List Bool
  | 0, _ => []
  | k + 1, reg =>
    let (b, reg) := prbsNext pattern reg
    b :: prbsBits pattern k reg

/-! Radio tests (R505 to R508). -/

/-- PN9 bytes from seed 0x1FF (R506). -/
def pn9Bytes (n : Nat) : List Byte := pn9 0x1FF (List.replicate n 0)

/-- Source address of a test frame. -/
def testSrc : W32 := 0xFFFFFF01#32

/-- A test frame's PSDU (R506). -/
def testPsdu (s : State) (len seq : Nat) : List Byte :=
  let body := leBytes 2 0 ++ leBytes 4 s.air.routerAddr.toNat ++ leBytes 4 testSrc.toNat ++ leBytes 4 seq ++ pn9Bytes (len - 16)
  body ++ leBytes 2 (fcs16 body)

/-- Add to one of the six counts: 0 sent, 1 received, 2 header failures, 3 FCS failures, 4 lost, 5 payload bit errors. -/
def testCount (s : State) (r i n : Nat) : State := modRun s r fun t => { t with counts := modNth t.counts i fun x => (x + n) % 2 ^ 32 }

/-- TEST_FRAME_SEND (R505, R506): kind 3 goes to the air. -/
def testFrameOp (s : State) (b : Band) : State :=
  let r := 5 + bandNum b
  match runOf s r with
  | none => s
  | some t =>
    let due := match t.lastTx with | some x => decide (x + t.intervalUs * 1000 ≤ s.upNs) | none => true
    if !t.running || (t.kind != 2 && t.kind != 3) || !due || (t.count != 0 && t.count ≤ nth 0 t.counts 0) then s
    else
      let s := testCount (modRun s r fun t => { t with seqTx := (t.seqTx + 1) % 2 ^ 32, lastTx := some s.upNs }) r 0 1
      if t.kind = 2 then s
      else
        let psdu := testPsdu s t.len t.seqTx
        let p := profileOf s t.profile
        let f := modulate p
          { band := bandNum b, channel := t.channel, profile := t.profile, kind := 8, tA := nowNs s, counter := 0, phy := 0
            psdu := psdu, wave := .none, levelQ := outputLevelQ (s.radio.tx.get b) ((p.map isOfdm).getD false) 0 } 0 0 mapZero true 0
        { s with path := { s.path with air := s.path.air ++ [f] } }

/-- Bits in which two byte strings differ. -/
def bitsApart (a b : List Byte) : Nat := ((xorBytes a b).map fun x => ((List.range 8).filter (bitOf x.toNat)).length).foldl (· + ·) 0

/-- A frame at a band's test checker (R506): de-whitened PSDU. A sequence number behind the expected one starts the sequence anew
(log 111). -/
def testReceive (s : State) (b : Band) (psdu : List Byte) : State :=
  let r := 5 + bandNum b
  match runOf s r with
  | none => s
  | some t =>
    if !fcsOk 0 psdu then
      testCount (testCount s r 3 1) r 5 (bitsApart ((psdu.drop 14).take (psdu.length - 16)) (pn9Bytes (psdu.length - 16)))
    else if leAt psdu 0 2 != 0 || leAt psdu 2 4 != s.air.routerAddr.toNat || leAt psdu 6 4 != testSrc.toNat then s
    else
      let seq := leAt psdu 10 4
      let gap := match t.seqRx with | some x => (seq + 2 ^ 32 - x) % 2 ^ 32 | none => 0
      let lost := if gap < 2 ^ 31 then gap else 0
      testCount (testCount (modRun s r fun t => { t with seqRx := some ((seq + 1) % 2 ^ 32) }) r 1 1) r 4 lost

/-! Telemetry, pace (R514 to R516). -/

/-- Contexts not IDLE. -/
def contextsBusy (s : State) : Nat := (s.radio.ctxs.filter fun x => x.2.state != .idle).length

/-- TELEMETRY_SAMPLE (R516). -/
def telemetryOp (s : State) (r : Readings) : State :=
  if s.upNs < s.test.telemAt || !firmwareRuns s then s
  else
    let x : Telemetry :=
      { timeNs := s.clk.timeNs, pace := r.pace, late := s.test.telemLost || decide (s.test.telemAt < s.upNs), tempMaxQ := r.tempMaxQ, tempMinQ := r.tempMinQ
        vcoreMv := r.vcoreMv, vaonMv := r.vaonMv, descInUse := descriptorsInUse s, granulesFree := 8192 - granulesInUse s
        cmdsOutstanding := s.host.fetched.length + s.host.longOps.length, contextsBusy := contextsBusy s }
    modTest (accessDoms s [13]) fun t =>
      { t with telemetry := (x :: t.telemetry).take 1024, telemAt := t.telemAt + t.telemMs * 1000000, telemLost := false, pace := r.pace.toNat }

/-- The 32 bytes of a telemetry record. -/
def telemetryBytes (x : Telemetry) : List Byte :=
  leBytes 8 x.timeNs.toNat ++ leBytes 4 (x.pace.toNat * 65536 + natOf x.late * 32768) ++ leBytes 2 x.tempMinQ.toNat
    ++ leBytes 2 x.tempMaxQ.toNat ++ leBytes 2 x.vaonMv.toNat ++ leBytes 2 x.vcoreMv.toNat ++ leBytes 2 x.granulesFree
    ++ leBytes 2 x.descInUse ++ leBytes 2 x.contextsBusy ++ leBytes 2 x.cmdsOutstanding ++ leBytes 4 0

/-- PACE_BELOW_FLOOR (R514, R515): a mean of 1 ms; the event at most once per second. -/
def paceOp (s : State) (pace vcoreMv : Nat) : State :=
  let s := modTest s fun t => { t with pace := pace }
  let due := match s.test.paceEventAt with | some t => decide (t + 1000000000 ≤ s.upNs) | none => true
  if s.test.paceFloor ≤ pace || !due then s
  else raiseEvent (modTest s fun t => { t with paceEventAt := some s.upNs }) evWatchdog 2 pace s.test.paceFloor vcoreMv

/-! The TEST commands (R519, R520). -/

/-- A loopback point that a link lacks (R503). -/
def lbExists (link lb : Nat) : Bool := if link = 4 then lb = 1 else lb ≤ 2

/-- Condition of a link test at its start (R501). -/
def linkFree (e : CmdEntry) (s : State) : Bool :=
  match argBits e 2 0 with
  | 0 => (ethOf s 0).mode != 0
  | 1 => (ethOf s 1).mode != 0
  | 2 => e.session == .spi && !s.straps.spiOnly
  | 3 => s.role == .single || s.role == .undecided
  | _ =>
    s.part != .loader && !((s.host.fetched.filter fun x => x != e).any fun x => entryFn x = 0x0D)
      && !(s.host.longOps.any fun o => entryFn o.e = 0x0D)

/-- A test's run at its start. -/
def newRun (s : State) (durationMs : Nat) : TestRun :=
  { running := true, endAt := if durationMs = 0 then none else some (s.upNs + durationMs * 1000000), pattern := 0, lb := 0, dir := 0
    lanes := [], kind := 0, channel := 0, profile := 0, offsetKhz := 0, len := 0, intervalUs := 0, count := 0
    counts := List.replicate 6 0, cause := 0, seqTx := 0, seqRx := none, lastTx := none }

/-- Install a run. -/
def setRun (s : State) (r : Nat) (t : TestRun) : State := modTest s fun d => { d with runs := modNth d.runs r fun _ => some t }

def testLinkStart : Cmd where
  args := fun e _ => argBits e 2 0 ≤ 4 && argBits e 5 4 ≤ 2 && lbExists (argBits e 2 0) (argBits e 7 6) && argBits e 9 8 ≤ 2
    && argBits e 63 32 ≤ 3600000
  check := fun _ e s => refuseIf (resourceTested s (argBits e 2 0) || !linkFree e s) stRefusedState
  apply := setter fun e s =>
    let r := argBits e 2 0
    let s := if r < 2 then dropPortFrames (ethLinkOp s r false) r
      else if r = 2 then { losePcie s with host := { (losePcie s).host with pcieUp := false } } else s
    let lane : LaneCheck := { bits := 0, errors := 0, locked := false, losses := 0 }
    setRun s r { newRun s (argBits e 63 32) with
      pattern := argBits e 5 4, lb := argBits e 7 6, dir := argBits e 9 8, lanes := List.replicate (linkLanes r) lane }

/-- The 16 bytes of a lane's result (R504). -/
def laneBytes (l : LaneCheck) : List Byte :=
  leBytes 8 l.bits ++ leBytes 4 l.errors ++ leBytes 4 (natOf l.locked * 2 ^ 31 + l.losses)

def testLinkResult : Cmd where
  args := fun e _ => argBits e 2 0 ≤ 4
  check := fun _ e s => refuseIf (runOf s (argBits e 2 0)).isNone stNotFound
  apply := fun _ e s =>
    let r := argBits e 2 0
    let s := accrueLanes s r
    let lanes := ((runOf s r).map (·.lanes)).getD []
    (if argBit e 3 then modRun s r fun t => { t with lanes := t.lanes.map fun l => { l with bits := 0, errors := 0, losses := 0 } } else s,
      okData (lanes.flatMap laneBytes))

/-- Parameters of a radio test in their ranges (R505, R506, R519, R520). -/
def radioTestArgs (e : CmdEntry) (s : State) : Bool :=
  let b := argBits e 1 0
  let k := argBits e 4 2
  let off := argSigned e 63 48
  let lim : Int := if b = 2 then 25000 else 8000
  b ≤ 2 && k ≤ 4 && argBit e 5 == (k == 2) && argBits e 31 16 ≤ channelMax b && (k != 0 || (-lim ≤ off && off ≤ lim))
    && (k = 0 || match profileOf s (argBits e 47 32) with
        | none => false
        | some p => profileFitsBand p b && (k = 1 || (21 ≤ argBits e 74 64 && argBits e 74 64 ≤ p.maxPsdu)))
    && ((k != 2 && k != 3) || 100 ≤ argBits e 95 80)

/-- Conditions of a radio test at its start (R501, R509). -/
def radioTestFree (e : CmdEntry) (s : State) : Bool :=
  let k := argBits e 4 2
  let gated := k = 0 || k = 1 || k = 3
  !resourceTested s (5 + argBits e 1 0) && bandState s (argBand e) == .off
    && (!gated || (s.pair.gateOpen && s.role != .standby && s.role != .undecided))

def testRadioStart : Cmd where
  args := radioTestArgs
  check := fun _ e s => refuseIf (!radioTestFree e s) stRefusedState
  apply := setter fun e s =>
    let b := argBits e 1 0
    let k := argBits e 4 2
    let s := (domFabric :: domNear :: domRef :: [domBandA + b]).foldl wakeDomain s
    let s := setRun s (5 + b) { newRun s (argBits e 159 128) with
      kind := k, lb := argBits e 5 5, channel := argBits e 31 16, profile := argBits e 47 32, offsetKhz := argSigned e 63 48
      len := argBits e 74 64, intervalUs := argBits e 95 80, count := argBits e 127 96 }
    if k = 0 || k = 1 then modTx s (argBand e) fun x => { x with paEn := true, trSw := true, lnaByp := true }
    else if k = 3 then s
    else
      match freeCtx s (((profileOf s (argBits e 47 32)).map isOfdm).getD false) (fun c => c.purpose == .background) with
      | some i =>
        setCtx s i (armed s
          { Ctx.idle with
            purpose := .test, band := b, channel := argBits e 31 16, profile := argBits e 47 32, prio := 6, listenStart := 0
            listenEnd := 2 ^ 64, frames := (ctxOf s i).frames } .armed)
      | none => s

def testRadioResult : Cmd where
  args := fun e _ => bandArgOk e
  check := fun _ e s => refuseIf (runOf s (5 + argBits e 1 0)).isNone stNotFound
  apply := fun _ e s =>
    let r := 5 + argBits e 1 0
    match runOf s r with
    | some t =>
      (if argBit e 2 then modRun s r fun t => { t with counts := List.replicate 6 0 } else s,
        okData ((t.counts ++ [t.cause]).flatMap (leBytes 4)))
    | none => (s, refuse stNotFound)

def testStop : Cmd where
  apply := fun _ e s =>
    let named := (List.range 8).filter fun r => argBit e r && resourceTested s r
    (named.foldl (fun s r => stopTest s r causeStop) s, okFigures [((named.map fun r => 2 ^ r).foldl (· + ·) 0 : Nat)])

def testStatus : Cmd where
  apply := getter fun _ s =>
    let running := (((List.range 8).filter (resourceTested s)).map fun r => 2 ^ r).foldl (· + ·) 0
    let row : List Int := [running, s.test.resetCause, s.test.kwdStarts, s.test.pace].map Int.ofNat
    okFigures row

def testTelemetryRead : Cmd where
  args := fun e _ => 1 ≤ argBits e 10 0 && argBits e 10 0 ≤ 1024
  apply := getter fun e s => okData ((s.test.telemetry.take (argBits e 10 0)).flatMap telemetryBytes)

def testTelemetrySet : Cmd where
  args := fun e _ => 10 ≤ argBits e 15 0 && argBits e 15 0 ≤ 60000
  apply := setter fun e s => modTest s fun t => { t with telemMs := argBits e 15 0, telemAt := s.upNs + argBits e 15 0 * 1000000 }

def testWatchdogSet : Cmd where
  args := fun e _ => 10 ≤ argBits e 15 0 && argBits e 15 0 ≤ 10000 && 100 ≤ argBits e 31 16 && argBits e 31 16 ≤ 2000
  apply := setter fun e s => modTest s fun t => { t with kwdMs := argBits e 15 0, paceFloor := argBits e 31 16 }

def testFaultInject : Cmd where
  args := fun e _ =>
    let t := argBits e 23 4
    match argBits e 1 0 with
    | 0 | 1 => t < 262144
    | 2 => t < 64
    | _ => 1 ≤ t && t ≤ 127
  check := fun _ e s =>
    let t := argBits e 23 4
    match argBits e 1 0 with
    | 0 | 1 => refuseIf (nodeAt s t).isNone stNotFound
    | 2 => none
    | _ => refuseIf ((slotOf s t).state != .loaded) stNotFound
  apply := setter fun e s =>
    let t := argBits e 23 4
    match argBits e 1 0 with
    | 0 => modNodes s fun d => { d with errors := mapSet d.errors (8 * t + argBits e 26 24) (mapGetD false d.errors (8 * t + argBits e 26 24)) }
    | 1 => modNodes s fun d => { d with errors := mapSet d.errors (8 * t + argBits e 26 24) true }
    | 2 => resetFifo s (.shaping t) 2
    | _ => modSlot s t fun x => { x with share0 := x.share0 ^^^ 1#256 }

end Sys2Proof.Machine
end

