-- ==== Sys2Proof/Machine/Encrypt.lean ====
section
/-! DEFINITION. What a launch carries and its encryption (R36 step 5, R37, R116, R252, R298, R337, R358, R359). -/

namespace Sys2Proof.Machine

/-! Time uncertainty on the air. -/

/-- The part's time is uncertain: the latch of R412 and R427, or U_time at or above `unc_threshold_us` (R252). -/
def timeUncertain (s : State) : Bool := s.clk.uncertain || !uTimeBelow s s.orbit.uncThresholdUs

/-- `time_depth` of the beacons (R252): 0 while locked to PTP or 1PPS, otherwise the parent's plus 1; without a parent 255
(log 51). -/
def timeDepth (s : State) : Nat :=
  if s.clk.servo == .locked && decide (1 ≤ s.clk.source) && decide (s.clk.source ≤ 3) then 0
  else match s.orbit.parentDepth with | some d => min 255 (d + 1) | none => 255

/-- Joins are open: the beacon's band holds a JOIN cell (R124; log 51). -/
def joinsOpen (s : State) (band : Nat) : Bool := s.orbit.cells.any fun c => c.kind == cellJoin && c.band == band

/-- Payload of a beacon of slot `asn` (R124, R252, R374). -/
def beaconPayload (s : State) (band asn : Nat) : List Byte :=
  let unc := timeUncertain s
  let flags := natOf (s.orbit.state == .holdover) + natOf unc * 2 + natOf (joinsOpen s band) * 4 + natOf s.crypt.roll.isSome * 8
  let u := if !unc then 0 else match uTime s with | some u => min (ceilRat (u / 1000)).toNat 0xFFFFFFFF | none => 0xFFFFFFFF
  leBytes 5 asn ++ [BitVec.ofNat 8 flags] ++ leBytes 2 s.orbit.schedVersion ++ [s.crypt.epochs.genCur]
    ++ leBytes 1 ((s.crypt.roll.map (·.newGen)).getD 0) ++ leBytes 8 (slotBoundary s asn).toNat ++ leBytes 4 u
    ++ leBytes 2 s.orbit.slotLen ++ leBytes 2 s.orbit.frameLen ++ leBytes 1 (timeDepth s) ++ [0]

/-! What a launch carries. -/

/-- A launch's frame before its protection. -/
structure Content where
  ftype : Nat
  dest : W32
  path : List W32
  stream : Stream
  /-- EUI of the key (the all-ones value for the group key) and its generation. -/
  eui : W64
  gen : Byte
  payload : List Byte
  ackReq : Bool
  pending : Bool
  /-- Least MIC code (R371). -/
  micMin : Nat
deriving DecidableEq, Repr

/-- Frames beside `r` wait for an address (R116). -/
def moreFor (s : State) (a : W32) (r : Nat) : Bool := (framesFor s a).any fun p => p.1 != r && !p.2.doomed && !p.2.onAir

/-- Content of a frame for one node (R351, R359): none while its generation is unknown. -/
def nodeContent (s : State) (a : W32) (ftype : Nat) (payload : List Byte) (ackReq pending routed : Bool) (micMin : Nat) : Option Content :=
  (lookupAddr s a).bind fun i => (nodeAt s i).bind fun n =>
    let path := if routed then sourceRoute s n else some []
    path.bind fun path =>
      if n.keyGen = 0xFF then none
      else some { ftype := ftype, dest := a, path := path, stream := .node i, eui := n.eui, gen := n.keyGen, payload := payload
                  ackReq := ackReq, pending := pending, micMin := micMin }

/-- Content of a group frame (R352, R359). -/
def groupContent (s : State) (ftype : Nat) (payload : List Byte) : Content :=
  { ftype := ftype, dest := addrBroadcast, path := [], stream := .group, eui := groupEui, gen := s.crypt.epochs.genCur
    payload := payload, ackReq := false, pending := false, micMin := 0 }

/-- Content of a launch that the part protects; none for direct launches and frames that cannot go. -/
def launchContent (s : State) (l : Launch) : Option Content :=
  match l.kind with
  | .ack => nodeContent s l.addr ftAck l.payload false false false 0
  | .challenge => nodeContent s l.addr ftControl l.payload false false false 1
  | .beacon => some (groupContent s ftBeacon (beaconPayload s l.band l.asn))
  | .campaign => some (groupContent s ftCampaign l.payload)
  | .direct | .test => none
  | .data | .sounding | .broadcast | .joinRsp =>
    (l.record.bind fun r => (recordOf s r).map fun f => (r, f)).bind fun (r, f) =>
      if f.dest == addrBroadcast then some (groupContent s f.ftype f.payload)
      else if f.ftype = ftJoinRsp then
        some { ftype := ftJoinRsp, dest := addrJoinRsp, path := [], stream := .group, eui := f.eui, gen := f.keyGen
               payload := f.payload, ackReq := false, pending := false, micMin := 0 }
      else nodeContent s f.dest f.ftype f.payload f.ackReq (moreFor s f.dest r) true 0

/-! Encryption. -/

/-- How an encryption ends. -/
inductive Sealed where
  | done (l : Launch)
  /-- The key is stale, absent or spent (R337). -/
  | noKey
  /-- The frame waits: no counter to be had, or its node's generation is unknown (R141, R359, R375). -/
  | waits
deriving DecidableEq, Repr

/-- Encrypt a launch (R36 step 5, R354): its key, then its counter, then CCM*. -/
def sealLaunch (s : State) (l : Launch) : State × Sealed :=
  match if masksOut s then none else launchContent s l, profileOf s l.profile with
  | some k, some p =>
    match resolveKey s k.eui k.gen.toNat with
    | (s, .no _) => (s, .noKey)
    | (s, .key key) =>
      match takeCounter s k.stream with
      | (s, none) => (s, .waits)
      | (s, some c) =>
        let psdu := buildPsdu s p k.ftype k.dest k.path k.gen c key k.payload k.ackReq k.pending k.micMin
        (frameLane s, .done { l with psdu := some psdu, counter := c, keyGen := k.gen, pendingBit := k.pending })
  | _, _ => (s, .waits)

/-- Replace a launch, queued or in its ramp-up, by its encrypted form. -/
def setLaunch (s : State) (l : Launch) : State :=
  let put (q : Launch) : Launch := if q.id == l.id then { l with carrier := q.carrier, tA := q.tA } else q
  modTx s (bandOfD l.band) fun x => { x with queue := x.queue.map put, burst := x.burst.map put }

/-- A launch of a band's queue or burst. -/
def findLaunch (s : State) (id : Nat) : Option Launch :=
  (s.radio.tx.toList.flatMap fun x => x.queue ++ x.burst).find? (·.id == id)

/-! Acknowledgements (R191, R192, R243). -/

/-- The chain may launch at all: its band ON, the gate open, the engine past ACQUIRING (R199, R203, R217). -/
def chainLaunches (s : State) (b : Band) : Bool := bandState s b == .on && s.pair.gateOpen && enginePlans s

/-- The chain can carry an acknowledgement at its tL − 20 µs (R191): in saturated mode it is neither calibrating nor in a burst; a
linear burst holds it beside its active carriers (R181). The queue takes it (R187). -/
def chainCarries (s : State) (b : Band) (l : Launch) : Bool :=
  let x := s.radio.tx.get b
  let t0 := l.tL - 20000
  chainLaunches s b && decide (x.queue.length < 64) &&
    if x.linear then
      let live := activeCarriers x t0
      (x.lo.map fun lo => inSpan (bandNum b) lo l.channel).getD false && decide (live.length < 4) && live.all (mayShare s x l)
    else x.lo == some l.channel && x.calLo.isNone && decide (x.calEnd.getD 0 ≤ t0) && (activeCarriers x t0).isEmpty

/-- The decision to acknowledge is ready: the acknowledgement is encrypted (R192, R358). -/
def decideAck (s : State) (id : Nat) : State :=
  match findLaunch s id with
  | none => s
  | some l =>
    match sealLaunch s { l with decided := true } with
    | (s, .done l) => setLaunch s l
    | (s, _) => s

/-- Instant at which the last PSDU bit of a reception passed the antenna (t0 of R30). -/
def lastBitNs (p : AirProfile) (band : Nat) (r : Reception) : Nat :=
  r.det.endNs + (overheadNs p band + psduNs p band r.length (p.mode == 1 && r.rateHint % 2 == 0) r.symbolBits - refPointNs p band)

/-- PSDU bytes of an acknowledgement launch: an ACK's (R123), or a CHALLENGE's under at least an 8-byte MIC (R369, R371). -/
def ackLaunchLen (p : AirProfile) (kind : LaunchKind) : Nat :=
  if kind == .challenge then 15 + 16 + micBytes (max p.micLen 1) + fcsLen (if isOfdm p then 1 else p.fcsType) else ackPsduLen p

/-- Airtime of an acknowledgement launch: an ACK's PSDU goes in two levels (R111). -/
def ackLaunchAir (p : AirProfile) (band : Nat) (kind : LaunchKind) : Nat :=
  overheadNs p band + psduNs p band (ackLaunchLen p kind) (kind == .ack) 104

/-- Queue an acknowledgement launch for a frame whose last bit passed at `t0` (R191): none where the chain cannot carry it or a dwell
account refuses it (R257). Its decision is still to come (R192). -/
def queueAck (s : State) (kind : LaunchKind) (b : Band) (ch profile : Nat) (addr : W32) (t0 : Nat) : State × Option Nat :=
  let s := calStarts s b
  match profileOf s profile with
  | none => (s, none)
  | some p =>
    let at_ := ((lookupAddr s addr).bind (nodeAt s)).map (·.attenDb)
    let l := { blankLaunch s kind (bandNum b) (t0 + 20000) with
               channel := ch, lo := ((s.radio.tx.get b).lo).getD ch, profile := profile, attenDb := at_.getD 0
               airNs := ackLaunchAir p (bandNum b) kind, addr := addr }
    if !chainCarries s b l then (txCount s b tcAckNoSynth, none)
    else
      match dwellRefuser s b ch l.tL l.airNs with
      | some (r, key, v) => (dwellDeny s b r key v, none)
      | none => (enqueueLaunch (takeLaunchId s) l, some l.id)

/-- What an acknowledgement launch is to carry. -/
def fillAck (s : State) (id : Nat) (kind : LaunchKind) (payload : List Byte) : State :=
  match findLaunch s id with
  | none => s
  | some l => setLaunch s { l with kind := kind, payload := payload, airNs := ((profileOf s l.profile).map fun p => ackLaunchAir p l.band kind).getD l.airNs }

/-- A follow-up launch for a node stands in the plan of this slot (R243). -/
def followPlanned (s : State) (a : W32) : Bool :=
  s.radio.tx.toList.any fun x => x.queue.any fun l => l.followUp && l.addr == a && decide (nowNs s < l.tL)

/-- The node will listen at its follow-up (R226). -/
def tellFollow (s : State) (a : W32) : State :=
  modOrbit s fun o => { o with plans := o.plans.map fun p =>
    { p with contacts := p.contacts.map fun c => if p.handed && c.addr == a then { c with follow := true } else c } }

/-- The ACK of an uplink goes into its launch (R123, R243): `timing_offset` is round(e) in µs, 0 where the frame gave no measurement
(log 52). -/
def ackUplink (s : State) (u : Uplink) (id : Nat) : State :=
  let us : Int := match u.e with | some e => roundRat ((e : Rat) / 1000) | none => 0
  let follow := followPlanned s u.src
  let flags := natOf follow + natOf (timeUncertain s) * 2
  let s := fillAck s id .ack (ackPayload u.counter us flags)
  if follow then tellFollow s u.src else s

/-- The CHALLENGE in place of the acknowledgement (R369). -/
def challengeUplink (s : State) (u : Uplink) (id : Nat) : State := fillAck s id .challenge (chalPayload s u.eui u.counter)

end Sys2Proof.Machine
end

