-- ==== Sys2Proof/Machine/Recv.lean ====
section
/-! DEFINITION. Reception up to the PSDU: AGC (R152, R153), the wake receiver (R174, R175), detection, capture, header decision,
carrier drop (R158 to R163), cut-through pieces (R360, R361). Event instants are instants at the antenna (log 44). -/

namespace Sys2Proof.Machine

/-! Signal strength. -/

/-- Channel power referred to the antenna (R167). `q` is the measured value in 0.25 dBm. -/
def rssiOf (s : State) (b : Band) (q : Int) : Int :=
  let r := s.radio.rx.get b
  q - r.extGainQ + r.rssiOffsetQ

/-- `lqi` of an SNR in 0.25 dB (R167). -/
def lqiOf (snrQ : Int) : Nat := (clampInt (snrQ + 40) 0 255).toNat

/-! AGC. -/

/-- Some TL-OFDM context of the band is past its long training (R153). -/
def ofdmUnderWay (s : State) (b : Band) : Bool :=
  s.radio.ctxs.any fun x => x.2.band == bandNum b && ctxBusy x.2 && ((profileOf s x.2.profile).map isOfdm).getD false

/-- AGC_ATTACK (R152): 6 dB less where there is gain to take; a clipped sample acts even on a frozen gain, which then stays lowered
until the next RADIO_AGC_SET (DESIGN CHOICE, log 89). -/
def agcAttackOp (s : State) (b : Band) (clip : Bool) : State :=
  let s := if clip then rxCount s b rxAgcClip else s
  let r := s.radio.rx.get b
  if !clip && r.agcMode = 2 then s
  else
    let s := modRx s b fun r => { r with agcGain := r.agcGain - 6, agcAt := s.upNs }
    if r.agcGain = 0 then s else rxCount s b rxAgcAttack

/-- AGC_RELEASE (R152, R153): after `agc_release_us` of quiet 2 dB more, up to 60; none with a fixed gain, or while a TL-OFDM reception
holds it. The quiet time counts from the last gain step on. -/
def agcReleaseOp (s : State) (b : Band) : State :=
  let r := s.radio.rx.get b
  if r.agcMode = 2 || (r.agcMode = 1 && ofdmUnderWay s b) || s.upNs < r.agcAt + r.agcRelease * 1000 then s
  else modRx s b fun r => { r with agcGain := min 60 (r.agcGain + 2), agcAt := s.upNs }

/-! The wake receiver. -/

/-- `EV_WAKE_PATTERN` (R175). -/
def wakeEvent (s : State) (x : Nat × Nat) : State := raiseEvent s evWakePattern x.1 x.2 0 0

/-- Wake events that waited for Ephemeris to resume (R175). -/
def flushWake (s : State) : State :=
  s.radio.wake.held.foldl wakeEvent (modRadio s fun r => { r with wake := { r.wake with held := [] } })

/-- WAKE_PATTERN_MATCH (R173 to R175): a window of the wake receiver that matches. Band B's own transmission blinds it. The RTC
count is an open value (log 4). -/
def wakeMatchOp (s : State) (window : W32) : State :=
  let w := s.radio.wake
  let miss := diffBits window.toNat w.pattern.toNat
  let quiet := match w.lastAt with | some t => decide (s.upNs < t + 8000000) | none => false
  if !w.enable || w.tol < miss || quiet || !(s.radio.tx.get .bandB).burst.isEmpty then s
  else
    let (c, s) := drawBelow s (2 ^ 32)
    let s := rxCount s .bandB rxWakeMatches
    let s := modRadio s fun r => { r with wake := { r.wake with lastRtc := BitVec.ofNat 32 c, lastAt := some s.upNs } }
    let s := if !w.actEvent then s
      else if s.clk.frozen.isSome then modRadio s fun r => { r with wake := { r.wake with held := r.wake.held ++ [(c, miss)] } }
      else wakeEvent s (c, miss)
    wakeMask s w.domainMask.toNat

/-! Detection. -/

/-- A context listens now: ARMED inside its listen on a receiving band, or a checker of a band test (R157, R506). -/
def listens (s : State) (i : Nat) : Bool :=
  let c := ctxOf s i
  let open0 := c.purpose == .reserved || c.purpose == .test
  c.state == .armed && (c.purpose == .test || bandState s (bandOfD c.band) == .on)
    && (open0 || (decide (c.listenStart ≤ nowNs s) && decide (nowNs s < c.listenEnd)))

/-- The window of a band retunes (R151). -/
def retuning (s : State) (b : Band) : Bool := match (s.radio.rx.get b).retuneEnd with | some t => decide (nowNs s < t) | none => false

/-- A frame began before the late plan that armed its context arrived (R44). -/
def beganEarly (s : State) (c : Ctx) (p : AirProfile) : Bool :=
  c.lateFrom != 0 && decide (antennaNs s (bandOfD c.band) < c.lateFrom + refPointNs p c.band)

/-- A detection whose reference point the ADC island of its band captures now (R19, R168; log 44). -/
def detection (s : State) (b : Band) (rssiQ : Int) : Detection :=
  { endNs := antennaNs s b, endFrac := s.clk.timeFrac, rssiQ := rssiQ }

/-- A reception that begins with a detection. -/
def reception (d : Detection) : Reception :=
  { det := d, decidedNs := 0, held := none, length := 0, whiten := false, fcsType := 0, rateHint := 0, toneMap := 0, symbolBits := 0
    bytes := [], posted := [], cut := none, sounder := none, stalled := none }

/-- A context locks; a sync word that ends inside a retune is lost (R151). -/
def lockCtx (s : State) (i : Nat) (d : Detection) : State :=
  let c := ctxOf s i
  let b := bandOfD c.band
  if retuning s b then rxCount s b rxRetuneLost
  else rxCount (setCtx s i { c with state := .locked, rx := some (reception d) }) b rxSyncDetect

/-- SYNC_DETECT (R158). `rssiQ` is measured at the input; −130 dBm disables the threshold. -/
def syncDetectOp (s : State) (i bitErrors preambleBits : Nat) (rssiQ : Int) : State :=
  let c := ctxOf s i
  let b := bandOfD c.band
  let x := c.set
  match profileOf s c.profile with
  | none => s
  | some p =>
    let q := rssiOf s b rssiQ
    if !listens s i || isOfdm p || beganEarly s c p || preambleBits < x.preQual || p.syncTol < bitErrors
      || (x.syncRssiMinQ != -520 && q < x.syncRssiMinQ) then s
    else lockCtx s i (detection s b q)

/-- OFDM_DETECT (R159): the autocorrelation in hundredths. -/
def ofdmDetectOp (s : State) (i autocorr : Nat) (rssiQ : Int) : State :=
  let c := ctxOf s i
  let b := bandOfD c.band
  match profileOf s c.profile with
  | none => s
  | some p =>
    if !listens s i || !isOfdm p || beganEarly s c p || autocorr ≤ c.set.ofdmThr then s
    else lockCtx s i (detection s b (rssiOf s b rssiQ))

/-! Entries of the diagnostic ring. -/

/-- `err_report` of a receive ring (R59, R80). -/
def errReport (s : State) (ring : Nat) : Bool := bitOf (nth RxRing.reset s.host.rx ring).regs.ctrl.toNat 5

/-- An entry about a reception that names no node. What the manual does not define for it is an open value (log 4): the link
quality unless the whole PSDU gave one, and the fields of the security header. -/
def diagEntry (s : State) (i : Nat) (r : Reception) (status : Byte) (counter lqi : Option Nat) (data : List Byte) : State :=
  let c := ctxOf s i
  let ring := c.set.diagRing
  if status != fsCaptured && !errReport s ring then s
  else
    let (k, s) := drawNat s
    let ctr := match counter with | some h => h % 2 ^ 24 + 2 ^ 24 * (k % 256) | none => k
    (rxWrite s ring fun buf ph =>
      { buf := buf, phase := ph, last := true, frameStatus := status, length := data.length
        mode := ((profileOf s c.profile).map (·.mode)).getD 0, context := i, band := c.band, nodeValid := false
        nodeIndex := k / 2 ^ 32 % 2 ^ 18, tsNs := BitVec.ofNat 64 r.det.endNs, tsFrac := r.det.endFrac
        keyGen := BitVec.ofNat 8 (k / 2 ^ 50), lqi := BitVec.ofNat 8 (lqi.getD (k / 2 ^ 58)), rssi := rssiField r.det.rssiQ
        frameCounter := BitVec.ofNat 32 ctr, srcAddr := BitVec.ofNat 32 (k / 2 ^ 66), chunkSeq := 0, channel := c.channel
        frameId := 0, data := data }).1

/-! Capture (R160, R161). -/

/-- De-whiten on-air bytes that begin at PSDU byte `at_` (R114). -/
def dewhiten (p : AirProfile) (on : Bool) (at_ : Nat) (bs : List Byte) : List Byte :=
  if on then (pn9 p.pn9Seed (List.replicate at_ 0 ++ bs)).drop at_ else bs

/-- A detection of the secondary before the primary's header decision: it takes over, or it is held (R160). -/
def capturePre (s : State) (i : Nat) (r : Reception) (d : Detection) (strong : Bool) : State :=
  let c := ctxOf s i
  if strong then rxCount (setCtx s i { c with state := .locked, rx := some (reception d) }) (bandOfD c.band) rxCapturePre
  else setCtx s i { c with rx := some { r with held := some d } }

/-- A detection after it (R161): kept away, or under `capture_policy` 1 it takes over, the bytes received whole so far reported. -/
def capturePost (s : State) (i : Nat) (r : Reception) (d : Detection) (p : AirProfile) (strong : Bool) (bytes : List Byte) : State :=
  let c := ctxOf s i
  let b := bandOfD c.band
  if c.set.captureSwitch && strong && c.state == .psdu && !isOfdm p then
    let got := dewhiten p r.whiten 0 (bytes.take (arrivedBytes s c r))
    rxCount (setCtx (diagEntry s i r fsCaptured none none got) i { c with state := .locked, rx := some (reception d) }) b rxCapturePost
  else rxCount s b rxCaptureIgnored

/-- A TL-OFDM detection whose short training ended by the primary's decision, though its long training ended after it (R130, R160). -/
def judgedPre (p : AirProfile) (r : Reception) (d : Detection) (band : Nat) : Bool :=
  isOfdm p && decide (d.endNs ≤ r.decidedNs + 2 * ofdmSymbolNs band)

/-- SECONDARY_DETECT (R160, R161): pre-header or post-header. `bytes` are those of the PSDU received so far, as they stand on the air. -/
def secondaryDetectOp (s : State) (i : Nat) (rssiQ : Int) (bytes : List Byte) : State :=
  let c := ctxOf s i
  let b := bandOfD c.band
  match c.rx, profileOf s c.profile with
  | some r, some p =>
    let d := detection s b (rssiOf s b rssiQ)
    let strong := decide (r.det.rssiQ + 4 * (c.set.captureMargin : Int) ≤ d.rssiQ)
    if !ctxBusy c || r.stalled.isSome then s
    else
      let s := rxCount s b rxSyncDetect
      if c.state == .locked then capturePre s i r d strong
      else if judgedPre p r d c.band then
        if strong then capturePre (poisonCut s i) i r d true else rxCount s b rxOverlapLost
      else capturePost s i r d p strong bytes
  | _, _ => s

/-! Header decision (R112, R132, R163). -/

/-- Fields of a header that passes. -/
structure HdrFields where
  length : Nat
  whiten : Bool
  fcsType : Nat
  rateHint : Nat
  toneMap : Nat
  symbolBits : Nat
deriving DecidableEq, Repr

/-- A GFSK header (R109 to R112). -/
def gfskHeader (p : AirProfile) (h : Nat) : Option HdrFields :=
  let body := bitsOf h 15 0
  let hint := bitsOf h 15 13
  let len := bitsOf h 10 0
  if hcs8 (leBytes 2 body) != bitsOf h 23 16 || len = 0 || 6 ≤ hint || (hint % 2 = 1 && p.mode = 0) || p.maxPsdu < len then none
  else some { length := len, whiten := bitOf h 12, fcsType := natOf (bitOf h 11), rateHint := hint, toneMap := 0, symbolBits := 0 }

/-- A signal field (R132): the answer also says whether the tone map alone is missing. -/
def signalHeader (c : Ctx) (h : Nat) : Option HdrFields × Bool :=
  let len := bitsOf h 10 0
  let id := bitsOf h 14 11
  if hcs8 (leBytes 3 (bitsOf h 17 0)) != bitsOf h 25 18 || len = 0 || bitsOf h 17 16 != 0 then (none, false)
  else
    match if id = 0 then some mapZero else mapGet c.maps id with
    | none => (none, true)
    | some m =>
      (some { length := len, whiten := true, fcsType := natOf (bitOf h 15), rateHint := 0, toneMap := id, symbolBits := mapBits m }, false)

/-- A header that fails (R163): the entry, then the held detection goes on as primary, or the context re-arms (R160). -/
def headerFails (s : State) (i : Nat) (r : Reception) (h : Nat) : State :=
  let c := ctxOf s i
  let b := bandOfD c.band
  let s := diagEntry (rxCount s b rxHdrFail) i r fsHdrFail (some h) none []
  let s := if c.purpose == .test then testCount s (5 + c.band) 2 1 else s
  match r.held with
  | some d => setCtx s i { c with rx := some (reception d) }
  | none => if c.purpose == .test then setCtx s i (armed s c .armed) else ctxRest s i

/-- HEADER_DECIDE (R163): the 24 header bits of a GFSK frame, or the soft values of a signal symbol's 104 data tones, whose copies the
context combines (R132). -/
def headerDecideOp (s : State) (i : Nat) (hdr : BitVec 26) (soft : List Int) : State :=
  let c := ctxOf s i
  let b := bandOfD c.band
  match c.rx, profileOf s c.profile with
  | some r, some p =>
    if c.state != .locked then s
    else
      let (tie, s) := if isOfdm p then drawNat s else (0, s)
      let h := if isOfdm p then combineCopies soft tie else hdr.toNat % 2 ^ 24
      let (f, unknown) := if isOfdm p then signalHeader c h else (gfskHeader p h, false)
      match f with
      | none => headerFails (if unknown then airCount s b 5 else s) i r h
      | some f =>
        let s := if r.held.isSome then rxCount s b rxOverlapLost else s
        let q := { r with decidedNs := antennaNs s b, held := none, length := f.length, whiten := f.whiten, fcsType := f.fcsType, rateHint := f.rateHint
                          toneMap := f.toneMap, symbolBits := f.symbolBits, posted := s.host.rx.map fun x => if ringOn x.regs && x.regs.active then x.posted.length else 0 }
        setCtx s i { c with state := .psdu, rx := some q }
  | _, _ => s

/-- A frame whose FCS fails (R164), with the bytes received, de-whitened. -/
def fcsFails (s : State) (i : Nat) (r : Reception) (lqi : Option Nat) (bytes : List Byte) : State :=
  let b := bandOfD (ctxOf s i).band
  poisonCut (diagEntry (rxCount s b rxFcsFail) i r fsFcsFail none lqi bytes) i

/-- CARRIER_DROP (R162): the bytes are those received so far, as they stand on the air. -/
def carrierDropOp (s : State) (i : Nat) (bytes : List Byte) (rssiQ : Int) : State :=
  let c := ctxOf s i
  let b := bandOfD c.band
  match c.rx, profileOf s c.profile with
  | some r, some p =>
    if c.state != .psdu || r.stalled.isSome || decide (r.det.rssiQ - 4 * (c.set.carrierDrop : Int) ≤ rssiOf s b rssiQ) then s
    else
      let s := fcsFails (rxCount s b rxCarrierLost) i r none (dewhiten p r.whiten 0 (bytes.take r.length))
      if c.purpose == .test then setCtx s i (armed s c .armed) else ctxRest s i
  | _, _ => s

/-- CONTEXT_LISTEN_END (R157). -/
def listenEndOp (s : State) (i : Nat) : State :=
  let c := ctxOf s i
  if (c.state == .armed || c.state == .blanked) && c.purpose != .test && !ctxReserved s i && decide (c.listenEnd ≤ nowNs s) then ctxIdle s i
  else s

/-! Cut-through (R360, R361). -/

/-- A node's frame under verification: key and the generation rule that admits it. -/
def ctKey (s : State) (h : MacHdr) (n : NodeEntry) : State × Option (List Byte) :=
  if h.keyGen != n.keyGen || (bindingOf s h.keyGen.toNat).isNone then (s, none)
  else
    match resolveKey s n.eui h.keyGen.toNat with
    | (s, .key k) => (s, some k)
    | (s, .no _) => (s, none)

/-- The payload bytes of a frame that have arrived, decrypted. -/
def ctPlain (key : List Byte) (eui : W64) (h : MacHdr) (bytes : List Byte) (len fcsType : Nat) : List Byte :=
  let stop := len - hdrMicLen h.fc - fcsLen fcsType
  let c := (bytes.take stop).drop h.len
  ctrXor key (frameNonce eui h.counter (securityLevel true (hdrMicCode h.fc))) (ceilDiv c.length 16) 1 c

/-- Begin a cut-through series once the first granule is complete: its conditions (R360). `head` is that granule, de-whitened. -/
def ctBegin (s : State) (i : Nat) (c : Ctx) (r : Reception) (p : AirProfile) (head : List Byte) : State :=
  let h := parseMac head
  let whole := head ++ List.replicate (r.length - head.length) 0
  let sound := isOfdm p && hdrType h.fc = ftData && hdrEnc h.fc && decide (s.crypt.ctMinLen ≤ r.length) && h.dest == s.air.routerAddr
    && (macCheck (micBytes p.micLen) (fcsLen r.fcsType) (fun _ => true) whole).isNone && r.cut.isNone
  let s := if sound then passAddr s h.src else s
  match if sound then lookupAddr s h.src else none with
  | none => s
  | some k =>
    let s := touchHit s k
    match nodeAt s k with
    | none => s
    | some n =>
      if !bitOf s.crypt.ctMask n.rxRing || n.coldChal || decide (h.counter.toNat ≤ n.rxCounter.toNat) || underRepair s k then s
      else
        match ctKey s h n with
        | (s, none) => s
        | (s, some key) =>
          if 0x40 ≤ ((ctPlain key n.eui h head r.length r.fcsType).headD 0xFF).toNat then s
          else if nth 0 r.posted n.rxRing < ceilDiv r.length 256 + 1 then
            cryptCount s xcCtFallback 1
          else
            let id := s.host.frameId + 1
            let s := { s with host := { s.host with frameId := id } }
            let cut : CutRx := { frameId := id, ring := n.rxRing, index := k, keyGen := h.keyGen, counter := h.counter, src := h.src, pieces := 0, live := true }
            cryptCount (setCtx s i { c with rx := some { r with posted := [], cut := some cut } }) xcCtFrames 1

/-- Write the next piece: granule `pieces` of the de-whitened bytes, decrypted, without MIC and FCS (R361). -/
def ctPiece (s : State) (i : Nat) (bytes : List Byte) : State :=
  let c := ctxOf s i
  match c.rx.bind fun r => r.cut.map fun k => (r, k) with
  | none => s
  | some (r, k) =>
    match nodeAt s k.index with
    | none => s
    | some n =>
      let h := parseMac bytes
      match ctKey s h n with
      | (s, none) => s
      | (s, some key) =>
        let plain := bytes.take h.len ++ ctPlain key n.eui h bytes r.length r.fcsType
        let data := (plain.drop (k.pieces * 256)).take 256
        let s := setCtx (frameLane s) i { c with rx := some { r with cut := some { k with pieces := k.pieces + 1 } } }
        if !k.live then s
        else
          (rxWrite s k.ring fun buf ph =>
            { buf := buf, phase := ph, last := false, frameStatus := fsProvisional, length := data.length
              mode := ((profileOf s c.profile).map (·.mode)).getD 0, context := i, band := c.band, nodeValid := true, nodeIndex := k.index
              tsNs := BitVec.ofNat 64 r.det.endNs, tsFrac := r.det.endFrac, keyGen := k.keyGen, lqi := 0, rssi := rssiField r.det.rssiQ
              frameCounter := k.counter, srcAddr := k.src, chunkSeq := k.pieces, channel := c.channel, frameId := k.frameId, data := data }).1

/-- Pieces up to the granules that the received bytes complete; the last granule of the frame ends with it. -/
def ctPieces (s : State) (i : Nat) (bytes : List Byte) (fin : Bool) : State :=
  let c := ctxOf s i
  match c.rx, profileOf s c.profile with
  | some r, some p =>
    let fresh := r.cut.isNone && !r.posted.isEmpty && decide (256 ≤ bytes.length)
    let r' := { r with posted := [] }
    let s := if fresh then ctBegin (setCtx s i { c with rx := some r' }) i c r p (bytes.take 256) else s
    match (ctxOf s i).rx.bind (·.cut) with
    | none => s
    | some k =>
      let full := if fin then ceilDiv bytes.length 256 else bytes.length / 256
      (List.range (full - k.pieces)).foldl (fun s _ => ctPiece s i bytes) s
  | _, _ => s

/-- CUT_THROUGH_PIECE (R166, R361): the bytes of the granule just filled, as they stand on the air. -/
def cutPieceOp (s : State) (i : Nat) (bytes : List Byte) : State :=
  let c := ctxOf s i
  match c.rx, profileOf s c.profile with
  | some r, some p =>
    if c.state != .psdu || !isOfdm p || r.length < r.bytes.length + bytes.length then s
    else
      let all := r.bytes ++ dewhiten p r.whiten r.bytes.length bytes
      let s := setCtx s i { c with rx := some { r with bytes := all } }
      if masksOut s then s else ctPieces s i all (all.length == r.length)
  | _, _ => s

end Sys2Proof.Machine
end

