-- ==== Sys2Proof/Machine/Uplink.lean ====
section
/-! DEFINITION. The uplink walk (R30 to R35): MAC checks (R122), lookup (R273, R274), generation and key (R335, R355), verification
(R354, R356, R357), the counter rule (R246), the challenge (R369), commit (R445), acknowledgement (R191, R243), delivery. -/

namespace Sys2Proof.Machine

/-! Replication of a commit (R445, R446). -/

/-- The 24 bytes of a commit record. A frame without a measurement carries the least e (log 53). -/
def commitBytes (r : CommitRec) : List Byte :=
  leBytes 4 (r.node + r.keyGen.toNat * 2 ^ 18) ++ leBytes 4 r.meshAddr.toNat ++ leBytes 4 r.counter.toNat
    ++ leBytes 4 (unsignedOf 32 r.e) ++ leBytes 8 r.t.toNat

/-- The commit record of an uplink. -/
def commitRec (u : Uplink) : CommitRec :=
  { node := u.index, keyGen := u.keyGen, meshAddr := u.src, counter := u.counter
    e := match u.e with | some e => sat32i e | none => -2147483648, t := BitVec.ofNat 64 u.tsNs }

/-- Hand an accepted frame on: to delivery, or to a thread or engine (R35); a duplicate goes nowhere. -/
def forwardUplink (s : State) (u : Uplink) (dup : Bool) : State :=
  if dup then s
  else if u.ftype = ftData || u.ftype = ftSounding then { s with path := { s.path with uplinks := s.path.uplinks ++ [u] } }
  else { s with path := { s.path with threads := s.path.threads ++ [u] } }

/-- Step 6 of R30 is complete: the acknowledgement is decided and the frame handed on (R33). -/
def releaseUplink (s : State) (u : Uplink) : State :=
  forwardUplink (match u.ack with | some id => decideAck s id | none => s) u false

/-- Step 6: with a READY replica the effects wait for the standby's COMMIT_ACK (R445). -/
def commitUplink (s : State) (u : Uplink) : State :=
  if replicating s then linkHold (pairCount (linkSend s lmCommit (commitBytes (commitRec u))) pcCommitSent 1) (.uplink u)
  else releaseUplink (if copying s then deltaAdd s (.commit (commitRec u)) else s) u

/-! The frame in hand. -/

/-- What the walk knows of a frame: its context, reception, profile, de-whitened PSDU and header. -/
structure Heard where
  ctx : Nat
  c : Ctx
  r : Reception
  p : AirProfile
  psdu : List Byte
  h : MacHdr
  lqi : Nat
  /-- Its acknowledgement launch, if the chain can carry one (R191). -/
  ack : Option Nat
deriving DecidableEq, Repr

/-- The band that heard a frame. -/
def Heard.band (x : Heard) : Band := bandOfD x.c.band

/-- The protected payload, without MIC and FCS. -/
def Heard.sealed (x : Heard) : List Byte := (x.psdu.take (x.psdu.length - fcsLen x.r.fcsType - hdrMicLen x.h.fc)).drop x.h.len

/-- The MIC. -/
def Heard.mic (x : Heard) : List Byte := (x.psdu.take (x.psdu.length - fcsLen x.r.fcsType)).drop (x.psdu.length - fcsLen x.r.fcsType - hdrMicLen x.h.fc)

/-- Verify and decrypt (R354, R357). -/
def Heard.verify (x : Heard) (key : List Byte) (eui : W64) : List Byte × Bool :=
  let enc := hdrEnc x.h.fc
  ccmOpen key (frameNonce eui x.h.counter (securityLevel enc (hdrMicCode x.h.fc))) (x.psdu.take x.h.len) x.sealed x.mic enc

/-- e of R236: only a planned uplink of the sending node, or a DEDICATED cell of it, is measured. -/
def Heard.measured (x : Heard) (addr : W32) : Option Int :=
  match x.c.purpose with
  | .uplink a t | .dedicated a t => if a == addr && hdrType x.h.fc != ftAck then some ((x.r.det.endNs : Int) - t) else none
  | _ => none

/-- The frame as an uplink of a node, or of none: the source of a JOIN_REQ of an unknown node reads as the low 32 bits of its EUI
(DESIGN CHOICE, log 93). -/
def Heard.uplink (x : Heard) (node : Option (Nat × NodeEntry)) (payload : List Byte) (asn : Nat) : Uplink :=
  { band := x.c.band, ctx := x.ctx, channel := x.c.channel, profile := x.c.profile, ftype := hdrType x.h.fc
    index := (node.map (·.1)).getD 0, nodeValid := node.isSome
    src := match node with | some (_, n) => if hdrSrcEui x.h.fc then n.meshAddr else x.h.src | none => BitVec.ofNat 32 (x.h.eui.toNat % 2 ^ 32)
    eui := match node with | some (_, n) => n.eui | none => x.h.eui
    dest := x.h.dest, ackReq := hdrAckReq x.h.fc, keyGen := x.h.keyGen, counter := x.h.counter, header := x.psdu.take x.h.len
    payload := payload, psduLen := x.psdu.length, tsNs := x.r.det.endNs, tsFrac := x.r.det.endFrac, rssiQ := rssiField x.r.det.rssiQ, lqi := x.lqi
    rateHint := x.r.rateHint, toneMap := x.r.toneMap
    cell := match x.c.purpose with | .join k => some (k / 256, k % 256, asn) | _ => none
    launch := none
    parent := match x.c.purpose with | .parent k off => some (k, off) | _ => none
    cut := none, ack := none, acked := false, e := node.bind fun n => x.measured n.2.meshAddr }

/-- The frame is ours to take (R122). -/
def destOurs (s : State) (h : MacHdr) : Bool :=
  h.dest == s.air.routerAddr || h.dest == addrBroadcast
    || (h.dest == addrJoinRsp && hdrType h.fc == ftJoinRsp && s.orbit.parents.any fun c => c.addr == h.src)
    || (s.route.meshRelay && (lookupAddr s h.dest).isSome)

/-- An entry about a frame of a known node, if its ring reports (R80): error entries need `err_report`, duplicates
`ORBIT_REPORT_SET`. -/
def reportNode (s : State) (x : Heard) (i : Nat) (n : NodeEntry) (status : Byte) (payload : List Byte) : State :=
  let want := if status == fsDuplicate then bitOf s.orbit.dupMask n.rxRing else errReport s n.rxRing
  if want then (hostDeliver s (x.uplink (some (i, n)) payload 0) n.rxRing status).1 else s

/-- A frame that is not accepted ends its cut-through series (R361, R362). -/
def cutFails (s : State) (x : Heard) : State := endCut s x.ctx fsTagFail x.lqi

/-- A frame that fails, its payload zeroed (R357; log 54). -/
def reportHidden (s : State) (x : Heard) (i : Nat) (n : NodeEntry) (status : Byte) : State :=
  reportNode s x i n status (List.replicate x.sealed.length 0)

/-! Contact bookkeeping (R246, R248, R250). -/

/-- The contacts of a node in progress have met it. -/
def contactMet (s : State) (a : W32) (stamp : Nat) : State :=
  modOrbit s fun o => { o with plans := o.plans.map fun p =>
    { p with contacts := p.contacts.map fun c =>
      if p.handed && c.addr == a && decide (p.t0 ≤ stamp + 20000000) && decide (stamp ≤ c.untilNs) then { c with met := true } else c } }

/-- A frame was heard where R250 looks for an ADRIFT node: on a planned listen or a RENDEZVOUS cell. -/
def returnsAdrift (x : Heard) (a : W32) : Bool :=
  match x.c.purpose with
  | .uplink b _ | .dedicated b _ | .ack _ b => a == b
  | .rendezvous => true
  | _ => false

/-- An authenticated frame settles which schedule a node follows whose acceptance was not replicated (R445): a frame in a contact of
the old schedule ends the offer, another from its `effective_asn` on takes it. -/
def settleOffer (s : State) (i : Nat) (addr : W32) (stamp : Nat) : State :=
  match s.pair.offers.find? fun o => o.1 == i && o.2.head? == some 0x05#8 with
  | none => s
  | some o =>
    let u := schedOffer addr o.2
    let old := s.orbit.plans.any fun p => p.handed && p.contacts.any fun c => c.addr == addr && decide (p.t0 ≤ stamp + 20000000) && decide (stamp ≤ c.untilNs)
    if s.role != .active || asnAt s stamp < u.effectiveAsn then s
    else
      let s := { s with pair := { s.pair with offers := s.pair.offers.filter fun q => q != o } }
      if old then s else applySched s i u

/-- An authenticated frame from a node (R248): misses clear, its contact is met, the map it came under is in use (R138), and an
uplink restarts the keepalive count (R229). -/
def nodeHeard (s : State) (x : Heard) (i : Nat) (n : NodeEntry) : State :=
  let s := settleOffer s i n.meshAddr x.r.det.endNs
  let s := contactMet (mapUsed s n.meshAddr x.r.toneMap) n.meshAddr x.r.det.endNs
  modNode s i fun n => { n with misses := 0, uplinksDue := if hdrType x.h.fc = ftAck then n.uplinksDue else 0 }

/-- The clock takes the frame's measurement (R237, R240, R250); a node whose frames come through relays gives none (R296). -/
def nodeClock (s : State) (x : Heard) (i : Nat) (n : NodeEntry) (e : Option Int) (acked dup : Bool) : State :=
  let s := if hopSlots s n != some [] then s
    else if n.adrift then
      if returnsAdrift x n.meshAddr then adriftReturn s i (e.map fun e => (e, x.r.det.endNs)) acked else s
    else match e with | some e => clockMeasure s i e x.r.det.endNs acked dup | none => s
  if acked then s else sendContact s i

/-! Key and generation (R335, R355). -/

/-- Which case of R355 a frame meets. -/
inductive GenCase where
  | unmapped | normal | switch | old
deriving DecidableEq, Repr

/-- Generation selection; a JOIN_REQ under the current generation always switches. -/
def genCase (s : State) (n : NodeEntry) (g : Byte) (join : Bool) : GenCase :=
  let r := s.crypt.epochs
  if (bindingOf s g.toNat).isNone then .unmapped
  else if n.keyGen = 0xFF || g = n.keyGen then .normal
  else if g = r.genCur && (join || (r.genPrev != 0xFF && n.keyGen == r.genPrev)) then .switch
  else .old

/-- The entry takes generation `g` (R355, R287): after a switch its outgoing stream restarts at the current epoch;
an entry that knew no generation sends above what its own stream and the generation have used (R37, R41; log 104). -/
def takeGeneration (s : State) (i : Nat) (g : Byte) (c : GenCase) : State :=
  let floor := streamFloor s g.toNat
  match c with
  | .switch =>
    cryptCount (modNode s i fun n => { n with keyGen := g, txEpoch := floor / 1048576, txCount := floor % 1048576 }) xcGenSwitch 1
  | _ =>
    modNode s i fun n =>
      let top := if n.keyGen = 0xFF then max floor (n.txEpoch * 1048576 + n.txCount) else n.txEpoch * 1048576 + n.txCount
      { n with keyGen := g, txEpoch := top / 1048576, txCount := top % 1048576 }

/-- The MIC failed (R356). -/
def tagFails (s : State) (x : Heard) (node : Option (Nat × NodeEntry)) : State :=
  let s := cryptCount s xcTagFail 1
  match node with
  | some (i, n) => cutFails (reportHidden s x i n fsTagFail) x
  | none => s

/-- Resolve, decide and verify a frame of a known node; then go on with its payload. -/
def verifyNode (s : State) (x : Heard) (i : Nat) (n : NodeEntry) (join : Bool) (go : State → List Byte → GenCase → State) : State :=
  let g := x.h.keyGen
  let stale (s : State) : State := cutFails (reportHidden s x i n fsKeyStale) x
  match genCase s n g join with
  | .unmapped =>
    if join || n.keyGen = 0xFF then keyCount s kcUnmapped
    else stale (resolveKey s n.eui g.toNat).1
  | .old => stale (cryptCount s xcGenOld 1)
  | c =>
    let group := x.h.dest == addrBroadcast && !join
    match resolveKey s (if group then groupEui else n.eui) g.toNat with
    | (s, .no _) => stale s
    | (s, .key key) =>
      let (payload, ok) := x.verify key n.eui
      if ok then go (frameLane s) payload c else tagFails (frameLane s) x (some (i, n))

/-! After verification. -/

/-- The launch that an ACK payload of a node acknowledges (R244). -/
def ackedLaunch (s : State) (a : W32) (payload : List Byte) : Option Launch :=
  (s.radio.tx.toList.flatMap (·.awaiting)).find? fun l => l.addr == a && l.counter.toNat == leAt payload 0 4

/-- e of the slot-anchored acknowledgement of a launch (R236). -/
def ackOffset (s : State) (n : NodeEntry) (l : Launch) (stamp : Nat) : Option Int :=
  match classOf s n.classId, profileOf s l.profile with
  | some c, some p =>
    some ((stamp : Int) - (slotBoundary s l.nodeAsn + l.phaseNs + l.airNs + (c.listenHalfUs + 20 : Nat) * 1000 + refPointNs p l.band))
  | _, _ => none

/-- A type that the part acknowledges (R123, R223). -/
def ackable (t : Nat) : Bool := t != ftAck && t != ftJoinReq && t != ftBeacon

/-- The frame is accepted (R246, R247): counter, generation and rate request go to the entry, the clock is measured, then step 6. -/
def acceptUplink (s : State) (x : Heard) (i : Nat) (n : NodeEntry) (payload : List Byte) (c : GenCase) (ackNow : Bool) : State :=
  let hint := x.r.rateHint / 2
  let s := takeGeneration s i x.h.keyGen c
  let s := modNode s i fun n => { n with rxCounter := x.h.counter, rateReq := hint }
  let s := if hint = 0 then s else orbitCount s ocRateReq
  let u := x.uplink (some (i, n)) payload (asnAt s x.r.det.endNs)
  let l := if u.ftype = ftAck then ackedLaunch s n.meshAddr payload else none
  let u := { u with launch := l.map (·.id), e := match l with | some l => ackOffset s n l x.r.det.endNs | none => u.e }
  let id := if ackNow then x.ack else none
  let s := match id with | some id => ackUplink s u id | none => s
  let s := if ackable u.ftype then noteBlink s n.meshAddr (!u.ackReq) else s
  let s := if (u.ftype = ftAck && (!n.adrift || l.isSome)) || (u.ftype = ftJoinReq && !n.adrift) then s
    else nodeClock s x i n (if ackable u.ftype then u.e else none) id.isSome false
  let cut := (ctxOf s x.ctx).rx.bind fun r => r.cut.map fun k => (k.frameId, k.pieces)
  let s := match (ctxOf s x.ctx).rx with
    | some r => setCtx s x.ctx { ctxOf s x.ctx with rx := some { r with cut := none } }
    | none => s
  commitUplink s { u with ack := id, cut := cut }

/-- A duplicate (R246): acknowledged again if asked, reported where asked, not delivered; it settles the clock's reference. An ACK
that meets R244 still completes its launch. -/
def duplicateUplink (s : State) (x : Heard) (i : Nat) (n : NodeEntry) (payload : List Byte) (ackNow : Bool) : State :=
  let s := reportNode (orbitCount s ocDuplicate) x i n fsDuplicate payload
  let u := x.uplink (some (i, n)) payload 0
  let l := if u.ftype = ftAck then ackedLaunch s n.meshAddr payload else none
  let s := match l with
    | some l => forwardUplink s { u with launch := some l.id, e := ackOffset s n l x.r.det.endNs } false
    | none => s
  let id := if ackNow then x.ack else none
  let s := match id with | some id => decideAck (ackUplink s u id) id | none => s
  cutFails (if u.ftype = ftAck && (!n.adrift || l.isSome) then s
    else nodeClock s x i n (if u.ftype = ftAck then none else u.e) id.isSome true) x

/-- A verified SOUNDING frame, a duplicate too, leads its context into SOUNDING for the K symbols it announces (R136, R165). One whose
payload is not a K of 4 to 16 brings no symbols (DESIGN CHOICE, log 92). -/
def markSounder (s : State) (x : Heard) (payload : List Byte) : State :=
  let k := leAt payload 0 1
  let c := ctxOf s x.ctx
  if !isOfdm x.p || hdrType x.h.fc != ftSounding || payload.length != 1 || k < 4 || 16 < k then s
  else setCtx s x.ctx { c with rx := c.rx.map fun r => { r with sounder := some (x.h.src, k) } }

/-- The counter rule (R246). A frame under a switch of generation is new whatever its counter. -/
def classifyUplink (s : State) (x : Heard) (i : Nat) (n : NodeEntry) (payload : List Byte) (c : GenCase) : State :=
  let ackNow := hdrAckReq x.h.fc && ackable (hdrType x.h.fc)
  if c != .switch && x.h.counter.toNat < n.rxCounter.toNat then
    cutFails (reportNode (orbitCount s ocReplay) x i n fsReplay payload) x
  else
    let s := markSounder (nodeHeard s x i n) x payload
    if c != .switch && x.h.counter == n.rxCounter then duplicateUplink s x i n payload ackNow
    else acceptUplink s x i n payload c ackNow

/-- The chain takes up the acknowledgement of a frame whose last bit has passed (R191, R192): its decision is still to come. -/
def ackBegin (s : State) (x : Heard) : State × Heard :=
  if x.ack.isSome then (s, x)
  else
    let (s, id) := queueAck s .ack x.band x.c.channel x.c.profile x.h.src (lastBitNs x.p x.c.band x.r)
    (s, { x with ack := id })

/-- A frame of a node under the challenge (R369). -/
def challengedUplink (s : State) (x : Heard) (i : Nat) (n : NodeEntry) (payload : List Byte) (c : GenCase) : State :=
  let t := hdrType x.h.fc
  let (s, x) := if ackable t then ackBegin s x else (s, x)
  let s := nodeHeard s x i n
  let passes (s : State) : State := cryptCount (modNode s i fun n => { n with coldChal := false }) xcChalPassed 1
  if t = ftAck then
    match ackedLaunch s n.meshAddr payload with
    | some _ => acceptUplink (passes s) x i n payload c false
    | none => s
  else if t = ftBeacon then s
  else if t = ftControl && payload.head? == some 0x04#8 then
    if (payload.drop 1).take 8 == chalNonce s n.eui then acceptUplink (passes s) x i n payload c true
    else cryptCount s xcChalFail 1
  else
    let s := takeGeneration s i x.h.keyGen c
    let u := x.uplink (some (i, n)) payload 0
    let s := match x.ack with | some id => decideAck (challengeUplink s u id) id | none => s
    nodeClock s x i n u.e false false

/-- A frame with a mesh address as its source (R273, R274). -/
def walkNode (s : State) (x : Heard) (shadow : List Byte) : State :=
  let s := passAddr s x.h.src
  match lookupAddr s x.h.src with
  | none => nodeCount s ncUnknownSrc
  | some i =>
    let s := touchHit s i
    match mapGet s.node.repair i with
    | some r => repairEntry (nodeCount s ncTableErr) i r.cause r.words shadow
    | none =>
      match nodeAt s i with
      | none => s
      | some n =>
        verifyNode s x i n false fun s payload c =>
          if n.coldChal then challengedUplink s x i n payload c else classifyUplink s x i n payload c

/-- A JOIN_REQ (R278, R355): a rejoin meets the counter rule, a new node goes to its thread. -/
def walkJoin (s : State) (x : Heard) (shadow : List Byte) : State :=
  let s := passEui s x.h.eui
  match lookupEui s x.h.eui with
  | some i =>
    let s := touchHit s i
    match mapGet s.node.repair i with
    | some r => repairEntry (nodeCount s ncTableErr) i r.cause r.words shadow
    | none =>
      match nodeAt s i with
      | none => s
      | some n =>
        verifyNode s x i n true fun s payload c =>
          if n.coldChal then cryptCount (nodeHeard s x i n) xcChalJoin 1 else classifyUplink s x i n payload c
  | none =>
    let g := x.h.keyGen.toNat
    if (bindingOf s g).isNone then keyCount s kcUnmapped
    else
      match resolveKey s x.h.eui g with
      | (s, .no _) => s
      | (s, .key key) =>
        let (payload, ok) := x.verify key x.h.eui
        if ok then forwardUplink (frameLane s) (x.uplink none payload (asnAt s x.r.det.endNs)) false else tagFails (frameLane s) x none

/-- The walk of a frame whose FCS has passed (R122, R30). A frame that asks for an acknowledgement has its launch before the decision
(R192). A JOIN_RSP of a time parent is for joining nodes: nothing follows. -/
def walkFrame (s : State) (x : Heard) (shadow : List Byte) : State :=
  match macCheck (micBytes x.p.micLen) (fcsLen x.r.fcsType) (destOurs s) x.psdu with
  | some k => cutFails (airCount s x.band k) x
  | none =>
    if hdrType x.h.fc = ftJoinRsp then s
    else if hdrType x.h.fc = ftJoinReq then walkJoin s x shadow
    else
      let (s, x) := if hdrAckReq x.h.fc && ackable (hdrType x.h.fc) then ackBegin s x else (s, x)
      walkNode s x shadow

/-- The context is done with its frame: SOUNDING where a verified SOUNDING frame's K symbols follow (R136, R165). -/
def ctxDone (s : State) (x : Heard) : State :=
  let s := cutFails s x
  let c := { ctxOf s x.ctx with frames := (ctxOf s x.ctx).frames + 1 }
  match c.rx.bind (·.sounder) with
  | some k => setCtx s x.ctx { c with state := .sounding, rx := some { x.r with sounder := some k, decidedNs := antennaNs s x.band } }
  | none => ctxRest (setCtx s x.ctx c) x.ctx

/-- The walk of a whole PSDU with a good FCS, once lanes can take it. -/
def walkPsdu (s : State) (i : Nat) (c : Ctx) (r : Reception) (p : AirProfile) (bytes : List Byte) (snrQ : Int) (shadow : List Byte) : State :=
  let s := if isOfdm p then ctPieces s i bytes true else s
  let x : Heard := { ctx := i, c := c, r := r, p := p, psdu := bytes, h := parseMac bytes, lqi := lqiOf snrQ, ack := none }
  ctxDone (walkFrame s x shadow) x

/-- RX_PSDU_END (R164, R30): the last PSDU bit passes the antenna now. `psdu` is the PSDU as it stood on the air, `snrQ` its SNR in
0.25 dB, `shadow` the host's shadow copy for a repair. While no masks can be had, the frame waits in its context (R341). -/
def rxPsduEndOp (s : State) (i : Nat) (psdu : List Byte) (snrQ : Int) (shadow : List Byte) : State :=
  let c := ctxOf s i
  let b := bandOfD c.band
  match c.rx, profileOf s c.profile with
  | some r, some p =>
    if c.state != .psdu || r.stalled.isSome then s
    else
      let bytes := dewhiten p r.whiten 0 (psdu.take r.length)
      let whole := bytes.length == r.length && fcsOk r.fcsType bytes
      if c.purpose == .test then
        let s := rxCount s b (if whole then rxFcsOkCount else rxFcsFail)
        setCtx (testReceive s b bytes) i (armed s { c with frames := c.frames + natOf whole } .armed)
      else if !frameBufferRoom (setCtx s i { c with rx := none }) bytes.length then ctxRest (poisonCut (rxCount s b rxNoBuffer) i) i
      else if !whole then
        let s := if isOfdm p && !masksOut s then ctPieces s i bytes true else s
        ctxRest (fcsFails s i r (some (lqiOf snrQ)) bytes) i
      else
        let s := rxCount s b rxFcsOkCount
        if masksOut s then cryptCount (setCtx s i { c with rx := some { r with bytes := bytes, stalled := some (snrQ, shadow) } }) xcLaneWait 1
        else walkPsdu s i c r p bytes snrQ shadow
  | _, _ => s

/-- The frames that waited for masks go on (R341). -/
def resumeWalks (s : State) : State :=
  (mapKeys s.radio.ctxs).foldl (fun s i =>
    let c := ctxOf s i
    match c.rx.bind fun r => r.stalled.map fun w => (r, w), profileOf s c.profile with
    | some (r, w), some p =>
      let r := { r with stalled := none }
      walkPsdu (setCtx s i { c with rx := some r }) i { c with rx := some r } r p r.bytes w.1 w.2
    | _, _ => s) s

/-- ENTROPY_RESTART_DONE (R341): masks are there again, and what waited for them goes on. -/
def entropyDoneOp (s : State) : State := resumeWalks (entropyRestartOp s)

/-! Delivery and the threads (R35). -/

/-- Two frames of one node, the first accepted before the second (R34): by their counters, or by the switch of generation between them. -/
def acceptedBefore (s : State) (v u : Uplink) : Bool :=
  v.eui == u.eui && (if v.keyGen == u.keyGen then decide (v.counter.toNat < u.counter.toNat) else u.keyGen == s.crypt.epochs.genCur)

/-- A frame that Orbit or Ephemeris consumes takes no part in its node's flow (R35). -/
def ofFlow (u : Uplink) : Bool := u.ftype != ftAck && u.ftype != ftBeacon

/-- A frame may go to its destination: its node's flow is free, and every frame of that node accepted before it has gone (R34, R381). -/
def mayProceed (s : State) (u : Uplink) : Bool :=
  !ofFlow u || (!(flowOf s (flowIndex u.src)).busy && !(s.path.uplinks ++ s.path.threads).any fun v => ofFlow v && acceptedBefore s v u)

/-- UPLINK_DELIVER (R35): the oldest accepted frame; a cut-through frame ends its series (R361). A SOUNDING frame goes to its node's
ring (log 55). -/
def uplinkDeliverOp (s : State) : State :=
  match s.path.uplinks.find? (mayProceed s) with
  | none => s
  | some u =>
    let s := { s with path := { s.path with uplinks := dropFirst (· == u) s.path.uplinks } }
    let ring := (((nodeAt s u.index).filter (·.eui == u.eui)).map (·.rxRing)).getD 0
    match u.cut with
    | some (id, pieces) =>
      (rxWrite s ring fun buf ph =>
        { buf := buf, phase := ph, last := true, frameStatus := fsOk, length := 0, mode := ((profileOf s u.profile).map (·.mode)).getD 0
          context := u.ctx, band := u.band, nodeValid := true, nodeIndex := u.index, tsNs := BitVec.ofNat 64 u.tsNs, tsFrac := u.tsFrac
          keyGen := u.keyGen, lqi := BitVec.ofNat 8 u.lqi, rssi := u.rssiQ, frameCounter := u.counter, srcAddr := u.src, chunkSeq := pieces
          channel := u.channel, frameId := id, data := [] }).1
    | none => if u.ftype = ftData then routeData s u ring else (hostDeliver s u ring fsOk).1

/-- Take the oldest frame of a type from the threads that its node's flow lets through (R34). -/
def takeThread (s : State) (t : Nat) : Option (Uplink × State) :=
  (s.path.threads.find? fun u => u.ftype == t && mayProceed s u).map fun u =>
    (u, { s with path := { s.path with threads := dropFirst (· == u) s.path.threads } })

/-- SOUNDING_END (R137, R138, R165): the per-tone SNR in dB gives the node a map, under an identifier other than the active one;
one of fewer than 104 bits gives way to the tones of map 0 (log 76). -/
def soundingEndOp (s : State) (i : Nat) (snrDb : List Int) : State :=
  let c := ctxOf s i
  match c.rx.bind fun r => r.sounder.map fun k => (r, k), profileOf s c.profile with
  | some (r, a, k), some p =>
    if c.state != .sounding || antennaNs s (bandOfD c.band) < r.decidedNs + k * ofdmSymbolNs c.band then s
    else
      let s := modTones (ctxRest s i) a.toNat fun t => { t with wantSounding := false }
      let t := tonesOf s a.toNat
      let m := loadMap snrDb p.tlMarginDb
      match lookupAddr s a with
      | none => s
      | some k =>
        offerMap s k a (if t.rxActive < 15 then t.rxActive + 1 else 1) m
  | _, _ => if c.state == .sounding then ctxRest s i else s

/-! JOIN_REQ (R278 to R281). -/

/-- Queue a JOIN_RSP (R126, R223, R387): in the JOIN cell that heard the request, on its band. One that answers no JOIN cell goes to the next BROADCAST cell of the band (R277; log 56). -/
def queueJoinRsp (s : State) (u : Uplink) (eui : W64) (addr : W32) (band period offset : Nat) (result : Byte) (keyGen : Byte) : State :=
  let cell := if result = 0 then u.cell else none
  let full := cell.isNone && decide (256 ≤ s.route.broadcast.length + (s.orbit.joinRsps.filter (·.cell.isNone)).length)
  if full then routeCount s rcFloodDrop
  else
    let payload := joinRspPayload eui addr period offset s.orbit.schedVersion result
    let f := { firmwareFrame s addrJoinRsp ftJoinRsp payload false with eui := eui, keyGen := keyGen }
    let (s, r) := parkFirmware s f
    let until0 := match cell with | some (_, _, n) => n + 4 * max s.orbit.frameLen 1 | none => 2 ^ 40
    let j : JoinRsp :=
      { record := r.getD heldRecord, eui := eui, meshAddr := addr, cell := cell, band := if cell.isSome then u.band else band, result := result, wakePeriod := period
        wakeOffset := offset, untilAsn := until0, keyGen := keyGen }
    modOrbit s fun o => { o with joinRsps := o.joinRsps ++ [j] }

/-- A rejoin (R278 step 2): the entry's values are sent; a node registered from Ethernet becomes DIRECT (R307). -/
def rejoin (s : State) (u : Uplink) (i : Nat) (n : NodeEntry) : State :=
  let s := if routeKind n = 3 then holdJoin (journalAdd (modNode s i fun n => { n with routeRef := 0 }) 6 i n.meshAddr i) n.meshAddr true else s
  queueJoinRsp s u n.eui n.meshAddr n.band n.wakePeriod n.wakeOffset 0 u.keyGen

/-- A join whose budgets allow it (R278 steps 4 and 5, R277). A refusing JOIN_RSP carries zeros for address, period and offset (DESIGN
CHOICE, log 94). The channel offset and the wake offset are open values (log 4). -/
def learnNode (s : State) (u : Uplink) (c : TagClass) : State :=
  let band := if classProfile c u.band != 0 then u.band else firstBand c
  let failed (s : State) : State :=
    queueJoinRsp (insertFailed (returnToken s u.band) u.band u.eui) u u.eui 0 band 0 0 1 u.keyGen
  match assignAddr s u.eui with
  | none => failed s
  | some a =>
    let (ch, s) := drawBelow s 128
    let (off, s) := drawBelow s c.wakePeriod
    let n := { freshEntry s u.eui a u.band c.id band ch c.wakePeriod off u.keyGen.toNat with rxCounter := u.counter }
    match insertEntry s n with
    | (s, none) => failed s
    | (s, some i) => queueJoinRsp (holdJoin (journalAdd (nodeCount s u.band) 1 i a i) a true) u u.eui a band c.wakePeriod off 0 u.keyGen

/-- JOIN_REQ_HANDLE (R278 to R281). -/
def joinReqOp (s : State) : State :=
  match takeThread s ftJoinReq with
  | none => s
  | some (u, s) =>
    match classOf s (leAt u.payload 0 2) with
    | none => nodeCount s ncJoinBadClass
    | some c =>
      match (lookupEui s u.eui).bind fun i => (nodeAt s i).map fun n => (i, n) with
      | some (i, n) => rejoin (touchHit s i) u i n
      | none =>
        match chargePort s u.band with
        | (s, .allowed) => learnNode s u c
        | (s, x) =>
          let p := portOf s u.band
          let s := learnRefused s u.band (x == .byCount)
          if p.flood then (hostDeliver s { u with nodeValid := false, index := 0 } p.ring fsOk).1 else s

/-! CONTROL (R127, R138, R371). -/

/-- A TONE_MAP that a privileged node reports: it comes into use with the acknowledgement of its frame (R138). -/
def takeToneMap (s : State) (u : Uplink) (id m : Nat) : State :=
  if u.acked then useTxMap s u.src id m else modTones s u.src.toNat fun t => { t with txWaits := some (id, m, u.counter) }

/-- CONTROL_FRAME_HANDLE: a TONE_MAP gives a map the part transmits under; a SOUNDING_REQUEST asks for a SOUNDING frame; the other
known subtypes have no effect here. One that is malformed, or whose sender is not privileged, has none either, and an empty payload
counts as an unknown subtype (DESIGN CHOICE, log 95). -/
def controlOp (s : State) : State :=
  match takeThread s ftControl with
  | none => s
  | some (u, s) =>
    let b := u.payload
    let priv := ((nodeAt s u.index).map (·.role == 2)).getD false
    match (b.head?).map BitVec.toNat with
    | some 1 =>
      let id := leAt b 1 1
      let m := leAt b 3 39
      if b.length < 42 || !priv || id = 0 || 15 < id || leAt b 2 1 != 0 || !mapValid m then s else takeToneMap s u id m
    | some 2 =>
      let k := leAt b 1 1
      if !priv || k < 4 || 16 < k then s
      else (parkFirmware s (firmwareFrame s u.src ftSounding [BitVec.ofNat 8 k] true)).1
    | some 3 | some 4 | some 5 => s
    | _ => airCount s (bandOfD u.band) 4

/-! BEACON (R217, R253 to R255, R408). -/

/-- The instant at which a beacon's reference point passes, less its slot boundary, ns: by the PARENT cell that heard it, or by the
candidate's PARENT cell of that slot (R217). -/
def beaconOffset (s : State) (u : Uplink) (cand asn : Nat) : Option Int :=
  match u.parent with
  | some (_, off) => some off
  | none =>
    let cells := s.orbit.cells.filter fun c => c.kind == cellParent && c.target == cand && c.band == u.band
    let here := cells.find? fun c => c.slotOffset == asn % max s.orbit.frameLen 1
    (match here with | some c => some c | none => cells.head?).bind fun c =>
      (profileOf s u.profile).map fun p => (c.startUs : Int) * 1000 + refPointNs p u.band

/-- Source error of a beacon measurement (R408, R169), ns. -/
def beaconError (s : State) (u : Uplink) : Rat :=
  let sigma : Rat := match profileOf s u.profile with
    | some p => if isOfdm p then (if u.band = 2 then 20 else 40) else (12500000 : Rat) / (max (symbolRate p) 1 : Nat) + 10
    | none => 0
  3 * sigma + (leAt u.payload 18 4 : Nat) * 1000

/-- The time measurement of a beacon of the parent (R253, R408). -/
def beaconMeasure (s : State) (u : Uplink) (cand : Nat) (off : Int) : State :=
  let theta : Rat := ((u.tsNs : Int) - (leAt u.payload 10 8 : Nat) - off - (nth 0 s.clk.parentDelay cand : Nat) : Int)
  measure s 4 theta (beaconError s u)

/-- Re-anchoring in ACQUIRING (R217, R556): the beacon's ASN and slot boundary; RUN from the next slotframe boundary. -/
def reAnchor (s : State) (cand asn depth : Nat) (t0 : Int) : State :=
  let s := (s.orbit.plans.flatMap (·.launches)).foldl unplanLaunch s
  let s := modOrbit s fun o =>
    { o with anchorAsn := asn, anchorNs := t0.toNat, anchored := true, slot := some asn, prepared := some asn, plans := []
             runPending := true, parent := some cand, parentMiss := 0, parentDepth := some depth, parentNext := none }
  refileAll (orbitCount s ocParentBeacon)

/-- A beacon of the candidate followed (R253, R254), or of any candidate once all were passed over (R255). -/
def followBeacon (s : State) (u : Uplink) (cand asn depth : Nat) (off : Int) : State :=
  if asnAt s u.tsNs != asn then parentMissedOp (orbitCount s ocParentAsn) (bandOfD u.band)
  else
    let s := modOrbit (orbitCount s ocParentBeacon) fun o =>
      { o with parent := some cand, parentMiss := 0, parentDepth := some depth
               state := if o.state = .holdover then .run else o.state }
    beaconMeasure s u cand off

/-- BEACON_RX (R217, R253). A beacon heard where the parent's PARENT cell does not listen has no effect. -/
def beaconOp (s : State) : State :=
  match takeThread s ftBeacon with
  | none => s
  | some (u, s) =>
    match s.orbit.parents.findIdx? fun c => c.addr == u.src && c.band == u.band with
    | none => s
    | some cand =>
      let asn := leAt u.payload 0 5
      let depth := leAt u.payload 26 1
      match beaconOffset s u cand asn with
      | none => s
      | some off =>
        if s.orbit.state == .acquiring then
          if s.orbit.runPending then s else reAnchor s cand asn depth ((u.tsNs : Int) - off - (nth 0 s.clk.parentDelay cand : Nat))
        else if !enginePlans s || s.orbit.parentNext.isSome || (u.parent.map (·.1)) != some cand then s
        else if s.orbit.parent == some cand || s.orbit.parent.isNone then followBeacon s u cand asn depth off
        else s

/-! ACK (R244, R245). -/

/-- A launch no longer waits for its acknowledgement. -/
def awaitEnds (s : State) (l : Launch) : State :=
  modTx (dropAckListens s l) (bandOfD l.band) fun x => { x with awaiting := x.awaiting.filter fun q => q.id != l.id }

/-- ACK_RX (R244): the launch's frame completes `FS_OK`; the measurement feeds the clock of the node aimed at. -/
def ackOp (s : State) : State :=
  match takeThread s ftAck with
  | none => s
  | some (u, s) =>
    match (s.radio.tx.toList.flatMap (·.awaiting)).find? fun l => some l.id == u.launch with
    | none => s
    | some l =>
      let s := orbitCount (awaitEnds s l) ocAcked
      let s := match (lookupAddr s l.addr).bind fun i => (nodeAt s i).map fun n => (i, n), u.e with
        | some (i, n), some e =>
          let s := if n.adrift then adriftReturn s i (some (e, u.tsNs)) false else clockMeasure s i e u.tsNs false false
          sendContact s i
        | _, _ => s
      match l.record.bind fun r => (recordOf s r).map fun f => (r, f) with
      | none => s
      | some (r, f) => completeFrame (campaignAcked (schedAcked (mapAcked s f) f) f) r fsOk false false

/-- Launches of a frame before it is flushed: `dl_retry_max` of the destination's class (R245, R299). -/
def retryMax (s : State) (a : W32) : Nat :=
  ((((lookupAddr s a).bind (nodeAt s)).bind fun n => classOf s n.classId).map (·.dlRetryMax)).getD 1

/-- ACK_WINDOW_END (R245): due once no context waits for the acknowledgement or receives in its window. -/
def ackWindowEndOp (s : State) (id : Nat) : State :=
  match (s.radio.tx.toList.flatMap (·.awaiting)).find? (·.id == id) with
  | none => s
  | some l =>
    let mine (p : Purpose) : Bool := match p with | .ack k _ => k == id | _ => false
    let open0 := s.radio.ctxs.any fun x => mine x.2.purpose && (ctxBusy x.2 || (x.2.state != .idle && decide (nowNs s < x.2.listenEnd)))
    let coming := (s.orbit.plans.filter fun p => !p.handed).any fun p => p.listens.any fun x => mine x.purpose
    let lit := (s.radio.tx.get (bandOfD l.band)).burst.any (·.id == id)
    let came := (s.path.threads.any fun u => u.launch == some id)
      || s.pair.waits.any fun w => match w.hold with | .uplink u => u.launch == some id | _ => false
    if open0 || coming || lit || came then s
    else
      let s := awaitEnds s l
      match l.record.bind fun r => (recordOf s r).map fun f => (r, f) with
      | none => s
      | some (r, f) => if retryMax s f.dest ≤ f.attempts then completeFrame s r fsFlushed false false else returnFrame s l

end Sys2Proof.Machine
end

