-- ==== Sys2Proof/Machine/Launch.lean ====
section
/-! DEFINITION. Launches: encryption (R358, R37, R337), the front-end lines (R194 to R196), on-time and late launches (R188 to R190),
acknowledgement launches (R192, R193), coexistence (R197, R198), bursts, the Eclipse gate at the front end (R199, R442). -/

namespace Sys2Proof.Machine

/-! Encryption (R36 step 5). -/

/-- A launch that follows from a table change or an offer waits for the standby (R445): JOIN_RSP, TONE_MAP and SCHEDULE_UPDATE. -/
def waitsForTwin (s : State) (l : Launch) : Bool :=
  launchHeld s &&
    match l.record.bind (recordOf s) with
    | some f => f.ftype == ftJoinRsp || (f.ftype == ftControl && (f.payload.head? == some 0x01#8 || f.payload.head? == some 0x05#8))
    | none => false

/-- A follow-up whose node was not told to listen (R226). -/
def followUntold (s : State) (l : Launch) : Bool :=
  l.followUp && !(s.orbit.plans.any fun p => p.handed && p.contacts.any fun c => c.addr == l.addr && c.follow)

/-- The frame of a launch outgrew its contact with its route (R299). -/
def launchTooLong (s : State) (f : Frame) : Bool :=
  match (lookupAddr s f.dest).bind fun i => (nodeAt s i).map fun n => (i, n) with
  | some (i, n) => !fitsContact s i n f.payload.length
  | none => false

/-- Encrypt a queued launch now. Past tL − 20 µs that makes it late (R188, R189). -/
def encryptNow (s : State) (l : Launch) : State :=
  match sealLaunch (if masksOut s then cryptCount s xcLaneWait 1 else s) l with
  | (s, .done q) => setLaunch s { q with readyNs := if l.tL < nowNs s + 20000 then nowNs s else q.readyNs }
  | (s, .noKey) =>
    match l.record with
    | some r => completeFrame s r fsKeyStale false false
    | none => s
  | (s, .waits) => s

/-- PSDU bytes of a launch that carries no record: a beacon, or a campaign frame. -/
def plainLen (s : State) (l : Launch) : Nat :=
  ((profileOf s l.profile).map fun p => psduLen p 0 (if l.kind == .beacon then 28 else l.payload.length)).getD 0

/-- LAUNCH_ENCRYPT (R358): the first launch of the band that is not encrypted, from tL − 40 µs; without a granule it waits (R29);
a frame that the pool gives with an uncorrectable error is discarded, `FS_FLUSHED` (R27; log 105). -/
def launchEncryptOp (s : State) (b : Band) : State :=
  let open0 (l : Launch) : Bool :=
    l.psdu.isNone && !isAckLaunch l && decide (l.tL ≤ nowNs s + 40000) && !waitsForTwin s l && !followUntold s l
  match (s.radio.tx.get b).queue.find? open0 with
  | none => s
  | some l =>
    match l.record.bind fun r => (recordOf s r).map fun f => (r, f) with
    | some (r, f) =>
      let len := ((profileOf s l.profile).map fun p => psduLen p (hopsTo s f.dest) f.payload.length).getD 0
      if bulkBad s (.pending r) then completeFrame (bulkLose s (.pending r)) r fsFlushed false false
      else if f.dest != addrBroadcast && f.ftype != ftJoinRsp && launchTooLong s f then completeFrame (routeCount s rcTooLong) r fsFlushed false true
      else if !frameBufferRoom s len then s
      else encryptNow s l
    | none => if frameBufferRoom s (plainLen s l) then encryptNow s l else s

/-! Lines and contexts around a burst (R170, R195). -/

/-- Priority bit of a launch in `pri_mask` (R197). -/
def priBit (s : State) (l : Launch) : Nat :=
  match l.kind with
  | .ack | .challenge => 0
  | .beacon => 1
  | .direct => 4
  | _ => if launchOfdm s l then 3 else 2

/-- The band's contexts are blanked (R170). -/
def blankContexts (s : State) (b : Band) : State :=
  (bandCtxs s b fun c => c.state == .armed || ctxBusy c).foldl (fun s i =>
    let c := ctxOf s i
    let s := if ctxBusy c then poisonCut (rxCount s b rxBlanked) i else s
    let stays := ctxReserved s i || c.purpose == .test || decide (nowNs s < c.listenEnd)
    if stays then setCtx s i { c with state := .blanked, rx := none } else ctxIdle s i) s

/-- Coexistence request and priority for a launch (R197). -/
def requestLines (s : State) (b : Band) (l : Launch) : State :=
  if !(s.radio.tx.get b).coexEnable || !linesLive s b then s
  else modTx s b fun x => { x with coexReq := true, coexPri := bitOf x.priMask (priBit s l) }

/-- Transmit lines for a launch (R195). -/
def transmitLines (s : State) (b : Band) : State :=
  if linesLive s b then modTx s b fun x => { x with trSw := true, lnaByp := true } else s

/-- The band's contexts are blanked for a launch (R170, R195). -/
def blankBand (s : State) (b : Band) : State :=
  if !linesLive s b then s
  else
    let s := if (s.radio.tx.get b).blank then s else snapBlanked (modTx s b fun x => { x with blank := true }) b true
    blankContexts s b

/-- The blanked contexts of a band search again (R170). -/
def resumeContexts (s : State) (b : Band) : State :=
  let s := if (s.radio.tx.get b).blank then snapBlanked (modTx s b fun x => { x with blank := false }) b false else s
  (bandCtxs s b fun c => c.state == .blanked).foldl (fun s i =>
    let c := ctxOf s i
    if c.purpose == .test then setCtx s i (armed s c .armed) else ctxRest s i) s

/-- The antenna position of the slot in force (R196). -/
def planAntenna (s : State) (b : Band) : Option Nat :=
  (s.orbit.slot.bind fun n => s.orbit.plans.find? (·.asn == n)).map fun p => nth 0 p.antenna (bandNum b)

/-- Lines after the end of a burst (R195), each `tx_path_ns` ahead: PA off after the lag, receive after 10 µs, the requests gone and the
contexts back after 16 µs; across a short gap they stay. -/
def releaseLines (s : State) (b : Band) : State :=
  let x := s.radio.tx.get b
  let y := inForce x
  let now := nowNs s
  let tE := x.quietFrom - 16000
  let near := match x.queue.head? with | some l => decide (l.tL < x.quietFrom + 20000) | none => false
  if near then s
  else
    let s := if tE + y.paLagUs * 1000 ≤ now + y.txPathNs then modTx s b fun x => { x with paEn := false } else s
    let s := if tE + 10000 ≤ now + y.txPathNs then modTx s b fun x => { x with trSw := false, lnaByp := linesLive s b && x.lnaStatic } else s
    if x.quietFrom ≤ now then
      let asked := match x.queue.head? with | some l => decide (l.tL ≤ now + x.coexLeadUs * 1000) | none => false
      let s := modTx s b fun x =>
        { x with coexReq := x.coexReq && asked && x.coexEnable, coexPri := x.coexPri && asked && x.coexEnable, inBurst := none
                 antSel := if linesLive s b then (planAntenna s b).getD x.antSel else x.antSel }
      resumeContexts s b
    else s

/-! The launch instant (R188, R189). -/

/-- Late bound b of a launch. -/
def lateBound (l : Launch) : Nat := l.lateNs

/-- The synthesiser's part of tA: none while the LO is elsewhere and its calibration has not started. -/
def loReady (x : TxBand) (l : Launch) : Option Nat :=
  let settled := match x.calEnd with | some t => t + 2000 + rampNs x | none => 0
  match x.calLo with
  | some lo => if lo == l.lo then some settled else none
  | none => if x.lo == some l.lo then some settled else none

/-- The chain's part of tA: the end of a burst the launch cannot join, and of the acknowledgements that take the chain before it (R193). -/
def chainReady (s : State) (x : TxBand) (l : Launch) : Nat :=
  let y := inForce x
  let run := if x.burst.isEmpty || launchFits s y l x.burst (maxCarriers x) then 0 else burstEndNs x + rampNs x
  let q := { l with tA := max l.tL run }
  let acks := (x.queue.filter isAckLaunch).filter fun a => launchesMeet x q a
  if acks.all (mayShare s x q) && decide (acks.length + x.burst.length < maxCarriers x) then run
  else (acks.map fun a => endNs x a a.tL + rampNs x).foldl max run

/-- The driver's part of tA: 10 µs with the drive off to change its bias (R182). -/
def biasReady (s : State) (x : TxBand) (l : Launch) : Nat :=
  if biasOf s x l == x.biasLinear then 0 else max (max x.driveOff (burstEndNs x)) x.modeAt + 10000 + rampNs x

/-- The grant's part of tA (R189, R197). -/
def grantReady (x : TxBand) (l : Launch) : Nat := if x.coexEnable && l.tL < x.grantAt + rampNs x then x.grantAt + rampNs x else 0

/-- Earliest achievable launch instant, none while a condition is open. -/
def earliest (s : State) (b : Band) (l : Launch) : Option Nat :=
  let x := s.radio.tx.get b
  if l.psdu.isNone || (x.coexEnable && !x.grant) then none
  else (loReady x l).map fun t =>
    [t, chainReady s x l, biasReady s x l, grantReady x l, if l.readyNs = 0 then 0 else l.readyNs + rampNs x].foldl max l.tL

/-- A late burst would end before the next slot boundary (R189). -/
def endsInSlot (s : State) (b : Band) (l : Launch) (tA : Nat) : Bool :=
  decide ((endNs (s.radio.tx.get b) l tA : Int) < slotBoundary s (l.asn + 1))

/-! What goes on the air. -/

/-- The frame of a launch at the antenna (R109, R111, R132, R183), under the tone map it was built with (R138): an ACK of a 4-GFSK
profile goes in two levels, a SOUNDING frame ends in K symbols. -/
def airFrame (s : State) (l : Launch) (tA : Nat) : AirFrame :=
  let rec0 := l.record.bind (recordOf s)
  let sounding := (rec0.map (·.ftype)) == some ftSounding
  let p := profileOf s l.profile
  let ofdm := (p.map isOfdm).getD false
  let f : AirFrame :=
    { band := l.band, channel := l.channel, profile := l.profile, kind := l.kind.ctorIdx, tA := tA, counter := l.counter, phy := 0
      psdu := l.psdu.getD [], wave := .none, levelQ := outputLevelQ (inForce (s.radio.tx.get (bandOfD l.band))) ofdm l.attenDb }
  modulate p f (if ofdm then 1 else (p.map (·.fcsType)).getD 0) l.mapId l.toneMap (l.kind != .ack)
    (if sounding then (rec0.map fun f => leAt f.payload 0 1).getD 0 else 0)

/-- A launch's ramp-up starts (R179, R188): it joins the burst, its lines are active, and it is off its queue. -/
def rampUp (s : State) (b : Band) (l : Launch) (tA : Nat) : State :=
  let s := blankBand (transmitLines (requestLines (unqueue s l) b l) b) b
  modTx s b fun x =>
    { x with paEn := true, biasLinear := biasOf s x l, inBurst := if x.burst.isEmpty then some (burstSet x) else x.inBurst
             burst := x.burst ++ [{ l with tA := tA, carrier := .ramping }] }

/-- Change a carrier of the burst. -/
def modCarrier (s : State) (b : Band) (id : Nat) (f : Launch → Launch) : State :=
  modTx s b fun x => { x with burst := x.burst.map fun l => if l.id == id then f l else l }

/-- A carrier's first bit passes the antenna (R188). -/
def goOnAir (s : State) (b : Band) (l : Launch) : State :=
  let s := modCarrier s b l.id fun l => { l with carrier := .onAir }
  let f := airFrame s l l.tA
  txCount { s with path := { s.path with air := s.path.air ++ [f] } } b tcLaunch

/-- Largest lateness, µs (R210). -/
def noteLate (s : State) (b : Band) (late : Nat) : State :=
  let us := late / 1000
  txCount (modTx s b fun x =>
    { x with counters := modNth x.counters tcLateWorst fun c => if c.toNat < us then BitVec.ofNat 32 us else c }) b tcLate

/-- The clock reference of a joining node, and its first filing, at its JOIN_RSP (R237, R556). -/
def joinLaunched (s : State) (l : Launch) (r tA : Nat) : State :=
  match s.orbit.joinRsps.find? (·.record == r) with
  | none => s
  | some j =>
    let s := if j.cell.isNone then routeCount s rcFloodSent else s
    if j.result != 0 then s
    else
      match lookupEui s j.eui with
      | none => s
      | some i =>
        let s := modNode s i fun n => setReference n 0 tA false
        sendContact (fileFrom (holdJoin s j.meshAddr false) i (l.asn + 2)) i

/-- A frame of the broadcast list has gone out on a band (R308). -/
def floodLaunched (s : State) (b : Band) (r : Nat) : State :=
  let s := modRoute (routeCount s rcFloodSent) fun x =>
    { x with broadcast := x.broadcast.map fun f => if f.record = r && bitOf f.bands (bandNum b) then { f with bands := f.bands - 2 ^ bandNum b } else f }
  if s.route.broadcast.any fun f => f.record == r && f.bands != 0 then modRecord s r fun f => { f with planned := false }
  else completeFrame s r fsOk false false

/-- What follows from the launch of a pending frame (R38, R67, R244, R248, R419). -/
def recordLaunched (s : State) (b : Band) (l : Launch) (r tA : Nat) (late : Bool) : State :=
  match recordOf s r with
  | none => s
  | some f =>
    let s := modRecord s r fun f =>
      { f with attempts := f.attempts + 1, onAir := true, planned := true, lastLaunch := some (l.counter, tA, l.channel, l.band, late) }
    let ref := match profileOf s l.profile with | some p => refPointNs p l.band | none => 0
    let s := if f.tsReq then tsPush s l.band f.tsId (BitVec.ofNat 64 (tA + ref)) 0 else s
    let s := if l.pendingBit then tellFollow s l.addr else s
    let s := if f.ftype = ftCampaign then campaignSent s f.payload true else s
    match l.kind with
    | .joinRsp => completeFrame (joinLaunched s l r tA) r fsOk false false
    | .broadcast => floodLaunched s b r
    | _ =>
      let s := orbitCount s ocLaunched
      if !f.ackReq then completeFrame s r fsOk false false
      else
        let s := modTx s b fun x => { x with awaiting := x.awaiting ++ [l] }
        modOrbit s fun o => { o with plans := o.plans.map fun p =>
          if p.asn = l.asn then { p with contacts := p.contacts.map fun c => if c.addr == l.addr then { c with dls := c.dls ++ [l.id] } else c } else p }

/-- A planned or direct launch takes place at its tA. -/
def launchNow (s : State) (b : Band) (l : Launch) : State :=
  let late := decide (l.tL < l.tA)
  let s := goOnAir s b l
  let s := if late then noteLate s b (l.tA - l.tL) else s
  match l.record with
  | some r => recordLaunched s b l r l.tA late
  | none => if l.kind == .beacon then orbitCount s ocBeacon else if l.kind == .campaign then campaignSent s l.payload false else s

/-! Acknowledgements (R192, R193). -/

/-- An acknowledgement that was not sent leaves the uplink's reference at its measurement (R237). -/
def ackUnsent (s : State) (l : Launch) : State :=
  if l.kind != .ack || !l.decided then s
  else
    match lookupAddr s l.addr with
    | none => s
    | some i => sendContact (modNode s i fun n => if n.altValid then { n with refOff := n.altOff, altOff := 0, altValid := false } else n) i

/-- A speculative ramp is abandoned at tL: it ramps down over r, and its burst is that alone (R192, R256). -/
def abandonAck (s : State) (b : Band) (l : Launch) (c : Nat) : State :=
  ackUnsent (modCarrier (txCount s b c) b l.id fun l => { l with airNs := 0, carrier := .over }) l

/-- At tL the ramp of an acknowledgement commits, or is abandoned (R192). -/
def commitAck (s : State) (b : Band) (l : Launch) : State :=
  let x := s.radio.tx.get b
  if !l.decided || l.psdu.isNone then abandonAck s b l tcAckAbandoned
  else if (inForce x).coexEnable && !x.grant then abandonAck s b l tcCoexDenied
  else if l.kind == .challenge then cryptCount (goOnAir s b l) xcChalSent 1
  else ackSent (goOnAir s b l) l.addr (BitVec.ofNat 32 (leAt l.payload 0 4))

/-- An acknowledgement that the chain can no longer launch. -/
def dropAck (s : State) (b : Band) (l : Launch) : State :=
  let s := txCount (unqueue s l) b tcBusyCancel
  ackUnsent (if (s.radio.tx.get b).burst.isEmpty then releaseFrom s b (nowNs s) else s) l

/-! What the chain does by now. -/

/-- A launch of a band whose queue is due for its lines. -/
def linesDue (s : State) (b : Band) : State :=
  match (s.radio.tx.get b).queue.head? with
  | none => s
  | some l =>
    let x := s.radio.tx.get b
    let at_ := nowNs s + x.txPathNs
    let s := if l.tL ≤ at_ + x.coexLeadUs * 1000 then requestLines s b l else s
    if followUntold s l then s
    else
      let s := if l.tL ≤ at_ + 20000 then transmitLines s b else s
      let s := if l.tL ≤ nowNs s + 20000 then blankBand s b else s
      match if isAckLaunch l then some l.tL else earliest s b l with
      | some tA => if tA ≤ at_ + x.paLeadUs * 1000 && linesLive s b then modTx s b fun x => { x with paEn := true } else s
      | none => s

/-- Instant by which the ramp of a launch at `t` has started at the pin (R188). -/
def rampDue (s : State) (x : TxBand) (t : Nat) : Bool := t ≤ nowNs s + rampNs x + x.txPathNs

/-- The acknowledgement due next starts its ramp speculatively (R192). -/
def rampAck (s : State) (b : Band) : State :=
  match (s.radio.tx.get b).queue.find? isAckLaunch with
  | none => s
  | some l =>
    if !rampDue s (s.radio.tx.get b) l.tL then s
    else if !s.pair.gateOpen || !(bandState s b == .on || bandState s b == .draining) then dropAck s b l
    else rampUp s b l l.tL

/-- Carriers whose instant has come go on the air, in order of tA; an acknowledgement commits or is abandoned. -/
def carriersDue (s : State) (b : Band) : State :=
  ((s.radio.tx.get b).burst.filter fun l => l.carrier == .ramping && decide (l.tA ≤ nowNs s)).foldl (fun s l =>
    if isAckLaunch l then commitAck s b l else launchNow s b l) s

/-- A carrier that is over: a flushed frame completes now, an answered one waits for its ACK (R391), a direct launch's command
answers. -/
def carrierOver (s : State) (b : Band) (l : Launch) : State :=
  let s := modCarrier s b l.id fun l => { l with carrier := .over }
  let s := match l.record.bind fun r => (recordOf s r).map fun f => (r, f) with
    | none => s
    | some (r, f) =>
      if f.doomed then completeFrame (awaitEnds s l) r fsFlushed false false else modRecord s r fun f => { f with onAir := false }
  answerDirect s l (okFigures [l.tA, l.tA - l.tL])

/-- Carriers whose ramp-down has ended are over (R181); with the last of them the burst is, its airtime charged (R195, R256). -/
def carriersEnd (s : State) (b : Band) : State :=
  let x := s.radio.tx.get b
  let now := nowNs s
  let s := (x.burst.filter fun l => l.carrier == .onAir && decide (carrierEndNs x l ≤ now)).foldl (fun s l => carrierOver s b l) s
  if x.burst.isEmpty || decide (now < burstEndNs x) then s
  else modTx (chargeBurst s b none) b fun y => { y with burst := [], quietFrom := burstEndNs x + 16000, driveOff := burstEndNs x }

/-- Everything the chain does by now short of starting a planned launch: lines, calibrations, acknowledgement ramps, carriers on the
air and over. -/
def chainActs (s : State) (b : Band) : State :=
  let s := carriersEnd (carriersDue s b) b
  let s := if (s.radio.tx.get b).burst.isEmpty then releaseLines s b else s
  carriersEnd (carriersDue (rampAck (linesDue (calStarts s b) b) b) b) b

/-- BURST_START (R195): the lines ahead of a burst. -/
def burstStartOp (s : State) (b : Band) : State := chainActs s b

/-- BURST_END (R195, R256): the end of the burst, and its lines back. -/
def burstEndOp (s : State) (b : Band) : State :=
  let s := carriersEnd (carriersDue s b) b
  if (s.radio.tx.get b).burst.isEmpty then releaseLines s b else s

/-- ACK_LAUNCH (R192): the ramp starts ahead of tL, and at tL commits or is abandoned. -/
def ackLaunchOp (s : State) (b : Band) : State := chainActs s b

/-- Decide the band's next planned launch (R188 to R190, R197, R199): it starts its ramp, on time or late, waits, or is cancelled. -/
def judgeLaunch (s : State) (b : Band) (l : Launch) : State :=
  let x := s.radio.tx.get b
  let now := nowNs s
  let bound := l.tL + lateBound l
  if followUntold s l then (if l.tL ≤ now then returnFrame (dropAckListens (unqueue s l) l) l else s)
  else if !chainLaunches s b then (if l.tL ≤ now then cancelLaunch s l false else s)
  else
    match earliest s b l with
    | some tA =>
      if bound < tA || (l.tL < tA && !endsInSlot s b l tA) then cancelLaunch s l true
      else if rampDue s x tA then carriersEnd (carriersDue (rampUp s b l tA) b) b
      else s
    | none =>
      if now < bound - rampNs x then s
      else if x.coexEnable && !x.grant then cancelLaunch (txCount s b tcCoexDenied) l false
      else cancelLaunch s l true

/-- LAUNCH (R188). -/
def launchOp (s : State) (b : Band) : State :=
  let s := chainActs s b
  match (s.radio.tx.get b).queue.find? fun l => !isAckLaunch l with
  | none => s
  | some l => judgeLaunch s b l

/-! Coexistence (R197, R198). -/

/-- COEX_GRANT_ASSERTED (R197, R189): launches due before it are judged without it; one held for want of it may start. -/
def coexGrantOp (s : State) (b : Band) : State :=
  if (s.radio.tx.get b).grant then s
  else
    let grant (s : State) : State := modTx s b fun x => { x with grant := true, grantAt := nowNs s }
    if (s.radio.tx.get b).coexEnable then launchOp (grant (launchOp s b)) b else grant s

/-- COEX_GRANT_WITHDRAWN (R198): launches due before it are judged with it. -/
def coexWithdrawOp (s : State) (b : Band) : State :=
  let s := if (s.radio.tx.get b).coexEnable then launchOp s b else s
  let x := inForce (s.radio.tx.get b)
  let s := modTx s b fun x => { x with grant := false }
  if x.coexEnable && x.coexAbort && !x.burst.isEmpty then cutBurst s b (some tcCoexAbort) else s

/-! The Eclipse gate (R199, R442, R443, R507). -/

/-- The gate closes: bursts are cut, the lines go safe, gated tests end. -/
def closeGate (s : State) : State :=
  if !s.pair.gateOpen then s
  else
    let s := bands.foldl (fun s b => burstEndOp s b) s
    let s := bands.foldl (fun s b => cutBurst s b (some tcEclipseCut)) s
    let s := { s with pair := { s.pair with gateOpen := false } }
    stopGatedTests { s with radio := { s.radio with tx := s.radio.tx.all safeLines } }

/-- The frames that Ethernet egress held go out. -/
def flushHeld (s : State) (port : Nat) : State :=
  let held := (nth EthPort.reset s.route.ports port).txFifo
  ethSend (modEth s port fun p => { p with txFifo := [] }) port held

/-- The gate opens; what Ethernet egress held goes out, and a statically bypassed LNA is bypassed again (R196). -/
def openGate (s : State) : State :=
  if s.pair.gateOpen then s
  else
    let s := flushHeld (flushHeld { s with pair := { s.pair with gateOpen := true } } 0) 1
    bands.foldl (fun s b => modTx s b fun x => { x with lnaByp := linesLive s b && x.lnaStatic }) s

end Sys2Proof.Machine
end

