-- ==== Sys2Proof/Machine/Update.lean ====
section
/-! DEFINITION. The flash store, image headers, download, verification, activation, probation, the UPDATE commands; the events and
commands of the node campaign (R474 to R500). -/

namespace Sys2Proof.Machine

/-- Change the firmware store. -/
def modFw (s : State) (f : Firmware → Firmware) : State := { s with fw := f s.fw }

/-! Flash (R474, R475). -/

def flashDownload : Nat := 0x120000
def flashHeader : Nat := 0x130000
def flashBody : Nat := 0x200000
def eraseDoneWord : Nat := 0x45524153

/-- Bytes of flash; erased bytes read 0xFF. -/
def flashRead (s : State) (a n : Nat) : List Byte := memReadBytes 0xFF s.fw.flash a n

/-- Program bytes: cells turn from 1 to 0 only. -/
def flashProgram (s : State) (a : Nat) (bs : List Byte) : State :=
  let old := flashRead s a bs.length
  modFw s fun f => { f with flash := memWriteBytes 0xFF f.flash a (List.zipWith (· &&& ·) old bs) }

/-- Write bytes whatever stands there: their sector is erased and programmed again with the rest of its content. -/
def flashRewrite (s : State) (a : Nat) (bs : List Byte) : State := modFw s fun f => { f with flash := memWriteBytes 0xFF f.flash a bs }

/-- Erase whole sectors. -/
def flashErase (s : State) (a n : Nat) : State := modFw s fun f => { f with flash := memClear f.flash a n }

/-- A record write (R475): the next free page of the sector in use, or the first of the other sector, with the next sequence number. -/
def programRecord (s : State) (f : Records → Records) : State :=
  let r := s.fw.recs
  let r :=
    if r.pages < 256 then { r with pages := r.pages + 1 } else { r with sectorB := !r.sectorB, pages := 1, eraseDue := true }
  modFw s fun w => { w with recs := { f r with seq := r.seq + 1 } }

/-- FLASH_RECORD_WRITE (R141, R475): the epoch record that waits goes to flash; then the standby learns it (R140, R447). -/
def flashRecordOp (s : State) : State :=
  match s.crypt.epochWrite with
  | none => s
  | some r =>
    let s := programRecord s fun x => { x with epochs := some r }
    replicateEpoch (modCrypt s fun c => { c with flashEpochs := r, epochWrite := none }) r

/-- RECORD_SECTOR_ERASE (R475). -/
def sectorEraseOp (s : State) : State := modFw s fun f => { f with recs := { f.recs with eraseDue := false } }

/-! Image headers (R476, R477). -/

/-- Fields of a header. -/
def hdrFlags (h : List Byte) : Nat := leAt h 10 2
def hdrVersion (h : List Byte) : Nat := leAt h 12 4
def hdrSecurity (h : List Byte) : Nat := leAt h 16 2
def hdrPairProto (h : List Byte) : Nat := leAt h 18 2
def hdrStateFormat (h : List Byte) : Nat := leAt h 20 2
def hdrHandoverMin (h : List Byte) : Nat := leAt h 22 2
def hdrBodyLen (h : List Byte) : Nat := leAt h 24 4
def hdrBodyHash (h : List Byte) : List Byte := sliceBytes h 32 32

/-- The signature of a header verifies under the key it names, which is not retired. -/
def hdrSigned (s : State) (h : List Byte) : Bool :=
  let k := leAt h 9 1
  let key := Config.signingKey k
  k ≤ 1 && !(k == 0 && s.key.key0Retired)
    && ecdsaVerify key.1.toNat key.2.toNat (beNat (sha256 (h.take 192))) (beNat (sliceBytes h 192 32)) (beNat (sliceBytes h 224 32))

/-- The part accepts a header (R477); `body_len` lies in its range (R476; log 58). -/
def headerOk (s : State) (h : List Byte) : Bool :=
  h.length == 256 && leAt h 0 4 == 0x4B564649 && leAt h 4 2 == 1 && leAt h 6 2 == 0x7316 && decide (leAt h 8 1 ≤ 2)
    && hdrFlags h / 2 == 0 && leAt h 28 4 == 0 && (sliceBytes h 64 128).all (· == 0)
    && hdrBodyLen h % 4096 == 0 && decide (4096 ≤ hdrBodyLen h) && decide (hdrBodyLen h ≤ 2097152)
    && hdrSigned s h && decide (s.key.securityFuses ≤ hdrSecurity h)

/-- A header in a sector: none where the sector is erased. -/
def headerAt (s : State) (a : Nat) : Option (List Byte) :=
  let h := flashRead s a 256
  if h.all (· == 0xFF) then none else some h

/-- The pending header of a download (R474). -/
def pendingHeader (s : State) : Option (List Byte) := headerAt s flashDownload

/-- The header of the stored image. -/
def storedHeader (s : State) : Option (List Byte) := headerAt s flashHeader

/-- The body erase is complete. -/
def eraseDone (s : State) : Bool := leNat (flashRead s (flashDownload + 0x100) 4) == eraseDoneWord

/-- Block `n` is written (R474). -/
def blockWritten (s : State) (n : Nat) : Bool := !bitOf (memRead 0xFF s.fw.flash (flashDownload + 0x200 + n / 8)).toNat (n % 8)

/-- The first missing offset of a download; none when every block is written. -/
def firstMissing (s : State) (h : List Byte) : Option Nat :=
  ((List.range (hdrBodyLen h / 4096)).find? fun n => !blockWritten s n).map (· * 4096)

/-- The first missing offset of the pending download, 0 without one. -/
def missingOffset (s : State) : Nat := ((pendingHeader s).bind (firstMissing s)).getD 0

/-- The body of an image as flash holds it. -/
def flashBodyOf (s : State) (h : List Byte) : List Byte := flashRead s flashBody (hdrBodyLen h)

/-- Failure count of the probation record. -/
def probationCount (s : State) : Nat := (s.fw.recs.probation.map (·.count)).getD 0

/-- Raise `EV_UPDATE_STAGE` (R491). -/
def stageEvent (s : State) (stage : Nat) : State :=
  raiseEvent s evUpdateStage stage (missingOffset s) (probationCount s) (((storedHeader s).map hdrVersion).getD 0)

/-- `fw_version` of the running image (R53); the loader reports its own (R73). -/
def runningVersion (s : State) : Nat := (s.fw.running.map fun b => hdrVersion b.header).getD 0

/-! Download and verification (R478 to R480). -/

/-- A long command's reply of a first missing offset; −1 with none missing (log 10). -/
def missingFigure (s : State) : Reply :=
  okFigures [match (pendingHeader s).bind (firstMissing s) with | some n => (n : Int) | none => noFigure]

/-- The header of `UPDATE_BEGIN` is the pending one. -/
def sameHeader (e : CmdEntry) (s : State) : Bool := pendingHeader s == some (inBuf e)

def updateBegin : Cmd where
  check := fun _ e s =>
    orRefuse (refuseIf (s.fw.onProbation && s.fw.old.isSome) stUpdateSequence) (refuseIf (!headerOk s (inBuf e)) stImageBad)
  apply := fun _ e s =>
    let fresh := flashProgram (flashErase (flashErase s flashHeader 65536) flashDownload 65536) flashDownload (inBuf e)
    (if sameHeader e s then s else fresh, { status := stAccepted })
  finish := fun _ s =>
    let s := if eraseDone s then s
      else flashRewrite (flashErase s flashBody 2097152) (flashDownload + 0x100) (leBytes 4 eraseDoneWord)
    some (stageEvent s 1, missingFigure s)

/-- Program a block, read it back, then its bitmap bit (R479). -/
def writeBlock (s : State) (off : Nat) (data : List Byte) : State × Reply :=
  let s := flashProgram s (flashBody + off) data
  if flashRead s (flashBody + off) 4096 == data then
    let n := off / 4096
    let byte := 0xFF#8 ^^^ BitVec.ofNat 8 (2 ^ (n % 8))
    (flashProgram s (flashDownload + 0x200 + n / 8) [byte], okReply)
  else (flashProgram s (flashDownload + 0x100) [0, 0, 0, 0], refuse stImageBad)

def updateWrite : Cmd where
  args := fun e s =>
    argBits e 31 0 % 4096 = 0 && match pendingHeader s with | some h => decide (argBits e 31 0 < hdrBodyLen h) | none => true
  check := fun _ e s =>
    let off := argBits e 31 0
    orRefuse (refuseIf (pendingHeader s).isNone stUpdateSequence)
      (refuseIf (blockWritten s (off / 4096) && flashRead s (flashBody + off) 4096 != inBuf e) stUpdateSequence)
  apply := fun _ e s =>
    if blockWritten s (argBits e 31 0 / 4096) then (s, okReply) else writeBlock s (argBits e 31 0) (inBuf e)

def updateVerify : Cmd where
  check := fun _ _ s =>
    match pendingHeader s with
    | none => some (refuse stUpdateSequence)
    | some h => (firstMissing s h).map fun n => refuse stUpdateSequence n
  apply := longStart
  finish := fun _ s =>
    match pendingHeader s with
    | none => some (s, refuse stUpdateSequence)
    | some h =>
      if sha256 (flashBodyOf s h) == hdrBodyHash h then
        let s := programRecord (flashProgram s flashHeader h) fun r => { r with probation := some { confirmed := false, count := 0 } }
        some (stageEvent s 2, okReply)
      else some (stageEvent (flashErase s flashDownload 65536) 8, refuse stImageBad)

/-! Activation and handover (R481, R482). -/

/-- A verified image stands in flash and is not the one that runs. -/
def verifiedImage (s : State) : Option (List Byte) :=
  match storedHeader s with
  | some h => if (s.fw.running.map (·.header)) == some h then none else some h
  | none => none

/-- The unit is one of a pair. -/
def paired (s : State) : Bool := s.pair.enabled || s.role == .active || s.role == .standby

/-- A hot handover to an image is legal (R481). -/
def handoverOk (s : State) (h : List Byte) : Bool :=
  match s.fw.running with
  | none => false
  | some b =>
    firmwareRuns s && decide (hdrHandoverMin h ≤ hdrStateFormat b.header) && (!paired s || hdrPairProto h == hdrPairProto b.header)

/-- The bank as steps 1 and 2 of R482 leave it: none where the hash differs. -/
def loadBank (s : State) (h : List Byte) : Option CodeBank :=
  let body := flashBodyOf s h
  if sha256 body == hdrBodyHash h then some { header := h, body := memWriteBytes 0xFF [] 0 body } else none

def updateActivate : Cmd where
  check := fun _ e s =>
    match verifiedImage s with
    | none => some (refuse stUpdateSequence)
    | some h => refuseIf (!argBit e 0 && !handoverOk s h) stRefusedState
  apply := fun _ e s =>
    (if argBit e 0 then s else modFw s fun f => { f with old := none, handover := (storedHeader s).bind (loadBank s) }, { status := stAccepted })
  finish := fun op s =>
    if argBit op.e 0 then
      some (modFw s fun f => { f with coldStart := true }, okFigures [((((storedHeader s).map hdrVersion).getD 0 : Nat) : Int)])
    else if s.fw.handover.isNone then some (s, refuse stImageBad)
    else none

/-- HANDOVER_DISPATCH_HOLD (R482 steps 3 to 6): the new firmware takes the state over in the other bank, on probation. -/
def handoverOp (s : State) : State :=
  match s.fw.handover with
  | none => s
  | some b =>
    let onProbation := !((s.fw.recs.probation.map (·.confirmed)).getD false)
    let s := modFw s fun f =>
      { f with running := some b, old := f.running, bankB := !f.bankB, onProbation := onProbation, handover := none }
    let s := stageEvent s 3
    finishWhere s (fun op => entryCmd op.e == some .updateActivate && !argBit op.e 0) fun _ => okFigures [((runningVersion s : Nat) : Int)]

/-! Probation (R483 to R485). -/

/-- The part hands back to the old image (R483): every core's item in service is lost, commands in flight end. -/
def handBack (s : State) : State :=
  match s.fw.old with
  | none => s
  | some b =>
    let s := modFw s fun f => { f with running := some b, old := none, bankB := !f.bankB, onProbation := false, handover := none }
    let s := (List.range 8).foldl coreRestart { s with quiescing := false }
    endCommands s (fun _ => true) stFunctionReset

/-- Count one probation failure (R483). -/
def countFailure (s : State) : State :=
  programRecord s fun r => { r with probation := r.probation.map fun p => { p with count := p.count + 1 } }

/-- A probation failure with the old image in its bank (R483). -/
def failBack (s : State) : State := stageEvent (countFailure (handBack s)) 5

/-- Legal only on probation with the old image in its bank. -/
def revertible (s : State) : Bool := s.fw.onProbation && s.fw.old.isSome

def updateRevert : Cmd where
  check := fun _ _ s => refuseIf (!revertible s) stUpdateSequence
  apply := longStart
  finish := fun _ s => some (if revertible s then (stageEvent (handBack s) 5, okReply) else (s, refuse stUpdateSequence))

/-- Confirm the running image (R485). -/
def confirmImage (s : State) : State :=
  let h := (s.fw.running.map (·.header)).getD []
  let s := modKey s fun k =>
    { k with securityFuses := max k.securityFuses (min 32 (hdrSecurity h)), key0Retired := k.key0Retired || bitOf (hdrFlags h) 0 }
  let s := programRecord s fun r => { r with probation := some { confirmed := true, count := probationCount s } }
  stageEvent (modFw s fun f => { f with old := none, onProbation := false }) 4

def updateConfirm : Cmd where
  check := fun _ _ s => refuseIf (!s.fw.onProbation) stUpdateSequence
  apply := longStart
  finish := fun _ s => some (if s.fw.onProbation then (confirmImage s, okReply) else (s, refuse stUpdateSequence))

/-- Probation state of `UPDATE_STATUS`: 0 none, 1 PROBATION, 2 CONFIRMED. -/
def probationState (s : State) : Nat := match s.fw.recs.probation with | none => 0 | some p => if p.confirmed then 2 else 1

def updateStatus : Cmd where
  apply := getter fun _ s =>
    let row : List Int := [runningVersion s, ((storedHeader s).map hdrVersion).getD 0, probationState s, probationCount s,
      s.key.securityFuses, natOf s.key.key0Retired, missingOffset s].map Int.ofNat
    { okFigures row with data := flashRead s (flashDownload + 0x200) 64 }

/-! The campaign's events (R494 to R497). -/

/-- The unit runs campaigns: active or single, in RUN. -/
def campaignRuns (s : State) : Bool := s.cmp.state == .running && inRun s && s.role != .standby && numbering s

/-- Round the current slot has reached, whether or not it is the last. -/
def reachedRound (s : State) : Option Nat :=
  if currentAsn s < s.cmp.startAsn then none else some ((currentAsn s - s.cmp.startAsn) / max s.cmp.roundSlots 1)

/-- The collection phase of a round is over (R495): a target that sent no STATUS in it was silent. -/
def closeCollection (s : State) : State :=
  if !s.cmp.collecting then s
  else
    modCmp s fun c =>
      { c with collecting := false
               targets := c.targets.map fun t => if t.state < 3 && !t.heard then { t with silent := min 255 (t.silent + 1) } else t }

/-- CAMPAIGN_ROUND_START (R494, R497): the next round begins, or the campaign ends with its last. -/
def roundStartOp (s : State) : State :=
  match reachedRound s with
  | none => s
  | some k =>
    if !campaignRuns s || (match s.cmp.round with | some r => decide (k ≤ r) | none => false) then s
    else
      let s := closeCollection s
      if s.cmp.maxRounds ≤ k then endCampaign s
      else
        let s := modCmp s fun c => { c with round := some k }
        let s := if s.cmp.planRound = some k then s else openRound s k
        announceTo s fun t => t.state == 0

/-- COLLECTION_PHASE_START (R495): the want counts are reset. -/
def collectionOp (s : State) : State :=
  match s.cmp.round with
  | none => s
  | some k =>
    if !campaignRuns s || s.cmp.collecting || currentAsn s < s.cmp.startAsn + k * s.cmp.roundSlots + s.cmp.bcastSlots then s
    else endIfDone (modCmp s fun c => { c with collecting := true, want := [], targets := c.targets.map fun t => { t with heard := false } })

/-- The blocks a STATUS names as missing (R493); with no range, bit [1] names every block (log 57). -/
def missingBlocks (c : Campaign) (b : List Byte) : List Nat :=
  let n := leAt b 4 1
  let ranges := (List.range n).map fun i => (leAt b (5 + 4 * i) 2, leAt b (7 + 4 * i) 2)
  let above := match ranges.getLast? with | some r => r.1 + r.2 | none => 0
  (List.range (blockCount c)).filter fun k =>
    ranges.any (fun r => r.1 ≤ k && decide (k < r.1 + r.2)) || (bitOf (leAt b 3 1) 1 && decide (above ≤ k))

/-- A target is relayed (R296). -/
def targetRelayed (s : State) (a : W32) : Bool := (((lookupAddr s a).bind (nodeAt s)).map fun n => routeKind n == 1).getD false

/-- Handle a STATUS of a target (R495). -/
def targetStatus (s : State) (addr : W32) (b : List Byte) : State :=
  let miss := missingBlocks s.cmp b
  let relayed := targetRelayed s addr
  let direct := relayed || decide (miss.length ≤ s.cmp.unicastMax)
  let verified := bitOf (leAt b 3 1) 0
  let uc (i : Nat) : Nat := if direct then miss.getD i 0xFFFF else 0xFFFF
  let s := modTarget s addr fun t =>
    if miss.isEmpty && verified && t.state < 3 then { t with state := 3, missing := 0, ucast0 := 0xFFFF, ucast1 := 0xFFFF, heard := true }
    else { t with state := if t.state < 2 then 2 else t.state, missing := min miss.length 0xFFFF, ucast0 := uc 0, ucast1 := uc 1, heard := true }
  let s :=
    if direct then miss.foldl (fun s k => if bulkBad s (.block k) then bulkLose s (.block k) else queueCampaign s addr (blockPayload s.cmp k)) s
    else if s.cmp.collecting then miss.foldl (fun s k => modCmp s fun c => { c with want := mapSet c.want k (min 0xFFFF (mapGetD 0 c.want k + 1)) }) s
    else s
  let s := if miss.isEmpty && verified && s.cmp.activateAsn != 0 then announceTo s fun t => t.meshAddr == addr && t.state == 3 else s
  endIfDone s

/-- CAMPAIGN_STATUS_RX (R493, R495). -/
def statusRxOp (s : State) : State :=
  match takeThread s ftCampaign with
  | none => s
  | some (u, s) =>
    let b := u.payload
    match b.head? with
    | some 0x03#8 =>
      let n := leAt b 4 1
      if s.cmp.state != .running || b.length < 5 + 4 * n || leAt b 1 2 != s.cmp.id || 16 < n || !(s.cmp.targets.any (·.meshAddr == u.src)) then s
      else targetStatus (modCmp s fun c => { c with statusRx := c.statusRx + 1 }) u.src b
    | some 0x01#8 | some 0x02#8 => s
    | _ => modCmp s fun c => { c with unknown := c.unknown + 1 }

/-! The CAMPAIGN commands (R499, R500). -/

/-- A BLOCK fits the bound profile of each band of the class, and the class's contacts (R500). -/
def blockFits (s : State) (cls : TagClass) (blkLen : Nat) : Bool :=
  bands.all fun b =>
    classProfile cls (bandNum b) == 0 ||
      match profileOf s (s.air.bind.get b) with
      | some p => decide (psduLen p 0 (5 + blkLen) ≤ p.maxPsdu) && decide (psduLen p 0 (5 + blkLen) ≤ cls.contactPsduMax)
      | none => true

def campaignDefine : Cmd where
  args := fun e s =>
    let len := argBits e 63 32
    let blk := argBits e 75 64
    1 ≤ len && len ≤ 1048576 && 64 ≤ blk && blk ≤ 1024 && blk % 16 = 0 && ceilDiv len blk ≤ 16384 && 1 ≤ argBits e 87 80
      && argBits e 159 128 < argBits e 127 96
      && match classOf s (argBits e 31 16) with | some c => blockFits s c blk | none => true
  check := fun _ e s =>
    orRefuse (refuseIf (s.cmp.state == .running) stRefusedState) (refuseIf (classOf s (argBits e 31 16)).isNone stNotFound)
  apply := setter fun e s =>
    let s := flushCampaign s
    { s with cmp :=
      { Campaign.reset with
        state := .loading, id := argBits e 15 0, classId := argBits e 31 16, imageLen := argBits e 63 32, blkLen := argBits e 75 64
        maxRounds := argBits e 87 80, roundSlots := argBits e 127 96, bcastSlots := argBits e 159 128, hash := inBuf e
        unicastMax := s.cmp.unicastMax, unknown := s.cmp.unknown } }

def campaignLoad : Cmd where
  check := fun _ e s =>
    orRefuse (refuseIf (s.cmp.state != .loading) stRefusedState) (refuseIf (s.cmp.imageLen < argBits e 31 0 + e.bufLen.toNat) stBadArg)
  apply := setter fun e s =>
    let lo := argBits e 31 0 / max s.cmp.blkLen 1
    let s := (List.range ((argBits e 31 0 + e.bufLen.toNat - 1) / max s.cmp.blkLen 1 + 1 - lo)).foldl (fun s k => bulkFresh s (.block (lo + k))) s
    modCmp s fun c => { c with image := memWriteBytes 0 c.image (argBits e 31 0) (inBuf e) }

/-- Addresses that `CAMPAIGN_TARGETS` names. -/
def targetAddrs (e : CmdEntry) (s : State) : List W32 :=
  if argBit e 0 then (chunks 4 65536 (inBuf e)).map fun b => BitVec.ofNat 32 (leNat b)
  else (s.node.table.filter fun p => p.2.classId == s.cmp.classId).map fun p => p.2.meshAddr

/-- Targets with some addresses added; one held already stays as it is (log 57). -/
def addTargets (l : List Target) (addrs : List W32) : List Target :=
  addrs.foldl (fun l a => if l.any (·.meshAddr == a) then l
    else l ++ [{ meshAddr := a, state := 0, silent := 0, missing := 0, ucast0 := 0xFFFF, ucast1 := 0xFFFF, heard := false }]) l

def campaignTargets : Cmd where
  check := fun _ e s =>
    let addrs := targetAddrs e s
    orRefuse (refuseIf (65536 < (addTargets s.cmp.targets addrs).length) stNoRoom) (refuseIf (addrs.any fun a => (lookupAddr s a).isNone) stNotFound)
  apply := fun _ e s =>
    let s := modCmp s fun c => { c with targets := addTargets c.targets (targetAddrs e s) }
    (s, okFigures [(s.cmp.targets.length : Int)])

/-- SHA-256 of the loaded image is `image_hash`. -/
def campaignHashOk (s : State) : Bool := sha256 (memReadBytes 0 s.cmp.image 0 s.cmp.imageLen) == s.cmp.hash

def campaignStart : Cmd where
  check := fun _ e s =>
    orRefuse (refuseIf (s.part == .coldWait || s.cmp.state != .loading || s.cmp.targets.isEmpty) stRefusedState)
      (orRefuse (refuseIf (!takeoverFar s (argBits e 39 0)) stBadArg) (refuseIf (!campaignHashOk s) stImageBad))
  apply := longStart
  finish := fun op s =>
    if s.cmp.state != .loading then some (s, refuse stRefusedState)
    else
      let s := modCmp s fun c => { c with state := .running, startAsn := argBits op.e 39 0, round := none, planRound := none, collecting := false }
      some (announceTo s fun t => t.state == 0, okFigures [((s.cmp.startAsn : Nat) : Int)])

def campaignActivate : Cmd where
  check := fun _ _ s => refuseIf (s.cmp.state != .running && s.cmp.state != .ended) stRefusedState
  apply := setter fun e s =>
    let s := modCmp s fun c => { c with activateAsn := argBits e 39 0 }
    if argBits e 39 0 = 0 then s else announceTo s fun t => t.state == 3

def campaignStop : Cmd where
  apply := setter fun _ s => if s.cmp.state == .idle then s else flushCampaign (endCampaign s)

/-- Code of a campaign state: IDLE 0, LOADING 1, RUNNING 2, ENDED 3. -/
def cmpCode (c : CmpState) : Nat := c.ctorIdx

def campaignStatus : Cmd where
  apply := getter fun _ s =>
    let c := s.cmp
    let per := (List.range 6).map fun k => (c.targets.filter fun t => t.state == k).length
    let head : List Int := [(cmpCode c.state : Int), match c.round with | some r => (r : Int) | none => noFigure]
    okFigures (head ++ (per.map Int.ofNat) ++ ([c.sentBcast, c.sentUcast, c.statusRx, c.unknown.toNat].map Int.ofNat))

/-- The 12 bytes of a target record (R496). -/
def targetBytes (t : Target) : List Byte :=
  leBytes 4 t.meshAddr.toNat ++ leBytes 4 (t.state % 256 * 2 ^ 24 + t.silent % 256 * 2 ^ 16 + t.missing % 65536)
    ++ leBytes 4 (t.ucast1 % 65536 * 2 ^ 16 + t.ucast0 % 65536)

def campaignTargetRead : Cmd where
  args := fun e _ => 1 ≤ argBits e 31 16 && argBits e 31 16 ≤ 4096
  apply := getter fun e s => okData (((s.cmp.targets.drop (argBits e 15 0)).take (argBits e 31 16)).flatMap targetBytes)

def campaignTune : Cmd where
  args := fun e _ => argBits e 1 0 ≤ 2
  apply := setter fun e s => modCmp s fun c => { c with unicastMax := argBits e 1 0 }

/-- A CAMPAIGN per-function reset (R96): the current round restarts. -/
def campaignReset (s : State) : State :=
  match s.cmp.round with
  | none => s
  | some k =>
    if s.cmp.state != .running then s
    else if s.cmp.collecting then modCmp s fun c => { c with want := [], targets := c.targets.map fun t => { t with heard := false } }
    else openRound s k

end Sys2Proof.Machine
end

