-- ==== Sys2Proof/Machine/Pair.lean ====
section
/-! DEFINITION. The twin pair: heartbeats, claims, leases, the Eclipse gate's conditions, HELLO, replication on both sides, solo,
takeover, demotion, the bulk copy, the PAIR commands (R432 to R461, R558). -/

namespace Sys2Proof.Machine

/-! The heartbeat word (R435). -/

/-- CRC-8 of bits [63:8] of a word, high byte first. -/
def hbCrc (w : Nat) : Nat := hcs8 (beBytes 7 (w / 256))

/-- Code of a replica state. -/
def replicaCode (r : Replica) : Nat := r.ctorIdx

/-- The unit's remaining lease, ns. -/
def leaseLeft (s : State) : Nat := match s.pair.leaseEnd with | some t => t - s.upNs | none => 0

/-- The heartbeat word of now. -/
def hbWord (s : State) : W64 :=
  let left := min 0xFFF (ceilDiv (leaseLeft s) 16000)
  let x := s.pair.claim.toNat * 2 ^ 32 + roleCode s.role * 2 ^ 28 + replicaCode s.pair.replica * 2 ^ 26
    + natOf (s.pair.solo && s.role == .active) * 2 ^ 25 + left * 2 ^ 12 + s.pair.hbSeq % 16 * 2 ^ 8
  BitVec.ofNat 64 (x + hbCrc x)

/-- The half-bit levels of a word on `HB_OUT` (R435): after the preamble byte 0xD5, most significant bit first, each bit Manchester-coded
at 2 Mb/s with the transition that `Config.manchesterOne` gives a 1 (log 110). -/
def heartbeatLevels (w : W64) : List Bool :=
  let bits := ([0xD5#8] ++ beBytes 8 w.toNat).flatMap fun b => (List.range 8).map fun k => bitOf b.toNat (7 - k)
  bits.flatMap fun b => let h := b == Config.manchesterOne; [h, !h]

/-- CFB-128 encryption of `n` blocks, the last one cut to its bytes. -/
def cfbSeal (key : List Byte) : Nat → List Byte → List Byte → List Byte
  | 0, _, _ => []
  | n + 1, iv, m =>
    let c := xorBytes (m.take 16) (aesEncrypt key iv)
    c ++ cfbSeal key n c (m.drop 16)

/-- The bytes of a message sent on the link (R433, R434): header, ciphertext under `enc_slot`, and the 8-byte tag under `mac_slot` over both,
filled with zeros to whole blocks (log 30). -/
def linkWire (s : State) (m : LinkSent) : List Byte :=
  let head := leBytes 1 m.type ++ [0] ++ leBytes 2 m.body.length ++ leBytes 4 m.seq.toNat
  let key (n : Nat) : List Byte := slotMaterial (slotOf s n)
  let c := cfbSeal (key s.pair.encSlot) (ceilDiv m.body.length 16) (beBytes 16 (Config.linkIv m.seq s.straps.unitId).toNat) m.body
  head ++ c ++ (cbcMac (key s.pair.macSlot) (padBlocks (head ++ c))).take 8

/-- Fields of a word. -/
def hbClaim (w : W64) : W32 := w.extractLsb' 32 32
def hbRole (w : W64) : Nat := bitsOf w.toNat 31 28
def hbReplica (w : W64) : Nat := bitsOf w.toNat 27 26
def hbSolo (w : W64) : Bool := bitOf w.toNat 25
def hbLeaseLeft (w : W64) : Nat := bitsOf w.toNat 23 12

/-! The gate (R437, R443). -/

/-- The outputs may be open: single, or active with the higher claim and a valid lease (R437, R439). -/
def gateMay (s : State) : Bool :=
  s.part != .boot && s.part != .loader && s.part != .tamperLock && !s.test.held && match s.role with
    | .single => true
    | .active => decide (s.pair.seen.toNat < s.pair.claim.toNat) && decide (0 < leaseLeft s)
    | _ => false

/-- ECLIPSE_GATE_CLOSE (R443). -/
def gateCloseOp (s : State) : State := if gateMay s then s else closeGate s

/-- ECLIPSE_GATE_OPEN (R443). -/
def gateOpenOp (s : State) : State := if gateMay s then openGate s else s

/-- LEASE_EXPIRY (R437, R443). -/
def leaseExpiryOp (s : State) : State :=
  match s.pair.leaseEnd with
  | some t => if t ≤ s.upNs then closeGate (modPair s fun p => { p with leaseEnd := none }) else s
  | none => s

/-! Key check values and HELLO (R433, R440, R451). -/

/-- The text "KV-PAIR-KCV". -/
def kcvText : List Byte := [0x4B, 0x56, 0x2D, 0x50, 0x41, 0x49, 0x52, 0x2D, 0x4B, 0x43, 0x56]

/-- Slots bound in the generation map, each once. -/
def boundSlots (s : State) : List Nat := ((s.key.genMap.filterMap id).map (·.2)).eraseDups

/-- The key check value of a slot: the first 8 bytes of the CMAC, as they go on the link. -/
def kcvOf (s : State) (n : Nat) : W64 := BitVec.ofNat 64 (leNat ((cmac (slotMaterial (slotOf s n)) kcvText).take 8))

/-- Key check values of the loaded slots that the map binds. -/
def keyChecks (s : State) : List (Nat × W64) :=
  ((boundSlots s).filter fun n => (slotOf s n).state == .loaded).map fun n => (n, kcvOf s n)

/-- The 16 bytes and the key check values of a HELLO; their order is that of R433. -/
def helloBody (s : State) : List Byte :=
  let proto := (s.fw.running.map fun b => hdrPairProto b.header).getD 0
  leBytes 2 proto ++ [0x02#8, BitVec.ofNat 8 (lifeCode s.key.lifecycle), BitVec.ofNat 8 (natOf s.straps.unitId)] ++ leBytes 4 s.air.routerAddr.toNat
    ++ (keyChecks s).flatMap fun k => leBytes 1 k.1 ++ leBytes 8 k.2.toNat

/-- Send HELLO: each key check value charges one use (R451). -/
def sendHello (s : State) (asked : Bool) : State :=
  let body := helloBody s
  let s := (keyChecks s).foldl (fun s k => chargeUse s k.1 1) s
  linkSend (modPair s fun p => { p with helloAsked := p.helloAsked || asked }) lmHello body

/-- The map changed: the units exchange their values again (R451). -/
def mapChanged (s : State) : State := if s.pair.enabled && s.pair.link == .up then sendHello s true else s

/-! The link (R432 to R434). -/

/-- Wait effects that are due: the uplink is acknowledged and handed on, the response goes out. -/
def releaseHold (s : State) (h : Hold) : State :=
  match h with
  | .uplink u => releaseUplink s u
  | .response e r final => respond s e r final
  | .launch | .epoch => s

/-- Release the waiting messages that a test picks, oldest first. -/
def releaseWaits (s : State) (p : Waiting → Bool) : State :=
  let go := s.pair.waits.filter p
  let s := modPair s fun x => { x with waits := x.waits.filter fun w => !p w }
  go.foldl (fun s w => releaseHold s w.hold) s

/-- Raise `EV_FAILOVER` (R458). -/
def failoverEvent (s : State) (replica : Replica) (cause : Nat) : State :=
  raiseEvent s evFailover s.pair.claim.toNat (replicaCode replica) cause s.crypt.epochs.epochCur.toNat

/-- The active unit goes solo (R446): waiting effects complete without the standby. The event reports the replica as it was (log 59). -/
def goSolo (s : State) (cause : Nat) : State :=
  if s.role != .active || s.pair.solo then s
  else
    let was := s.pair.replica
    let s := modPair s fun p => { p with solo := true, replica := .stale, sync := none, delta := [] }
    failoverEvent (releaseWaits s fun _ => true) was cause

/-- A standby's replica may have missed changes (R444). -/
def replicaStale (s : State) : State :=
  if s.role == .standby && s.pair.replica != .empty then modPair s fun p => { p with replica := .stale } else s

/-- The link is down (R432, R444, R446); source kind 5 becomes invalid (R408). -/
def linkLost (s : State) : State :=
  if s.pair.link != .up then s
  else
    let s := pairCount (modPair s fun p => { p with link := .down, helloOk := false, helloAsked := false, tagFails := 0 }) pcLinkDown 1
    let s := if s.role == .active && s.pair.replica == .syncing then modPair s fun p => { p with replica := .stale, sync := none, delta := [] } else s
    goSolo (replicaStale (invalidate s 5)) 4

/-- PAIR_LINK_DOWN (R432). -/
def linkDownOp (s : State) : State := linkLost s

/-- PAIR_LINK_UP (R432, R440): the link is trained; both directions number their messages from 0 (log 59), HELLO goes out. -/
def linkUpOp (s : State) : State :=
  if !s.pair.enabled || s.pair.link == .up || resourceTested s 3 then s
  else sendHello (modPair s fun p => { p with link := .up, txSeq := 0, rxSeq := 0, tagFails := 0 }) true

/-- Take a message (R434): with a good tag and the next `seq` it is accepted. Eight failed tags in a row take the link down (R432);
after a gap the number received tells the next one (log 59). -/
def linkTake (s : State) (h : LinkHdr) : State × Bool :=
  if s.pair.link != .up || resourceTested s 3 then (s, false)
  else if !h.tagOk then
    let s := pairCount (modPair (linkUse s) fun p => { p with tagFails := p.tagFails + 1 }) pcTagFail 1
    (if 8 ≤ s.pair.tagFails then linkLost s else s, false)
  else if h.seq != s.pair.rxSeq then
    (replicaStale (pairCount (modPair (linkUse s) fun p => { p with rxSeq := h.seq + 1, tagFails := 0 }) pcTagFail 1), false)
  else (modPair (linkUse s) fun p => { p with rxSeq := p.rxSeq + 1, tagFails := 0, linkAt := some s.upNs }, true)

/-- Acknowledge a message (R433). -/
def sendAck (s : State) (h : LinkHdr) : State := linkSend s lmCommitAck (leBytes 4 h.seq.toNat ++ leBytes 4 h.seq.toNat)

/-! The bulk copy on the active unit (R456). -/

/-- Node-table entries in one SYNC message (log 60). -/
def syncBatch : Nat := 64

/-- Send a SYNC piece. -/
def sendSync (s : State) (body : List Byte) : State := linkSend s lmSync body

/-- Start a bulk copy: the delta log starts empty. -/
def startSync (s : State) : State :=
  modPair s fun p =>
    { p with replica := .syncing, delta := []
             sync := some { startedAt := s.upNs, copied := 0, total := s.node.table.length, cursor := 0, phase := 2, replayed := 0 } }

/-- The copy is complete (R456 step 5). -/
def syncDone (s : State) (x : SyncRun) : State :=
  let s := modPair s fun p => { p with replica := .ready, solo := false, sync := some { x with phase := 5 } }
  let s := pairCount s pcSyncRuns 1
  raiseEvent s evTwinReturned (hbClaim s.pair.twinHb).toNat ((s.upNs - x.startedAt) / 1000) x.copied x.replayed

/-- The bytes of a delta record; the content of a command's effect is its entry. -/
def deltaBytes (r : DeltaRec) : List Byte :=
  match r with
  | .journal j => leBytes 4 j.seq.toNat ++ leBytes 4 (j.kind.toNat * 2 ^ 24 + j.index) ++ leBytes 4 j.meshAddr.toNat ++ leBytes 4 j.fromIndex
      ++ leBytes 64 j.entry.toNat
  | .commit c => commitBytes c
  | .config e => entryBytes64 e

/-- The next piece of the copy: entries by rising index, one message for every setting, then the delta log (R456; log 60). -/
def nextSync (s : State) : State :=
  match s.pair.sync with
  | none => s
  | some x =>
    match x.phase with
    | 2 =>
      let l := (s.node.table.filter fun p => decide (x.cursor ≤ p.1)).take syncBatch
      match l.getLast? with
      | some last =>
        let x' := { x with copied := x.copied + l.length, cursor := last.1 + 1 }
        sendSync (modPair s fun p => { p with sync := some x' }) (l.flatMap fun p => leBytes 4 p.1 ++ indexBytes s p.1)
      | none => sendSync (modPair s fun p => { p with sync := some { x with phase := 3 } }) []
    | 3 => sendSync (modPair s fun p => { p with sync := some { x with phase := 4 } }) []
    | 4 =>
      match s.pair.delta with
      | r :: rest => sendSync (modPair s fun p => { p with delta := rest, sync := some { x with replayed := x.replayed + 1 } }) (deltaBytes r)
      | [] => if s.pair.kcvDiffer then s else syncDone (sendSync s []) x
    | _ => s

/-- A standby with agreed HELLOs and no READY replica is copied to (R453, R456). -/
def maybeSync (s : State) : State :=
  let w := s.pair.twinHb
  if s.role == .active && s.pair.link == .up && s.pair.helloOk && hbRole w == 2 && s.pair.replica != .syncing
    && (hbReplica w != 2 || s.pair.replica != .ready) && hbReplica w != 1 then nextSync (startSync s)
  else s

/-! Roles (R439 to R441). -/

/-- The radio lets go of what it received and planned: contexts idle, launches dropped, plans unarmed. -/
def radioLetsGo (s : State) : State :=
  let s := (mapKeys s.radio.ctxs).foldl poisonCut s
  { s with
    radio := { s.radio with ctxs := s.radio.ctxs.map fun p => (p.1, { Ctx.idle with frames := p.2.frames })
                            tx := s.radio.tx.all fun x => { x with queue := [], awaiting := [] } }
    orbit := { s.orbit with plans := s.orbit.plans.filter fun p => !p.handed }
    queue := { s.queue with records := s.queue.records.map fun p => (p.1, { p.2 with planned := false, onAir := false }) } }

/-- The unit becomes a standby with some replica. -/
def becomeStandby (s : State) (r : Replica) : State :=
  let s := modPair (radioLetsGo s) fun p => { p with replica := r, solo := false, noRenew := true, startupEnd := none, judgedEnd := none, sync := none, delta := [] }
  useTwin (holdOn { s with role := Role.standby, part := PartState.standby, quiescing := false })

/-- Pending frames of a demoted unit go without completion (R441). -/
def dropPending (s : State) : State :=
  let n := s.queue.records.length + s.queue.fwHeld.length
  let s := (mapKeys s.queue.records).foldl freeRecord (modQueue s fun q => { q with fwHeld := [] })
  let tx := s.host.tx.map fun r => { r with live := 0 }
  pairCount { s with host := { s.host with tx := tx } } pcDemoteLost n

/-- A higher claim demotes the active unit (R441, R443). -/
def demote (s : State) : State :=
  let was := s.pair.replica
  let held := s.pair.waits.filterMap fun w => match w.hold with | .response e _ true => some e | _ => none
  let s := modPair (closeGate s) fun p => { p with leaseEnd := none, waits := [] }
  let s := held.foldl (fun s e => respond s e (refuse stNotActive) true) s
  let s := failoverEvent s was 2
  let s := endCommands (dropPending s) (fun _ => true) stNotActive
  becomeStandby s .empty

/-- Every outgoing stream restarts at the epoch flash holds, with count 0 (R452 step 2). -/
def takeEpochs (s : State) : State :=
  let r := s.crypt.flashEpochs
  let s := modCrypt s fun c =>
    { c with epochs := r, bcast := BitVec.ofNat 32 (r.epochCur.toNat * 1048576), epochWrite := none
             exhausted := (r.epochCur.toNat == 0xFFF, r.genPrev != 0xFF && r.epochPrev.toNat == 0xFFF) }
  modNodes s fun d => { d with table := d.table.map fun p => (p.1, { p.2 with txEpoch := epochFor r p.2.keyGen.toNat, txCount := 0 }) }

/-- The 60-byte announcement frame of a port (R452 step 6). -/
def announceFrame (p : EthPort) : List Byte := List.replicate 6 0xFF ++ beBytes 6 p.mac.toNat ++ [0x88, 0xB5] ++ List.replicate 46 0

/-- Announce the takeover on each Ethernet port that is up. -/
def announcePorts (s : State) : State :=
  [0, 1].foldl (fun s k =>
    let p := nth EthPort.reset s.route.ports k
    if p.up && p.mode != 0 then ethSendOne s k (announceFrame p) else s) s

/-- Take an entry out on the standby. -/
def dropEntry (s : State) (i : Nat) : State :=
  match nodeAt s i with
  | some n => modNodes (unlinkNode s i n) fun d => { d with table := mapDel d.table i }
  | none => s

/-- The takeover (R436, R452, R453): claim, epochs, part state, gate, event, announcement. With a relinquished twin the replica it
keeps stays READY. -/
def takeOver (s : State) (cause : Nat) : State :=
  let was := s.pair.replica
  let gen := (max s.pair.claim.toNat s.pair.seen.toNat) / 2 + 1
  let claim : W32 := BitVec.ofNat 32 (gen * 2 + natOf s.straps.unitId)
  let keep := decide (cause = 1) && was == .ready && s.pair.link == .up
  let s := takeEpochs (discardStages s fun st => st.checkState < 3)
  let s := match was with
    | .ready => { s with part := PartState.run }
    | .stale => { (mapKeys s.node.table).foldl challengeNode s with part := PartState.run }
    | _ =>
      let s := if s.role == Role.standby then (mapKeys s.node.table).foldl dropEntry s else s
      { s with part := PartState.coldWait }
  let s := holdOn { s with role := Role.active }
  let s := modPair s fun p =>
    { p with claim := claim, noRenew := false, leaseEnd := some (s.upNs + s.pair.leaseUs * 1000), judgedEnd := none, startupEnd := none
             replica := if keep then .ready else .empty, solo := !keep, sync := none, delta := [], waits := [] }
  let s := { s with route := { s.route with ports := s.route.ports.map fun p => { p with txFifo := [] } } }
  let s := failoverEvent (pairCount (openGate s) pcTakeovers 1) was cause
  campaignTakeover (announcePorts s)

/-! Heartbeats (R435, R438, R440, R441). -/

/-- The judged end of the active unit's lease after a heartbeat (R438). -/
def judge (s : State) (w : W64) : Option Nat :=
  let t := s.upNs + hbLeaseLeft w * 16000 + s.pair.guardUs * 1000
  match s.pair.judgedEnd with
  | some x => some (max x t)
  | none => some t

/-- What a heartbeat from the twin does in each role. A waiting unit counts a claim that a takeover formed (R440). -/
def hearTwin (s : State) (w : W64) : State :=
  let s := modPair s fun p => { p with twinHb := w, seen := if p.seen.toNat < (hbClaim w).toNat then hbClaim w else p.seen }
  match s.role with
  | .active => if s.pair.claim.toNat < (hbClaim w).toNat then demote s else maybeSync s
  | .undecided =>
    if s.pair.enabled && !s.pair.helloBad && (hbRole w == 1 || decide (2 ≤ (hbClaim w).toNat)) then
      let s := becomeStandby (closeGate s) .empty
      if hbRole w == 1 then modPair s fun p => { p with judgedEnd := judge s w } else s
    else s
  | .standby =>
    let s := if hbRole w == 1 then modPair s fun p => { p with judgedEnd := judge s w }
      else if hbRole w == 2 && s.pair.judgedEnd.isSome then modPair s fun p => { p with judgedEnd := judge s w } else s
    let s := if hbRole w == 1 && hbSolo w && s.pair.replica == .ready then replicaStale s else s
    if s.pair.claim.toNat < s.pair.seen.toNat then finishWhere s (fun op => entryCmd op.e == some .pairRelinquish) fun _ => okFigures [] else s
  | .single => s

/-- LINE_HEARTBEAT_RX (R435). -/
def lineHeartbeatOp (s : State) (w : W64) : State :=
  if bitsOf w.toNat 7 0 != hbCrc w.toNat then pairCount s pcHbCrc 1
  else hearTwin (pairCount (modPair s fun p => { p with lineAt := some s.upNs }) pcHbLine 1) w

/-- HEARTBEAT (R435, R438). -/
def heartbeatOp (s : State) (h : LinkHdr) (w : W64) : State :=
  match linkTake s h with
  | (s, false) => s
  | (s, true) => if bitsOf w.toNat 7 0 != hbCrc w.toNat then s else hearTwin (pairCount s pcHbLink 1) w

/-- HEARTBEAT_SEND (R435, R437): the active unit's kernel renews the lease with each. -/
def heartbeatSendOp (s : State) : State :=
  let due := match s.pair.hbAt with | some t => decide (t + s.pair.hbUs * 1000 ≤ s.upNs) | none => true
  if !s.pair.enabled || !firmwareRuns s || !due then s
  else
    let s := if s.role == .active && !s.pair.noRenew then modPair s fun p => { p with leaseEnd := some (s.upNs + s.pair.leaseUs * 1000) } else s
    let w := hbWord s
    let s := modPair s fun p => { p with lineSent := p.lineSent ++ [w], hbSeq := (p.hbSeq + 1) % 16, hbAt := some s.upNs }
    gateOpenOp (linkSend s lmHeartbeat (leBytes 8 w.toNat))

/-- The twin's HELLO fits this unit (R440). -/
def helloFits (s : State) (m : HelloMsg) : Bool :=
  m.pairProto.toNat == (s.fw.running.map fun b => hdrPairProto b.header).getD 0 && m.stepping == 2#8
    && m.lifecycle.toNat == lifeCode s.key.lifecycle && m.routerAddr == s.air.routerAddr && m.unitId != s.straps.unitId

/-- HELLO (R440, R451). -/
def helloOp (s : State) (h : LinkHdr) (m : HelloMsg) : State :=
  match linkTake s h with
  | (s, false) => s
  | (s, true) =>
    let s := if s.pair.helloAsked then modPair s fun p => { p with helloAsked := false } else sendHello s false
    if !helloFits s m then pairCount (modPair s fun p => { p with helloOk := false, helloBad := true }) pcConfigErr 1
    else
      let own := keyChecks s
      let same := own.all (fun k => m.kcvs.contains k) && m.kcvs.all fun k => own.contains k
      let s := modPair s fun p => { p with helloOk := true, helloBad := false, kcvDiffer := !same }
      let s := if same then s else pairCount s pcKeyMismatch 1
      let s := maybeSync s
      if same && s.role == .active && s.pair.replica == .syncing then nextSync s else s

/-- STARTUP_WAIT_EXPIRY (R440). -/
def startupOp (s : State) : State :=
  match s.pair.startupEnd with
  | some t => if s.role == .undecided && s.pair.enabled && !s.pair.helloBad && t ≤ s.upNs && firmwareRuns s then takeOver s 0 else s
  | none => s

/-- TAKEOVER (R438, R452): the judged end has passed. The new claim is above every claim seen (log 61). -/
def takeoverOp (s : State) : State :=
  match s.pair.judgedEnd with
  | some t => if s.role == .standby && t ≤ s.upNs then takeOver s (if hbRole s.pair.twinHb == 2 then 1 else 0) else s
  | none => s

/-- A path has been silent for some ns. -/
def silentFor (s : State) (at_ : Option Nat) (ns : Nat) : Bool := match at_ with | some t => decide (t + ns ≤ s.upNs) | none => decide (ns ≤ s.upNs)

/-- ISOLATION_YIELD (R457): the active unit gives up its role (log 62). -/
def isolationOp (s : State) : State :=
  let ns := s.pair.leaseUs * 1000
  if s.role == .active && s.pair.yieldPolicy && silentFor s s.pair.lineAt ns && silentFor s s.pair.linkAt ns then
    becomeStandby (releaseWaits (modPair (closeGate s) fun p => { p with leaseEnd := none }) fun _ => true) .stale
  else s

/-! Replication received (R445 to R447, R456). -/

/-- COMMIT_ACK (R446): the messages it covers are acknowledged; a copy under way sends its next piece. -/
def commitAckOp (s : State) (h : LinkHdr) (first last : W32) : State :=
  match linkTake s h with
  | (s, false) => s
  | (s, true) =>
    let s := releaseWaits s fun w => decide ((w.seq - first).toNat ≤ (last - first).toNat)
    if s.role == .active && s.pair.replica == .syncing then nextSync s else s

/-- REPL_TIMEOUT (R446). -/
def replTimeoutOp (s : State) : State :=
  match s.pair.waits with
  | w :: _ =>
    if s.role == .active && w.since + s.pair.replTimeoutUs * 1000 ≤ s.upNs then goSolo (pairCount s pcCommitTimeout 1) 4 else s
  | [] => s

/-- A replica follows changes: READY, or being copied to. -/
def follows (s : State) : Bool := s.role == .standby && (s.pair.replica == .ready || s.pair.replica == .syncing)

/-- Apply a commit record to the same index (R445): counter, generation and the measurement under R237. -/
def applyCommit (s : State) (r : CommitRec) : State :=
  match nodeAt s r.node with
  | none => s
  | some n =>
    if n.meshAddr != r.meshAddr then s
    else
      let s := modNode s r.node fun n => { n with rxCounter := r.counter, keyGen := r.keyGen, coldChal := false, hit := true, misses := 0, uplinksDue := 0 }
      if r.e = -2147483648 || routeKind n = 1 then s
      else if n.adrift then adriftReturn s r.node (some (r.e, r.t.toNat)) true else clockMeasure s r.node r.e r.t.toNat true false

/-- COMMIT (R446). -/
def commitOp (s : State) (h : LinkHdr) (recs : List CommitRec) : State :=
  match linkTake s h with
  | (s, false) => s
  | (s, true) => if follows s then sendAck (recs.foldl applyCommit (accessDoms s tableDoms)) h else s

/-- File a node as its next wake says, where the engine numbers slots. -/
def fileAsIs (s : State) (i : Nat) : State :=
  match nodeAt s i with
  | some n => if numbering s && meetsPart s n && n.nextWake != 0 then refile s i else unfile s i
  | none => unfile s i

/-- Put a replicated entry at an index; outgoing streams are not replicated (R445). -/
def placeEntry (s : State) (i : Nat) (entry : BitVec 512) : State :=
  let n := entryOf (leBytes 64 entry.toNat)
  let n := match nodeAt s i with
    | some o => if o.meshAddr == n.meshAddr then { n with txEpoch := o.txEpoch, txCount := o.txCount } else n
    | none => n
  fileAsIs (writeEntry s i n) i

/-- Apply a journal record (R288, R445); the journal continues its `seq` (R455). -/
def applyJournal (s : State) (r : JournalMsg) : State :=
  let j : JournalRec := { seq := r.seq, kind := r.kind, index := r.index, meshAddr := r.meshAddr, fromIndex := r.fromIndex }
  let s := modNodes s fun d => { d with journal := d.journal ++ [j], journalSeq := r.seq }
  match r.kind.toNat with
  | 4 | 5 => dropEntry s r.index
  | 3 => placeEntry (modNodes (unfile s r.fromIndex) fun d => { d with table := mapDel d.table r.fromIndex }) r.index r.entry
  | _ => placeEntry s r.index r.entry

/-- JOURNAL (R445). -/
def journalOp (s : State) (h : LinkHdr) (recs : List JournalMsg) : State :=
  match linkTake s h with
  | (s, false) => s
  | (s, true) => if follows s then sendAck (recs.foldl applyJournal (accessDoms s tableDoms)) h else s

/-- The contact state of R229, taken over into an entry. -/
def withContact (o n : NodeEntry) : NodeEntry :=
  { o with
    classId := n.classId, band := n.band, chOff := n.chOff, wakePeriod := n.wakePeriod, wakeOffset := n.wakeOffset, nextWake := n.nextWake
    driftQ := n.driftQ, refNs := n.refNs, refOff := n.refOff, altOff := n.altOff, altValid := n.altValid, samples := n.samples
    misses := n.misses, outliers := n.outliers, outlierNeg := n.outlierNeg, adrift := n.adrift, adriftDeadline := n.adriftDeadline
    uplinksDue := n.uplinksDue, rateReq := n.rateReq }

/-- CONTACT (R445): the contact-state fields of a node. -/
def contactOp (s : State) (h : LinkHdr) (i : Nat) (entry : BitVec 512) : State :=
  match linkTake s h with
  | (s, false) => s
  | (s, true) =>
    let n := entryOf (leBytes 64 entry.toNat)
    match nodeAt s i with
    | some o =>
      if follows s && o.meshAddr == n.meshAddr then fileAsIs (writeEntry (accessDoms s tableDoms) i (withContact o n)) i else s
    | none => s

/-- EPOCH (R447): the record goes to flash with both epochs advanced by one, then the acknowledgement. -/
def epochOp (s : State) (h : LinkHdr) (r : EpochRec) : State :=
  match linkTake s h with
  | (s, false) => s
  | (s, true) =>
    if s.role != .standby then s
    else
      let up (e : BitVec 12) : BitVec 12 := if e = 0xFFF then e else e + 1
      let r' := { r with epochCur := up r.epochCur, epochPrev := up r.epochPrev }
      let s := programRecord s fun x => { x with epochs := some r' }
      sendAck (modCrypt s fun c => { c with flashEpochs := r', epochWrite := none }) h

/-- TIME (R408, R433): the standby measures; the active unit answers. -/
def timeOp (s : State) (h : LinkHdr) (t1 t2 t3 t4 : W64) : State :=
  match linkTake s h with
  | (s, false) => s
  | (s, true) =>
    if s.role == .standby then
      let d : Int := ((t2.toNat : Int) - t1.toNat) - ((t4.toNat : Int) - t3.toNat)
      measure s 5 ((d : Rat) / 2) 100
    else linkSend s lmTime (leBytes 8 t1.toNat ++ leBytes 8 t2.toNat ++ leBytes 8 t3.toNat ++ leBytes 8 t4.toNat)

/-- A node accepted its offer (R445). -/
def offerAccepted (s : State) (i : Nat) : State :=
  match s.pair.offers.find? (·.1 = i), nodeAt s i with
  | some (_, b), some n =>
    let s := modPair s fun p => { p with offers := p.offers.filter fun o => o != (i, b) }
    match b.head? with
    | some 0x01#8 =>
      let s := modTones s n.meshAddr.toNat fun t => { t with rx := mapSet t.rx (leAt b 1 1) (leAt b 3 39) }
      activateMap s n.meshAddr (leAt b 1 1) (leAt b 3 39)
    | some 0x05#8 =>
      let u := schedOffer n.meshAddr b
      let s := modOrbit s fun o => { o with schedUpdates := o.schedUpdates ++ [u] }
      if u.effectiveAsn ≤ n.nextWake then applySched s i u else s
    | _ => s
  | _, _ => s

/-- Argument bytes of a staged command (R89). -/
def stagedBytes (e : CmdEntry) : Nat := match entryCmd e with | some c => argSize e (cmdSpec c).buf | none => 0

/-- CONFIG (R445): a completed command's effect, a sealed stage, an offer or its acceptance. `run` applies a command. -/
def applyConfig (run : CmdEntry → State → State) (s : State) (m : ConfigMsg) : State :=
  match m with
  | .command e => run e s
  | .sealedStage id mask mode point cmds =>
    let st : Stage :=
      { id := id, mask := mask, owner := none, cmds := cmds, argBytes := (cmds.map stagedBytes).foldl (· + ·) 0, checkState := 3, mode := mode, point := point, leaseMs := 0
        leaseEnd := recordEnd s mode point, firstFail := 0xFFFFFFFF, appliedNs := 0, commit := none }
    { s with host := { s.host with stages := (s.host.stages.filter fun x => x.id != id) ++ [st] } }
  | .offer node b => modPair s fun p => { p with offers := (p.offers.filter fun o => !(o.1 == node && o.2.head? == b.head?)) ++ [(node, b)] }
  | .accepted node => offerAccepted s node

/-- CONFIG on the link. -/
def configOp (run : CmdEntry → State → State) (s : State) (h : LinkHdr) (m : ConfigMsg) : State :=
  match linkTake s h with
  | (s, false) => s
  | (s, true) => if follows s then sendAck (applyConfig run s m) h else s

/-- The standby's copy starts: its table is empty, its replica SYNCING. -/
def beginCopy (s : State) : State :=
  if s.pair.replica == .syncing then s
  else
    let s := (mapKeys s.node.table).foldl dropEntry s
    modPair s fun p =>
      { p with replica := .syncing, offers := [], sync := some { startedAt := s.upNs, copied := 0, total := 0, cursor := 0, phase := 2, replayed := 0 } }

/-- A copy that begins again (R456): entries come after the settings, or from a lower index than those that came. -/
def againCopy (s : State) (l : List (Nat × BitVec 512)) : State :=
  match s.pair.sync, l.head? with
  | some x, some y =>
    if s.pair.replica == .syncing && (2 < x.phase || decide (y.1 < x.cursor)) then
      beginCopy (modPair s fun p => { p with replica := .stale })
    else s
  | _, _ => s

/-- Note progress of a copy. -/
def copyStep (s : State) (copied replayed phase : Nat) : State :=
  modPair s fun p => { p with sync := p.sync.map fun x => { x with copied := x.copied + copied, replayed := x.replayed + replayed, phase := phase } }

/-- A piece of a bulk copy on the standby (R456). -/
def applySync (run : CmdEntry → State → State) (s : State) (p : SyncPiece) : State :=
  match p with
  | .entries l =>
    let s := copyStep (l.foldl (fun s x => placeEntry s x.1 x.2) (beginCopy (againCopy s l))) l.length 0 2
    modPair s fun p => { p with sync := p.sync.map fun x => { x with cursor := (l.getLast?.map (·.1 + 1)).getD x.cursor } }
  | .setting e => copyStep (run e (beginCopy s)) 0 0 3
  | .delta r => copyStep (applyJournal (beginCopy s) r) 0 1 4
  | .deltaCommit r => copyStep (applyCommit (beginCopy s) r) 0 1 4
  | .deltaConfig e => copyStep (run e (beginCopy s)) 0 1 4
  | .done =>
    match s.pair.sync with
    | some x => if s.pair.kcvDiffer || s.pair.replica != .syncing then s else syncDone s x
    | none => s

/-- SYNC on the link. -/
def syncOp (run : CmdEntry → State → State) (s : State) (h : LinkHdr) (p : SyncPiece) : State :=
  match linkTake s h with
  | (s, false) => s
  | (s, true) => if s.role == .standby then sendAck (applySync run (accessDoms s tableDoms) p) h else s

/-! The PAIR commands (R460, R461, R558). -/

/-- A slot is LOADED as FRAME. -/
def frameSlot (s : State) (n : Nat) : Bool := (slotOf s n).state == .loaded && (slotOf s n).use == 2

/-- Every band is OFF. -/
def bandsOff (s : State) : Bool := bands.all fun b => bandState s b == .off

/-- Ranges of a `PAIR_CONFIG` that starts a pair. -/
def pairRanges (e : CmdEntry) : Bool :=
  let lease := argBits e 31 16
  500 ≤ lease && lease ≤ 60000 && 50 ≤ argBits e 15 2 && argBits e 15 2 ≤ lease / 4 && 50 ≤ argBits e 47 32 && argBits e 47 32 ≤ 10000
    && 10 ≤ argBits e 63 48 && argBits e 63 48 ≤ 10000 && 100 ≤ argBits e 79 64 && argBits e 79 64 ≤ 10000

def pairConfig : Cmd where
  args := fun e _ => !argBit e 0 || pairRanges e
  check := fun _ e s =>
    orRefuse (refuseIf (!(s.role == .undecided || (s.role == .single && bandsOff s))) stRefusedState)
      (refuseIf (argBit e 0 && !(frameSlot s (argBits e 86 80) && frameSlot s (argBits e 94 88))) stKeyAbsent)
  apply := fun _ e s =>
    if !argBit e 0 then
      let s := modPair { s with role := .single } fun p => { p with enabled := false, link := .down, startupEnd := none }
      (gateOpenOp s, { status := stAccepted })
    else
      let wait := argBits e 79 64 * 1000000 + (if s.straps.unitId then 0 else 2 * argBits e 31 16 * 1000)
      let s := closeGate { s with role := .undecided }
      let s := modPair s fun p =>
        { p with enabled := true, yieldPolicy := argBit e 1, hbUs := argBits e 15 2, leaseUs := argBits e 31 16, guardUs := argBits e 47 32
                 replTimeoutUs := argBits e 63 48, startupWaitMs := argBits e 79 64, encSlot := argBits e 86 80, macSlot := argBits e 94 88
                 startupEnd := some (s.upNs + wait), helloBad := false, link := if p.link == .up then .up else .training }
      (if s.pair.link == .up then sendHello s true else s, { status := stAccepted })
  finish := fun _ s => if s.role == .undecided && !s.pair.helloBad then none else some (s, okFigures [((roleCode s.role : Nat) : Int)])

/-- The pair record (R558). -/
def pairRecord (s : State) : List Byte :=
  let p := s.pair
  let inPair := s.role == .active || s.role == .standby
  let recent := !(silentFor s p.lineAt (p.leaseUs * 1000) && silentFor s p.linkAt (p.leaseUs * 1000)) && p.twinHb != 0
  let r := if inPair then replicaCode p.replica else 0
  [BitVec.ofNat 8 (roleCode s.role), BitVec.ofNat 8 r, BitVec.ofNat 8 (natOf p.solo + natOf recent * 2), BitVec.ofNat 8 p.link.ctorIdx]
    ++ leBytes 4 p.claim.toNat ++ leBytes 4 p.seen.toNat ++ leBytes 4 (if s.role == .active then leaseLeft s / 1000 else 0)
    ++ leBytes 8 p.twinHb.toNat ++ leBytes 4 ((p.sync.map (·.copied)).getD 0) ++ leBytes 4 ((p.sync.map (·.total)).getD 0)
    ++ leBytes 4 p.delta.length ++ leBytes 4 0

def pairStatus : Cmd where
  apply := getter fun _ s => okData (pairRecord s)

def pairRelinquish : Cmd where
  check := fun _ _ s => refuseIf (s.role != .active || s.pair.replica != .ready) stRefusedState
  apply := fun _ _ s =>
    let s := modPair (closeGate s) fun p => { p with noRenew := true }
    (becomeStandby s .ready, { status := stAccepted })
  finish := fun _ s => if s.pair.claim.toNat < s.pair.seen.toNat then some (s, okReply) else none

def pairCounters : Cmd where
  apply := fun _ e s =>
    (if argBit e 0 then modPair s fun p => { p with counters := clearCtrs p.counters } else s, okData (ctrBytes s.pair.counters))

/-- Both paths have been silent for the lease and its guard (R461). -/
def pairSilent (s : State) : Bool :=
  let ns := (s.pair.leaseUs + s.pair.guardUs) * 1000
  silentFor s s.pair.lineAt ns && silentFor s s.pair.linkAt ns

def pairForceSolo : Cmd where
  check := fun _ _ s =>
    match s.role with
    | .active => none
    | .standby | .undecided => refuseIf (!pairSilent s) stRefusedState
    | .single => some (refuse stRefusedState)
  apply := fun _ _ s => (if s.role == .active then goSolo s 3 else takeOver s 3, okReply)

/-- A PAIR per-function reset (R96): replication restarts, the link retrains. -/
def pairReset (s : State) : State :=
  let s := linkLost s
  modPair s fun p => { p with link := if p.enabled then .training else p.link }

end Sys2Proof.Machine
end

