-- ==== Sys2Proof/Machine/Boot.lean ====
section
/-! DEFINITION. Part resets and cold starts, the key-domain boot, the loader's decision, per-function resets, the watchdogs, the
boundary-scan holds (R96, R140, R345 to R348, R372, R401, R483, R486 to R488, R510 to R513, R525, R527, R543). -/

namespace Sys2Proof.Machine

/-! The reset of the part (R327, R525, R527). -/

/-- Fuses from FIELD on hold the tamper mask and the debug-authority hash (R322). -/
def fuseBlown (k : KeyDom) : Bool := k.lifecycle == .field || k.lifecycle == .retired

/-- What fuses and the AON domain keep of the KEY domain over a part reset (R320, R322, R342, R345, R347, R477, R557). -/
def keptKey (k : KeyDom) : KeyDom :=
  { KeyDom.reset with
    gradeM0 := k.gradeM0, lifecycle := k.lifecycle, tamperCount := k.tamperCount, securityFuses := k.securityFuses
    key0Retired := k.key0Retired, identitySeed := k.identitySeed
    debugHash := if fuseBlown k then k.debugHash else none
    lidEnable := if fuseBlown k then k.lidEnable else true
    lidActiveHigh := if fuseBlown k then k.lidActiveHigh else false
    tampered := k.tampered, firstMask := k.firstMask, liveLevels := k.liveLevels }

/-- The part is reset: everything but the flash, the fuses, AON and the straps returns to its reset value (log 63). -/
def resetState (s : State) (cause : Nat) : State :=
  { State.reset with
    pending := s.pending, free := s.free, straps := s.straps, resetHigh := s.resetHigh, snapshotSeq := s.snapshotSeq
    key := keptKey s.key
    fw := { Firmware.reset with flash := s.fw.flash, recs := s.fw.recs }
    host := { HostIf.reset with pcieUp := s.host.pcieUp && s.resetHigh }
    test := { TestDom.reset with kwdStarts := s.test.kwdStarts, resetCause := cause, tapIr := s.test.tapIr, tapDr := s.test.tapDr } }

/-! The boot (R140, R348, R372, R486). -/

/-- The epoch after a cold start: one more, but 0xFFF stays (R372). -/
def nextEpoch (e : BitVec 12) : BitVec 12 := if e = 0xFFF#12 then e else e + 1

/-- Both epochs advance in flash and every stream starts at count 0 of its epoch (R140, R372, R375). -/
def advanceEpochs (s : State) : State :=
  let old := s.fw.recs.epochs.getD emptyEpochs
  let new := { old with epochCur := nextEpoch old.epochCur, epochPrev := nextEpoch old.epochPrev }
  let s := programRecord s fun r => { r with epochs := some new }
  modCrypt s fun c =>
    { c with epochs := new, flashEpochs := new, bcast := new.epochCur ++ 0#20
             exhausted := (old.epochCur == 0xFFF#12, old.genPrev != 0xFF && old.epochPrev == 0xFFF#12) }

/-- The loader waits for a download and says why (R487, R491). -/
def enterLoader (s : State) (stage : Nat) : State := stageEvent { s with part := .loader } stage

/-- The loader boots an image (R486): it runs in bank A, on probation until it is confirmed; the part waits for its counters (R99). -/
def bootImage (s : State) (h : List Byte) : State :=
  let onProbation := !((s.fw.recs.probation.map (·.confirmed)).getD true)
  let s := modFw s fun f => { f with running := loadBank s h, onProbation := onProbation }
  { s with part := .coldWait }

/-- The body that flash holds has the hash its header states. -/
def bodyMatches (s : State) (h : List Byte) : Bool := sha256 (flashBodyOf s h) == hdrBodyHash h

/-- Probation has failed three times (R486). -/
def threeFailures (s : State) : Bool :=
  match s.fw.recs.probation with | some p => !p.confirmed && decide (3 ≤ p.count) | none => false

/-- The loader's decision (R486). -/
def bootDecision (s : State) : State :=
  match (storedHeader s).filter (headerOk s) with
  | some h =>
    if threeFailures s then enterLoader s 7
    else if bodyMatches s h then bootImage s h
    else enterLoader (flashErase s flashHeader 65536) 8
  | none =>
    match pendingHeader s with
    | none => enterLoader s 1
    | some h =>
      if (firstMissing s h).isSome then enterLoader s 1
      else if bodyMatches s h then
        let s := flashProgram s flashHeader h
        bootImage (programRecord s fun r => { r with probation := some { confirmed := false, count := 0 } }) h
      else enterLoader (flashErase s flashDownload 65536) 8

/-- A boot after a kernel-watchdog expiry on probation counts a failure first (R483). -/
def countWatchdog (s : State) : State :=
  match s.fw.recs.probation with
  | some p => if s.test.resetCause = 1 && !p.confirmed then countFailure s else s
  | none => s

/-- The boot saw a failure on probation and the image starts again (R483): stage 6. -/
def reportFailed (s : State) : State :=
  if s.test.resetCause = 1 && s.fw.onProbation && s.part == .coldWait then stageEvent s 6 else s

/-- The boot ROM samples the sources in alarm (R346, R348 steps 1 and 2). -/
def sampleTamper (s : State) (alarms : Byte) : State :=
  let s := modKey s fun k => { k with liveLevels := alarms }
  let mask := alarms.toNat &&& armedMask s
  if mask = 0 then s else tamperAlarmOp s mask 0

/-- TAMPERED is latched, or the tamper count treats it so (R347). -/
def bootsTampered (s : State) : Bool := s.key.tampered || s.key.tamperCount == 8

/-- The root, the identity key and K_chal (R342, R348 steps 4 and 5, R370). -/
def loadKeys (s : State) : State :=
  let s := loadRoot s
  drawChal (if s.key.lifecycle == .provision || s.key.lifecycle == .field then loadIdentity s else s)

/-- The boot, from the release of reset (R348, R486). Reserved straps leave the part in BOOT (R543). -/
def boot (s : State) (alarms : Byte) : State :=
  let s := sampleTamper s alarms
  if bootsTampered s then
    { advanceEpochs s with part := .tamperLock }
  else if 2 ≤ s.straps.bootSrc.toNat then s
  else reportFailed (bootDecision (countWatchdog (advanceEpochs (loadKeys s))))

/-- A cold start with RESET_N high: reset, then the boot with the tamper sources as they stand. -/
def coldStart (s : State) (cause : Nat) : State := boot (resetState s cause) s.key.liveLevels

/-- PART_RESET (R348, R525, R543): the release of RESET_N samples the straps and boots; with RESET_N high it is the cold start that a
command asked for (R321, R481). -/
def partResetOp (s : State) (straps : Straps) (alarms : Byte) : State :=
  if !s.resetHigh then boot { resetState s 0 with straps := straps, resetHigh := true } alarms
  else if s.fw.coldStart then boot (resetState s 2) alarms
  else s

/-- RESET_ASSERT (R525, R527): RESET_N low holds the part in reset. -/
def resetAssertOp (s : State) : State := resetState { s with resetHigh := false } 0

/-- POWER_LOSS (R515, R527): as RESET_N low; the cold starts are counted from power-on. -/
def powerLossOp (s : State) : State :=
  let s := resetAssertOp s
  modTest s fun t => { t with kwdStarts := 0 }

/-- AON_POWER_ON (R347, R525, R557): the AON reset also clears the tamper latch. -/
def aonPowerOnOp (s : State) : State :=
  modKey (powerLossOp s) fun k => { k with tampered := false, firstMask := 0 }

/-- PERST_RELEASE (R50, R525): the endpoint trains its link. -/
def perstReleaseOp (s : State) : State :=
  if partAnswers s && pcieExists s && !resourceTested s 2 then { s with host := { s.host with pcieUp := true } } else s

/-! Per-function reset (R96). -/

/-- Direct launches that wait are cancelled with the commands that asked for them. -/
def dropDirect (s : State) : State :=
  (s.radio.tx.toList.flatMap fun x => x.queue.filter fun l => l.kind == .direct).foldl (fun s l => cancelLaunch s l false) s

/-- The first slotframe boundary still ahead, by ASN. -/
def nextFrameAsn (s : State) : Nat := ceilDiv (nextSlot s) (max s.orbit.frameLen 1) * max s.orbit.frameLen 1

/-- RADIO: snapshots in progress go; the receivers rest until the next slotframe, where no numbering runs they listen on (log 88). -/
def radioReset (s : State) : State :=
  let s := dropDirect (modRadio s fun r =>
    { r with snapshots := r.snapshots.filter (·.state == .complete), rxHeld := if numbering s then some (nextFrameAsn s) else none })
  let s := bands.foldl (fun s b => idleContexts s b none) s
  if numbering s then s else bands.foldl (fun s b => if bandState s b == .on then armReserved s b true else s) s

/-- PWR: the queued domain requests go, handshakes among them; an entry or a wake in progress completes (R96, R471). -/
def pwrReset (s : State) : State :=
  { s with pwr := { s.pwr with
    commands := []
    doms := s.pwr.doms.map fun x => if x.state == .on then { x with request := none, delaying := [] } else x } }

/-- ORBIT: plans in preparation and contacts not yet launched return their frames. -/
def orbitReset (s : State) : State :=
  let gone := s.orbit.plans.filter fun p => !p.handed
  let s := (gone.flatMap (·.launches)).foldl unplanLaunch s
  let back (l : Launch) : Bool := l.kind != .direct && l.kind != .test
  let s := (s.radio.tx.toList.flatMap fun x => x.queue.filter back).foldl unplanLaunch s
  { s with
    orbit := { s.orbit with plans := s.orbit.plans.filter (·.handed), schedUpdates := s.orbit.schedUpdates.filter fun u => u.cmd.isNone }
    radio := { s.radio with tx := s.radio.tx.all fun x => { x with queue := x.queue.filter fun l => !back l } } }

/-- ROUTE: packets in forwarding are DATA frames that wait for delivery. -/
def routeReset (s : State) : State :=
  { s with path := { s.path with uplinks := s.path.uplinks.filter fun u => u.cut.isSome || u.ftype != ftData || (u.payload.headD 0).toNat < 0x40 } }

/-- QUEUE: virtual time restarts at zero. -/
def queueReset (s : State) : State :=
  modQueue s fun q =>
    { q with v := { a := 0, b := 0, c := 0 }, queues := q.queues.map fun x => { x with v := { a := 0, b := 0, c := 0 } } }

/-- NODE: work not committed goes and the aging scan restarts. -/
def nodeReset (s : State) : State := modNodes s fun d => { d with agePos := 0, ageDeletes := [], restore := none }

/-- ETH: the MAC buffers empty and the links retrain. -/
def ethReset (s : State) : State := [0, 1].foldl (fun s p => ethLinkOp (dropPortFrames s p) p false) s

/-- TEST: every running test stops (cause 3). -/
def testReset (s : State) : State := (List.range 8).foldl (fun s r => stopTest s r 3) s

/-- What a function discards and restarts. -/
def functionDiscards (s : State) (fn : Nat) : State :=
  match fn with
  | 0x02 => pwrReset s
  | 0x03 => radioReset s
  | 0x05 => orbitReset s
  | 0x06 => nodeReset s
  | 0x07 => routeReset s
  | 0x08 => keyReset s
  | 0x0A => queueReset s
  | 0x0B => timeReset s
  | 0x0C => pairReset s
  | 0x0E => testReset s
  | 0x0F => ethReset s
  | 0x10 => campaignReset s
  | _ => s

/-- The per-function reset (R94, R96): its commands end, its stages go, it restarts. -/
def functionReset (s : State) (fn : Nat) : State :=
  let s := endCommands s (fun e => entryFn e == fn) stFunctionReset
  functionDiscards (discardStages s fun st => bitOf st.mask.toNat (fn - 1)) fn

/-! The fabric watchdog (R401). -/

/-- A band pipeline is reset: contexts go idle, receptions are lost, launches not yet ramped are cancelled. -/
def bandReset (s : State) (b : Band) : State :=
  let s := loseReceptions s b rxBlanked
  cancelAll (idleContexts s b none) b

/-- Received frames that wait in a lane are dropped before their commit. -/
def dropInLanes (s : State) : State :=
  (s.radio.ctxs.filter fun x => (x.2.rx.bind (·.stalled)).isSome).foldl (fun s x => ctxRest s x.1) s

/-- What the owning function loses. -/
def ownerReset (s : State) (owner : Nat) : State :=
  if owner < 8 then coreRestart s owner
  else if owner < 11 then bandReset s (bandOfD (owner - 8))
  else
    match owner with
    | 11 => functionReset s 0x06
    | 12 => clearLanes (functionReset (dropInLanes s) 0x09) fun _ => true
    | 14 => functionReset s 0x0F
    | 15 => functionReset s 0x0C
    | _ => s

/-- FABRIC_WATCHDOG_EXPIRY: the grant of a bank's owner is withdrawn. A bank whose domain is not On stalls its owner, which counts no
time (R468). -/
def fabricWatchdogOp (s : State) (owner bank : Nat) : State :=
  let x := nth { owner := none, last := [] } s.queue.banks bank
  if !firmwareRuns s || x.owner != some owner || (domOf s (7 + bank / 4)).state != .on then s
  else
    let s := modQueue s fun q => { q with banks := modNth q.banks bank fun x => { x with owner := none } }
    let s := queueCount (ownerReset s owner) qcWdResets 1
    raiseEvent s evWatchdog 0 owner bank s.queue.wdUs

/-! The kernel watchdog and probation (R483, R513). -/

/-- The kernel watchdog cold-starts the part (R513, R515). -/
def watchdogStart (s : State) : State := coldStart (modTest s fun t => { t with kwdStarts := t.kwdStarts + 1 }) 1

/-- The image on probation failed: back to the old one, or a cold start that counts it. -/
def probationFails (s : State) : State := if s.fw.old.isSome then failBack s else watchdogStart s

/-- PROBATION_FAILURE. -/
def probationFailureOp (s : State) : State := if firmwareRuns s && s.fw.onProbation then probationFails s else s

/-- KERNEL_WATCHDOG_EXPIRY: a core whose domain is On missed its check-in. -/
def kernelWatchdogOp (s : State) (core : Nat) : State :=
  if !firmwareRuns s || 8 ≤ core || domState s (domCore0 + core / 2) != .on then s
  else if s.fw.onProbation then probationFails s
  else
    let ms := s.test.kwdMs
    let s := watchdogStart s
    raiseEvent s evWatchdog 1 core s.test.kwdStarts ms

/-! The test access port (R510 to R512). -/

/-- Instruction register and the value its data register shifts out. -/
def setTap (s : State) (ir : Byte) (dr : W32) : State := modTest s fun t => { t with tapIr := ir, tapDr := dr }

/-- EXTEST, CLAMP and HIGHZ (R512): the gate closes, KEY is zeroized, every function is held in reset. -/
def holdOp (s : State) (ir : Byte) : State :=
  let s := zeroizeKeys (closeGate s)
  let r := modKey (resetState s s.test.resetCause) fun k => { k with slots := s.key.slots }
  modTest (setTap r ir r.test.tapDr) fun t => { t with held := true }

/-- The IDCODE value (R511). -/
def idcodeValue : W32 := 0x2#4 ++ 0x7316#16 ++ Config.jedecId ++ 1#1

/-- TRST_LOW (R510, R512): test-logic reset loads IDCODE; a hold ends with a cold start. -/
def trstLowOp (s : State) : State :=
  let held := s.test.held
  let s := setTap s 0x02#8 idcodeValue
  if held then coldStart s 3 else s

/-- Vendor instructions are available (R510). -/
def vendorAvailable (s : State) (opcode : Byte) : Bool :=
  decide (0x80 ≤ opcode.toNat && opcode.toNat ≤ 0xFE) &&
    match s.key.lifecycle with
    | .blank | .manufacture => true
    | .provision | .field => s.key.unlocked
    | .retired => false

/-! Tamper alarms (R338, R345, R362). -/

/-- TAMPER_ALARM: the sources in alarm now; those armed act. Cut-through frames in progress end poisoned. -/
def tamperOp (s : State) (sources : Byte) : State :=
  let s := modKey s fun k => { k with liveLevels := sources }
  let mask := sources.toNat &&& armedMask s
  if mask = 0 then s
  else
    let s := tamperAlarmOp s mask (alarmPhase s)
    (s.radio.ctxs.filter fun x => (x.2.rx.map fun r => r.cut.isSome).getD false).foldl (fun s x => poisonCut s x.1) s

end Sys2Proof.Machine
end

