-- ==== Sys2Proof/Machine/Sys.lean ====
section
/-! DEFINITION. The SYS commands other than those of staging, the identity registers, the snapshot exchange (R55, R72 to R74, R96,
R99 to R102). -/

namespace Sys2Proof.Machine

/-! The PCIe functions (R45, R46). -/

/-- What a PCIe function presents of itself. -/
structure PciFunction where
  vendorId : BitVec 16
  deviceId : BitVec 16
  classCode : BitVec 24
  /-- The base address register of its window, the window's bytes, and that it is 64-bit and not prefetchable. -/
  bar : Nat
  windowBytes : Nat
  bar64 : Bool
  prefetchable : Bool
  msixVectors : Nat
  msixTable : Nat
  msixPending : Nat
  channels : Nat
  eventRings : Nat
  rxRings : Nat
  txRings : Nat
  tsQueues : Nat
  functionReset : Bool
  /-- Largest payload and read request, in bytes. -/
  maxPayload : Nat
  maxReadRequest : Nat
  errorReporting : Bool
  aspmL1 : Bool
  aspmL0s : Bool
  l1Substates : Bool
  srIov : Bool
  ats : Bool
  pasid : Bool
  /-- Whether its writes set relaxed ordering or no-snoop. -/
  relaxedOrdering : Bool
  noSnoop : Bool
deriving DecidableEq, Repr

/-- The two physical functions (R45, R46). -/
def pciFunction (v : View) : PciFunction :=
  { vendorId := Config.pciVendor, deviceId := if v = .priv then 0x7316#16 else 0x7317#16, classCode := 0x028000#24
    bar := if v = .priv then 0 else 2, windowBytes := 65536, bar64 := true, prefetchable := false, msixVectors := 64, msixTable := 0x8000
    msixPending := 0x9000, channels := viewChans v, eventRings := 1, rxRings := if v = .priv then 0 else 16
    txRings := if v = .priv then 0 else 16, tsQueues := if v = .priv then 0 else 1, functionReset := true, maxPayload := 512
    maxReadRequest := 4096, errorReporting := true, aspmL1 := true, aspmL0s := false, l1Substates := false, srIov := false, ats := false
    pasid := false, relaxedOrdering := false, noSnoop := false }

/-! Identity and state (R53, R55, R73). -/

/-- TAMPERED is latched, or the boot took it so (R346, R347). -/
def tamperStops (s : State) : Bool := s.key.tampered || s.part == .tamperLock

/-- `ID_PART`. -/
def idPart : Nat := 0x4B567316

/-- `ID_REV` of a view. -/
def idRev (s : State) (v : View) : Nat := 0x02000000 + natOf s.key.gradeM0 * 65536 + natOf (v == .unpriv) * 256

/-- `ID_UNIT`. -/
def idUnit (s : State) : Nat :=
  natOf (tamperStops s) * 256 + lifeCode s.key.lifecycle * 16 + roleCode s.role * 2 + natOf s.straps.unitId

/-- `FW_VERSION`: 0 while no resident firmware runs. -/
def fwVersion (s : State) : Nat := runningVersion s

/-- `PART_STATE`. -/
def partStateWord (s : State) : Nat := s.crypt.epochs.epochCur.toNat * 65536 + partCode s.part

/-- The identity record of `SYS_IDENTIFY` (R73). -/
def identityRecord (s : State) (v : View) : List Byte :=
  let loader := if s.part == .boot then 0 else Config.loaderVersion.toNat
  [idPart, idRev s v, idUnit s, fwVersion s, loader, partStateWord s].flatMap (leBytes 4)
    ++ [BitVec.ofNat 8 s.key.securityFuses, BitVec.ofNat 8 s.key.tamperCount, BitVec.ofNat 8 (natOf s.key.key0Retired)]
    ++ List.replicate 13 0

/-- Open and sealed stages (R88). -/
def stagesOpen (s : State) : Nat := (s.host.stages.filter (·.checkState ≤ 2)).length
def stagesSealed (s : State) : Nat := (s.host.stages.filter (·.checkState = 3)).length

/-- The state record of `SYS_GET_STATE` (R73). -/
def stateRecord (s : State) : List Byte :=
  let flags := natOf (tamperStops s) + natOf s.clk.uncertain * 2 + natOf s.fw.onProbation * 4
  ([partCode s.part, roleCode s.role, lifeCode s.key.lifecycle, flags] ++ (List.range 16).map (fun n => fnState s (n + 1))
    ++ [stagesOpen s, stagesSealed s, 0, 0]).map (BitVec.ofNat 8)

def sysIdentify : Cmd where
  apply := getter fun e s => okData (identityRecord s (sessionView e.session))

def sysGetState : Cmd where
  apply := getter fun _ s => okData (stateRecord s)

def sysCounters : Cmd where
  apply := fun _ e s =>
    let clear (h : HostIf) : HostIf := if argBit e 0 then { h with counters := clearCtrs h.counters } else h
    ({ s with host := clear s.host }, okData (ctrBytes s.host.counters))

/-! Pins (R72, R73). -/

/-- The command that an entry's pin word names, unless it is a SYS command. -/
def pinNames (e : CmdEntry) : Bool := (cmdOfCode (argBits e 15 0)).isSome && argBits e 5 0 != 0x01

/-- The pin word of an entry. -/
def pinWord (e : CmdEntry) : W16 := BitVec.ofNat 16 (argBits e 15 0)

def sysPin : Cmd where
  args := fun e _ => pinNames e
  check := fun _ e s => refuseIf (!s.host.pins.contains (pinWord e) && 64 ≤ s.host.pins.length) stNoRoom
  apply := setter fun e s =>
    if s.host.pins.contains (pinWord e) then s else { s with host := { s.host with pins := s.host.pins ++ [pinWord e] } }

def sysUnpin : Cmd where
  check := fun _ e s => refuseIf (!s.host.pins.contains (pinWord e)) stNotFound
  apply := setter fun e s => { s with host := { s.host with pins := s.host.pins.filter fun w => w != pinWord e } }

def sysPinQuery : Cmd where
  apply := getter fun e s =>
    { status := stOk, detail := s.host.pins.length
      data := ((s.host.pins.drop (argBits e 5 0)).take 20).flatMap fun w => leBytes 2 w.toNat }

/-! Per-function reset (R96). -/

def sysFunctionReset : Cmd where
  args := fun e _ => knownFunction (argBits e 5 0) && argBits e 5 0 != 1
  apply := longStart
  after := fun e s => functionReset s (argBits e 5 0)
  finish := fun _ s => some (s, okReply)

/-! The snapshot exchange (R100 to R102). -/

/-- Frames in flight have finished: no reception, no burst, nothing on its way to delivery. -/
def flightsDone (s : State) : Bool :=
  s.radio.ctxs.all (fun x => !ctxBusy x.2) && s.radio.tx.toList.all (fun x => x.burst.isEmpty) && s.path.uplinks.isEmpty
    && s.path.threads.isEmpty && s.pair.waits.all fun w => match w.hold with | .uplink _ => false | _ => true

/-- The header and entries of a snapshot (R101). -/
def snapshotBody (s : State) (seq : W32) : List Byte :=
  leBytes 4 0x50414E53 ++ leBytes 2 1 ++ leBytes 2 s.crypt.epochs.epochCur.toNat ++ leBytes 4 seq.toNat ++ leBytes 4 s.node.table.length
    ++ leBytes 8 (nowNs s) ++ List.replicate 40 0
    ++ s.node.table.flatMap fun p => leBytes 8 p.2.eui.toNat ++ leBytes 4 p.2.rxCounter.toNat ++ [p.2.keyGen, 0, 0, 0]

/-- The part enters QUIESCED with its snapshot and marker in one step (R100). -/
def enterQuiesced (s : State) : State :=
  let seq := s.snapshotSeq + 1
  let body := snapshotBody s seq
  let s := modNodes s fun d => { d with snapshot := some (body ++ cmac ((snapKey s).getD []) body) }
  let s := programRecord s fun r => { r with marker := some { snapshotSeq := seq, bootEpoch := s.crypt.epochs.epochCur.toNat } }
  { s with part := .quiesced, quiescing := false, snapshotSeq := seq }

def sysQuiesce : Cmd where
  check := fun _ _ s => refuseIf (!inRun s || s.quiescing || s.host.longOps.any fun o => entryCmd o.e == some .sysQuiesce) stRefusedState
  apply := longStart
  after := fun _ s => if s.orbit.state == .idle then radioHalts s else s
  finish := fun _ s => if inRun s && s.quiescing && flightsDone s then some (enterQuiesced s, okReply) else none

/-- The marker is erased from flash (R100, R102). -/
def eraseMarker (s : State) : State := programRecord s fun r => { r with marker := none }

def sysResume : Cmd where
  check := fun _ _ s => refuseIf (s.part != .quiesced) stRefusedState
  apply := longStart
  finish := fun _ s =>
    if s.part == .quiesced then
      some ({ modNodes (eraseMarker s) fun d => { d with snapshot := none } with part := .run }, okReply)
    else some (s, refuse stRefusedState)

/-- The snapshot held in QUIESCED. -/
def snapshotHeld (s : State) : List Byte := s.node.snapshot.getD []

def nodeCounterSnapshot : Cmd where
  check := fun _ e s =>
    orRefuse (refuseIf (s.part != .quiesced) stRefusedState) (refuseIf ((snapshotHeld s).length ≤ argBits e 31 0) stBadArg)
  apply := longStart
  finish := fun op s =>
    let piece := ((snapshotHeld s).drop (argBits op.e 31 0)).take op.e.bufLen.toNat
    some (s, if s.part == .quiesced then okData piece else refuse stRefusedState)

/-- A restore's header: its entry count, where it is one of R101. -/
def restoreCount (b : List Byte) : Option Nat :=
  if leAt b 0 4 = 0x50414E53 && leAt b 4 2 = 1 && (sliceBytes b 24 40).all (· == 0) && leAt b 12 4 ≤ 262144 then some (leAt b 12 4)
  else none

/-- The restored counter of a node, by its EUI. -/
def restoredCounter (b : List Byte) (n : Nat) (eui : W64) : Option W32 :=
  ((List.range n).find? fun i => leAt b (64 + 16 * i) 8 == eui.toNat).map fun i => BitVec.ofNat 32 (leAt b (64 + 16 * i + 8) 4)

/-- A whole snapshot is applied (R102): how many entries matched, how many did not. -/
def applyRestore (s : State) (b : List Byte) (n : Nat) : State × Reply :=
  let euis := s.node.table.map fun p => p.2.eui.toNat
  let applied := ((List.range n).filter fun i => euis.contains (leAt b (64 + 16 * i) 8)).length
  let put (p : Nat × NodeEntry) : Nat × NodeEntry := match restoredCounter b n p.2.eui with
    | some c => (p.1, { p.2 with rxCounter := c })
    | none => (p.1, { p.2 with coldChal := true })
  let s := modNodes (eraseMarker s) fun d => { d with table := d.table.map put, restore := none }
  ({ s with part := .run }, okFigures [(applied : Int), ((n - applied : Nat) : Int)])

/-- The marker in flash is the snapshot's. -/
def markerMatches (s : State) (b : List Byte) : Bool :=
  match s.fw.recs.marker with
  | some m => m.snapshotSeq.toNat == leAt b 8 4 && m.bootEpoch == leAt b 6 2 % 4096
  | none => false

/-- A restore that fails returns to offset 0 (R76, R102). -/
def restoreFails (s : State) (st : Nat) : State × Reply := (modNodes s fun d => { d with restore := none }, refuse st)

/-- One piece of a restore, judged and taken (R102). -/
def takePiece (s : State) (e : CmdEntry) : State × Reply :=
  let old := (s.node.restore.map (·.bytes)).getD []
  let b := old ++ inBuf e
  let keep (s : State) : State × Reply := (modNodes s fun d => { d with restore := some { bytes := b } }, okReply)
  if argBits e 31 0 != old.length then restoreFails s stBadArg
  else if b.length < 64 then keep s
  else
    match restoreCount b with
    | none => restoreFails s stBadArg
    | some n =>
      let total := 64 + 16 * n + 16
      if total < b.length then restoreFails s stBadArg
      else if b.length < total then keep s
      else if cmac ((snapKey s).getD []) (b.take (total - 16)) != b.drop (total - 16) then restoreFails s stTagFail
      else if markerMatches s b then applyRestore s b n
      else restoreFails s stBadArg

def nodeCounterRestore : Cmd where
  check := fun _ _ s => refuseIf (s.part != .coldWait) stRefusedState
  apply := fun _ e s =>
    let (t, r) := takePiece s e
    if r.status = stOk then (s, { status := stAccepted }) else (t, r)
  finish := fun op s => some (if s.part == .coldWait then takePiece s op.e else (s, refuse stRefusedState))

def nodeColdChallenge : Cmd where
  check := fun _ _ s => refuseIf (s.part != .coldWait) stRefusedState
  apply := longStart
  finish := fun _ s =>
    if s.part == .coldWait then some ({ (mapKeys s.node.table).foldl challengeNode s with part := .run }, okReply)
    else some (s, refuse stRefusedState)

end Sys2Proof.Machine
end

