-- ==== Sys2Proof/Machine/CmdImpl.lean ====
section
/-! DEFINITION. What each command of the tables does, by its identifier; the stage commands and PAIR_LOCAL_APPLY, which act on other
commands, stand in Stage.lean. -/

namespace Sys2Proof.Machine

/-- A row whose meaning stands elsewhere. -/
def noCommand : Cmd where
  apply := getter fun _ _ => refuse stBadOpcode

/-- The meaning of each command but those of Stage.lean. -/
def fnImpl : CmdId → Cmd
  | .sysIdentify => Machine.sysIdentify
  | .sysGetState => Machine.sysGetState
  | .sysCounters => Machine.sysCounters
  | .sysPin => Machine.sysPin
  | .sysUnpin => Machine.sysUnpin
  | .sysPinQuery => Machine.sysPinQuery
  | .sysStageOpen => noCommand
  | .sysStageCheck => noCommand
  | .sysStageCommit => noCommand
  | .sysStageAbort => noCommand
  | .sysStageQuery => noCommand
  | .sysFunctionReset => Machine.sysFunctionReset
  | .sysQuiesce => Machine.sysQuiesce
  | .sysResume => Machine.sysResume
  | .nodeCounterSnapshot => Machine.nodeCounterSnapshot
  | .nodeCounterRestore => Machine.nodeCounterRestore
  | .nodeColdChallenge => Machine.nodeColdChallenge
  | .airProfileLoad => Machine.airProfileLoad
  | .airProfileRemove => Machine.airProfileRemove
  | .airProfileBind => Machine.airProfileBind
  | .airProfileQuery => Machine.airProfileQuery
  | .airSetRouterAddress => Machine.airSetRouterAddress
  | .airToneMapRead => Machine.airToneMapRead
  | .airSound => Machine.airSound
  | .airCounters => Machine.airCounters
  | .airProfileLoadRaw => Machine.airProfileLoadRaw
  | .airToneMapWrite => Machine.airToneMapWrite
  | .radioWindowSet => Machine.radioWindowSet
  | .radioWindowQuery => Machine.radioWindowQuery
  | .radioRxCounters => Machine.radioRxCounters
  | .radioContextStatus => Machine.radioContextStatus
  | .radioDiagRing => Machine.radioDiagRing
  | .radioSnapshotArm => Machine.radioSnapshotArm
  | .radioSnapshotRead => Machine.radioSnapshotRead
  | .radioSnapshotRelease => Machine.radioSnapshotRelease
  | .radioWakeConfig => Machine.radioWakeConfig
  | .radioWakeStatus => Machine.radioWakeStatus
  | .radioSyncTune => Machine.radioSyncTune
  | .radioCaptureSet => Machine.radioCaptureSet
  | .radioAgcSet => Machine.radioAgcSet
  | .radioRssiCal => Machine.radioRssiCal
  | .radioRxPathDelay => Machine.radioRxPathDelay
  | .radioContextReserve => Machine.radioContextReserve
  | .radioContextRelease => Machine.radioContextRelease
  | .radioRegionLoad => Machine.radioRegionLoad
  | .radioRegionRemove => Machine.radioRegionRemove
  | .radioRegionBind => Machine.radioRegionBind
  | .radioRegionQuery => Machine.radioRegionQuery
  | .radioBandEnable => Machine.radioBandEnable
  | .radioBandDisable => Machine.radioBandDisable
  | .radioBandStatus => Machine.radioBandStatus
  | .radioTxPowerSet => Machine.radioTxPowerSet
  | .radioTxCounters => Machine.radioTxCounters
  | .radioCoexConfig => Machine.radioCoexConfig
  | .radioTxModeSet => Machine.radioTxModeSet
  | .radioTxTiming => Machine.radioTxTiming
  | .radioTxPathDelay => Machine.radioTxPathDelay
  | .radioFeConfig => Machine.radioFeConfig
  | .radioTxAt => Machine.radioTxAt
  | .radioTxCalRun => Machine.radioTxCalRun
  | .orbitStart => Machine.orbitStart
  | .orbitStop => Machine.orbitStop
  | .orbitStatus => Machine.orbitStatus
  | .orbitFrameSet => Machine.orbitFrameSet
  | .orbitStageCells => Machine.orbitStageCells
  | .orbitHopSet => Machine.orbitHopSet
  | .orbitParentSet => Machine.orbitParentSet
  | .orbitClassLoad => Machine.orbitClassLoad
  | .orbitClassRemove => Machine.orbitClassRemove
  | .orbitNodeSchedule => Machine.orbitNodeSchedule
  | .orbitNodeStatus => Machine.orbitNodeStatus
  | .orbitReportSet => Machine.orbitReportSet
  | .orbitDwellStatus => Machine.orbitDwellStatus
  | .orbitCounters => Machine.orbitCounters
  | .orbitClassLoadRaw => Machine.orbitClassLoadRaw
  | .orbitPrepLead => Machine.orbitPrepLead
  | .orbitTimingSet => Machine.orbitTimingSet
  | .orbitDriftSet => Machine.orbitDriftSet
  | .nodeAdd => Machine.nodeAdd
  | .nodeRemove => Machine.nodeRemove
  | .nodeRead => Machine.nodeRead
  | .nodeSet => Machine.nodeSet
  | .nodeTableLoad => Machine.nodeTableLoad
  | .nodeLearnSet => Machine.nodeLearnSet
  | .nodeAgeSet => Machine.nodeAgeSet
  | .nodeShadowSet => Machine.nodeShadowSet
  | .nodeJournalRead => Machine.nodeJournalRead
  | .nodeCounters => Machine.nodeCounters
  | .nodeTableStatus => Machine.nodeTableStatus
  | .nodeHashSeed => Machine.nodeHashSeed
  | .nodeWriteRaw => Machine.nodeWriteRaw
  | .nodeScrubSet => Machine.nodeScrubSet
  | .routeAdd => Machine.routeAdd
  | .routeRemove => Machine.routeRemove
  | .routeLookup => Machine.routeLookup
  | .routeDefaultSet => Machine.routeDefaultSet
  | .routeMeshSet => Machine.routeMeshSet
  | .routeContextSet => Machine.routeContextSet
  | .routeNodeSet => Machine.routeNodeSet
  | .routeNodeQuery => Machine.routeNodeQuery
  | .routeStatus => Machine.routeStatus
  | .routeCounters => Machine.routeCounters
  | .routeLowpanSet => Machine.routeLowpanSet
  | .routeTrieRead => Machine.routeTrieRead
  | .ethPortConfig => Machine.ethPortConfig
  | .ethPortStatus => Machine.ethPortStatus
  | .ethAddrSet => Machine.ethAddrSet
  | .ethNeighbourSet => Machine.ethNeighbourSet
  | .ethHostSet => Machine.ethHostSet
  | .ethCounters => Machine.ethCounters
  | .ethMacTune => Machine.ethMacTune
  | .keySlotQuery => Machine.keySlotQuery
  | .keyGenerate => Machine.keyGenerate
  | .keyBlobLoad => Machine.keyBlobLoad
  | .keyBlobExport => Machine.keyBlobExport
  | .keyRevoke => Machine.keyRevoke
  | .keyGenMap => keyGenMapRoll
  | .keyGenQuery => Machine.keyGenQuery
  | .keyAttest => Machine.keyAttest
  | .keyIdentityGenerate => Machine.keyIdentityGenerate
  | .keyIdentityRead => Machine.keyIdentityRead
  | .keyLifecycleAdvance => Machine.keyLifecycleAdvance
  | .keyTamperStatus => Machine.keyTamperStatus
  | .keyTamperConfig => Machine.keyTamperConfig
  | .keyDebugChallenge => Machine.keyDebugChallenge
  | .keyDebugUnlock => Machine.keyDebugUnlock
  | .keyCounters => Machine.keyCounters
  | .keyImportRaw => Machine.keyImportRaw
  | .keyImportWrapped => Machine.keyImportWrapped
  | .keyBlobWrapOut => Machine.keyBlobWrapOut
  | .keyKdfVector => Machine.keyKdfVector
  | .keySign => Machine.keySign
  | .keyDebugAuthSet => Machine.keyDebugAuthSet
  | .cryptStatus => Machine.cryptStatus
  | .cryptCounters => Machine.cryptCounters
  | .cryptRouterEuiSet => Machine.cryptRouterEuiSet
  | .cryptGenRoll => Machine.cryptGenRoll
  | .cryptNodeChallenge => Machine.cryptNodeChallenge
  | .cryptRawBlock => Machine.cryptRawBlock
  | .cryptCutThroughSet => Machine.cryptCutThroughSet
  | .cryptLaneAssign => Machine.cryptLaneAssign
  | .cryptCcmVector => Machine.cryptCcmVector
  | .queueConfig => Machine.queueConfig
  | .queueFlush => Machine.queueFlush
  | .queueStatus => Machine.queueStatus
  | .queueOverheadSet => Machine.queueOverheadSet
  | .queueGateSet => Machine.queueGateSet
  | .queueSampleSet => Machine.queueSampleSet
  | .queueSamplesRead => Machine.queueSamplesRead
  | .queueCounters => Machine.queueCounters
  | .queueFwSet => Machine.queueFwSet
  | .queueArbClass => Machine.queueArbClass
  | .queueArbStarve => Machine.queueArbStarve
  | .queueWatchdogSet => Machine.queueWatchdogSet
  | .queueArbStatus => Machine.queueArbStatus
  | .queueWorkStatus => Machine.queueWorkStatus
  | .timeStatus => Machine.timeStatus
  | .timeSet => Machine.timeSet
  | .timeAdjust => Machine.timeAdjust
  | .timeSourceSet => Machine.timeSourceSet
  | .timePtpPort => Machine.timePtpPort
  | .timePpsConfig => Machine.timePpsConfig
  | .timePinConfig => Machine.timePinConfig
  | .timeTriggerConfig => Machine.timeTriggerConfig
  | .timeCaptureRead => Machine.timeCaptureRead
  | .timeParentDelay => Machine.timeParentDelay
  | .timeCounters => Machine.timeCounters
  | .timeServoSet => Machine.timeServoSet
  | .timeIncrementSet => Machine.timeIncrementSet
  | .timeUncClear => Machine.timeUncClear
  | .timeRtcStatus => Machine.timeRtcStatus
  | .pairConfig => Machine.pairConfig
  | .pairStatus => Machine.pairStatus
  | .pairLocalApply => noCommand
  | .pairRelinquish => Machine.pairRelinquish
  | .pairCounters => Machine.pairCounters
  | .pairForceSolo => Machine.pairForceSolo
  | .pwrPolicySet => Machine.pwrPolicySet
  | .pwrDomainSet => Machine.pwrDomainSet
  | .pwrStatus => Machine.pwrStatus
  | .pwrRefSet => Machine.pwrRefSet
  | .pwrBlockQuery => Machine.pwrBlockQuery
  | .updateBegin => Machine.updateBegin
  | .updateWrite => Machine.updateWrite
  | .updateVerify => Machine.updateVerify
  | .updateActivate => Machine.updateActivate
  | .updateConfirm => Machine.updateConfirm
  | .updateRevert => Machine.updateRevert
  | .updateStatus => Machine.updateStatus
  | .campaignDefine => Machine.campaignDefine
  | .campaignLoad => Machine.campaignLoad
  | .campaignTargets => Machine.campaignTargets
  | .campaignStart => Machine.campaignStart
  | .campaignActivate => Machine.campaignActivate
  | .campaignStop => Machine.campaignStop
  | .campaignStatus => Machine.campaignStatus
  | .campaignTargetRead => Machine.campaignTargetRead
  | .campaignTune => Machine.campaignTune
  | .testLinkStart => Machine.testLinkStart
  | .testLinkResult => Machine.testLinkResult
  | .testRadioStart => Machine.testRadioStart
  | .testRadioResult => Machine.testRadioResult
  | .testStop => Machine.testStop
  | .testStatus => Machine.testStatus
  | .testTelemetryRead => Machine.testTelemetryRead
  | .testTelemetrySet => Machine.testTelemetrySet
  | .testWatchdogSet => Machine.testWatchdogSet
  | .testFaultInject => Machine.testFaultInject

end Sys2Proof.Machine
end

