-- ==== Sys2Proof/Machine/Stage.lean ====
section
/-! DEFINITION. How the part takes a command: the checks of R75 in their order, staging, the commit, long commands, fetching,
PAIR_LOCAL_APPLY (R49, R51, R52, R56, R61, R62, R75 to R78, R82 to R95, R99, R445, R461, R487, R517, R551, R554). -/

namespace Sys2Proof.Machine

/-! Entries (R61). -/

/-- The command entry that 64 bytes hold. -/
def entryOfBytes (x : Session) (b : List Byte) : CmdEntry :=
  { session := x, word := BitVec.ofNat 32 (leAt b 0 4), stageId := BitVec.ofNat 16 (leAt b 4 2), length := BitVec.ofNat 16 (leAt b 6 2)
    bufAddr := BitVec.ofNat 64 (leAt b 8 8), bufLen := BitVec.ofNat 32 (leAt b 16 4), ctl := BitVec.ofNat 32 (leAt b 20 4)
    args := BitVec.ofNat 320 (leAt b 24 40), buf := [] }

/-- The bytes an SPI command's input buffer holds: its place in the data window (R49). -/
def windowBytes (s : State) (e : CmdEntry) : List Byte :=
  memReadBytes 0 s.host.spi.window (e.bufAddr.toNat % 65536) (min e.bufLen.toNat 65536)

/-! Steps 1 to 6 of R75. -/

/-- The buffer length suits a command that has a buffer at hand (R62); one that uses no buffer has `buf_len` 0 (log 84). -/
def bufLenOk (e : CmdEntry) (b : BufUse) : Bool :=
  let n := e.bufLen.toNat
  match b with
  | .none => n = 0
  | .input lo hi => lo ≤ n && n ≤ hi
  | .keyInput base => match argBits e 53 52 with | 0 => n = base + 16 | 1 => n = base + 32 | _ => n = base + 16 || n = base + 32
  | .ccmInput => let a := leAt (inBuf e) 29 1; a ≤ 64 && 30 + a ≤ n && n ≤ 46 + a
  | .inputMul u lo w => n = u * argBits e (lo + w - 1) lo
  | .inputUnits u m => n % u = 0 && n / u ≤ m
  | .output k => k ≤ n
  | .outputMul u lo w => u * argBits e (lo + w - 1) lo ≤ n
  | .outputPiece => 1 ≤ n
  | .outputState => true

/-- The buffer length suits a mailbox command (R52). -/
def mboxLenOk (e : CmdEntry) (b : BufUse) : Bool :=
  let n := e.bufLen.toNat
  match b with
  | .none | .outputState => n = 0
  | .input _ _ | .keyInput _ | .ccmInput | .inputMul _ _ _ | .inputUnits _ _ => false
  | .output k => k ≤ 40 && n = 0
  | .outputMul u lo w => u * argBits e (lo + w - 1) lo ≤ 40 && n = 0
  | .outputPiece => 1 ≤ n && n ≤ 40

/-- Step 3. -/
def lengthsOk (e : CmdEntry) (b : BufUse) : Bool :=
  e.length.toNat ≤ 40 && match e.session with | .mbox _ => mboxLenOk e b | _ => bufLenOk e b

/-- `buf_addr` suits the session (R49, R52). -/
def bufAddrOk (e : CmdEntry) : Bool :=
  match e.session with
  | .mbox _ => e.bufAddr == 0
  | .spi => (e.bufAddr == 0 && e.bufLen == 0)
      || (e.bufAddr.toNat / 65536 == 0x800000000000 && e.bufAddr.toNat % 65536 + e.bufLen.toNat ≤ 65536)
  | .chan _ _ => true

/-- Reserved fields are zero (R10). -/
def reservedOk (e : CmdEntry) (c : CmdSpec) : Bool :=
  e.ctl.toNat < 2 && (e.args.toNat ||| usedMask c.used) == usedMask c.used

/-- Step 2: the view may use the command and it is not pinned (R70 to R72). -/
def viewRefuses (s : State) (e : CmdEntry) (c : CmdSpec) : Bool :=
  sessionView e.session == .unpriv && (c.privOnly || !unprivLevel c.fn c.lvl || s.host.pins.contains (e.word.setWidth 16))

/-- The `clear` bit of a FUNCTION_COUNTERS command. -/
def clearBit : CmdId → Option Nat
  | .sysCounters | .orbitCounters | .nodeCounters | .routeCounters | .keyCounters | .cryptCounters | .queueCounters | .timeCounters
  | .pairCounters => some 0
  | .ethCounters => some 1
  | .airCounters | .radioRxCounters | .radioTxCounters => some 2
  | _ => none

/-- Commands that TAMPERED leaves alone (R75 step 5, R517). -/
def tamperExempt (e : CmdEntry) (c : CmdId) : Bool :=
  (cmdSpec c).fn = 0x01 || (cmdSpec c).fn = 0x0E || c == .keyTamperStatus
    || match clearBit c with | some i => !argBit e i | none => false

/-- Functions whose commands a standby takes (R75 step 6). -/
def standbyTakes (fn : Nat) : Bool := [0x01, 0x0C, 0x0D, 0x0E].contains fn

/-- Arguments of the stage commands (R87). -/
def stageArgs (c : CmdId) (e : CmdEntry) : Bool :=
  match c with
  | .sysStageOpen =>
    argBits e 15 0 != 0 && !argBit e 0 && (argBits e 31 16 = 0 || (100 ≤ argBits e 31 16 && argBits e 31 16 ≤ 60000))
  | .sysStageCheck => argBits e 1 0 ≤ 2 && (argBits e 1 0 != 2 || argBits e 127 104 = 0)
  | _ => true

/-- The first refusal of steps 1 to 6; `view` is the state the arguments are judged in. -/
def firstRefusal (c : CmdId) (e : CmdEntry) (s view : State) : Option Reply :=
  let x := cmdSpec c
  if viewRefuses s e x then some (refuse stRefusedView)
  else if !lengthsOk e x.buf then some (refuse stBadLength)
  else if !bufAddrOk e || !reservedOk e x || !stageArgs c e || !(fnImpl c).args e view then some (refuse stBadArg)
  else if tamperStops s && !tamperExempt e c then some (refuse stTampered)
  else refuseIf (s.role == .standby && !x.reads && !standbyTakes x.fn) stNotActive

/-- Step 9 as far as it concerns the part state (R56, R99, R100, R487). -/
def partRefuses (s : State) (e : CmdEntry) (c : CmdId) : Bool :=
  match s.part with
  | .boot => !(c == .sysIdentify || c == .sysGetState)
  | .loader => !(c == .sysIdentify || c == .sysGetState || (cmdSpec c).fn = 0x0D) || (c == .updateActivate && !argBit e 0)
  | .coldWait => c == .radioBandEnable || c == .campaignStart
  | .quiesced => (cmdSpec c).fn = 0x06 && !(cmdSpec c).reads
  | _ => false

/-- Steps 9 and 10. -/
def lastRefusal (w : When) (c : CmdId) (e : CmdEntry) (s : State) : Option Reply :=
  if partRefuses s e c then some (refuse stRefusedState) else (fnImpl c).check w e s

/-! Stages (R85 to R95, R554). -/

/-- Settings an entry writes, each a field of an object. -/
def setsOf (s : State) (e : CmdEntry) : List (Nat × Nat) :=
  match entryCmd e with
  | some c => (fnImpl c).sets e s
  | none => []

/-- Stages open or sealed. -/
def liveStages (s : State) : List Stage := s.host.stages.filter (·.checkState ≤ 3)

/-- An immediate command writes a setting that a live stage holds (R85). -/
def conflicts (s : State) (e : CmdEntry) : Bool :=
  let mine := setsOf s e
  !mine.isEmpty && (liveStages s).any fun st => st.cmds.any fun x => (setsOf s x).any mine.contains

/-- The open stage an entry names and its session owns (R89). -/
def openStage (s : State) (e : CmdEntry) : Option Stage :=
  s.host.stages.find? fun st => st.id == e.stageId.toNat && decide (st.checkState ≤ 2) && st.owner == some e.session

/-- Change a stage. -/
def modStage (s : State) (id : Nat) (f : Stage → Stage) : State :=
  { s with host := { s.host with stages := s.host.stages.map fun st => if st.id = id then f st else st } }

/-- The lease runs anew (R93). -/
def renewLease (s : State) (st : Stage) : State := modStage s st.id fun x => { x with leaseEnd := s.upNs + x.leaseMs * 1000000 }

/-- A command that carries the identifier of an open stage renews its lease, whatever becomes of the command (R93; log 85). -/
def renewNamed (s : State) (e : CmdEntry) : State :=
  if e.stageId = 0 then s
  else match s.host.stages.find? fun st => st.id == e.stageId.toNat && decide (st.checkState ≤ 2) with
    | some st => renewLease s st
    | none => s

/-- One staged command's effect. -/
def applyOne (w : When) (s : State) (e : CmdEntry) : State :=
  match entryCmd e with
  | some c => ((fnImpl c).apply w e s).1
  | none => s

/-- The state an entry's arguments and a stage's reads are judged in: with the commands already recorded in its stage (R89). -/
def stageView (s : State) (e : CmdEntry) : State :=
  if e.stageId = 0 then s
  else match openStage s e with | some st => st.cmds.foldl (applyOne .record) s | none => s

/-- Judge one staged command on the state that the earlier ones leave. -/
def judgeOne (w : When) (e : CmdEntry) (s : State) : Option Reply :=
  match entryCmd e with
  | none => some (refuse stBadOpcode)
  | some c => if (fnImpl c).args e s then lastRefusal w c e s else some (refuse stBadArg)

/-- Judge the commands of a stage in staging order: the state they leave, and the first failure with its index. -/
def judgeFrom (w : When) : Nat → List CmdEntry → State → State × Option (Nat × Reply)
  | _, [], s => (s, none)
  | i, e :: rest, s =>
    match judgeOne w e s with
    | some r => (s, some (i, r))
    | none => judgeFrom w (i + 1) rest (applyOne w s e)

/-- The last index at which a command satisfies a test. -/
def lastIndex (cmds : List CmdEntry) (p : CmdEntry → Bool) : Option Nat :=
  ((cmds.mapIdx fun i e => (i, e)).reverse.find? fun x => p x.2).map (·.1)

/-- Commands whose settings the schedule is judged with as a whole (R219, R222, R227). -/
def touchesSchedule (e : CmdEntry) : Bool :=
  match entryCmd e with
  | some .orbitFrameSet | some .orbitStageCells | some .orbitHopSet | some .orbitClassLoad | some .orbitClassLoadRaw
  | some .orbitClassRemove | some .radioWindowSet | some .radioRegionBind | some .radioSyncTune | some .airProfileBind
  | some .airProfileLoad | some .airProfileLoadRaw => true
  | _ => false

/-- Failures of the stage as a whole (R90): a schedule that does not hold together, reported at the last command that touches it
(log 65), and a roll whose generation is not bound (R373). -/
def jointFailure (cmds : List CmdEntry) (s : State) : Option (Nat × Reply) :=
  let unbound (e : CmdEntry) : Bool := entryCmd e == some .cryptGenRoll && !rollBound s e
  match lastIndex cmds touchesSchedule, lastIndex cmds unbound with
  | some i, _ => if scheduleOk s then (lastIndex cmds unbound).map fun k => (k, refuse stKeyAbsent) else some (i, refuse stBadArg)
  | none, some k => some (k, refuse stKeyAbsent)
  | none, none => none

/-- All staged commands together (R90). -/
def stageFailure (s : State) (cmds : List CmdEntry) (mode point : Nat) : Option (Nat × Reply) :=
  match judgeFrom (.judge mode point) 0 cmds s with
  | (_, some f) => some f
  | (t, none) => jointFailure cmds t

/-- A commit point at least so far ahead (R90, R91). -/
def pointAhead (s : State) (mode point ns : Nat) : Bool :=
  mode == 0 || match commitNs s mode point with | some t => decide ((nowNs s : Int) + ns ≤ t) | none => false

/-- Every staged setting takes effect at one instant (R92): with what a commit does once. -/
def commitEffects (s : State) (cmds : List CmdEntry) (mode point : Nat) : State :=
  let has (l : List CmdId) : Bool := cmds.any fun e => match entryCmd e with | some c => l.contains c | none => false
  let s := cmds.foldl (applyOne (.commit mode point)) s
  let s := if has [.orbitFrameSet, .orbitStageCells, .orbitHopSet, .orbitClassLoad, .orbitClassLoadRaw, .orbitClassRemove] then bumpSchedule s else s
  let s := if has [.routeAdd, .routeRemove] then modRoute s fun r => { r with rootB := !r.rootB } else s
  if has [.keyGenMap] then mapChanged s else s

/-- Applied time and ASN (R87). -/
def appliedReply (s : State) (mode point : Nat) : Reply :=
  if mode = 2 then okFigures [(commitNs s mode point).getD (nowNs s), (point : Int)]
  else okFigures [(nowNs s : Int), (currentAsn s : Int)]

/-- `detail` of a failed check. -/
def failedReply (f : Nat × Reply) : Reply := { f.2 with detail := f.1 }

/-- Take a stage's record out. -/
def dropStage (s : State) (id : Nat) : State := { s with host := { s.host with stages := s.host.stages.filter fun st => st.id != id } }

/-- The sealed stage as it travels to the standby (R445). -/
def stageBytes (st : Stage) : List Byte :=
  leBytes 2 st.id ++ leBytes 2 st.mask.toNat ++ leBytes 1 st.mode ++ leBytes 8 st.point ++ st.cmds.flatMap fun e => entryBytes64 e ++ inBuf e

/-- A commit's response, held until the standby has the stage (R445). -/
def answerSealed (s : State) (e : CmdEntry) (st : Stage) (r : Reply) (final : Bool) : State :=
  if replicating s then linkHold (linkSend s lmConfig (stageBytes st)) (.response e r final) else respond s e r final

/-- `SYS_STAGE_OPEN` (R88). Identifiers rise while a stage is live and are not given twice; past 65,535 there is no room (log 67). -/
def stageOpen (e : CmdEntry) (s : State) : State :=
  let mask : W16 := BitVec.ofNat 16 (argBits e 15 0)
  let live := liveStages s
  let last := if live.isEmpty then 0 else s.host.lastStage
  let used (n : Nat) : Bool := s.host.stages.any fun st => st.id == n
  if live.any fun st => (st.mask &&& mask) != 0 then respond s e (refuse stLocked) true
  else if partRefuses s e .sysStageOpen then respond s e (refuse stRefusedState) true
  else if 4 ≤ live.length then respond s e (refuse stNoRoom) true
  else
    match ((List.range (65535 - last)).map fun k => last + k + 1).find? fun n => !used n with
    | none => respond s e (refuse stNoRoom) true
    | some id =>
      let lease := if argBits e 31 16 = 0 then 5000 else argBits e 31 16
      let st : Stage :=
        { id := id, mask := mask, owner := some e.session, cmds := [], argBytes := 0, checkState := 0, mode := 0, point := 0
          leaseMs := lease, leaseEnd := s.upNs + lease * 1000000, firstFail := 0xFFFFFFFF, appliedNs := 0, commit := none }
      let s := { s with host := { s.host with stages := s.host.stages ++ [st], lastStage := id } }
      respond s e { status := stOk, stageId := some id } true

/-- `SYS_STAGE_CHECK` (R90). -/
def stageCheck (e : CmdEntry) (s : State) (st : Stage) : State :=
  let mode := argBits e 1 0
  let point := if mode = 0 then 0 else argBits e 127 64
  let s := modStage s st.id fun x => { x with mode := mode, point := point }
  let fail (i : Nat) : State := modStage s st.id fun x => { x with checkState := 2, firstFail := BitVec.ofNat 32 i }
  if !pointAhead s mode point (leadNs s + 2000000) then respond (fail 0xFFFFFFFF) e (refuse stStageInvalid 0xFFFFFFFF) true
  else
    match stageFailure s st.cmds mode point with
    | some f => respond (fail f.1) e (failedReply f) true
    | none =>
      respond (modStage s st.id fun x => { x with checkState := 1, firstFail := 0xFFFFFFFF }) e { status := stOk, detail := 0xFFFFFFFF } true

/-- `SYS_STAGE_COMMIT` (R91). -/
def stageCommit (e : CmdEntry) (s : State) (st : Stage) : State :=
  if st.checkState != 1 || !pointAhead s st.mode st.point 2000000 then respond s e (refuse stStageInvalid) true
  else if st.mode = 0 then
    match stageFailure s st.cmds 0 0 with
    | some f => respond (discardStage s st) e (failedReply f) true
    | none => answerSealed (dropStage (commitEffects s st.cmds 0 0) st.id) e st (appliedReply s 0 0) true
  else
    let s := modStage s st.id fun x => { x with checkState := 3, commit := some e, leaseEnd := recordEnd s st.mode st.point }
    let s := { s with host := { s.host with longOps := s.host.longOps ++ [{ e := e, since := s.upNs, ref := st.id }] } }
    answerSealed s e st { status := stAccepted } false

/-- The stage record (R554). -/
def stageRecord (s : State) (st : Stage) : List Byte :=
  let left := if st.checkState ≤ 2 then ceilDiv (st.leaseEnd - s.upNs) 1000000 else 0
  leBytes 2 st.mask.toNat ++ leBytes 2 st.cmds.length ++ leBytes 1 st.checkState ++ leBytes 1 st.mode ++ leBytes 2 0 ++ leBytes 4 left
    ++ leBytes 4 st.argBytes ++ leBytes 4 st.firstFail.toNat ++ leBytes 4 0 ++ leBytes 8 st.point ++ leBytes 8 st.appliedNs.toNat

/-- A stage that a session may query (R89, R95, R554). -/
def queryStage (s : State) (e : CmdEntry) : Option Stage :=
  s.host.stages.find? fun st => st.id == e.stageId.toNat
    && (st.owner == some e.session || (st.owner.isNone && sessionView e.session == .priv))

/-- The stage commands from step 7 on: the stage first, then the part state (R75). -/
def runStageCmd (c : CmdId) (e : CmdEntry) (s : State) : State :=
  if c == .sysStageOpen then (if e.stageId = 0 then stageOpen e s else respond s e (refuse stStageInvalid) true)
  else if c == .sysStageQuery then
    match queryStage s e with
    | none => respond s e (refuse stStageInvalid) true
    | some st => if partRefuses s e c then respond s e (refuse stRefusedState) true else respond s e (okData (stageRecord s st)) true
  else
    match openStage s e with
    | none => respond s e (refuse stStageInvalid) true
    | some st =>
      if partRefuses s e c then respond s e (refuse stRefusedState) true
      else
      match c with
      | .sysStageCheck => stageCheck e s st
      | .sysStageCommit => stageCommit e s st
      | _ => respond (discardStage s st) e okReply true

/-! Running a command. -/

/-- The result does not fit (R52, R62). -/
def tooLong (e : CmdEntry) (c : CmdSpec) (r : Reply) : Bool :=
  match e.session, c.buf with
  | .mbox _, _ => 40 < r.data.length
  | _, .output _ | _, .outputMul _ _ _ | _, .outputPiece | _, .outputState => e.bufLen.toNat < r.data.length
  | _, _ => false

/-- What follows a command's effect: its response, or its interim response and the work that goes on (R62, R76, R77). `old` is the
state before it. -/
def finishRun (c : CmdId) (e : CmdEntry) (old s : State) (r : Reply) : State :=
  let op : LongOp := { e := e, since := old.upNs, ref := (fnImpl c).longRef e old }
  let busy := { s with host := { s.host with longOps := s.host.longOps ++ [op] } }
  if tooLong e (cmdSpec c) r then respond old e (refuse stBadLength) true
  else if r.status = stAccepted then (fnImpl c).after e (respond busy e r false)
  else if r.status = stDeferred then busy
  else
    let s := if (cmdSpec c).long && r.status = stOk then respond s e { status := stAccepted } false else s
    let s := answerFinal s e r
    if c == .keyGenMap && r.status = stOk then mapChanged s else s

/-- An immediate command from step 8 on. -/
def runNow (c : CmdId) (e : CmdEntry) (s : State) : State :=
  if !(cmdSpec c).reads && conflicts s e then respond s e (refuse stConflict) true
  else
    match lastRefusal .now c e s with
    | some r => respond s e r true
    | none => finishRun c e s ((fnImpl c).apply .now e s).1 ((fnImpl c).apply .now e s).2

/-- Functions none of whose commands can be staged (R89). -/
def unstageable (fn : Nat) : Bool := [0x01, 0x06, 0x0C, 0x0D, 0x0E, 0x10].contains fn

/-- A command carrying a stage identifier, from step 7 on (R89). -/
def runStaged (c : CmdId) (e : CmdEntry) (s view : State) : State :=
  let x := cmdSpec c
  match openStage s e with
  | none => respond s e (refuse stStageInvalid) true
  | some st =>
    if !bitOf st.mask.toNat (x.fn - 1) || unstageable x.fn then respond s e (refuse stStageInvalid) true
    else if x.reads then
      match lastRefusal .now c e view with
      | some r => respond s e r true
      | none => finishRun c e s ((fnImpl c).apply .now e s).1 ((fnImpl c).apply .now e view).2
    else if !x.stageable then respond s e (refuse stStageInvalid) true
    else
      match lastRefusal .record c e view with
      | some r => respond s e r true
      | none =>
        if 4096 ≤ st.cmds.length || 1048576 < st.argBytes + argSize e x.buf then respond s e (refuse stNoRoom) true
        else respond (modStage s st.id fun y => { y with cmds := y.cmds ++ [e], argBytes := y.argBytes + argSize e x.buf, checkState := 0 })
          e okReply true

/-- The inner entry of `PAIR_LOCAL_APPLY`: it answers to the outer command's session and tag; its own input follows the 64 bytes
(log 66). -/
def innerEntry (s : State) (e : CmdEntry) : CmdEntry :=
  let i := entryOfBytes e.session (inBuf e)
  let i := { i with word := entryTag e ++ i.word.setWidth 16 }
  { i with buf := if e.session == .spi then windowBytes s i else e.buf.drop 64 }

/-- `PAIR_LOCAL_APPLY` (R448, R461). -/
def runLocal (e : CmdEntry) (s : State) : State :=
  let i := innerEntry s e
  match entryCmd i with
  | none => respond s e (refuse stBadOpcode) true
  | some c =>
    if !unitLocal c then respond s e (refuse stBadOpcode) true
    else
      match firstRefusal c i { s with role := .single } s with
      | some r => respond s i r true
      | none => if i.stageId = 0 then runNow c i s else respond s i (refuse stStageInvalid) true

/-- A command in service: the lease it renews (R93), the checks of R75 in order, then its effect and its response. -/
def runEntry (e : CmdEntry) (old : State) : State :=
  let s := renewNamed old e
  match entryCmd e with
  | none => respond s e (refuse stBadOpcode) true
  | some c =>
    let view := stageView s e
    match firstRefusal c e s view with
    | some r => respond s e r true
    | none =>
      if c == .sysStageOpen || c == .sysStageCheck || c == .sysStageCommit || c == .sysStageAbort || c == .sysStageQuery then runStageCmd c e s
      else if e.stageId != 0 then runStaged c e s view
      else if c == .pairLocalApply then (if partRefuses s e c then respond s e (refuse stRefusedState) true else runLocal e s)
      else runNow c e s

/-- The standby applies a replicated command's effect (R445): one that it would refuse it has already. -/
def runReplicated (e : CmdEntry) (s : State) : State :=
  match entryCmd e with
  | none => s
  | some c =>
    match lastRefusal .now c e s with
    | some _ => s
    | none =>
      let (t, r) := (fnImpl c).apply .now e s
      if r.status = stAccepted then
        match (fnImpl c).finish { e := e, since := s.upNs, ref := (fnImpl c).longRef e s } t with
        | some (u, _) => u
        | none => t
      else t

/-! Sessions and fetching (R51, R56, R78, R82, R83, R487). -/

/-- Sessions the part serves in its state. -/
def sessionServed (s : State) (x : Session) : Bool :=
  partAnswers s && (match x with | .spi => true | _ => viewsAnswer s) &&
    match s.part, x with
    | .boot, .mbox _ => true
    | .boot, _ => false
    | .loader, .mbox .priv | .loader, .chan .priv 0 | .loader, .spi => true
    | .loader, _ => false
    | _, _ => true

/-- Number of a session in the round robin. -/
def sessionIndex : Session → Nat
  | .mbox .priv => 0 | .chan .priv n => 1 + n | .mbox .unpriv => 5 | .chan .unpriv n => 6 + n | .spi => 18

/-- The 19 sessions in round-robin order. -/
def allSessions : List Session :=
  .mbox .priv :: (List.range 4).map (.chan .priv) ++ .mbox .unpriv :: (List.range 12).map (.chan .unpriv) ++ [.spi]

/-- Commands fetched and not completed, of all sessions. -/
def allOutstanding (s : State) : Nat :=
  s.host.fetched.length + s.host.longOps.length
    + (s.pair.waits.filter fun w => match w.hold with | .response _ _ final => final | _ => false).length

/-- A channel runs. -/
def chanRuns (s : State) (v : View) (n : Nat) : Bool := ringOn (chanOf s v n).regs && (chanOf s v n).regs.active

/-- A channel's response ring has room for `k` entries more (R78). -/
def rspRoom (s : State) (v : View) (n k : Nat) : Bool :=
  (chanOf s v n).responses.length + outstandingOf s (.chan v n) + k < ringSize (chanOf s v n).regs

/-- A session has a command that the part may fetch: in its ring with a response entry to reserve, in its mailbox, at the SPI target. -/
def mayFetch (s : State) (x : Session) : Bool :=
  sessionServed s x &&
    match x with
    | .chan v n => chanRuns s v n && (chanOf s v n).regs.prod != (chanOf s v n).regs.cons && rspRoom s v n 1
    | .mbox v => (viewOf s v).mboxWaits
    | .spi => s.host.spi.waits.isSome

/-- The first session in the round robin that satisfies a test, while fewer than 256 commands are outstanding (R78). -/
def turnAmong (s : State) (p : Session → Bool) : Option Session :=
  if 256 ≤ allOutstanding s then none
  else ((allSessions.filter fun x => s.host.rrLast < sessionIndex x) ++ allSessions).find? p

/-- The session whose turn it is. -/
def turn (s : State) : Option Session := turnAmong s (mayFetch s)

/-- A command with an interim response needs a second response entry (R78). -/
def needsTwo (e : CmdEntry) : Bool :=
  match entryCmd e with
  | some c => e.stageId = 0 && (cmdSpec c).long || c == .sysStageCommit
  | none => false

/-- The round robin goes on after a session. -/
def tookTurn (s : State) (x : Session) : State := { s with host := { s.host with rrLast := sessionIndex x } }

/-- Advance a command ring's consumer index. -/
def takeSlot (s : State) (v : View) (n : Nat) : State :=
  modChan s v n fun c =>
    { c with regs := { dmaUse c.regs with cons := BitVec.ofNat 12 ((c.regs.cons.toNat + 1) % ringSize c.regs) } }

/-- Earlier commands of a session are not completed (R83). -/
def sessionBusy (s : State) (earlier : List CmdEntry) (x : Session) : Bool :=
  earlier.any (fun f => f.session == x) || s.host.longOps.any (fun o => o.e.session == x)
    || s.pair.waits.any fun w => match w.hold with | .response f _ final => final && f.session == x | _ => false

/-- Long commands whose whole effect on settings comes at their completion: later commands of their function wait for it, so that the
sequencer's order holds (R76, R82, R83; log 13). -/
def holdsSequencer : CmdId → Bool
  | .nodeTableLoad | .nodeCounterRestore | .nodeColdChallenge | .keyIdentityGenerate | .keyLifecycleAdvance | .updateBegin | .updateVerify
  | .updateConfirm | .updateRevert | .campaignStart => true
  | _ => false

/-- A long command at work holds its function's sequencer against a command. -/
def heldBy (e : CmdEntry) (o : LongOp) : Bool := entryFn o.e == entryFn e && ((entryCmd o.e).map holdsSequencer).getD false

/-- A command may start after those fetched before it (R78, R82, R83). -/
def mayStart (s : State) (earlier : List CmdEntry) (e : CmdEntry) : Bool :=
  !(earlier.any fun f => entryFn f == entryFn e) && !(s.host.longOps.any (heldBy e)) && (!bitOf e.ctl.toNat 0 || !sessionBusy s earlier e.session)

/-- Domains of the stores and blocks that a function's commands work on (R16, R25). -/
def fnDoms (fn : Nat) : List Nat :=
  match fn with
  | 0x05 => [7, 8, 13]
  | 0x06 => lookupDoms
  | 0x07 => [12, domEth]
  | 0x08 => [1]
  | 0x09 => [domCipher, 1]
  | 0x0A => shaperDoms
  | 0x0F => [domEth]
  | 0x10 => [12]
  | _ => []

/-- Domains that a command's own work reaches beside FABRIC and AON (R16, R26, log 39). -/
def workDoms (c : CmdId) (e : CmdEntry) : List Nat :=
  match c with
  | .keyTamperStatus => []
  | .pairConfig => [domPair]
  | .radioBandEnable | .radioTxCalRun => if argBits e 1 0 < 3 then [domBandA + argBits e 1 0] else []
  | .radioSnapshotArm | .radioSnapshotRead => [domBulk7]
  | .sysQuiesce => lookupDoms
  | .routeNodeSet | .routeNodeQuery => lookupDoms ++ [12]
  | c => fnDoms (cmdSpec c).fn

/-- Domains that a command's access reaches (R16, R468, log 39): the way in, and what its own work needs. -/
def entryDoms (e : CmdEntry) : List Nat :=
  let way := (if e.session == .spi then [] else [domPcie]) ++ [domFabric]
  if e.stageId != 0 then way else withNeeds (way ++ ((entryCmd e).map (workDoms · e)).getD [])

/-- A command stalls: a domain it needs is low (R468), or it works on the flash while the xSPI interface is tested (R501). -/
def stalls (s : State) (e : CmdEntry) : Bool :=
  anyLow s (entryDoms e) || (resourceTested s 4 &&
    match entryCmd e with | some .updateBegin | some .updateWrite | some .updateVerify | some .updateActivate => true | _ => false)

/-- Put a command among those fetched. -/
def keepFetched (s : State) (e : CmdEntry) : State := { s with host := { s.host with fetched := s.host.fetched ++ [e] } }

/-- A fetched command reaches its function; while it waits for those before it (R82) or stalls (R468) it stays among those fetched. -/
def deliver (e : CmdEntry) (s : State) : State :=
  if !mayStart s s.host.fetched e then keepFetched s e
  else if stalls s e then accessDoms (keepFetched s e) (entryDoms e)
  else runEntry e (accessDoms s (entryDoms e))

/-- The command entry that stands in a mailbox. -/
def mboxEntry (s : State) (v : View) : CmdEntry :=
  entryOfBytes (.mbox v) ((List.range 16).flatMap fun i => leBytes 4 (mapGetD 0 (viewOf s v).mbox i).toNat)

/-- A mailbox's command is fetched, which counts (R52, R74). -/
def fetchMbox (v : View) (s : State) : State :=
  tookTurn (hostCount (modView s v fun w => { w with mboxBusy := true, mboxWaits := false }) hcMboxCommands) (.mbox v)

/-- The SPI target's command is fetched (R48). -/
def fetchSpi (s : State) : State :=
  tookTurn { s with host := { s.host with spi := { s.host.spi with outstanding := true, refused := false, waits := none } } } .spi

/-- A command channel's entry is fetched; where its memory does not answer the channel stops (R59). -/
def fetchChan (v : View) (n : Nat) (e : CmdEntry) (s : State) : State :=
  if dmaFails (chanOf s v n).regs then modChan s v n fun c => { c with regs := dmaStop c.regs }
  else
    let s := takeSlot (tookTurn s (.chan v n)) v n
    if (entryCmd e).isNone then respond s e (refuse stBadOpcode) true else keepFetched s e

/-- COMMAND_FETCH (R78): the session whose turn it is has its command fetched; a channel's word that names no command is answered at
once, and what stands in a mailbox or came over SPI goes on to its function. -/
def fetchOp (e : CmdEntry) (s : State) : State :=
  if turn s != some e.session then s
  else
    match e.session with
    | .chan v n => fetchChan v n e s
    | .mbox v => deliver (mboxEntry s v) (fetchMbox v s)
    | .spi =>
      match s.host.spi.waits with
      | some f => deliver { f with buf := windowBytes s f } (fetchSpi s)
      | none => s

/-- A fetched command starts: its function's sequencer, its fence, its second response entry and its domains allow it. -/
def startFetched (e : CmdEntry) (s : State) : State :=
  let earlier := s.host.fetched.takeWhile fun f => f != e
  let room := match e.session with | .chan v n => 256 ≤ n || !needsTwo e || rspRoom s v n 1 | _ => true
  if !mayStart s earlier e || !room then s
  else if stalls s e then accessDoms s (entryDoms e)
  else runEntry e (accessDoms { s with host := { s.host with fetched := s.host.fetched.erase e } } (entryDoms e))

/-- The session takes the command now: the round robin comes to it (R78), a channel has its response entries and memory that answers
(R59, R78; log 67), a mailbox is free (R52), the SPI target has none outstanding (R48). -/
def sessionTakes (e : CmdEntry) (s : State) : Bool :=
  sessionServed s e.session && turnAmong s (fun x => x == e.session || mayFetch s x) == some e.session &&
    match e.session with
    | .chan v n =>
      chanRuns s v n && !dmaFails (chanOf s v n).regs && rspRoom s v n (if needsTwo e then 2 else 1) && mayStart s s.host.fetched e
    | .mbox v => !(viewOf s v).mboxBusy
    | .spi => !s.host.spi.outstanding

/-- A channel's ring after the host has written an entry to it, its doorbell rung, and the part has fetched it (R60, R78; log 67). -/
def enterChan (v : View) (n : Nat) (s : State) : State :=
  let r := (chanOf s v n).regs
  let s := if r.prod == r.cons then
      modChan s v n fun c => { c with regs := { c.regs with prod := BitVec.ofNat 12 ((c.regs.prod.toNat + 1) % ringSize c.regs) } }
    else s
  takeSlot (tookTurn s (.chan v n)) v n

/-- Write the words of a command entry into a mailbox (R52). -/
def mboxWords (v : View) (e : CmdEntry) (s : State) : State :=
  modView s v fun w => { w with mbox := (List.range 16).foldl (fun m i => mapSet m i (BitVec.ofNat 32 (leAt (entryBytes64 e) (4 * i) 4))) w.mbox }

/-- The session has taken a command. -/
def entered (e : CmdEntry) (s : State) : State :=
  match e.session with
  | .chan v n => enterChan v n s
  | .mbox v => fetchMbox v (mboxWords v e s)
  | .spi => fetchSpi s

/-- The SPI target takes a command, which is fetched at once where its turn has come; a second one while one is outstanding is refused
with status bit [2] (R48, R49, R78). -/
def takeSpi (e : CmdEntry) (s : State) : State :=
  if !sessionServed s .spi then s
  else if s.host.spi.outstanding then { s with host := { s.host with spi := { s.host.spi with refused := true } } }
  else fetchOp e { s with host := { s.host with spi := { s.host.spi with outstanding := true, refused := false, waits := some e } } }

/-- Writing `go` to a free mailbox: its command waits, and is fetched at once where its turn has come (R52, R78). -/
def takeMbox (v : View) (s : State) : State :=
  if sessionServed s (.mbox v) && !(viewOf s v).mboxBusy then
    fetchOp (mboxEntry s v) (modView s v fun w => { w with mboxBusy := true, mboxWaits := true })
  else s

/-- A command arrives at its session. -/
def takeEntry (e : CmdEntry) (s : State) : State :=
  if e.session == .spi && s.host.spi.outstanding then takeSpi e s
  else if sessionTakes e s then deliver (if e.session == .spi then { e with buf := windowBytes s e } else e) (entered e s)
  else s

/-- The entry of a table row: its word names the row's command. -/
def named (c : CmdId) (e : CmdEntry) : CmdEntry := { e with word := entryTag e ++ BitVec.ofNat 16 (cmdCode c) }

/-- A fetched entry is the command's: its session may be lost since, an SPI command reads its input from the window. -/
def isEntry (s : State) (e f : CmdEntry) : Bool :=
  f == e || f == lostEntry e.session e || (e.session == .spi && f == { e with buf := windowBytes s e })

/-- A host command: one that stands fetched starts, any other is taken from its session. -/
def hostCommand (c : CmdId) (e : CmdEntry) (s : State) : State :=
  let e := named c e
  match s.host.fetched.find? (isEntry s e) with
  | some f => if partAnswers s then startFetched f s else s
  | none => takeEntry e s

/-- Commands stalled on a domain that has woken start, in their order (R468). -/
def resumeStalled (d : Nat) (s : State) : State :=
  s.host.fetched.foldl (fun s e => if s.host.fetched.contains e && (entryDoms e).contains d then startFetched e s else s) s

/-- DOMAIN_WAKE_COMPLETE (R468): the wake ends and stalled accesses proceed. -/
def domainWokenOp (d : Nat) (s : State) : State :=
  let t := wakeCompleteOp s d
  if (domOf s d).state == .waking && (domOf t d).state == .on then
    resumeStalled d (if 2 ≤ d && d ≤ 5 then dispatchWork t else t)
  else t

/-- EPHEMERIS_RESUME (R175, R426): the reference runs again; wake events held by the freeze follow. -/
def ephemerisResumeOp (s : State) : State :=
  let t := resumeOp s
  if s.clk.frozen.isSome && t.clk.frozen.isNone then resumeStalled domRef (flushWake t) else t

/-! Events of long commands and stages. -/

/-- LONG_COMMAND_COMPLETE (R77): the oldest such command at work whose work is done. -/
def longCompleteOp (x : Session) (tag : W16) (s : State) : State :=
  match s.host.longOps.find? fun o => (o.e.session == x || o.e.session == lostSession x) && entryTag o.e == tag with
  | none => s
  | some op =>
    match entryCmd op.e with
    | none => s
    | some c =>
      match (fnImpl c).finish op { s with host := { s.host with longOps := s.host.longOps.erase op } } with
      | none => s
      | some (t, r) =>
        let t := answerFinal t op.e r
        if c == .keyGenMap && r.status = stOk then mapChanged t else t

/-- STAGE_COMMIT_POINT (R91, R92): the check is repeated and the stage applied at one instant. -/
def stagePointOp (id : Nat) (s : State) : State :=
  match s.host.stages.find? fun st => st.id == id && st.checkState == 3 with
  | none => s
  | some st =>
    if !firmwareRuns s || !pointPassed s st then s
    else
      let mine (o : LongOp) : Bool := some o.e == st.commit
      let op := s.host.longOps.find? mine
      let s := { s with host := { s.host with longOps := s.host.longOps.filter fun o => !mine o } }
      let answer (s : State) (r : Reply) : State := match op with | some o => respond s o.e r true | none => s
      match (if (commitNs s st.mode st.point).isSome then stageFailure s st.cmds st.mode st.point else some (0xFFFFFFFF, refuse stStageInvalid)) with
      | some f => answer (discardStage s st) (failedReply f)
      | none =>
        let reply := appliedReply s st.mode st.point
        let s := commitEffects s st.cmds st.mode st.point
        answer (modStage s id fun x => { x with checkState := 4, appliedNs := s.clk.timeNs, commit := none }) reply
where
  /-- The point has come, or can no longer be reached. -/
  pointPassed (s : State) (st : Stage) : Bool :=
    match commitNs s st.mode st.point with | some t => decide (t ≤ (nowNs s : Int)) | none => true

/-- STAGE_LEASE_EXPIRY (R93, R94). -/
def stageLeaseOp (id : Nat) (s : State) : State :=
  match s.host.stages.find? fun st => st.id == id && decide (st.checkState ≤ 2) with
  | some st => if st.leaseEnd ≤ s.upNs then discardStage s st else s
  | none => s

/-- STAGE_RECORD_EXPIRY (R554). -/
def stageRecordOp (id : Nat) (s : State) : State :=
  match s.host.stages.find? fun st => st.id == id && decide (4 ≤ st.checkState) with
  | some st => if st.leaseEnd ≤ s.upNs then dropStage s id else s
  | none => s

/-- Insert a stage in the order of points. -/
def insertPoint (st : Stage) : List Stage → List Stage
  | [] => [st]
  | x :: t => if x.point ≤ st.point then x :: insertPoint st t else st :: x :: t

/-- The settings that will govern slot `n`: sealed mode-2 stages whose point is at or before it (R92, R260). -/
def stagedView (n : Nat) (s : State) : State :=
  let due := (s.host.stages.filter fun st => st.checkState == 3 && st.mode == 2 && decide (st.point ≤ n)).foldr insertPoint []
  due.foldl (fun s st => if (stageFailure s st.cmds 2 st.point).isNone then commitEffects s st.cmds 2 st.point else s) s

end Sys2Proof.Machine
end

