-- ==== Sys2Proof/Machine/Spi.lean ====
section
/-! DEFINITION. Reading registers, the mailbox's words and `go`, and the transactions of the SPI management target (R48, R49, R52 to
R59, R63, R64, log 68). -/

namespace Sys2Proof.Machine

/-! Entries as bytes (R63, R64). -/

/-- The 40 inline result bytes of a response. -/
def inlineBytes (r : Response) : List Byte :=
  sliceBytes (if r.figures.isEmpty then r.result else Config.resultBytes r.figures r.result) 0 40

/-- A response entry (R63). -/
def responseBytes (r : Response) : List Byte :=
  leBytes 2 r.tag.toNat ++ leBytes 2 r.status.toNat ++ leBytes 2 r.stageId.toNat ++ leBytes 2 r.resultLen
    ++ leBytes 4 (natOf r.phase * 2 ^ 31 + natOf r.final * 2 ^ 30 + r.partState.toNat * 256 + r.fnState.toNat)
    ++ leBytes 4 r.detail.toNat ++ leBytes 8 r.doneNs.toNat ++ inlineBytes r

/-- An event entry (R64). -/
def eventBytes (e : EventEntry) : List Byte :=
  leBytes 4 (natOf e.phase * 2 ^ 31 + e.function.toNat * 65536 + e.code.toNat) ++ leBytes 4 e.count.toNat ++ leBytes 8 e.timeNs.toNat
    ++ [e.arg0, e.arg1, e.arg2, e.arg3].flatMap fun a => leBytes 4 a.toNat

/-- The host's half of a posted receive entry, and back (R66). -/
def postedBytes (b : PostedBuf) : List Byte := leBytes 8 b.addr.toNat ++ leBytes 2 b.len.toNat ++ leBytes 2 0 ++ leBytes 4 b.rsvd.toNat
def postedOfBytes (b : List Byte) : PostedBuf :=
  { addr := BitVec.ofNat 64 (leAt b 0 8), len := BitVec.ofNat 16 (leAt b 8 2), rsvd := BitVec.ofNat 32 (leAt b 12 4) }

/-- A receive entry (R66). -/
def rxEntryBytes (e : RxEntry) : List Byte :=
  postedBytes e.buf
    ++ leBytes 4 (natOf e.phase * 2 ^ 31 + natOf e.last * 2 ^ 24 + e.frameStatus.toNat * 2 ^ 16 + e.length % 2048)
    ++ leBytes 4 (e.mode % 4 * 2 ^ 30 + e.context % 512 * 2 ^ 21 + e.band % 4 * 2 ^ 19 + natOf e.nodeValid * 2 ^ 18 + e.nodeIndex % 2 ^ 18)
    ++ leBytes 8 e.tsNs.toNat ++ leBytes 4 e.tsFrac.toNat
    ++ leBytes 4 (e.keyGen.toNat * 2 ^ 24 + e.lqi.toNat * 2 ^ 16 + unsignedOf 16 e.rssi)
    ++ leBytes 4 e.frameCounter.toNat ++ leBytes 4 e.srcAddr.toNat ++ leBytes 4 (e.chunkSeq % 65536 * 65536 + e.channel % 65536)
    ++ leBytes 4 e.frameId.toNat ++ List.replicate 8 0

/-- The host's half of a transmit entry, and back (R67). -/
def txEntryBytes (e : TxEntry) : List Byte :=
  leBytes 8 e.bufAddr.toNat ++ leBytes 4 e.ctl.toNat ++ leBytes 4 e.destAddr.toNat ++ leBytes 4 e.life.toNat ++ leBytes 12 e.rsvd.toNat
def txEntryOfBytes (b : List Byte) : TxEntry :=
  { bufAddr := BitVec.ofNat 64 (leAt b 0 8), ctl := BitVec.ofNat 32 (leAt b 8 4), destAddr := BitVec.ofNat 32 (leAt b 12 4)
    life := BitVec.ofNat 32 (leAt b 16 4), rsvd := BitVec.ofNat 96 (leAt b 20 12) }

/-- What the part writes at offset 0x20 of a transmit entry (R67). -/
def txDoneBytes (e : TxDone) : List Byte :=
  leBytes 4 (natOf e.phase * 2 ^ 31 + natOf e.errDest * 2 ^ 18 + natOf e.lateLaunch * 2 ^ 17 + natOf e.errDesc * 2 ^ 16
      + e.attempts % 256 * 256 + e.frameStatus.toNat)
    ++ leBytes 4 e.counter.toNat ++ leBytes 8 e.launchNs.toNat ++ leBytes 4 (e.channel % 65536 * 256 + e.band % 4) ++ List.replicate 12 0

/-- A time-stamp queue entry (R68). -/
def tsEntryBytes (e : TsEntry) : List Byte :=
  leBytes 4 (natOf e.phase * 2 ^ 31 + e.source % 8 * 2 ^ 16 + e.tsId.toNat) ++ leBytes 4 e.tsFrac.toNat ++ leBytes 8 e.tsNs.toNat

/-! Registers (R53 to R59). -/

/-- `STATUS` of a ring (R59). -/
def statusWord (s : State) (v : View) (r : RingId) (x : RingRegs) : Nat :=
  let out := match r with
    | .chan n => outstandingOf s (.chan v n) + outstandingOf s (lostSession (.chan v n))
    | _ => 0
  let active := x.active || decide (0 < out)
  natOf active * 2 ^ 31 + natOf x.faultSize * 2 ^ 30 + natOf x.faultDma * 2 ^ 29 + natOf x.faultBuf * 2 ^ 28 + min out 511

/-- A register of a ring set (R57). -/
def ringRead (s : State) (v : View) (r : RingId) (off : Nat) : Nat :=
  match ringRegs s v r with
  | none => 0
  | some x =>
    match off with
    | 0x00 => x.baseLo.toNat | 0x04 => x.baseHi.toNat | 0x08 => x.auxLo.toNat | 0x0C => x.auxHi.toNat | 0x10 => x.ctrl.toNat
    | 0x14 => x.prod.toNat | 0x18 => x.cons.toNat | 0x1C => x.rspCons.toNat | 0x20 => statusWord s v r x
    | _ => 0

/-- A word of a view's mailbox (R52): the command, the response, the event mirror; where the host wrote a word after the response, or
where the mirror is empty, it reads what was written (R53). -/
def mboxWord (s : State) (v : View) (i : Nat) : Nat :=
  let w := viewOf s v
  if i < 16 then (mapGetD 0 w.mbox i).toNat
  else if i < 32 then
    match mapGet w.mbox i, w.mboxRsp with
    | some x, _ => x.toNat
    | none, some r => leAt (responseBytes r) ((i - 16) * 4) 4
    | none, none => 0
  else if i < 40 then
    match mirrorEvent s v with
    | some e => leAt (eventBytes e) ((i - 32) * 4) 4
    | none => (mapGetD 0 w.mbox i).toNat
  else 0

/-- A read of a view's register; reserved offsets read 0. -/
def readReg (s : State) (v : View) (off : Nat) : Nat :=
  let w := viewOf s v
  if off = 0x00 then idPart
  else if off = 0x04 then idRev s v
  else if off = 0x08 then idUnit s
  else if off = 0x0C then fwVersion s
  else if off = 0x10 then partStateWord s
  else if off = 0x20 then w.evEnable.toNat
  else if off = 0x400 then natOf w.mboxBusy * 2 ^ 31 + natOf (mirrorEvent s v).isSome * 2 ^ 30
  else if 0x500 ≤ off && off < 0x5A0 then mboxWord s v ((off - 0x500) / 4)
  else if 0x8000 ≤ off && off < 0x8400 then (mapGetD 0 w.msix ((off - 0x8000) / 4)).toNat
  else if off = 0x9000 then bitsOf w.msixPending.toNat 31 0
  else if off = 0x9004 then bitsOf w.msixPending.toNat 63 32
  else match ringAt v off with | some (r, k) => ringRead s v r k | none => 0

/-! The mailbox (R52). -/

/-- Writing `go`. -/
def mboxGoOp (v : View) (s : State) : State := takeMbox v s

/-! SPI transactions (R48, R49). -/

/-- The output `MGMT_ATTN`: a response or an event is ready (R48). -/
def mgmtAttn (s : State) : Bool := !s.host.spi.rsps.isEmpty || (mirrorEvent s .priv).isSome

/-- Change the SPI target. -/
def modSpi (s : State) (f : SpiIf → SpiIf) : State := { s with host := { s.host with spi := f s.host.spi } }

/-- The status byte of a transaction. -/
def spiStatus (s : State) : Byte :=
  BitVec.ofNat 8 (natOf (!s.host.spi.rsps.isEmpty) + natOf (mirrorEvent s .priv).isSome * 2 + natOf s.host.spi.refused * 4
    + natOf s.host.spi.crcErr * 8)

/-- Bytes the part returns, with their CRC. -/
def withCrc (b : List Byte) : List Byte := b ++ leBytes 2 (crc16 b).toNat

/-- End a transaction: what it returned, after the status byte, and whether its CRC failed. -/
def spiEnd (s : State) (status : Byte) (b : List Byte) (bad : Bool) : State :=
  modSpi s fun x => { x with returned := status :: b, crcErr := bad }

/-- A transaction with a host payload: a CRC error discards it whole and returns `zeros` zero bytes with the inverted CRC. -/
def spiChecked (s : State) (opcode : Byte) (payload : List Byte) (crc : W16) (zeros : Nat) (go : State → State × List Byte) : State :=
  let status := spiStatus s
  if crc16 (opcode :: payload) == crc then
    let (t, b) := go s
    spiEnd t status (if b.isEmpty then [] else withCrc b) false
  else
    let z : List Byte := List.replicate zeros 0
    let bad := if zeros = 0 then [] else z ++ leBytes 2 (crc16 z ^^^ 0xFFFF#16).toNat
    spiEnd (hostCount s hcSpiCrcError) status bad true

/-- CMD_WRITE. -/
def cmdWriteOp (s : State) (payload : List Byte) (crc : W16) : State :=
  if !partAnswers s then s
  else spiChecked s 0x01 payload crc 0 fun s => (takeSpi (entryOfBytes .spi payload) s, [])

/-- RSP_READ: the oldest response, or zeros. -/
def rspReadOp (s : State) : State :=
  if !partAnswers s then s
  else
    match s.host.spi.rsps with
    | [] => spiEnd s (spiStatus s) (withCrc (List.replicate 64 0)) false
    | r :: rest => spiEnd (modSpi s fun x => { x with rsps := rest }) (spiStatus s) (withCrc (responseBytes r)) false

/-- EVT_READ: the oldest pending event of the privileged view, which it retires, or zeros. -/
def evtReadOp (s : State) : State :=
  if !partAnswers s then s
  else
    match mirrorEvent s .priv with
    | none => spiEnd s (spiStatus s) (withCrc (List.replicate 32 0)) false
    | some e => spiEnd (evtAckOp s .priv) (spiStatus s) (withCrc (eventBytes e)) false

/-- REG_READ. -/
def regReadOp (s : State) (payload : List Byte) (crc : W16) : State :=
  if !partAnswers s then s
  else spiChecked s 0x04 payload crc 4 fun s => (s, leBytes 4 (readReg s .priv (leAt payload 0 2)))

/-- REG_WRITE, `go` included. -/
def regWriteOp (s : State) (payload : List Byte) (crc : W16) : State :=
  if !partAnswers s then s
  else
    spiChecked s 0x05 payload crc 0 fun s =>
      let off := leAt payload 0 2
      let value := BitVec.ofNat 32 (leAt payload 2 4)
      let t := writeReg s .priv off value
      (if off = 0x400 && bitOf value.toNat 0 then mboxGoOp .priv t else t, [])

/-- DATA_WRITE: bytes past the window's end go nowhere (log 68). -/
def dataWriteOp (s : State) (payload : List Byte) (crc : W16) : State :=
  if !partAnswers s then s
  else
    spiChecked s 0x06 payload crc 0 fun s =>
      let off := leAt payload 0 2
      (modSpi s fun x => { x with window := memWriteBytes 0 x.window off ((payload.drop 2).take (65536 - off)) }, [])

/-- DATA_READ. -/
def dataReadOp (s : State) (payload : List Byte) (crc : W16) : State :=
  let n := min (leAt payload 2 2) 256
  if !partAnswers s then s
  else spiChecked s 0x07 payload crc n fun s => (s, memReadBytes 0 s.host.spi.window (leAt payload 0 2) n)

end Sys2Proof.Machine
end

