-- ==== Sys2Proof/Machine/EventAir.lean ====
section
/-! DEFINITION. The rows of reception and what the part does with a received frame. -/

namespace Sys2Proof.Machine

/-- `SYNC_DETECT` (R158): An ARMED GFSK context qualifies a preamble and detects the sync word. -/
def execSyncDetect (ctx : Nat) (bitErrors : Nat) (preambleBits : Nat) (rssiQ : Int) (s : State) : Host.Outcome State Fault Refusal :=
  .next (syncDetectOp s ctx bitErrors preambleBits rssiQ)

/-- `OFDM_DETECT` (R159): An ARMED TL-OFDM context detects short training. -/
def execOfdmDetect (ctx : Nat) (autocorr : Nat) (rssiQ : Int) (s : State) : Host.Outcome State Fault Refusal :=
  .next (ofdmDetectOp s ctx autocorr rssiQ)

/-- `SECONDARY_DETECT` (R160): The secondary correlator detects a frame, pre- or post-header, for capture. -/
def execSecondaryDetect (ctx : Nat) (overlap : Overlap) (s : State) : Host.Outcome State Fault Refusal :=
  .next (secondaryDetectOp s ctx overlap.rssiQ overlap.bytes)

/-- `HEADER_DECIDE` (R163): The context decides the PHY header or signal field and re-arms on failure. -/
def execHeaderDecide (ctx : Nat) (heard : HeaderHeard) (s : State) : Host.Outcome State Fault Refusal :=
  .next (headerDecideOp s ctx heard.hdr heard.soft)

/-- `CARRIER_DROP` (R162): Averaged RSSI falls below the sync RSSI and the PSDU ends as an FCS failure. -/
def execCarrierDrop (ctx : Nat) (bytes : List Byte) (rssiQ : Int) (s : State) : Host.Outcome State Fault Refusal :=
  .next (carrierDropOp s ctx bytes rssiQ)

/-- `RX_PSDU_END` (R164): The last PSDU bit is received; FCS, MAC checks, lookup, key, verify and counter commit run. -/
def execRxPsduEnd (ctx : Nat) (psdu : List Byte) (snrQ : Int) (shadow : List Byte) (s : State) : Host.Outcome State Fault Refusal :=
  .next (rxPsduEndOp s ctx psdu snrQ shadow)

/-- `UPLINK_DELIVER` (R35): Delivers an accepted frame to a host ring, the IPv6 path or a firmware thread. -/
def execUplinkDeliver (s : State) : Host.Outcome State Fault Refusal := .next (uplinkDeliverOp s)

/-- `SOUNDING_END` (R165): A SOUNDING reception ends and per-tone SNR is passed to map computation. -/
def execSoundingEnd (ctx : Nat) (snrDb : List Int) (s : State) : Host.Outcome State Fault Refusal :=
  .next (soundingEndOp s ctx snrDb)

/-- `CUT_THROUGH_PIECE` (R361): A filled granule of a cut-through frame is written as an FS_PROVISIONAL piece. -/
def execCutThroughPiece (ctx : Nat) (bytes : List Byte) (s : State) : Host.Outcome State Fault Refusal :=
  .next (cutPieceOp s ctx bytes)

/-- `JOIN_REQ_HANDLE` (R278): A firmware thread handles an authenticated JOIN_REQ as rejoin or learning. -/
def execJoinReqHandle (s : State) : Host.Outcome State Fault Refusal := .next (joinReqOp s)

/-- `CONTROL_FRAME_HANDLE` (R127): A firmware thread handles a received CONTROL frame by subtype. -/
def execControlFrameHandle (s : State) : Host.Outcome State Fault Refusal := .next (controlOp s)

/-- `CAMPAIGN_STATUS_RX` (R495): A received campaign STATUS updates want counts and the target record. -/
def execCampaignStatusRx (s : State) : Host.Outcome State Fault Refusal := .next (statusRxOp s)

/-- `BEACON_RX` (R253): An authenticated parent beacon gives a servo measurement or re-anchors in ACQUIRING. -/
def execBeaconRx (s : State) : Host.Outcome State Fault Refusal := .next (beaconOp s)

/-- `ACK_RX` (R244): An accepted ACK completes the downlink with FS_OK and feeds the drift estimate. -/
def execAckRx (s : State) : Host.Outcome State Fault Refusal := .next (ackOp s)

/-- `ACK_WINDOW_END` (R245): No ACK arrives; the frame returns to pending or is flushed after dl_retry_max. -/
def execAckWindowEnd (launch : Nat) (s : State) : Host.Outcome State Fault Refusal := .next (ackWindowEndOp s launch)

/-- `CONTEXT_LISTEN_END` (R157): An ARMED context reaches its listen end and returns to IDLE. -/
def execContextListenEnd (ctx : Nat) (s : State) : Host.Outcome State Fault Refusal := .next (listenEndOp s ctx)

/-- `AGC_ATTACK` (R152): Eight high samples or a clip lower the gain 6 dB. -/
def execAgcAttack (b : Band) (clip : Bool) (s : State) : Host.Outcome State Fault Refusal := .next (agcAttackOp s b clip)

/-- `AGC_RELEASE` (R152): Quiet for agc_release_us raises the gain 2 dB. -/
def execAgcRelease (b : Band) (s : State) : Host.Outcome State Fault Refusal := .next (agcReleaseOp s b)

/-- `SNAPSHOT_START` (R172): An armed snapshot starts on its trigger. -/
def execSnapshotStart (b : Band) (s : State) : Host.Outcome State Fault Refusal := .next (snapshotStartOp s b)

/-- `SNAPSHOT_CAPTURE_END` (R171): A snapshot fills its units and completes. -/
def execSnapshotCaptureEnd (b : Band) (data : List Byte) (s : State) : Host.Outcome State Fault Refusal :=
  .next (snapshotEndOp s b data)

/-- `WAKE_PATTERN_MATCH` (R175): The wake receiver matches its pattern, raising the event and waking domains. -/
def execWakePatternMatch (window : W32) (s : State) : Host.Outcome State Fault Refusal := .next (wakeMatchOp s window)

end Sys2Proof.Machine
end

