-- ==== Sys2Proof/Machine/EventBands.lean ====
section
/-! DEFINITION. The rows of bands, launches, front ends and coexistence. -/

namespace Sys2Proof.Machine

/-- `BAND_ON` (R204): A PENDING_ON band becomes ON at its slotframe boundary. -/
def execBandOn (b : Band) (s : State) : Host.Outcome State Fault Refusal := .next (bandOnOp s b)

/-- `BAND_DRAIN_END` (R205): A DRAINING band becomes OFF when its last burst and reception end. -/
def execBandDrainEnd (b : Band) (s : State) : Host.Outcome State Fault Refusal := .next (drainEndOp s b)

/-- `BAND_FAULT` (R206): Calibration failure, lock loss or DAC underflow puts the band in FAULT. -/
def execBandFault (b : Band) (s : State) : Host.Outcome State Fault Refusal := .next (bandFaultOp s b)

/-- `FAULT_RETURN_ATTEMPT` (R207): A FAULT band recalibrates at each of the next three slotframe boundaries. -/
def execFaultReturnAttempt (b : Band) (ok : Bool) (s : State) : Host.Outcome State Fault Refusal := .next (faultReturnOp s b ok)

/-- `ACK_LAUNCH` (R192): At tL the speculative ACK ramp commits or is abandoned. -/
def execAckLaunch (b : Band) (s : State) : Host.Outcome State Fault Refusal := .next (ackLaunchOp s b)

/-- `LAUNCH_ENCRYPT` (R358): At tL minus 40 µs a lane assigns the outgoing counter and encrypts the frame. -/
def execLaunchEncrypt (b : Band) (s : State) : Host.Outcome State Fault Refusal := .next (launchEncryptOp s b)

/-- `BURST_START` (R195): Front-end lines switch and contexts blank ahead of a burst. -/
def execBurstStart (b : Band) (s : State) : Host.Outcome State Fault Refusal := .next (burstStartOp s b)

/-- `LAUNCH` (R188): A queued launch starts on time, late, or is cancelled. -/
def execLaunch (b : Band) (s : State) : Host.Outcome State Fault Refusal := .next (launchOp s b)

/-- `BURST_END` (R195): A burst ramps down and the front-end lines return to receive. -/
def execBurstEnd (b : Band) (s : State) : Host.Outcome State Fault Refusal := .next (burstEndOp s b)

/-- `CHANNEL_CALIBRATION` (R184): A synthesiser calibration for a new LO completes, repeats or faults. -/
def execChannelCalibration (b : Band) (locked : Bool) (s : State) : Host.Outcome State Fault Refusal :=
  .next (channelCalOp s b locked)

/-- `BACKGROUND_CALIBRATION` (R185): A due background calibration starts in a gap and completes. -/
def execBackgroundCalibration (b : Band) (cal : BgStart) (s : State) : Host.Outcome State Fault Refusal :=
  .next (backgroundCalOp s b cal.which cal.tempQ)

/-- `COEX_GRANT_WITHDRAWN` (R198): Grant withdrawal during a burst finishes or aborts it. -/
def execCoexGrantWithdrawn (b : Band) (s : State) : Host.Outcome State Fault Refusal := .next (coexWithdrawOp s b)

/-- `COEX_GRANT_ASSERTED` (R197): A grant arriving lets a held launch start. -/
def execCoexGrantAsserted (b : Band) (s : State) : Host.Outcome State Fault Refusal := .next (coexGrantOp s b)

end Sys2Proof.Machine
end

