-- ==== Sys2Proof/Machine/EventHost.lean ====
section
/-! DEFINITION. The rows of the accesses of the host through the PCIe views: doorbells, index writes, rings, the mailbox, plain registers. -/

namespace Sys2Proof.Machine

/-- `COMMAND_FETCH` (R78): Fetches a command from a session round robin once a response entry can be reserved. -/
def execCommandFetch (e : CmdEntry) (s : State) : Host.Outcome State Fault Refusal := .next (fetchOp e s)

/-- `COMMAND_PROD_WRITE` (R58): Host writes a command ring producer index as doorbell. -/
def execCommandProdWrite (v : View) (ch : Nat) (value : W32) (s : State) : Host.Outcome State Fault Refusal :=
  .next (commandProdOp (accessView s) v ch value)

/-- `RSP_CONS_WRITE` (R58): Host advances a response ring consumer index, freeing entries. -/
def execRspConsWrite (v : View) (ch : Nat) (value : W32) (s : State) : Host.Outcome State Fault Refusal :=
  .next (rspConsOp (accessView s) v ch value)

/-- `EVENT_CONS_WRITE` (R65): Host advances the event ring consumer index, letting latched events be written. -/
def execEventConsWrite (v : View) (value : W32) (s : State) : Host.Outcome State Fault Refusal :=
  .next (eventConsOp (accessView s) v value)

/-- `RX_PROD_WRITE` (R553): Host posts receive buffers by advancing the receive ring producer. -/
def execRxProdWrite (ring : Nat) (value : W32) (bufs : List PostedBuf) (s : State) : Host.Outcome State Fault Refusal :=
  .next (rxProdOp (accessView s) ring value bufs)

/-- `TX_PROD_WRITE` (R58): Host submits frames by advancing the transmit ring producer. -/
def execTxProdWrite (ring : Nat) (value : W32) (s : State) : Host.Outcome State Fault Refusal :=
  .next (txProdOp (accessView s) ring value)

/-- `TS_CONS_WRITE` (R58): Host advances the time-stamp queue consumer index. -/
def execTsConsWrite (value : W32) (s : State) : Host.Outcome State Fault Refusal := .next (tsConsOp (accessView s) value)

/-- `RING_ENABLE` (R552): Setting CTRL.enable starts a ring at indices 0, or records fault_size. -/
def execRingEnable (v : View) (r : RingId) (start : RingStart) (s : State) : Host.Outcome State Fault Refusal :=
  .next (ringEnableOp (accessView s) v r start.ctrl start.dma)

/-- `RING_TEARDOWN` (R552): Clearing CTRL.enable tears a ring down by its kind. -/
def execRingTeardown (v : View) (r : RingId) (ctrl : W32) (s : State) : Host.Outcome State Fault Refusal :=
  .next (ringTeardownOp (accessView s) v r ctrl)

/-- `MBOX_GO` (R52): Writing go executes the mailbox command and writes its response inline. -/
def execMboxGo (v : View) (s : State) : Host.Outcome State Fault Refusal := .next (mboxGoOp v s)

/-- `MBOX_EVT_ACK` (R52): Writing evt_ack retires the mirrored event. -/
def execMboxEvtAck (v : View) (s : State) : Host.Outcome State Fault Refusal :=
  .next (if viewsAnswer s then evtAckOp (accessView s) v else s)

/-- `REGISTER_WRITE` (R57): Host writes a register that has no behaviour of its own. -/
def execRegisterWrite (v : View) (offset : Nat) (value : W32) (s : State) : Host.Outcome State Fault Refusal :=
  .next (registerWriteOp (accessView s) v offset value)

/-- `INTERRUPT_HOLDOFF_EXPIRY` (R59): A ring's holdoff_us after its first unreported entry expires and the part signals its MSI-X vector. -/
def execInterruptHoldoffExpiry (v : View) (r : RingId) (s : State) : Host.Outcome State Fault Refusal :=
  .next (holdoffExpiryOp s v r)

/-- `LONG_COMMAND_COMPLETE` (R77): The work of a long command ends and its final response is written after the interim ST_ACCEPTED. -/
def execLongCommandComplete (session : Session) (tag : W16) (s : State) : Host.Outcome State Fault Refusal :=
  .next (longCompleteOp session tag s)

/-- `STAGE_COMMIT_POINT` (R91): At the commit point the check is repeated and the stage applied at one instant. -/
def execStageCommitPoint (stage : Nat) (s : State) : Host.Outcome State Fault Refusal := .next (stagePointOp stage s)

/-- `STAGE_LEASE_EXPIRY` (R94): An open stage's lease expires and the stage is discarded. -/
def execStageLeaseExpiry (stage : Nat) (s : State) : Host.Outcome State Fault Refusal := .next (stageLeaseOp stage s)

/-- `STAGE_RECORD_EXPIRY` (R554): 60 s after its point a sealed stage's record can no longer be queried. -/
def execStageRecordExpiry (stage : Nat) (s : State) : Host.Outcome State Fault Refusal := .next (stageRecordOp stage s)

end Sys2Proof.Machine
end

