-- ==== Sys2Proof/Machine/EventLinks.lean ====
section
/-! DEFINITION. The rows of Ethernet, PTP and time. -/

namespace Sys2Proof.Machine

/-- `ETH_RX_FRAME` (R305): A received Ethernet frame is classified and acted on. -/
def execEthRxFrame (port : Nat) (bytes : List Byte) (fcsOk : Bool) (s : State) : Host.Outcome State Fault Refusal :=
  .next (ethRxOp s port bytes fcsOk)

/-- `ETH_LINK_CHANGE` (R318): An Ethernet link comes up or goes down. -/
def execEthLinkChange (port : Nat) (up : Bool) (s : State) : Host.Outcome State Fault Refusal := .next (ethLinkOp s port up)

/-- `PTP_SYNC_RX` (R417): A slave port accepts a Sync or Follow_Up. -/
def execPtpSyncRx (port : Nat) (m : PtpSync) (s : State) : Host.Outcome State Fault Refusal := .next (ptpSyncRxOp s port m)

/-- `PTP_ANNOUNCE_RX` (R417): A slave port accepts an Announce. -/
def execPtpAnnounceRx (port : Nat) (m : PtpAnnounce) (s : State) : Host.Outcome State Fault Refusal :=
  .next (ptpAnnounceOp s port m)

/-- `PTP_DELAY_RESP_RX` (R408): A Delay_Resp completes an exchange and yields a measurement. -/
def execPtpDelayRespRx (port : Nat) (m : PtpDelayResp) (s : State) : Host.Outcome State Fault Refusal :=
  .next (ptpDelayRespOp s port m)

/-- `PTP_DELAY_REQ_RX` (R417): A master port answers a Delay_Req. -/
def execPtpDelayReqRx (port : Nat) (m : PtpDelayReq) (s : State) : Host.Outcome State Fault Refusal :=
  .next (ptpDelayReqOp s port m)

/-- `PTP_SYNC_TX` (R418): A master port sends Sync at its interval. -/
def execPtpSyncTx (port : Nat) (s : State) : Host.Outcome State Fault Refusal := .next (ptpSyncTxOp s port)

/-- `PTP_ANNOUNCE_TX` (R418): A master-only PTP port sends an Announce at its log_announce interval with the advertised clockClass and stepsRemoved. -/
def execPtpAnnounceTx (port : Nat) (s : State) : Host.Outcome State Fault Refusal := .next (ptpAnnounceTxOp s port)

/-- `SERVO_UPDATE` (R410): At each servo_ms the servo slews or steps from accepted measurements. -/
def execServoUpdate (s : State) : Host.Outcome State Fault Refusal := .next (servoUpdateOp s)

/-- `SOURCE_INVALID` (R408): A source's missing-message timeout makes it invalid. -/
def execSourceInvalid (kind : Nat) (s : State) : Host.Outcome State Fault Refusal := .next (sourceInvalidOp s kind)

/-- `PPS_IN_EDGE` (R424): A PPS_IN edge is stamped and gives a measurement. -/
def execPpsInEdge (s : State) : Host.Outcome State Fault Refusal := .next (ppsInOp s)

/-- `PPS_OUT_SECOND` (R424): PPS_OUT rises at each whole second. -/
def execPpsOutSecond (s : State) : Host.Outcome State Fault Refusal := .next (ppsOutOp s)

/-- `CAPTURE_EDGE` (R422): A capture pin edge is stamped into its FIFO. -/
def execCaptureEdge (pin : Nat) (rising : Bool) (s : State) : Host.Outcome State Fault Refusal := .next (captureOp s pin rising)

/-- `EVENT_PIN_EDGE` (R420): An event-pin output edge falls due. -/
def execEventPinEdge (pin : Nat) (s : State) : Host.Outcome State Fault Refusal := .next (eventPinOp s pin)

/-- `INTERNAL_TRIGGER_FIRE` (R423): An internal trigger fires its consumers. -/
def execInternalTriggerFire (trig : Nat) (s : State) : Host.Outcome State Fault Refusal := .next (triggerPassed s trig)

/-- `RTC_WINDOW_END` (R425): A 32,768-period window updates r_rtc. -/
def execRtcWindowEnd (nsCounted : Nat) (s : State) : Host.Outcome State Fault Refusal := .next (rtcWindowOp s nsCounted)

/-- `EPHEMERIS_FREEZE` (R426): At the next RTC edge Ephemeris freezes and the reference stops. -/
def execEphemerisFreeze (s : State) : Host.Outcome State Fault Refusal := .next (freezeOp s)

/-- `EPHEMERIS_RESUME` (R426): After lock and an RTC edge Ephemeris advances by the gap and resumes. -/
def execEphemerisResume (s : State) : Host.Outcome State Fault Refusal := .next (ephemerisResumeOp s)

/-- `UNC_FREE_EXPIRY` (R427): unc_free_s after resume or reset with no source, the uncertainty latch clears. -/
def execUncFreeExpiry (s : State) : Host.Outcome State Fault Refusal := .next (uncFreeOp s)

end Sys2Proof.Machine
end

