-- ==== Sys2Proof/Machine/EventReset.lean ====
section
/-! DEFINITION. The rows of resets, power, watchdogs and the test access port. -/

namespace Sys2Proof.Machine

/-- `FUNCTION_LEVEL_RESET` (R98): PCIe FLR of a view resets its registers, rings and sessions. -/
def execFunctionLevelReset (v : View) (s : State) : Host.Outcome State Fault Refusal := .next (flrOp s v)

/-- `PART_RESET` (R348): Release of RESET_N runs the key-domain boot and hands over to the loader. -/
def execPartReset (straps : Straps) (alarms : Byte) (s : State) : Host.Outcome State Fault Refusal :=
  .next (partResetOp s straps alarms)

/-- `RESET_ASSERT` (R527): RESET_N taken low disarms the core-supply and clock-glitch tamper sources. -/
def execResetAssert (s : State) : Host.Outcome State Fault Refusal := .next (resetAssertOp s)

/-- `PERST_RELEASE` (R525): PERST_N deassertion starts PCIe link training. -/
def execPerstRelease (s : State) : Host.Outcome State Fault Refusal := .next (perstReleaseOp s)

/-- `POWER_LOSS` (R527): Removal of a non-AON rail is a power loss. -/
def execPowerLoss (s : State) : Host.Outcome State Fault Refusal := .next (powerLossOp s)

/-- `AON_POWER_ON` (R525): AON supplies in range release the AON power-on reset and clear the tamper latch state. -/
def execAonPowerOn (s : State) : Host.Outcome State Fault Refusal := .next (aonPowerOnOp s)

/-- `PROBATION_FAILURE` (R483): A watchdog or trap on probation hands back or cold-starts. -/
def execProbationFailure (s : State) : Host.Outcome State Fault Refusal := .next (probationFailureOp s)

/-- `KERNEL_WATCHDOG_EXPIRY` (R513): A core misses its check-in and the part cold-starts. -/
def execKernelWatchdogExpiry (core : Nat) (s : State) : Host.Outcome State Fault Refusal := .next (kernelWatchdogOp s core)

/-- `FABRIC_WATCHDOG_EXPIRY` (R401): An owner without a handshake for wd_us loses its grant and its function resets. -/
def execFabricWatchdogExpiry (owner : Nat) (bank : Nat) (s : State) : Host.Outcome State Fault Refusal :=
  .next (fabricWatchdogOp s owner bank)

/-- `TAMPER_ALARM` (R345): A tamper source alarms: latch, zeroize KEY, advance count, raise the event. -/
def execTamperAlarm (sources : Byte) (s : State) : Host.Outcome State Fault Refusal := .next (tamperOp s sources)

/-- `EXTEST` (R512): Loading EXTEST closes the gate, zeroizes KEY and hands balls to boundary scan. -/
def execExtest (s : State) : Host.Outcome State Fault Refusal := .next (holdOp s 0x00#8)

/-- `CLAMP` (R512): Loading CLAMP holds the part as for EXTEST. -/
def execClamp (s : State) : Host.Outcome State Fault Refusal := .next (holdOp s 0x03#8)

/-- `HIGHZ` (R512): Loading HIGHZ holds the part as for EXTEST. -/
def execHighz (s : State) : Host.Outcome State Fault Refusal := .next (holdOp s 0x04#8)

/-- `SAMPLE_PRELOAD` (R510): TAP instruction sampling the boundary register. -/
def execSamplePreload (s : State) : Host.Outcome State Fault Refusal := .next (setTap s 0x01#8 s.test.tapDr)

/-- `IDCODE` (R511): TAP instruction reading the IDCODE. -/
def execIdcode (s : State) : Host.Outcome State Fault Refusal := .next (setTap s 0x02#8 idcodeValue)

/-- `BYPASS` (R510): TAP instruction selecting the bypass register. -/
def execBypass (s : State) : Host.Outcome State Fault Refusal := .next (setTap s 0xFF#8 0)

/-- `VENDOR_INSTRUCTION` (R510): A vendor TAP instruction acts when unlocked, else as BYPASS. An available
vendor instruction has no stated effect and stops; any other selects the bypass register. -/
def execVendorInstruction (opcode : Byte) (s : State) : Host.Outcome State Fault Refusal :=
  if vendorAvailable s opcode then .fault .vendorInstruction else .next (setTap s opcode 0)

/-- `TRST_LOW` (R512): TRST_N low ends a boundary-scan hold with a cold start. -/
def execTrstLow (s : State) : Host.Outcome State Fault Refusal := .next (trstLowOp s)

end Sys2Proof.Machine
end

