-- ==== Sys2Proof/Machine/EventSlots.lean ====
section
/-! DEFINITION. The rows of slots, stages, bands and the calendar. -/

namespace Sys2Proof.Machine

/-- `TRANSMIT_RING_FETCH` (R387): Fetches a transmit entry and classifies the frame into a shaping queue. -/
def execTransmitRingFetch (ring : Nat) (e : TxEntry) (payload : List Byte) (s : State) : Host.Outcome State Fault Refusal :=
  .next (txFetchOp s ring e payload)

/-- `SLOT_PREPARATION` (R43): Prepares a slot's plan at t0 minus the lead, or when its predecessor completes. -/
def execSlotPreparation (s : State) : Host.Outcome State Fault Refusal := .next (slotPreparationOp stagedView s)

/-- `PLAN_HAND_OFF` (R36): Hands the slot plan to the band pipelines and launch queues. -/
def execPlanHandOff (s : State) : Host.Outcome State Fault Refusal := .next (planHandOffOp s)

/-- `SLOT_BOUNDARY` (R214): A slot boundary fires trigger 14 and applies slot-bound changes. -/
def execSlotBoundary (s : State) : Host.Outcome State Fault Refusal := .next (slotBoundaryOp s)

/-- `ORBIT_ANCHOR_REACHED` (R217): At t_a the engine enters RUN or ACQUIRING. -/
def execOrbitAnchorReached (s : State) : Host.Outcome State Fault Refusal := .next (anchorReachedOp s)

/-- `CONTACT_MISS` (R248): An expected contact passes without an authenticated frame and counts a miss. -/
def execContactMiss (node : Nat) (s : State) : Host.Outcome State Fault Refusal := .next (contactMissOp s node)

/-- `ADRIFT_DEADLINE` (R250): The ADRIFT hold time ends and held frames complete FS_FLUSHED. -/
def execAdriftDeadline (node : Nat) (s : State) : Host.Outcome State Fault Refusal := .next (adriftDeadlineOp s node)

/-- `PARENT_CELL_MISSED` (R254): A PARENT cell passes without a beacon; the third enters HOLDOVER and moves on. -/
def execParentCellMissed (b : Band) (s : State) : Host.Outcome State Fault Refusal := .next (parentMissedOp s b)

/-- `LIFETIME_EXPIRY` (R389): A pending frame's lifetime expires and it completes FS_FLUSHED. -/
def execLifetimeExpiry (record : Nat) (s : State) : Host.Outcome State Fault Refusal := .next (lifetimeOp s record)

/-- `TONE_MAP_OLD_RETIRE` (R138): 2 s after acknowledgement the issuer drops the previous tone map. -/
def execToneMapOldRetire (addr : W32) (s : State) : Host.Outcome State Fault Refusal := .next (toneMapRetireOp s addr)

/-- `AGING_VISIT` (R283): The aging scan visits an index, clearing hit or deleting the entry. -/
def execAgingVisit (s : State) : Host.Outcome State Fault Refusal := .next (agingOp s)

/-- `SCRUB_READ` (R286): The scrubber reads a table word and corrects or detects errors. -/
def execScrubRead (shadow : List Byte) (s : State) : Host.Outcome State Fault Refusal := .next (scrubOp s shadow)

/-- `SHADOW_COMPARE` (R286): The compare reads an entry's shadow copy and compares shadowed fields. -/
def execShadowCompare (shadow : List Byte) (s : State) : Host.Outcome State Fault Refusal := .next (compareOp s shadow)

end Sys2Proof.Machine
end

