-- ==== Sys2Proof/Machine/EventSpi.lean ====
section
/-! DEFINITION. The rows of the transactions of the SPI management target. -/

namespace Sys2Proof.Machine

/-- `CMD_WRITE` (R48): SPI transaction delivering a command entry. -/
def execCmdWrite (payload : List Byte) (crc : W16) (s : State) : Host.Outcome State Fault Refusal :=
  .next (cmdWriteOp s payload crc)

/-- `RSP_READ` (R48): SPI transaction returning a response entry. -/
def execRspRead (s : State) : Host.Outcome State Fault Refusal := .next (rspReadOp s)

/-- `EVT_READ` (R48): SPI transaction returning an event entry. -/
def execEvtRead (s : State) : Host.Outcome State Fault Refusal := .next (evtReadOp s)

/-- `REG_READ` (R48): SPI transaction reading a privileged register. -/
def execRegRead (payload : List Byte) (crc : W16) (s : State) : Host.Outcome State Fault Refusal :=
  .next (regReadOp s payload crc)

/-- `REG_WRITE` (R48): SPI transaction writing a privileged register. -/
def execRegWrite (payload : List Byte) (crc : W16) (s : State) : Host.Outcome State Fault Refusal :=
  .next (regWriteOp s payload crc)

/-- `DATA_WRITE` (R48): SPI transaction writing the data window. -/
def execDataWrite (payload : List Byte) (crc : W16) (s : State) : Host.Outcome State Fault Refusal :=
  .next (dataWriteOp s payload crc)

/-- `DATA_READ` (R48): SPI transaction reading the data window. -/
def execDataRead (payload : List Byte) (crc : W16) (s : State) : Host.Outcome State Fault Refusal :=
  .next (dataReadOp s payload crc)

end Sys2Proof.Machine
end

