-- ==== Sys2Proof/Machine/EventTide.lean ====
section
/-! DEFINITION. The rows of Tide, the keys and the lanes. -/

namespace Sys2Proof.Machine

/-- `HANDSHAKE_PERIOD` (R464): A handshake-policy domain with no access in its period is asked to enter. -/
def execHandshakePeriod (domain : Nat) (s : State) : Host.Outcome State Fault Refusal := .next (handshakePeriodOp s domain)

/-- `HANDSHAKE_ANSWER` (R465): Blocks' answers complete a handshake and the domain enters or stays On. -/
def execHandshakeAnswer (domain : Nat) (answers : List BlockAnswer) (s : State) : Host.Outcome State Fault Refusal :=
  .next (handshakeAnswerOp s domain answers)

/-- `HANDSHAKE_DELAY_EXPIRY` (R465): A block's handshake delay passes its declared maximum and counts as a refusal, leaving the domain On. -/
def execHandshakeDelayExpiry (domain : Nat) (block : Nat) (s : State) : Host.Outcome State Fault Refusal :=
  .next (delayExpiryOp s domain block)

/-- `IDLE_TIMER_EXPIRY` (R466): An idle-timer domain enters Retention. -/
def execIdleTimerExpiry (domain : Nat) (s : State) : Host.Outcome State Fault Refusal := .next (idleTimerOp s domain)

/-- `DOMAIN_ENTRY_COMPLETE` (R467): A domain reaches its low state after its entry time. -/
def execDomainEntryComplete (domain : Nat) (s : State) : Host.Outcome State Fault Refusal := .next (entryCompleteOp s domain)

/-- `DOMAIN_WAKE` (R468): An access to a low domain stalls and starts a cascaded wake. -/
def execDomainWake (domain : Nat) (s : State) : Host.Outcome State Fault Refusal := .next (domainWakeOp s domain)

/-- `DOMAIN_WAKE_COMPLETE` (R468): A wake ends and stalled accesses proceed. -/
def execDomainWakeComplete (domain : Nat) (s : State) : Host.Outcome State Fault Refusal := .next (domainWokenOp domain s)

/-- `REMASK_PASS` (R330): Every 100 ms each LOADED slot is re-masked after checking it. -/
def execRemaskPass (s : State) : Host.Outcome State Fault Refusal := .next (remaskOp s)

/-- `REVOKE_DRAIN_DONE` (R336): refs reach 0; the revoked slot is zeroized and lanes cleared. -/
def execRevokeDrainDone (slot : Nat) (s : State) : Host.Outcome State Fault Refusal := .next (revokeDrainOp s slot)

/-- `ENTROPY_HEALTH_FAIL` (R341): A health test fails and the source restarts. -/
def execEntropyHealthFail (s : State) : Host.Outcome State Fault Refusal := .next (entropyFailOp s)

/-- `ENTROPY_RESTART_DONE` (R341): The restarted entropy source passes its start-up test. -/
def execEntropyRestartDone (s : State) : Host.Outcome State Fault Refusal := .next (entropyDoneOp s)

/-- `MASK_RESEED` (R365): A lane mask generator reseeds from the entropy source. -/
def execMaskReseed (lane : Nat) (s : State) : Host.Outcome State Fault Refusal := .next (reseedLane s lane)

end Sys2Proof.Machine
end

