-- ==== Sys2Proof/Machine/EventTwin.lean ====
section
/-! DEFINITION. The rows of the twin pair. -/

namespace Sys2Proof.Machine

/-- `ECLIPSE_GATE_CLOSE` (R443): The gate closes, muting drive and holding gated outputs. -/
def execEclipseGateClose (s : State) : Host.Outcome State Fault Refusal := .next (gateCloseOp s)

/-- `ECLIPSE_GATE_OPEN` (R443): The gate opens once R437 is met. -/
def execEclipseGateOpen (s : State) : Host.Outcome State Fault Refusal := .next (gateOpenOp s)

/-- `HEARTBEAT_SEND` (R435): Every hb_us a unit sends its heartbeat and the active unit renews its lease. -/
def execHeartbeatSend (s : State) : Host.Outcome State Fault Refusal := .next (heartbeatSendOp s)

/-- `LINE_HEARTBEAT_RX` (R435): A heartbeat word arrives on HB_IN. -/
def execLineHeartbeatRx (word : W64) (s : State) : Host.Outcome State Fault Refusal := .next (lineHeartbeatOp s word)

/-- `HEARTBEAT` (R438): A HEARTBEAT message arrives on the pair link. -/
def execHeartbeat (h : LinkHdr) (word : W64) (s : State) : Host.Outcome State Fault Refusal := .next (heartbeatOp s h word)

/-- `HELLO` (R440): A HELLO arrives and the pair forms or fails on mismatch. -/
def execHello (h : LinkHdr) (m : HelloMsg) (s : State) : Host.Outcome State Fault Refusal := .next (helloOp s h m)

/-- `COMMIT` (R446): The standby applies commit records and sends COMMIT_ACK. -/
def execCommit (h : LinkHdr) (recs : List CommitRec) (s : State) : Host.Outcome State Fault Refusal := .next (commitOp s h recs)

/-- `COMMIT_ACK` (R446): The active unit completes the waiting commits or held effects. -/
def execCommitAck (h : LinkHdr) (first last : W32) (s : State) : Host.Outcome State Fault Refusal :=
  .next (commitAckOp s h first last)

/-- `JOURNAL` (R445): The standby applies journal records with full entries. -/
def execJournal (h : LinkHdr) (recs : List JournalMsg) (s : State) : Host.Outcome State Fault Refusal :=
  .next (journalOp s h recs)

/-- `CONFIG` (R445): The standby applies a completed command's effect or a sealed stage. -/
def execConfig (h : LinkHdr) (m : ConfigMsg) (s : State) : Host.Outcome State Fault Refusal :=
  .next (configOp runReplicated s h m)

/-- `CONTACT` (R445): The standby applies a node's contact-state update. -/
def execContact (h : LinkHdr) (node : Nat) (entry : BitVec 512) (s : State) : Host.Outcome State Fault Refusal :=
  .next (contactOp s h node entry)

/-- `EPOCH` (R447): The standby writes the epoch record advanced by one and acknowledges. -/
def execEpoch (h : LinkHdr) (r : EpochRec) (s : State) : Host.Outcome State Fault Refusal := .next (epochOp s h r)

/-- `TIME` (R408): Two-way time stamps for source kind 5. -/
def execTime (h : LinkHdr) (t1 t2 t3 t4 : W64) (s : State) : Host.Outcome State Fault Refusal := .next (timeOp s h t1 t2 t3 t4)

/-- `SYNC` (R456): The standby applies a piece of a bulk copy. -/
def execSync (h : LinkHdr) (p : SyncPiece) (s : State) : Host.Outcome State Fault Refusal := .next (syncOp runReplicated s h p)

/-- `PAIR_LINK_DOWN` (R432): Loss of block lock or tags takes the link down; replica STALE or active solo. -/
def execPairLinkDown (s : State) : Host.Outcome State Fault Refusal := .next (linkDownOp s)

/-- `PAIR_LINK_UP` (R432): The pair link completes training and its link state becomes up. -/
def execPairLinkUp (s : State) : Host.Outcome State Fault Refusal := .next (linkUpOp s)

/-- `REPL_TIMEOUT` (R446): No COMMIT_ACK within repl_timeout_us makes the active unit solo. -/
def execReplTimeout (s : State) : Host.Outcome State Fault Refusal := .next (replTimeoutOp s)

/-- `LEASE_EXPIRY` (R437): The active unit's lease counts down to zero and its gate closes. -/
def execLeaseExpiry (s : State) : Host.Outcome State Fault Refusal := .next (leaseExpiryOp s)

/-- `STARTUP_WAIT_EXPIRY` (R440): A unit hearing no active twin after its start-up wait takes over. -/
def execStartupWaitExpiry (s : State) : Host.Outcome State Fault Refusal := .next (startupOp s)

/-- `TAKEOVER` (R452): A standby judging the lease ended forms a new claim and becomes active. -/
def execTakeover (s : State) : Host.Outcome State Fault Refusal := .next (takeoverOp s)

/-- `ISOLATION_YIELD` (R457): Under isolation_policy yield, the active unit closes its gate once both pair paths have been silent for lease_us. -/
def execIsolationYield (s : State) : Host.Outcome State Fault Refusal := .next (isolationOp s)

end Sys2Proof.Machine
end

