-- ==== Sys2Proof/Machine/EventWork.lean ====
section
/-! DEFINITION. The rows of the flash, the queues, work items, campaigns and tests. -/

namespace Sys2Proof.Machine

/-- `FLASH_RECORD_WRITE` (R475): A needed record write suspends other flash work and programs a page. -/
def execFlashRecordWrite (s : State) : Host.Outcome State Fault Refusal := .next (flashRecordOp s)

/-- `RECORD_SECTOR_ERASE` (R475): A full record sector is erased in the background. -/
def execRecordSectorErase (s : State) : Host.Outcome State Fault Refusal := .next (sectorEraseOp s)

/-- `HANDOVER_DISPATCH_HOLD` (R482): At the next hand-off dispatch holds and the new firmware takes over. -/
def execHandoverDispatchHold (s : State) : Host.Outcome State Fault Refusal := .next (handoverOp s)

/-- `PACE_BELOW_FLOOR` (R514): A 1 ms mean pace below the floor raises EV_WATCHDOG. -/
def execPaceBelowFloor (pace : Nat) (vcoreMv : Nat) (s : State) : Host.Outcome State Fault Refusal :=
  .next (paceOp s pace vcoreMv)

/-- `TELEMETRY_SAMPLE` (R516): Every telem_ms a telemetry record is written. -/
def execTelemetrySample (r : Readings) (s : State) : Host.Outcome State Fault Refusal := .next (telemetryOp s r)

/-- `QUEUE_SAMPLE` (R397): Every sample_ms each shaping queue is sampled. -/
def execQueueSample (s : State) : Host.Outcome State Fault Refusal := .next (queueSampleOp s)

/-- `WORK_SUBMIT` (R381): A work item is submitted to its ready list or deferred chain. -/
def execWorkSubmit (item : WorkItem) (s : State) : Host.Outcome State Fault Refusal := .next (workSubmitOp s item)

/-- `CORE_ITEM_COMPLETE` (R383): A core completes an item, takes its prefetch and releases the flow. -/
def execCoreItemComplete (core : Nat) (s : State) : Host.Outcome State Fault Refusal := .next (coreCompleteOp s core)

/-- `TAIL_SPILL` (R384): A full register tail spills to Tail cells. -/
def execTailSpill (f : FifoId) (s : State) : Host.Outcome State Fault Refusal := .next (tailSpillOp s f)

/-- `TAIL_REFILL` (R384): A head at 8 entries refills from the middle. -/
def execTailRefill (f : FifoId) (s : State) : Host.Outcome State Fault Refusal := .next (tailRefillOp s f)

/-- `QUEUE_COMPACTION` (R388): A queue's holes exceed its live entries plus 48 and its middle is rewritten. -/
def execQueueCompaction (queue : Nat) (s : State) : Host.Outcome State Fault Refusal := .next (compactionOp s queue)

/-- `BANK_ARBITRATION` (R399): A bank's arbiter chooses the next winner by class and round robin. -/
def execBankArbitration (bank : Nat) (requests : W16) (s : State) : Host.Outcome State Fault Refusal :=
  .next (arbitrationOp s bank requests)

/-- `CAMPAIGN_ROUND_START` (R494): A campaign round starts its broadcast phase. -/
def execCampaignRoundStart (s : State) : Host.Outcome State Fault Refusal := .next (roundStartOp s)

/-- `COLLECTION_PHASE_START` (R495): The collection phase starts and want counts reset. -/
def execCollectionPhaseStart (s : State) : Host.Outcome State Fault Refusal := .next (collectionOp s)

/-- `TEST_DURATION_EXPIRY` (R502): A test's duration expires and its resource is restored. -/
def execTestDurationExpiry (resource : Nat) (s : State) : Host.Outcome State Fault Refusal := .next (testDurationOp s resource)

/-- `CHECKER_LOCKED` (R504): A lane's PRBS checker sees 128 consecutive error-free bits and becomes locked. -/
def execCheckerLocked (link : Nat) (lane : Nat) (s : State) : Host.Outcome State Fault Refusal :=
  .next (checkerLockedOp s link lane)

/-- `CHECKER_LOCK_LOSS` (R504): A locked PRBS checker counts 32 errors within 1,024 bits, counts the loss and reseeds. -/
def execCheckerLockLoss (link : Nat) (lane : Nat) (bits : Nat) (s : State) : Host.Outcome State Fault Refusal :=
  .next (checkerLossOp s link lane bits)

/-- `TEST_FRAME_SEND` (R505): A radio test of kind 2 or 3 sends its next PN9 test frame every interval_us until count is reached. -/
def execTestFrameSend (b : Band) (s : State) : Host.Outcome State Fault Refusal := .next (testFrameOp s b)

end Sys2Proof.Machine
end

