-- ==== Sys2Proof/Machine/ExecAir.lean ====
section
/-! DEFINITION. The rows of the AIR commands: each is taken from its session, checked and answered as chapter 3 says, with the
effect its own `Cmd` gives it (`fnImpl`). -/

namespace Sys2Proof.Machine

/-- `AIR_PROFILE_LOAD` (R145): Loads an air profile with default sync word, tolerance and seed. -/
def execAirProfileLoad (e : CmdEntry) (s : State) : Host.Outcome State Fault Refusal := .next (hostCommand .airProfileLoad e s)

/-- `AIR_PROFILE_REMOVE` (R145): Removes an unbound air profile. -/
def execAirProfileRemove (e : CmdEntry) (s : State) : Host.Outcome State Fault Refusal := .next (hostCommand .airProfileRemove e s)

/-- `AIR_PROFILE_BIND` (R146): Binds an air profile to a band for beacon and join cells. -/
def execAirProfileBind (e : CmdEntry) (s : State) : Host.Outcome State Fault Refusal := .next (hostCommand .airProfileBind e s)

/-- `AIR_PROFILE_QUERY` (R144): Returns an air profile record in the buffer. -/
def execAirProfileQuery (e : CmdEntry) (s : State) : Host.Outcome State Fault Refusal := .next (hostCommand .airProfileQuery e s)

/-- `AIR_SET_ROUTER_ADDRESS` (R147): Sets the router mesh address while every band is disabled. -/
def execAirSetRouterAddress (e : CmdEntry) (s : State) : Host.Outcome State Fault Refusal := .next (hostCommand .airSetRouterAddress e s)

/-- `AIR_TONE_MAP_READ` (R144): Returns one 39-byte tone map of a node inline. -/
def execAirToneMapRead (e : CmdEntry) (s : State) : Host.Outcome State Fault Refusal := .next (hostCommand .airToneMapRead e s)

/-- `AIR_SOUND` (R148): Requests sounding at the node's next contact and completes when the new receive map is active. -/
def execAirSound (e : CmdEntry) (s : State) : Host.Outcome State Fault Refusal := .next (hostCommand .airSound e s)

/-- `AIR_COUNTERS` (R144): Returns the MAC-header and tone-map counters of a band. -/
def execAirCounters (e : CmdEntry) (s : State) : Host.Outcome State Fault Refusal := .next (hostCommand .airCounters e s)

/-- `AIR_PROFILE_LOAD_RAW` (R145): Loads an air profile with any sync word and tolerance meeting R107. -/
def execAirProfileLoadRaw (e : CmdEntry) (s : State) : Host.Outcome State Fault Refusal := .next (hostCommand .airProfileLoadRaw e s)

/-- `AIR_TONE_MAP_WRITE` (R148): Writes a tone map for a privileged node, at once or by offer at its next contact. -/
def execAirToneMapWrite (e : CmdEntry) (s : State) : Host.Outcome State Fault Refusal := .next (hostCommand .airToneMapWrite e s)

end Sys2Proof.Machine
end

