-- ==== Sys2Proof/Machine/ExecCrypt.lean ====
section
/-! DEFINITION. The rows of the CRYPT commands: each is taken from its session, checked and answered as chapter 3 says, with the
effect its own `Cmd` gives it (`fnImpl`). -/

namespace Sys2Proof.Machine

/-- `CRYPT_STATUS` (R559): Returns the CRYPT status record. -/
def execCryptStatus (e : CmdEntry) (s : State) : Host.Outcome State Fault Refusal := .next (hostCommand .cryptStatus e s)

/-- `CRYPT_COUNTERS` (R376): Returns the frame-protection counters. -/
def execCryptCounters (e : CmdEntry) (s : State) : Host.Outcome State Fault Refusal := .next (hostCommand .cryptCounters e s)

/-- `CRYPT_ROUTER_EUI_SET` (R353): Sets the router EUI used in nonces. -/
def execCryptRouterEuiSet (e : CmdEntry) (s : State) : Host.Outcome State Fault Refusal := .next (hostCommand .cryptRouterEuiSet e s)

/-- `CRYPT_GEN_ROLL` (R373): Announces a key-generation roll and schedules its switch ASN. -/
def execCryptGenRoll (e : CmdEntry) (s : State) : Host.Outcome State Fault Refusal := .next (hostCommand .cryptGenRoll e s)

/-- `CRYPT_NODE_CHALLENGE` (R378): Places one node under the cold-start challenge. -/
def execCryptNodeChallenge (e : CmdEntry) (s : State) : Host.Outcome State Fault Refusal := .next (hostCommand .cryptNodeChallenge e s)

/-- `CRYPT_RAW_BLOCK` (R367): Runs one or two ECB blocks on a raw-block lane. -/
def execCryptRawBlock (e : CmdEntry) (s : State) : Host.Outcome State Fault Refusal := .next (hostCommand .cryptRawBlock e s)

/-- `CRYPT_CUT_THROUGH_SET` (R360): Enables cut-through per receive ring and sets its minimum length. -/
def execCryptCutThroughSet (e : CmdEntry) (s : State) : Host.Outcome State Fault Refusal := .next (hostCommand .cryptCutThroughSet e s)

/-- `CRYPT_LANE_ASSIGN` (R364): Sets the number of pair lanes. -/
def execCryptLaneAssign (e : CmdEntry) (s : State) : Host.Outcome State Fault Refusal := .next (hostCommand .cryptLaneAssign e s)

/-- `CRYPT_CCM_VECTOR` (R377): Runs CCM* on a test vector and returns output and MIC. -/
def execCryptCcmVector (e : CmdEntry) (s : State) : Host.Outcome State Fault Refusal := .next (hostCommand .cryptCcmVector e s)

end Sys2Proof.Machine
end

