-- ==== Sys2Proof/Machine/ExecKey.lean ====
section
/-! DEFINITION. The rows of the KEY commands: each is taken from its session, checked and answered as chapter 3 says, with the
effect its own `Cmd` gives it (`fnImpl`). -/

namespace Sys2Proof.Machine

/-- `KEY_SLOT_QUERY` (R328): Returns a slot descriptor. -/
def execKeySlotQuery (e : CmdEntry) (s : State) : Host.Outcome State Fault Refusal := .next (hostCommand .keySlotQuery e s)

/-- `KEY_GENERATE` (R339): Generates key material into an empty slot. -/
def execKeyGenerate (e : CmdEntry) (s : State) : Host.Outcome State Fault Refusal := .next (hostCommand .keyGenerate e s)

/-- `KEY_BLOB_LOAD` (R325): Checks and unwraps a blob into an empty slot. -/
def execKeyBlobLoad (e : CmdEntry) (s : State) : Host.Outcome State Fault Refusal := .next (hostCommand .keyBlobLoad e s)

/-- `KEY_BLOB_EXPORT` (R340): Wraps an exportable slot under KW. -/
def execKeyBlobExport (e : CmdEntry) (s : State) : Host.Outcome State Fault Refusal := .next (hostCommand .keyBlobExport e s)

/-- `KEY_REVOKE` (R336): Marks a slot REVOKED and starts its drain and zeroization. -/
def execKeyRevoke (e : CmdEntry) (s : State) : Host.Outcome State Fault Refusal := .next (hostCommand .keyRevoke e s)

/-- `KEY_GEN_MAP` (R333): Binds or clears a key generation in the generation map. -/
def execKeyGenMap (e : CmdEntry) (s : State) : Host.Outcome State Fault Refusal := .next (hostCommand .keyGenMap e s)

/-- `KEY_GEN_QUERY` (R333): Returns the generation-map bindings. -/
def execKeyGenQuery (e : CmdEntry) (s : State) : Host.Outcome State Fault Refusal := .next (hostCommand .keyGenQuery e s)

/-- `KEY_ATTEST` (R343): Signs an attestation statement for a slot with slot 0. -/
def execKeyAttest (e : CmdEntry) (s : State) : Host.Outcome State Fault Refusal := .next (hostCommand .keyAttest e s)

/-- `KEY_IDENTITY_GENERATE` (R342): Draws and blows the identity seed and loads slot 0. -/
def execKeyIdentityGenerate (e : CmdEntry) (s : State) : Host.Outcome State Fault Refusal := .next (hostCommand .keyIdentityGenerate e s)

/-- `KEY_IDENTITY_READ` (R342): Returns the identity public key. -/
def execKeyIdentityRead (e : CmdEntry) (s : State) : Host.Outcome State Fault Refusal := .next (hostCommand .keyIdentityRead e s)

/-- `KEY_LIFECYCLE_ADVANCE` (R321): Blows the next lifecycle state's fuses, zeroizes KEY and cold-starts. -/
def execKeyLifecycleAdvance (e : CmdEntry) (s : State) : Host.Outcome State Fault Refusal := .next (hostCommand .keyLifecycleAdvance e s)

/-- `KEY_TAMPER_STATUS` (R557): Returns the tamper record inline. -/
def execKeyTamperStatus (e : CmdEntry) (s : State) : Host.Outcome State Fault Refusal := .next (hostCommand .keyTamperStatus e s)

/-- `KEY_TAMPER_CONFIG` (R345): Sets lid-switch enable and polarity in PROVISION. -/
def execKeyTamperConfig (e : CmdEntry) (s : State) : Host.Outcome State Fault Refusal := .next (hostCommand .keyTamperConfig e s)

/-- `KEY_DEBUG_CHALLENGE` (R344): Returns a single-use debug nonce. -/
def execKeyDebugChallenge (e : CmdEntry) (s : State) : Host.Outcome State Fault Refusal := .next (hostCommand .keyDebugChallenge e s)

/-- `KEY_DEBUG_UNLOCK` (R344): Verifies the authority signature and opens the debug port. -/
def execKeyDebugUnlock (e : CmdEntry) (s : State) : Host.Outcome State Fault Refusal := .next (hostCommand .keyDebugUnlock e s)

/-- `KEY_COUNTERS` (R350): Returns the key counters. -/
def execKeyCounters (e : CmdEntry) (s : State) : Host.Outcome State Fault Refusal := .next (hostCommand .keyCounters e s)

/-- `KEY_IMPORT_RAW` (R339): Imports plaintext key material into an empty slot. -/
def execKeyImportRaw (e : CmdEntry) (s : State) : Host.Outcome State Fault Refusal := .next (hostCommand .keyImportRaw e s)

/-- `KEY_IMPORT_WRAPPED` (R339): Unwraps key material under a WRAP slot into an empty slot. -/
def execKeyImportWrapped (e : CmdEntry) (s : State) : Host.Outcome State Fault Refusal := .next (hostCommand .keyImportWrapped e s)

/-- `KEY_BLOB_WRAP_OUT` (R340): Wraps an exportable AES slot under a WRAP slot. -/
def execKeyBlobWrapOut (e : CmdEntry) (s : State) : Host.Outcome State Fault Refusal := .next (hostCommand .keyBlobWrapOut e s)

/-- `KEY_KDF_VECTOR` (R332): Runs the node-key KDF on a test key and returns the output. -/
def execKeyKdfVector (e : CmdEntry) (s : State) : Host.Outcome State Fault Refusal := .next (hostCommand .keyKdfVector e s)

/-- `KEY_SIGN` (R349): Signs a digest with a SIGN slot. -/
def execKeySign (e : CmdEntry) (s : State) : Host.Outcome State Fault Refusal := .next (hostCommand .keySign e s)

/-- `KEY_DEBUG_AUTH_SET` (R344): Records the debug authority key hash in PROVISION. -/
def execKeyDebugAuthSet (e : CmdEntry) (s : State) : Host.Outcome State Fault Refusal := .next (hostCommand .keyDebugAuthSet e s)

end Sys2Proof.Machine
end

