-- ==== Sys2Proof/Machine/ExecNode.lean ====
section
/-! DEFINITION. The rows of the NODE commands: each is taken from its session, checked and answered as chapter 3 says, with the
effect its own `Cmd` gives it (`fnImpl`). -/

namespace Sys2Proof.Machine

/-- `NODE_COUNTER_SNAPSHOT` (R100): Returns a byte range of the counter snapshot in QUIESCED. -/
def execNodeCounterSnapshot (e : CmdEntry) (s : State) : Host.Outcome State Fault Refusal := .next (hostCommand .nodeCounterSnapshot e s)

/-- `NODE_COUNTER_RESTORE` (R102): Takes one snapshot piece; on the last piece verifies it and enters RUN. -/
def execNodeCounterRestore (e : CmdEntry) (s : State) : Host.Outcome State Fault Refusal := .next (hostCommand .nodeCounterRestore e s)

/-- `NODE_COLD_CHALLENGE` (R100): Places every node under the cold-start challenge and enters RUN. -/
def execNodeColdChallenge (e : CmdEntry) (s : State) : Host.Outcome State Fault Refusal := .next (hostCommand .nodeColdChallenge e s)

/-- `NODE_ADD` (R291): Inserts a node entry from the host and files it in the calendar. -/
def execNodeAdd (e : CmdEntry) (s : State) : Host.Outcome State Fault Refusal := .next (hostCommand .nodeAdd e s)

/-- `NODE_REMOVE` (R285): Deletes a node entry, optionally flushing its frames. -/
def execNodeRemove (e : CmdEntry) (s : State) : Host.Outcome State Fault Refusal := .next (hostCommand .nodeRemove e s)

/-- `NODE_READ` (R291): Returns node entries by index, address or EUI. -/
def execNodeRead (e : CmdEntry) (s : State) : Host.Outcome State Fault Refusal := .next (hostCommand .nodeRead e s)

/-- `NODE_SET` (R291): Writes rx_ring, atten_db or static under a mask. -/
def execNodeSet (e : CmdEntry) (s : State) : Host.Outcome State Fault Refusal := .next (hostCommand .nodeSet e s)

/-- `NODE_TABLE_LOAD` (R291): Installs a shadow image into an empty table or in COLD_WAIT. -/
def execNodeTableLoad (e : CmdEntry) (s : State) : Host.Outcome State Fault Refusal := .next (hostCommand .nodeTableLoad e s)

/-- `NODE_LEARN_SET` (R279): Sets a port's learning budgets and policy. -/
def execNodeLearnSet (e : CmdEntry) (s : State) : Host.Outcome State Fault Refusal := .next (hostCommand .nodeLearnSet e s)

/-- `NODE_AGE_SET` (R283): Sets the aging period. -/
def execNodeAgeSet (e : CmdEntry) (s : State) : Host.Outcome State Fault Refusal := .next (hostCommand .nodeAgeSet e s)

/-- `NODE_SHADOW_SET` (R287): Enables the host shadow and compare, clearing journal overflow. -/
def execNodeShadowSet (e : CmdEntry) (s : State) : Host.Outcome State Fault Refusal := .next (hostCommand .nodeShadowSet e s)

/-- `NODE_JOURNAL_READ` (R288): Returns journal records after a sequence and acknowledges earlier ones. -/
def execNodeJournalRead (e : CmdEntry) (s : State) : Host.Outcome State Fault Refusal := .next (hostCommand .nodeJournalRead e s)

/-- `NODE_COUNTERS` (R292): Returns the node-table counters. -/
def execNodeCounters (e : CmdEntry) (s : State) : Host.Outcome State Fault Refusal := .next (hostCommand .nodeCounters e s)

/-- `NODE_TABLE_STATUS` (R291): Returns table occupancy, tokens and journal state. -/
def execNodeTableStatus (e : CmdEntry) (s : State) : Host.Outcome State Fault Refusal := .next (hostCommand .nodeTableStatus e s)

/-- `NODE_HASH_SEED` (R291): Sets the bucket hash seed while the table is empty. -/
def execNodeHashSeed (e : CmdEntry) (s : State) : Host.Outcome State Fault Refusal := .next (hostCommand .nodeHashSeed e s)

/-- `NODE_WRITE_RAW` (R291): Writes a whole entry as given and journals it. -/
def execNodeWriteRaw (e : CmdEntry) (s : State) : Host.Outcome State Fault Refusal := .next (hostCommand .nodeWriteRaw e s)

/-- `NODE_SCRUB_SET` (R286): Sets the scrub period. -/
def execNodeScrubSet (e : CmdEntry) (s : State) : Host.Outcome State Fault Refusal := .next (hostCommand .nodeScrubSet e s)

end Sys2Proof.Machine
end

