-- ==== Sys2Proof/Machine/ExecOrbit.lean ====
section
/-! DEFINITION. The rows of the ORBIT commands: each is taken from its session, checked and answered as chapter 3 says, with the
effect its own `Cmd` gives it (`fnImpl`). -/

namespace Sys2Proof.Machine

/-- `ORBIT_START` (R217): Takes an anchor and starts the engine in free-running or follow mode. -/
def execOrbitStart (e : CmdEntry) (s : State) : Host.Outcome State Fault Refusal := .next (hostCommand .orbitStart e s)

/-- `ORBIT_STOP` (R218): Returns the engine to IDLE with every band OFF. -/
def execOrbitStop (e : CmdEntry) (s : State) : Host.Outcome State Fault Refusal := .next (hostCommand .orbitStop e s)

/-- `ORBIT_STATUS` (R264): Returns engine state, ASN, anchor and parent. -/
def execOrbitStatus (e : CmdEntry) (s : State) : Host.Outcome State Fault Refusal := .next (hostCommand .orbitStatus e s)

/-- `ORBIT_FRAME_SET` (R215): Sets slot and slotframe lengths, moving the anchor. -/
def execOrbitFrameSet (e : CmdEntry) (s : State) : Host.Outcome State Fault Refusal := .next (hostCommand .orbitFrameSet e s)

/-- `ORBIT_STAGE_CELLS` (R222): Replaces every cell of a band. -/
def execOrbitStageCells (e : CmdEntry) (s : State) : Host.Outcome State Fault Refusal := .next (hostCommand .orbitStageCells e s)

/-- `ORBIT_HOP_SET` (R219): Sets a band's hopping sequence. -/
def execOrbitHopSet (e : CmdEntry) (s : State) : Host.Outcome State Fault Refusal := .next (hostCommand .orbitHopSet e s)

/-- `ORBIT_PARENT_SET` (R253): Installs the list of time-parent candidates. -/
def execOrbitParentSet (e : CmdEntry) (s : State) : Host.Outcome State Fault Refusal := .next (hostCommand .orbitParentSet e s)

/-- `ORBIT_CLASS_LOAD` (R224): Loads a tag class with default filter settings. -/
def execOrbitClassLoad (e : CmdEntry) (s : State) : Host.Outcome State Fault Refusal := .next (hostCommand .orbitClassLoad e s)

/-- `ORBIT_CLASS_REMOVE` (R265): Removes a tag class no node uses. -/
def execOrbitClassRemove (e : CmdEntry) (s : State) : Host.Outcome State Fault Refusal := .next (hostCommand .orbitClassRemove e s)

/-- `ORBIT_NODE_SCHEDULE` (R232): Sends a SCHEDULE_UPDATE to a node and completes on its acknowledgement. -/
def execOrbitNodeSchedule (e : CmdEntry) (s : State) : Host.Outcome State Fault Refusal := .next (hostCommand .orbitNodeSchedule e s)

/-- `ORBIT_NODE_STATUS` (R264): Returns a node's contact state with current guard and aim. -/
def execOrbitNodeStatus (e : CmdEntry) (s : State) : Host.Outcome State Fault Refusal := .next (hostCommand .orbitNodeStatus e s)

/-- `ORBIT_REPORT_SET` (R246): Sets which rings receive FS_DUPLICATE entries. -/
def execOrbitReportSet (e : CmdEntry) (s : State) : Host.Outcome State Fault Refusal := .next (hostCommand .orbitReportSet e s)

/-- `ORBIT_DWELL_STATUS` (R264): Returns a band's dwell accounts. -/
def execOrbitDwellStatus (e : CmdEntry) (s : State) : Host.Outcome State Fault Refusal := .next (hostCommand .orbitDwellStatus e s)

/-- `ORBIT_COUNTERS` (R263): Returns the Orbit counters. -/
def execOrbitCounters (e : CmdEntry) (s : State) : Host.Outcome State Fault Refusal := .next (hostCommand .orbitCounters e s)

/-- `ORBIT_CLASS_LOAD_RAW` (R224): Loads a tag class with any filter settings. -/
def execOrbitClassLoadRaw (e : CmdEntry) (s : State) : Host.Outcome State Fault Refusal := .next (hostCommand .orbitClassLoadRaw e s)

/-- `ORBIT_PREP_LEAD` (R43): Sets the slot preparation lead. -/
def execOrbitPrepLead (e : CmdEntry) (s : State) : Host.Outcome State Fault Refusal := .next (hostCommand .orbitPrepLead e s)

/-- `ORBIT_TIMING_SET` (R239): Sets minimum slack and the uncertainty threshold. -/
def execOrbitTimingSet (e : CmdEntry) (s : State) : Host.Outcome State Fault Refusal := .next (hostCommand .orbitTimingSet e s)

/-- `ORBIT_DRIFT_SET` (R264): Writes or restarts a node's drift estimate. -/
def execOrbitDriftSet (e : CmdEntry) (s : State) : Host.Outcome State Fault Refusal := .next (hostCommand .orbitDriftSet e s)

end Sys2Proof.Machine
end

