-- ==== Sys2Proof/Machine/ExecPair.lean ====
section
/-! DEFINITION. The rows of the PAIR commands: each is taken from its session, checked and answered as chapter 3 says, with the
effect its own `Cmd` gives it (`fnImpl`). -/

namespace Sys2Proof.Machine

/-- `PAIR_CONFIG` (R461): Makes the unit single or starts pair start-up. -/
def execPairConfig (e : CmdEntry) (s : State) : Host.Outcome State Fault Refusal := .next (hostCommand .pairConfig e s)

/-- `PAIR_STATUS` (R558): Returns the pair record. -/
def execPairStatus (e : CmdEntry) (s : State) : Host.Outcome State Fault Refusal := .next (hostCommand .pairStatus e s)

/-- `PAIR_LOCAL_APPLY` (R461): Executes a unit-local inner command. -/
def execPairLocalApply (e : CmdEntry) (s : State) : Host.Outcome State Fault Refusal := .next (hostCommand .pairLocalApply e s)

/-- `PAIR_RELINQUISH` (R461): Closes the active unit's gate and hands over to the standby. -/
def execPairRelinquish (e : CmdEntry) (s : State) : Host.Outcome State Fault Refusal := .next (hostCommand .pairRelinquish e s)

/-- `PAIR_COUNTERS` (R459): Returns the pair counters. -/
def execPairCounters (e : CmdEntry) (s : State) : Host.Outcome State Fault Refusal := .next (hostCommand .pairCounters e s)

/-- `PAIR_FORCE_SOLO` (R461): Makes an active unit solo, or forces takeover on an isolated unit. -/
def execPairForceSolo (e : CmdEntry) (s : State) : Host.Outcome State Fault Refusal := .next (hostCommand .pairForceSolo e s)

end Sys2Proof.Machine
end

