-- ==== Sys2Proof/Machine/ExecPwr.lean ====
section
/-! DEFINITION. The rows of the PWR commands: each is taken from its session, checked and answered as chapter 3 says, with the
effect its own `Cmd` gives it (`fnImpl`). -/

namespace Sys2Proof.Machine

/-- `PWR_POLICY_SET` (R464): Sets a domain's entry policy. -/
def execPwrPolicySet (e : CmdEntry) (s : State) : Host.Outcome State Fault Refusal := .next (hostCommand .pwrPolicySet e s)

/-- `PWR_DOMAIN_SET` (R467): Requests named domains On, Retention or Off. -/
def execPwrDomainSet (e : CmdEntry) (s : State) : Host.Outcome State Fault Refusal := .next (hostCommand .pwrDomainSet e s)

/-- `PWR_STATUS` (R472): Returns every domain's state, policy and lock. -/
def execPwrStatus (e : CmdEntry) (s : State) : Host.Outcome State Fault Refusal := .next (hostCommand .pwrStatus e s)

/-- `PWR_REF_SET` (R470): Sets the reference settle time. -/
def execPwrRefSet (e : CmdEntry) (s : State) : Host.Outcome State Fault Refusal := .next (hostCommand .pwrRefSet e s)

/-- `PWR_BLOCK_QUERY` (R472): Returns a domain's blocks and their last answers. -/
def execPwrBlockQuery (e : CmdEntry) (s : State) : Host.Outcome State Fault Refusal := .next (hostCommand .pwrBlockQuery e s)

end Sys2Proof.Machine
end

