-- ==== Sys2Proof/Machine/ExecQueue.lean ====
section
/-! DEFINITION. The rows of the QUEUE commands: each is taken from its session, checked and answered as chapter 3 says, with the
effect its own `Cmd` gives it (`fnImpl`). -/

namespace Sys2Proof.Machine

/-- `QUEUE_CONFIG` (R403): Sets a shaping queue's weight and limit. -/
def execQueueConfig (e : CmdEntry) (s : State) : Host.Outcome State Fault Refusal := .next (hostCommand .queueConfig e s)

/-- `QUEUE_FLUSH` (R390): Completes every live frame of the masked queues with FS_FLUSHED. -/
def execQueueFlush (e : CmdEntry) (s : State) : Host.Outcome State Fault Refusal := .next (hostCommand .queueFlush e s)

/-- `QUEUE_STATUS` (R403): Returns a queue's depth, holes, age, weight and gate state. -/
def execQueueStatus (e : CmdEntry) (s : State) : Host.Outcome State Fault Refusal := .next (hostCommand .queueStatus e s)

/-- `QUEUE_OVERHEAD_SET` (R394): Sets a profile's airtime overheads. -/
def execQueueOverheadSet (e : CmdEntry) (s : State) : Host.Outcome State Fault Refusal := .next (hostCommand .queueOverheadSet e s)

/-- `QUEUE_GATE_SET` (R396): Installs a pending gate list with a takeover ASN. -/
def execQueueGateSet (e : CmdEntry) (s : State) : Host.Outcome State Fault Refusal := .next (hostCommand .queueGateSet e s)

/-- `QUEUE_SAMPLE_SET` (R397): Sets the queue sampling period. -/
def execQueueSampleSet (e : CmdEntry) (s : State) : Host.Outcome State Fault Refusal := .next (hostCommand .queueSampleSet e s)

/-- `QUEUE_SAMPLES_READ` (R397): Returns a queue's sample records. -/
def execQueueSamplesRead (e : CmdEntry) (s : State) : Host.Outcome State Fault Refusal := .next (hostCommand .queueSamplesRead e s)

/-- `QUEUE_COUNTERS` (R402): Returns queue and dispatch counters. -/
def execQueueCounters (e : CmdEntry) (s : State) : Host.Outcome State Fault Refusal := .next (hostCommand .queueCounters e s)

/-- `QUEUE_FW_SET` (R387): Sets the firmware frame queue. -/
def execQueueFwSet (e : CmdEntry) (s : State) : Host.Outcome State Fault Refusal := .next (hostCommand .queueFwSet e s)

/-- `QUEUE_ARB_CLASS` (R400): Sets the arbiter class of each requester. -/
def execQueueArbClass (e : CmdEntry) (s : State) : Host.Outcome State Fault Refusal := .next (hostCommand .queueArbClass e s)

/-- `QUEUE_ARB_STARVE` (R400): Sets the starvation threshold. -/
def execQueueArbStarve (e : CmdEntry) (s : State) : Host.Outcome State Fault Refusal := .next (hostCommand .queueArbStarve e s)

/-- `QUEUE_WATCHDOG_SET` (R401): Sets the fabric watchdog time. -/
def execQueueWatchdogSet (e : CmdEntry) (s : State) : Host.Outcome State Fault Refusal := .next (hostCommand .queueWatchdogSet e s)

/-- `QUEUE_ARB_STATUS` (R403): Returns arbiter state per requester and bank. -/
def execQueueArbStatus (e : CmdEntry) (s : State) : Host.Outcome State Fault Refusal := .next (hostCommand .queueArbStatus e s)

/-- `QUEUE_WORK_STATUS` (R403): Returns ready-list and Tail occupancy. -/
def execQueueWorkStatus (e : CmdEntry) (s : State) : Host.Outcome State Fault Refusal := .next (hostCommand .queueWorkStatus e s)

end Sys2Proof.Machine
end

