-- ==== Sys2Proof/Machine/ExecRadio.lean ====
section
/-! DEFINITION. The rows of the RADIO commands: each is taken from its session, checked and answered as chapter 3 says, with the
effect its own `Cmd` gives it (`fnImpl`). -/

namespace Sys2Proof.Machine

/-- `RADIO_WINDOW_SET` (R151): Moves a band's receive window, at once on a disabled band or at an ASN boundary. -/
def execRadioWindowSet (e : CmdEntry) (s : State) : Host.Outcome State Fault Refusal := .next (hostCommand .radioWindowSet e s)

/-- `RADIO_WINDOW_QUERY` (R177): Returns the window centre in force and any pending centre. -/
def execRadioWindowQuery (e : CmdEntry) (s : State) : Host.Outcome State Fault Refusal := .next (hostCommand .radioWindowQuery e s)

/-- `RADIO_RX_COUNTERS` (R176): Returns the per-band receive counters. -/
def execRadioRxCounters (e : CmdEntry) (s : State) : Host.Outcome State Fault Refusal := .next (hostCommand .radioRxCounters e s)

/-- `RADIO_CONTEXT_STATUS` (R156): Returns 16 bytes of state per demodulator context. -/
def execRadioContextStatus (e : CmdEntry) (s : State) : Host.Outcome State Fault Refusal := .next (hostCommand .radioContextStatus e s)

/-- `RADIO_DIAG_RING` (R177): Names a band's diagnostic receive ring. -/
def execRadioDiagRing (e : CmdEntry) (s : State) : Host.Outcome State Fault Refusal := .next (hostCommand .radioDiagRing e s)

/-- `RADIO_SNAPSHOT_ARM` (R172): Allocates free-pool units and arms a spectrum snapshot on a trigger. -/
def execRadioSnapshotArm (e : CmdEntry) (s : State) : Host.Outcome State Fault Refusal := .next (hostCommand .radioSnapshotArm e s)

/-- `RADIO_SNAPSHOT_READ` (R178): Returns a byte range of a snapshot. -/
def execRadioSnapshotRead (e : CmdEntry) (s : State) : Host.Outcome State Fault Refusal := .next (hostCommand .radioSnapshotRead e s)

/-- `RADIO_SNAPSHOT_RELEASE` (R178): Stops any capture and releases a snapshot's units. -/
def execRadioSnapshotRelease (e : CmdEntry) (s : State) : Host.Outcome State Fault Refusal := .next (hostCommand .radioSnapshotRelease e s)

/-- `RADIO_WAKE_CONFIG` (R174): Configures the wake receiver pattern, tolerance, frequency and domain mask. -/
def execRadioWakeConfig (e : CmdEntry) (s : State) : Host.Outcome State Fault Refusal := .next (hostCommand .radioWakeConfig e s)

/-- `RADIO_WAKE_STATUS` (R177): Returns wake receiver state and match count. -/
def execRadioWakeStatus (e : CmdEntry) (s : State) : Host.Outcome State Fault Refusal := .next (hostCommand .radioWakeStatus e s)

/-- `RADIO_SYNC_TUNE` (R158): Sets preamble qualification, sync RSSI minimum and OFDM detect threshold. -/
def execRadioSyncTune (e : CmdEntry) (s : State) : Host.Outcome State Fault Refusal := .next (hostCommand .radioSyncTune e s)

/-- `RADIO_CAPTURE_SET` (R161): Sets capture policy, capture margin and carrier-drop threshold. -/
def execRadioCaptureSet (e : CmdEntry) (s : State) : Host.Outcome State Fault Refusal := .next (hostCommand .radioCaptureSet e s)

/-- `RADIO_AGC_SET` (R152): Sets AGC mode, fixed gain and release time. -/
def execRadioAgcSet (e : CmdEntry) (s : State) : Host.Outcome State Fault Refusal := .next (hostCommand .radioAgcSet e s)

/-- `RADIO_RSSI_CAL` (R167): Sets the RSSI offset and external gain of a band. -/
def execRadioRssiCal (e : CmdEntry) (s : State) : Host.Outcome State Fault Refusal := .next (hostCommand .radioRssiCal e s)

/-- `RADIO_RX_PATH_DELAY` (R168): Sets the receive path delay subtracted from time stamps. -/
def execRadioRxPathDelay (e : CmdEntry) (s : State) : Host.Outcome State Fault Refusal := .next (hostCommand .radioRxPathDelay e s)

/-- `RADIO_CONTEXT_RESERVE` (R178): Reserves standing listener contexts on a channel and profile. -/
def execRadioContextReserve (e : CmdEntry) (s : State) : Host.Outcome State Fault Refusal := .next (hostCommand .radioContextReserve e s)

/-- `RADIO_CONTEXT_RELEASE` (R177): Releases reserved contexts. -/
def execRadioContextRelease (e : CmdEntry) (s : State) : Host.Outcome State Fault Refusal := .next (hostCommand .radioContextRelease e s)

/-- `RADIO_REGION_LOAD` (R201): Loads a region profile record. -/
def execRadioRegionLoad (e : CmdEntry) (s : State) : Host.Outcome State Fault Refusal := .next (hostCommand .radioRegionLoad e s)

/-- `RADIO_REGION_REMOVE` (R201): Removes an unbound region profile. -/
def execRadioRegionRemove (e : CmdEntry) (s : State) : Host.Outcome State Fault Refusal := .next (hostCommand .radioRegionRemove e s)

/-- `RADIO_REGION_BIND` (R201): Binds a region profile to a band. -/
def execRadioRegionBind (e : CmdEntry) (s : State) : Host.Outcome State Fault Refusal := .next (hostCommand .radioRegionBind e s)

/-- `RADIO_REGION_QUERY` (R213): Returns a region profile record. -/
def execRadioRegionQuery (e : CmdEntry) (s : State) : Host.Outcome State Fault Refusal := .next (hostCommand .radioRegionQuery e s)

/-- `RADIO_BAND_ENABLE` (R204): Moves a band through PENDING_ON to ON at a slotframe boundary. -/
def execRadioBandEnable (e : CmdEntry) (s : State) : Host.Outcome State Fault Refusal := .next (hostCommand .radioBandEnable e s)

/-- `RADIO_BAND_DISABLE` (R205): Moves a band to DRAINING at the next slot boundary and then OFF. -/
def execRadioBandDisable (e : CmdEntry) (s : State) : Host.Outcome State Fault Refusal := .next (hostCommand .radioBandDisable e s)

/-- `RADIO_BAND_STATUS` (R203): Returns band state, LO channel and calibration ages. -/
def execRadioBandStatus (e : CmdEntry) (s : State) : Host.Outcome State Fault Refusal := .next (hostCommand .radioBandStatus e s)

/-- `RADIO_TX_POWER_SET` (R180): Sets the band's drive level. -/
def execRadioTxPowerSet (e : CmdEntry) (s : State) : Host.Outcome State Fault Refusal := .next (hostCommand .radioTxPowerSet e s)

/-- `RADIO_TX_COUNTERS` (R210): Returns the per-band transmit counters. -/
def execRadioTxCounters (e : CmdEntry) (s : State) : Host.Outcome State Fault Refusal := .next (hostCommand .radioTxCounters e s)

/-- `RADIO_COEX_CONFIG` (R197): Configures coexistence enable, abort policy, lead and priority mask. -/
def execRadioCoexConfig (e : CmdEntry) (s : State) : Host.Outcome State Fault Refusal := .next (hostCommand .radioCoexConfig e s)

/-- `RADIO_TX_MODE_SET` (R182): Selects saturated or linear transmit mode. -/
def execRadioTxModeSet (e : CmdEntry) (s : State) : Host.Outcome State Fault Refusal := .next (hostCommand .radioTxModeSet e s)

/-- `RADIO_TX_TIMING` (R211): Sets ramp shape and time, PA lead and lag and late bound. -/
def execRadioTxTiming (e : CmdEntry) (s : State) : Host.Outcome State Fault Refusal := .next (hostCommand .radioTxTiming e s)

/-- `RADIO_TX_PATH_DELAY` (R208): Sets the transmit path delay. -/
def execRadioTxPathDelay (e : CmdEntry) (s : State) : Host.Outcome State Fault Refusal := .next (hostCommand .radioTxPathDelay e s)

/-- `RADIO_FE_CONFIG` (R194): Sets front-end line polarity and static LNA bypass. -/
def execRadioFeConfig (e : CmdEntry) (s : State) : Host.Outcome State Fault Refusal := .next (hostCommand .radioFeConfig e s)

/-- `RADIO_TX_AT` (R212): Queues a direct unprotected PSDU launch at a given time. -/
def execRadioTxAt (e : CmdEntry) (s : State) : Host.Outcome State Fault Refusal := .next (hostCommand .radioTxAt e s)

/-- `RADIO_TX_CAL_RUN` (R213): Runs selected background calibrations in gaps. -/
def execRadioTxCalRun (e : CmdEntry) (s : State) : Host.Outcome State Fault Refusal := .next (hostCommand .radioTxCalRun e s)

end Sys2Proof.Machine
end

