-- ==== Sys2Proof/Machine/ExecRoute.lean ====
section
/-! DEFINITION. The rows of the ROUTE and ETH commands: each is taken from its session, checked and answered as chapter 3 says, with the
effect its own `Cmd` gives it (`fnImpl`). -/

namespace Sys2Proof.Machine

/-- `ROUTE_ADD` (R311): Adds a prefix route to the trie. -/
def execRouteAdd (e : CmdEntry) (s : State) : Host.Outcome State Fault Refusal := .next (hostCommand .routeAdd e s)

/-- `ROUTE_REMOVE` (R319): Removes a prefix route. -/
def execRouteRemove (e : CmdEntry) (s : State) : Host.Outcome State Fault Refusal := .next (hostCommand .routeRemove e s)

/-- `ROUTE_LOOKUP` (R310): Returns the trie result for a destination. -/
def execRouteLookup (e : CmdEntry) (s : State) : Host.Outcome State Fault Refusal := .next (hostCommand .routeLookup e s)

/-- `ROUTE_DEFAULT_SET` (R318): Sets the default route action. -/
def execRouteDefaultSet (e : CmdEntry) (s : State) : Host.Outcome State Fault Refusal := .next (hostCommand .routeDefaultSet e s)

/-- `ROUTE_MESH_SET` (R318): Sets mesh prefix, router identifier and forwarding options. -/
def execRouteMeshSet (e : CmdEntry) (s : State) : Host.Outcome State Fault Refusal := .next (hostCommand .routeMeshSet e s)

/-- `ROUTE_CONTEXT_SET` (R304): Sets a 6LoWPAN compression context. -/
def execRouteContextSet (e : CmdEntry) (s : State) : Host.Outcome State Fault Refusal := .next (hostCommand .routeContextSet e s)

/-- `ROUTE_NODE_SET` (R295): Sets a node's role and parent. -/
def execRouteNodeSet (e : CmdEntry) (s : State) : Host.Outcome State Fault Refusal := .next (hostCommand .routeNodeSet e s)

/-- `ROUTE_NODE_QUERY` (R294): Returns a node's route reference, relay slot and path. -/
def execRouteNodeQuery (e : CmdEntry) (s : State) : Host.Outcome State Fault Refusal := .next (hostCommand .routeNodeQuery e s)

/-- `ROUTE_STATUS` (R311): Returns route, unit, relay and broadcast-list figures. -/
def execRouteStatus (e : CmdEntry) (s : State) : Host.Outcome State Fault Refusal := .next (hostCommand .routeStatus e s)

/-- `ROUTE_COUNTERS` (R317): Returns the routing counters. -/
def execRouteCounters (e : CmdEntry) (s : State) : Host.Outcome State Fault Refusal := .next (hostCommand .routeCounters e s)

/-- `ROUTE_LOWPAN_SET` (R303): Selects IPHC or uncompressed transmission. -/
def execRouteLowpanSet (e : CmdEntry) (s : State) : Host.Outcome State Fault Refusal := .next (hostCommand .routeLowpanSet e s)

/-- `ROUTE_TRIE_READ` (R310): Returns raw trie units. -/
def execRouteTrieRead (e : CmdEntry) (s : State) : Host.Outcome State Fault Refusal := .next (hostCommand .routeTrieRead e s)

/-- `ETH_PORT_CONFIG` (R318): Configures an Ethernet port and retrains its link. -/
def execEthPortConfig (e : CmdEntry) (s : State) : Host.Outcome State Fault Refusal := .next (hostCommand .ethPortConfig e s)

/-- `ETH_PORT_STATUS` (R318): Returns port mode, link and FIFO depths. -/
def execEthPortStatus (e : CmdEntry) (s : State) : Host.Outcome State Fault Refusal := .next (hostCommand .ethPortStatus e s)

/-- `ETH_ADDR_SET` (R318): Sets one of a port's IPv6 addresses. -/
def execEthAddrSet (e : CmdEntry) (s : State) : Host.Outcome State Fault Refusal := .next (hostCommand .ethAddrSet e s)

/-- `ETH_NEIGHBOUR_SET` (R314): Sets a neighbour table entry. -/
def execEthNeighbourSet (e : CmdEntry) (s : State) : Host.Outcome State Fault Refusal := .next (hostCommand .ethNeighbourSet e s)

/-- `ETH_HOST_SET` (R305): Sets a port's host ring, queue and lifetime. -/
def execEthHostSet (e : CmdEntry) (s : State) : Host.Outcome State Fault Refusal := .next (hostCommand .ethHostSet e s)

/-- `ETH_COUNTERS` (R317): Returns a port's Ethernet counters. -/
def execEthCounters (e : CmdEntry) (s : State) : Host.Outcome State Fault Refusal := .next (hostCommand .ethCounters e s)

/-- `ETH_MAC_TUNE` (R318): Sets pause and inter-packet gap. -/
def execEthMacTune (e : CmdEntry) (s : State) : Host.Outcome State Fault Refusal := .next (hostCommand .ethMacTune e s)

end Sys2Proof.Machine
end

