-- ==== Sys2Proof/Machine/ExecSys.lean ====
section
/-! DEFINITION. The rows of the SYS commands: each is taken from its session, checked and answered as chapter 3 says, with the
effect its own `Cmd` gives it (`fnImpl`). -/

namespace Sys2Proof.Machine

/-- `SYS_IDENTIFY` (R73): Returns the identity record inline; accepted in every part state. -/
def execSysIdentify (e : CmdEntry) (s : State) : Host.Outcome State Fault Refusal := .next (hostCommand .sysIdentify e s)

/-- `SYS_GET_STATE` (R73): Returns the state record inline; accepted in every part state. -/
def execSysGetState (e : CmdEntry) (s : State) : Host.Outcome State Fault Refusal := .next (hostCommand .sysGetState e s)

/-- `SYS_COUNTERS` (R74): Returns the host-interface counters, optionally clearing them. -/
def execSysCounters (e : CmdEntry) (s : State) : Host.Outcome State Fault Refusal := .next (hostCommand .sysCounters e s)

/-- `SYS_PIN` (R72): Pins one command so that the unprivileged view is refused it. -/
def execSysPin (e : CmdEntry) (s : State) : Host.Outcome State Fault Refusal := .next (hostCommand .sysPin e s)

/-- `SYS_UNPIN` (R72): Removes a pin. -/
def execSysUnpin (e : CmdEntry) (s : State) : Host.Outcome State Fault Refusal := .next (hostCommand .sysUnpin e s)

/-- `SYS_PIN_QUERY` (R73): Returns up to 20 pin words inline. -/
def execSysPinQuery (e : CmdEntry) (s : State) : Host.Outcome State Fault Refusal := .next (hostCommand .sysPinQuery e s)

/-- `SYS_STAGE_OPEN` (R88): Creates a stage owned by the session and locks the functions in its mask. -/
def execSysStageOpen (e : CmdEntry) (s : State) : Host.Outcome State Fault Refusal := .next (hostCommand .sysStageOpen e s)

/-- `SYS_STAGE_CHECK` (R90): Validates all staged commands against a commit point. -/
def execSysStageCheck (e : CmdEntry) (s : State) : Host.Outcome State Fault Refusal := .next (hostCommand .sysStageCheck e s)

/-- `SYS_STAGE_COMMIT` (R91): Seals a checked stage and applies it now or at its point. -/
def execSysStageCommit (e : CmdEntry) (s : State) : Host.Outcome State Fault Refusal := .next (hostCommand .sysStageCommit e s)

/-- `SYS_STAGE_ABORT` (R94): Discards an open stage and releases its locks. -/
def execSysStageAbort (e : CmdEntry) (s : State) : Host.Outcome State Fault Refusal := .next (hostCommand .sysStageAbort e s)

/-- `SYS_STAGE_QUERY` (R554): Returns the stage record inline and renews the lease. -/
def execSysStageQuery (e : CmdEntry) (s : State) : Host.Outcome State Fault Refusal := .next (hostCommand .sysStageQuery e s)

/-- `SYS_FUNCTION_RESET` (R96): Resets one function, failing its in-flight commands and discarding stages that name it. -/
def execSysFunctionReset (e : CmdEntry) (s : State) : Host.Outcome State Fault Refusal := .next (hostCommand .sysFunctionReset e s)

/-- `SYS_QUIESCE` (R100): Stops radio at the next slot boundary, computes the counter snapshot, writes the marker and enters QUIESCED. -/
def execSysQuiesce (e : CmdEntry) (s : State) : Host.Outcome State Fault Refusal := .next (hostCommand .sysQuiesce e s)

/-- `SYS_RESUME` (R100): Erases the snapshot marker and returns to RUN. -/
def execSysResume (e : CmdEntry) (s : State) : Host.Outcome State Fault Refusal := .next (hostCommand .sysResume e s)

end Sys2Proof.Machine
end

