-- ==== Sys2Proof/Machine/ExecTest.lean ====
section
/-! DEFINITION. The rows of the TEST commands: each is taken from its session, checked and answered as chapter 3 says, with the
effect its own `Cmd` gives it (`fnImpl`). -/

namespace Sys2Proof.Machine

/-- `TEST_LINK_START` (R503): Starts a PRBS generator and checker on a link. -/
def execTestLinkStart (e : CmdEntry) (s : State) : Host.Outcome State Fault Refusal := .next (hostCommand .testLinkStart e s)

/-- `TEST_LINK_RESULT` (R504): Returns per-lane checker results. -/
def execTestLinkResult (e : CmdEntry) (s : State) : Host.Outcome State Fault Refusal := .next (hostCommand .testLinkResult e s)

/-- `TEST_RADIO_START` (R505): Starts a radio test on an OFF band. -/
def execTestRadioStart (e : CmdEntry) (s : State) : Host.Outcome State Fault Refusal := .next (hostCommand .testRadioStart e s)

/-- `TEST_RADIO_RESULT` (R506): Returns the radio test counts and stop cause. -/
def execTestRadioResult (e : CmdEntry) (s : State) : Host.Outcome State Fault Refusal := .next (hostCommand .testRadioResult e s)

/-- `TEST_STOP` (R502): Stops tests on the masked resources. -/
def execTestStop (e : CmdEntry) (s : State) : Host.Outcome State Fault Refusal := .next (hostCommand .testStop e s)

/-- `TEST_STATUS` (R519): Returns running tests, reset cause and pace. -/
def execTestStatus (e : CmdEntry) (s : State) : Host.Outcome State Fault Refusal := .next (hostCommand .testStatus e s)

/-- `TEST_TELEMETRY_READ` (R516): Returns telemetry records. -/
def execTestTelemetryRead (e : CmdEntry) (s : State) : Host.Outcome State Fault Refusal := .next (hostCommand .testTelemetryRead e s)

/-- `TEST_TELEMETRY_SET` (R516): Sets the telemetry period. -/
def execTestTelemetrySet (e : CmdEntry) (s : State) : Host.Outcome State Fault Refusal := .next (hostCommand .testTelemetrySet e s)

/-- `TEST_WATCHDOG_SET` (R513): Sets the kernel watchdog period and pace floor. -/
def execTestWatchdogSet (e : CmdEntry) (s : State) : Host.Outcome State Fault Refusal := .next (hostCommand .testWatchdogSet e s)

/-- `TEST_FAULT_INJECT` (R518): Corrupts stored state to inject a fault. -/
def execTestFaultInject (e : CmdEntry) (s : State) : Host.Outcome State Fault Refusal := .next (hostCommand .testFaultInject e s)

end Sys2Proof.Machine
end

