-- ==== Sys2Proof/Machine/ExecTime.lean ====
section
/-! DEFINITION. The rows of the TIME commands: each is taken from its session, checked and answered as chapter 3 says, with the
effect its own `Cmd` gives it (`fnImpl`). -/

namespace Sys2Proof.Machine

/-- `TIME_STATUS` (R430): Returns the time status record. -/
def execTimeStatus (e : CmdEntry) (s : State) : Host.Outcome State Fault Refusal := .next (hostCommand .timeStatus e s)

/-- `TIME_SET` (R411): Writes the Ephemeris time when a step is allowed. -/
def execTimeSet (e : CmdEntry) (s : State) : Host.Outcome State Fault Refusal := .next (hostCommand .timeSet e s)

/-- `TIME_ADJUST` (R411): Adds a signed offset to the time when a step is allowed. -/
def execTimeAdjust (e : CmdEntry) (s : State) : Host.Outcome State Fault Refusal := .next (hostCommand .timeAdjust e s)

/-- `TIME_SOURCE_SET` (R408): Installs the prioritised time source list. -/
def execTimeSourceSet (e : CmdEntry) (s : State) : Host.Outcome State Fault Refusal := .next (hostCommand .timeSourceSet e s)

/-- `TIME_PTP_PORT` (R417): Configures PTP role and parameters of a port. -/
def execTimePtpPort (e : CmdEntry) (s : State) : Host.Outcome State Fault Refusal := .next (hostCommand .timePtpPort e s)

/-- `TIME_PPS_CONFIG` (R424): Sets PPS input and output delays and width. -/
def execTimePpsConfig (e : CmdEntry) (s : State) : Host.Outcome State Fault Refusal := .next (hostCommand .timePpsConfig e s)

/-- `TIME_PIN_CONFIG` (R420): Programs an event pin. -/
def execTimePinConfig (e : CmdEntry) (s : State) : Host.Outcome State Fault Refusal := .next (hostCommand .timePinConfig e s)

/-- `TIME_TRIGGER_CONFIG` (R423): Programs an internal trigger 0 to 13. -/
def execTimeTriggerConfig (e : CmdEntry) (s : State) : Host.Outcome State Fault Refusal := .next (hostCommand .timeTriggerConfig e s)

/-- `TIME_CAPTURE_READ` (R422): Empties a capture pin's FIFO. -/
def execTimeCaptureRead (e : CmdEntry) (s : State) : Host.Outcome State Fault Refusal := .next (hostCommand .timeCaptureRead e s)

/-- `TIME_PARENT_DELAY` (R408): Sets a parent candidate's propagation delay. -/
def execTimeParentDelay (e : CmdEntry) (s : State) : Host.Outcome State Fault Refusal := .next (hostCommand .timeParentDelay e s)

/-- `TIME_COUNTERS` (R429): Returns the time counters. -/
def execTimeCounters (e : CmdEntry) (s : State) : Host.Outcome State Fault Refusal := .next (hostCommand .timeCounters e s)

/-- `TIME_SERVO_SET` (R410): Sets the servo parameters. -/
def execTimeServoSet (e : CmdEntry) (s : State) : Host.Outcome State Fault Refusal := .next (hostCommand .timeServoSet e s)

/-- `TIME_INCREMENT_SET` (R406): Writes the increment directly while the source list is empty. -/
def execTimeIncrementSet (e : CmdEntry) (s : State) : Host.Outcome State Fault Refusal := .next (hostCommand .timeIncrementSet e s)

/-- `TIME_UNC_CLEAR` (R427): Sets unc_free_s and optionally clears the uncertainty latch now. -/
def execTimeUncClear (e : CmdEntry) (s : State) : Host.Outcome State Fault Refusal := .next (hostCommand .timeUncClear e s)

/-- `TIME_RTC_STATUS` (R425): Returns the RTC ratio and window age. -/
def execTimeRtcStatus (e : CmdEntry) (s : State) : Host.Outcome State Fault Refusal := .next (hostCommand .timeRtcStatus e s)

end Sys2Proof.Machine
end

