-- ==== Sys2Proof/Machine/ExecUpdate.lean ====
section
/-! DEFINITION. The rows of the UPDATE and CAMPAIGN commands: each is taken from its session, checked and answered as chapter 3 says, with the
effect its own `Cmd` gives it (`fnImpl`). -/

namespace Sys2Proof.Machine

/-- `UPDATE_BEGIN` (R478): Starts or resumes an image download, erasing as needed. -/
def execUpdateBegin (e : CmdEntry) (s : State) : Host.Outcome State Fault Refusal := .next (hostCommand .updateBegin e s)

/-- `UPDATE_WRITE` (R479): Programs and verifies one image block. -/
def execUpdateWrite (e : CmdEntry) (s : State) : Host.Outcome State Fault Refusal := .next (hostCommand .updateWrite e s)

/-- `UPDATE_VERIFY` (R480): Hashes the body and writes the header on a match. -/
def execUpdateVerify (e : CmdEntry) (s : State) : Host.Outcome State Fault Refusal := .next (hostCommand .updateVerify e s)

/-- `UPDATE_ACTIVATE` (R481): Runs the verified image by hot handover or cold start. -/
def execUpdateActivate (e : CmdEntry) (s : State) : Host.Outcome State Fault Refusal := .next (hostCommand .updateActivate e s)

/-- `UPDATE_CONFIRM` (R485): Blows security fuses and ends probation. -/
def execUpdateConfirm (e : CmdEntry) (s : State) : Host.Outcome State Fault Refusal := .next (hostCommand .updateConfirm e s)

/-- `UPDATE_REVERT` (R484): Hands back to the old image on request. -/
def execUpdateRevert (e : CmdEntry) (s : State) : Host.Outcome State Fault Refusal := .next (hostCommand .updateRevert e s)

/-- `UPDATE_STATUS` (R490): Returns update and probation state with the bitmap. -/
def execUpdateStatus (e : CmdEntry) (s : State) : Host.Outcome State Fault Refusal := .next (hostCommand .updateStatus e s)

/-- `CAMPAIGN_DEFINE` (R500): Defines a node campaign and enters LOADING. -/
def execCampaignDefine (e : CmdEntry) (s : State) : Host.Outcome State Fault Refusal := .next (hostCommand .campaignDefine e s)

/-- `CAMPAIGN_LOAD` (R500): Loads a piece of the node image. -/
def execCampaignLoad (e : CmdEntry) (s : State) : Host.Outcome State Fault Refusal := .next (hostCommand .campaignLoad e s)

/-- `CAMPAIGN_TARGETS` (R500): Sets the campaign targets. -/
def execCampaignTargets (e : CmdEntry) (s : State) : Host.Outcome State Fault Refusal := .next (hostCommand .campaignTargets e s)

/-- `CAMPAIGN_START` (R500): Checks the image hash and starts the rounds. -/
def execCampaignStart (e : CmdEntry) (s : State) : Host.Outcome State Fault Refusal := .next (hostCommand .campaignStart e s)

/-- `CAMPAIGN_ACTIVATE` (R497): Sets the activation ASN and announces it to complete targets. -/
def execCampaignActivate (e : CmdEntry) (s : State) : Host.Outcome State Fault Refusal := .next (hostCommand .campaignActivate e s)

/-- `CAMPAIGN_STOP` (R500): Ends the campaign at once, flushing queued campaign frames. -/
def execCampaignStop (e : CmdEntry) (s : State) : Host.Outcome State Fault Refusal := .next (hostCommand .campaignStop e s)

/-- `CAMPAIGN_STATUS` (R499): Returns campaign progress figures. -/
def execCampaignStatus (e : CmdEntry) (s : State) : Host.Outcome State Fault Refusal := .next (hostCommand .campaignStatus e s)

/-- `CAMPAIGN_TARGET_READ` (R496): Returns target records. -/
def execCampaignTargetRead (e : CmdEntry) (s : State) : Host.Outcome State Fault Refusal := .next (hostCommand .campaignTargetRead e s)

/-- `CAMPAIGN_TUNE` (R495): Sets the unicast repair limit. -/
def execCampaignTune (e : CmdEntry) (s : State) : Host.Outcome State Fault Refusal := .next (hostCommand .campaignTune e s)

end Sys2Proof.Machine
end

