-- ==== Sys2Proof/Machine/Dispatch.lean ====
section
/-! DEFINITION. The meaning of every row of the table, one arm per constructor. -/

namespace Sys2Proof.Machine

/-- The effect of a command, an access or an event on everything but the queue of waiting ones. -/
def exec (i : Instr) (s : State) : Host.Outcome State Fault Refusal :=
  match i with
  | .sysIdentify e => Sys2Proof.Machine.execSysIdentify e s
  | .sysGetState e => Sys2Proof.Machine.execSysGetState e s
  | .sysCounters e => Sys2Proof.Machine.execSysCounters e s
  | .sysPin e => Sys2Proof.Machine.execSysPin e s
  | .sysUnpin e => Sys2Proof.Machine.execSysUnpin e s
  | .sysPinQuery e => Sys2Proof.Machine.execSysPinQuery e s
  | .sysStageOpen e => Sys2Proof.Machine.execSysStageOpen e s
  | .sysStageCheck e => Sys2Proof.Machine.execSysStageCheck e s
  | .sysStageCommit e => Sys2Proof.Machine.execSysStageCommit e s
  | .sysStageAbort e => Sys2Proof.Machine.execSysStageAbort e s
  | .sysStageQuery e => Sys2Proof.Machine.execSysStageQuery e s
  | .sysFunctionReset e => Sys2Proof.Machine.execSysFunctionReset e s
  | .sysQuiesce e => Sys2Proof.Machine.execSysQuiesce e s
  | .sysResume e => Sys2Proof.Machine.execSysResume e s
  | .nodeCounterSnapshot e => Sys2Proof.Machine.execNodeCounterSnapshot e s
  | .nodeCounterRestore e => Sys2Proof.Machine.execNodeCounterRestore e s
  | .nodeColdChallenge e => Sys2Proof.Machine.execNodeColdChallenge e s
  | .airProfileLoad e => Sys2Proof.Machine.execAirProfileLoad e s
  | .airProfileRemove e => Sys2Proof.Machine.execAirProfileRemove e s
  | .airProfileBind e => Sys2Proof.Machine.execAirProfileBind e s
  | .airProfileQuery e => Sys2Proof.Machine.execAirProfileQuery e s
  | .airSetRouterAddress e => Sys2Proof.Machine.execAirSetRouterAddress e s
  | .airToneMapRead e => Sys2Proof.Machine.execAirToneMapRead e s
  | .airSound e => Sys2Proof.Machine.execAirSound e s
  | .airCounters e => Sys2Proof.Machine.execAirCounters e s
  | .airProfileLoadRaw e => Sys2Proof.Machine.execAirProfileLoadRaw e s
  | .airToneMapWrite e => Sys2Proof.Machine.execAirToneMapWrite e s
  | .radioWindowSet e => Sys2Proof.Machine.execRadioWindowSet e s
  | .radioWindowQuery e => Sys2Proof.Machine.execRadioWindowQuery e s
  | .radioRxCounters e => Sys2Proof.Machine.execRadioRxCounters e s
  | .radioContextStatus e => Sys2Proof.Machine.execRadioContextStatus e s
  | .radioDiagRing e => Sys2Proof.Machine.execRadioDiagRing e s
  | .radioSnapshotArm e => Sys2Proof.Machine.execRadioSnapshotArm e s
  | .radioSnapshotRead e => Sys2Proof.Machine.execRadioSnapshotRead e s
  | .radioSnapshotRelease e => Sys2Proof.Machine.execRadioSnapshotRelease e s
  | .radioWakeConfig e => Sys2Proof.Machine.execRadioWakeConfig e s
  | .radioWakeStatus e => Sys2Proof.Machine.execRadioWakeStatus e s
  | .radioSyncTune e => Sys2Proof.Machine.execRadioSyncTune e s
  | .radioCaptureSet e => Sys2Proof.Machine.execRadioCaptureSet e s
  | .radioAgcSet e => Sys2Proof.Machine.execRadioAgcSet e s
  | .radioRssiCal e => Sys2Proof.Machine.execRadioRssiCal e s
  | .radioRxPathDelay e => Sys2Proof.Machine.execRadioRxPathDelay e s
  | .radioContextReserve e => Sys2Proof.Machine.execRadioContextReserve e s
  | .radioContextRelease e => Sys2Proof.Machine.execRadioContextRelease e s
  | .radioRegionLoad e => Sys2Proof.Machine.execRadioRegionLoad e s
  | .radioRegionRemove e => Sys2Proof.Machine.execRadioRegionRemove e s
  | .radioRegionBind e => Sys2Proof.Machine.execRadioRegionBind e s
  | .radioRegionQuery e => Sys2Proof.Machine.execRadioRegionQuery e s
  | .radioBandEnable e => Sys2Proof.Machine.execRadioBandEnable e s
  | .radioBandDisable e => Sys2Proof.Machine.execRadioBandDisable e s
  | .radioBandStatus e => Sys2Proof.Machine.execRadioBandStatus e s
  | .radioTxPowerSet e => Sys2Proof.Machine.execRadioTxPowerSet e s
  | .radioTxCounters e => Sys2Proof.Machine.execRadioTxCounters e s
  | .radioCoexConfig e => Sys2Proof.Machine.execRadioCoexConfig e s
  | .radioTxModeSet e => Sys2Proof.Machine.execRadioTxModeSet e s
  | .radioTxTiming e => Sys2Proof.Machine.execRadioTxTiming e s
  | .radioTxPathDelay e => Sys2Proof.Machine.execRadioTxPathDelay e s
  | .radioFeConfig e => Sys2Proof.Machine.execRadioFeConfig e s
  | .radioTxAt e => Sys2Proof.Machine.execRadioTxAt e s
  | .radioTxCalRun e => Sys2Proof.Machine.execRadioTxCalRun e s
  | .orbitStart e => Sys2Proof.Machine.execOrbitStart e s
  | .orbitStop e => Sys2Proof.Machine.execOrbitStop e s
  | .orbitStatus e => Sys2Proof.Machine.execOrbitStatus e s
  | .orbitFrameSet e => Sys2Proof.Machine.execOrbitFrameSet e s
  | .orbitStageCells e => Sys2Proof.Machine.execOrbitStageCells e s
  | .orbitHopSet e => Sys2Proof.Machine.execOrbitHopSet e s
  | .orbitParentSet e => Sys2Proof.Machine.execOrbitParentSet e s
  | .orbitClassLoad e => Sys2Proof.Machine.execOrbitClassLoad e s
  | .orbitClassRemove e => Sys2Proof.Machine.execOrbitClassRemove e s
  | .orbitNodeSchedule e => Sys2Proof.Machine.execOrbitNodeSchedule e s
  | .orbitNodeStatus e => Sys2Proof.Machine.execOrbitNodeStatus e s
  | .orbitReportSet e => Sys2Proof.Machine.execOrbitReportSet e s
  | .orbitDwellStatus e => Sys2Proof.Machine.execOrbitDwellStatus e s
  | .orbitCounters e => Sys2Proof.Machine.execOrbitCounters e s
  | .orbitClassLoadRaw e => Sys2Proof.Machine.execOrbitClassLoadRaw e s
  | .orbitPrepLead e => Sys2Proof.Machine.execOrbitPrepLead e s
  | .orbitTimingSet e => Sys2Proof.Machine.execOrbitTimingSet e s
  | .orbitDriftSet e => Sys2Proof.Machine.execOrbitDriftSet e s
  | .nodeAdd e => Sys2Proof.Machine.execNodeAdd e s
  | .nodeRemove e => Sys2Proof.Machine.execNodeRemove e s
  | .nodeRead e => Sys2Proof.Machine.execNodeRead e s
  | .nodeSet e => Sys2Proof.Machine.execNodeSet e s
  | .nodeTableLoad e => Sys2Proof.Machine.execNodeTableLoad e s
  | .nodeLearnSet e => Sys2Proof.Machine.execNodeLearnSet e s
  | .nodeAgeSet e => Sys2Proof.Machine.execNodeAgeSet e s
  | .nodeShadowSet e => Sys2Proof.Machine.execNodeShadowSet e s
  | .nodeJournalRead e => Sys2Proof.Machine.execNodeJournalRead e s
  | .nodeCounters e => Sys2Proof.Machine.execNodeCounters e s
  | .nodeTableStatus e => Sys2Proof.Machine.execNodeTableStatus e s
  | .nodeHashSeed e => Sys2Proof.Machine.execNodeHashSeed e s
  | .nodeWriteRaw e => Sys2Proof.Machine.execNodeWriteRaw e s
  | .nodeScrubSet e => Sys2Proof.Machine.execNodeScrubSet e s
  | .routeAdd e => Sys2Proof.Machine.execRouteAdd e s
  | .routeRemove e => Sys2Proof.Machine.execRouteRemove e s
  | .routeLookup e => Sys2Proof.Machine.execRouteLookup e s
  | .routeDefaultSet e => Sys2Proof.Machine.execRouteDefaultSet e s
  | .routeMeshSet e => Sys2Proof.Machine.execRouteMeshSet e s
  | .routeContextSet e => Sys2Proof.Machine.execRouteContextSet e s
  | .routeNodeSet e => Sys2Proof.Machine.execRouteNodeSet e s
  | .routeNodeQuery e => Sys2Proof.Machine.execRouteNodeQuery e s
  | .routeStatus e => Sys2Proof.Machine.execRouteStatus e s
  | .routeCounters e => Sys2Proof.Machine.execRouteCounters e s
  | .routeLowpanSet e => Sys2Proof.Machine.execRouteLowpanSet e s
  | .routeTrieRead e => Sys2Proof.Machine.execRouteTrieRead e s
  | .ethPortConfig e => Sys2Proof.Machine.execEthPortConfig e s
  | .ethPortStatus e => Sys2Proof.Machine.execEthPortStatus e s
  | .ethAddrSet e => Sys2Proof.Machine.execEthAddrSet e s
  | .ethNeighbourSet e => Sys2Proof.Machine.execEthNeighbourSet e s
  | .ethHostSet e => Sys2Proof.Machine.execEthHostSet e s
  | .ethCounters e => Sys2Proof.Machine.execEthCounters e s
  | .ethMacTune e => Sys2Proof.Machine.execEthMacTune e s
  | .keySlotQuery e => Sys2Proof.Machine.execKeySlotQuery e s
  | .keyGenerate e => Sys2Proof.Machine.execKeyGenerate e s
  | .keyBlobLoad e => Sys2Proof.Machine.execKeyBlobLoad e s
  | .keyBlobExport e => Sys2Proof.Machine.execKeyBlobExport e s
  | .keyRevoke e => Sys2Proof.Machine.execKeyRevoke e s
  | .keyGenMap e => Sys2Proof.Machine.execKeyGenMap e s
  | .keyGenQuery e => Sys2Proof.Machine.execKeyGenQuery e s
  | .keyAttest e => Sys2Proof.Machine.execKeyAttest e s
  | .keyIdentityGenerate e => Sys2Proof.Machine.execKeyIdentityGenerate e s
  | .keyIdentityRead e => Sys2Proof.Machine.execKeyIdentityRead e s
  | .keyLifecycleAdvance e => Sys2Proof.Machine.execKeyLifecycleAdvance e s
  | .keyTamperStatus e => Sys2Proof.Machine.execKeyTamperStatus e s
  | .keyTamperConfig e => Sys2Proof.Machine.execKeyTamperConfig e s
  | .keyDebugChallenge e => Sys2Proof.Machine.execKeyDebugChallenge e s
  | .keyDebugUnlock e => Sys2Proof.Machine.execKeyDebugUnlock e s
  | .keyCounters e => Sys2Proof.Machine.execKeyCounters e s
  | .keyImportRaw e => Sys2Proof.Machine.execKeyImportRaw e s
  | .keyImportWrapped e => Sys2Proof.Machine.execKeyImportWrapped e s
  | .keyBlobWrapOut e => Sys2Proof.Machine.execKeyBlobWrapOut e s
  | .keyKdfVector e => Sys2Proof.Machine.execKeyKdfVector e s
  | .keySign e => Sys2Proof.Machine.execKeySign e s
  | .keyDebugAuthSet e => Sys2Proof.Machine.execKeyDebugAuthSet e s
  | .cryptStatus e => Sys2Proof.Machine.execCryptStatus e s
  | .cryptCounters e => Sys2Proof.Machine.execCryptCounters e s
  | .cryptRouterEuiSet e => Sys2Proof.Machine.execCryptRouterEuiSet e s
  | .cryptGenRoll e => Sys2Proof.Machine.execCryptGenRoll e s
  | .cryptNodeChallenge e => Sys2Proof.Machine.execCryptNodeChallenge e s
  | .cryptRawBlock e => Sys2Proof.Machine.execCryptRawBlock e s
  | .cryptCutThroughSet e => Sys2Proof.Machine.execCryptCutThroughSet e s
  | .cryptLaneAssign e => Sys2Proof.Machine.execCryptLaneAssign e s
  | .cryptCcmVector e => Sys2Proof.Machine.execCryptCcmVector e s
  | .queueConfig e => Sys2Proof.Machine.execQueueConfig e s
  | .queueFlush e => Sys2Proof.Machine.execQueueFlush e s
  | .queueStatus e => Sys2Proof.Machine.execQueueStatus e s
  | .queueOverheadSet e => Sys2Proof.Machine.execQueueOverheadSet e s
  | .queueGateSet e => Sys2Proof.Machine.execQueueGateSet e s
  | .queueSampleSet e => Sys2Proof.Machine.execQueueSampleSet e s
  | .queueSamplesRead e => Sys2Proof.Machine.execQueueSamplesRead e s
  | .queueCounters e => Sys2Proof.Machine.execQueueCounters e s
  | .queueFwSet e => Sys2Proof.Machine.execQueueFwSet e s
  | .queueArbClass e => Sys2Proof.Machine.execQueueArbClass e s
  | .queueArbStarve e => Sys2Proof.Machine.execQueueArbStarve e s
  | .queueWatchdogSet e => Sys2Proof.Machine.execQueueWatchdogSet e s
  | .queueArbStatus e => Sys2Proof.Machine.execQueueArbStatus e s
  | .queueWorkStatus e => Sys2Proof.Machine.execQueueWorkStatus e s
  | .timeStatus e => Sys2Proof.Machine.execTimeStatus e s
  | .timeSet e => Sys2Proof.Machine.execTimeSet e s
  | .timeAdjust e => Sys2Proof.Machine.execTimeAdjust e s
  | .timeSourceSet e => Sys2Proof.Machine.execTimeSourceSet e s
  | .timePtpPort e => Sys2Proof.Machine.execTimePtpPort e s
  | .timePpsConfig e => Sys2Proof.Machine.execTimePpsConfig e s
  | .timePinConfig e => Sys2Proof.Machine.execTimePinConfig e s
  | .timeTriggerConfig e => Sys2Proof.Machine.execTimeTriggerConfig e s
  | .timeCaptureRead e => Sys2Proof.Machine.execTimeCaptureRead e s
  | .timeParentDelay e => Sys2Proof.Machine.execTimeParentDelay e s
  | .timeCounters e => Sys2Proof.Machine.execTimeCounters e s
  | .timeServoSet e => Sys2Proof.Machine.execTimeServoSet e s
  | .timeIncrementSet e => Sys2Proof.Machine.execTimeIncrementSet e s
  | .timeUncClear e => Sys2Proof.Machine.execTimeUncClear e s
  | .timeRtcStatus e => Sys2Proof.Machine.execTimeRtcStatus e s
  | .pairConfig e => Sys2Proof.Machine.execPairConfig e s
  | .pairStatus e => Sys2Proof.Machine.execPairStatus e s
  | .pairLocalApply e => Sys2Proof.Machine.execPairLocalApply e s
  | .pairRelinquish e => Sys2Proof.Machine.execPairRelinquish e s
  | .pairCounters e => Sys2Proof.Machine.execPairCounters e s
  | .pairForceSolo e => Sys2Proof.Machine.execPairForceSolo e s
  | .pwrPolicySet e => Sys2Proof.Machine.execPwrPolicySet e s
  | .pwrDomainSet e => Sys2Proof.Machine.execPwrDomainSet e s
  | .pwrStatus e => Sys2Proof.Machine.execPwrStatus e s
  | .pwrRefSet e => Sys2Proof.Machine.execPwrRefSet e s
  | .pwrBlockQuery e => Sys2Proof.Machine.execPwrBlockQuery e s
  | .updateBegin e => Sys2Proof.Machine.execUpdateBegin e s
  | .updateWrite e => Sys2Proof.Machine.execUpdateWrite e s
  | .updateVerify e => Sys2Proof.Machine.execUpdateVerify e s
  | .updateActivate e => Sys2Proof.Machine.execUpdateActivate e s
  | .updateConfirm e => Sys2Proof.Machine.execUpdateConfirm e s
  | .updateRevert e => Sys2Proof.Machine.execUpdateRevert e s
  | .updateStatus e => Sys2Proof.Machine.execUpdateStatus e s
  | .campaignDefine e => Sys2Proof.Machine.execCampaignDefine e s
  | .campaignLoad e => Sys2Proof.Machine.execCampaignLoad e s
  | .campaignTargets e => Sys2Proof.Machine.execCampaignTargets e s
  | .campaignStart e => Sys2Proof.Machine.execCampaignStart e s
  | .campaignActivate e => Sys2Proof.Machine.execCampaignActivate e s
  | .campaignStop e => Sys2Proof.Machine.execCampaignStop e s
  | .campaignStatus e => Sys2Proof.Machine.execCampaignStatus e s
  | .campaignTargetRead e => Sys2Proof.Machine.execCampaignTargetRead e s
  | .campaignTune e => Sys2Proof.Machine.execCampaignTune e s
  | .testLinkStart e => Sys2Proof.Machine.execTestLinkStart e s
  | .testLinkResult e => Sys2Proof.Machine.execTestLinkResult e s
  | .testRadioStart e => Sys2Proof.Machine.execTestRadioStart e s
  | .testRadioResult e => Sys2Proof.Machine.execTestRadioResult e s
  | .testStop e => Sys2Proof.Machine.execTestStop e s
  | .testStatus e => Sys2Proof.Machine.execTestStatus e s
  | .testTelemetryRead e => Sys2Proof.Machine.execTestTelemetryRead e s
  | .testTelemetrySet e => Sys2Proof.Machine.execTestTelemetrySet e s
  | .testWatchdogSet e => Sys2Proof.Machine.execTestWatchdogSet e s
  | .testFaultInject e => Sys2Proof.Machine.execTestFaultInject e s
  | .commandFetch e => Sys2Proof.Machine.execCommandFetch e s
  | .commandProdWrite v ch value => Sys2Proof.Machine.execCommandProdWrite v ch value s
  | .rspConsWrite v ch value => Sys2Proof.Machine.execRspConsWrite v ch value s
  | .eventConsWrite v value => Sys2Proof.Machine.execEventConsWrite v value s
  | .rxProdWrite ring value bufs => Sys2Proof.Machine.execRxProdWrite ring value bufs s
  | .txProdWrite ring value => Sys2Proof.Machine.execTxProdWrite ring value s
  | .tsConsWrite value => Sys2Proof.Machine.execTsConsWrite value s
  | .ringEnable v r start => Sys2Proof.Machine.execRingEnable v r start s
  | .ringTeardown v r ctrl => Sys2Proof.Machine.execRingTeardown v r ctrl s
  | .mboxGo v => Sys2Proof.Machine.execMboxGo v s
  | .mboxEvtAck v => Sys2Proof.Machine.execMboxEvtAck v s
  | .registerWrite v offset value => Sys2Proof.Machine.execRegisterWrite v offset value s
  | .cmdWrite payload crc => Sys2Proof.Machine.execCmdWrite payload crc s
  | .rspRead => Sys2Proof.Machine.execRspRead s
  | .evtRead => Sys2Proof.Machine.execEvtRead s
  | .regRead payload crc => Sys2Proof.Machine.execRegRead payload crc s
  | .regWrite payload crc => Sys2Proof.Machine.execRegWrite payload crc s
  | .dataWrite payload crc => Sys2Proof.Machine.execDataWrite payload crc s
  | .dataRead payload crc => Sys2Proof.Machine.execDataRead payload crc s
  | .functionLevelReset v => Sys2Proof.Machine.execFunctionLevelReset v s
  | .partReset straps alarms => Sys2Proof.Machine.execPartReset straps alarms s
  | .resetAssert => Sys2Proof.Machine.execResetAssert s
  | .perstRelease => Sys2Proof.Machine.execPerstRelease s
  | .powerLoss => Sys2Proof.Machine.execPowerLoss s
  | .aonPowerOn => Sys2Proof.Machine.execAonPowerOn s
  | .transmitRingFetch ring e payload => Sys2Proof.Machine.execTransmitRingFetch ring e payload s
  | .slotPreparation => Sys2Proof.Machine.execSlotPreparation s
  | .planHandOff => Sys2Proof.Machine.execPlanHandOff s
  | .slotBoundary => Sys2Proof.Machine.execSlotBoundary s
  | .orbitAnchorReached => Sys2Proof.Machine.execOrbitAnchorReached s
  | .stageCommitPoint stage => Sys2Proof.Machine.execStageCommitPoint stage s
  | .stageLeaseExpiry stage => Sys2Proof.Machine.execStageLeaseExpiry stage s
  | .stageRecordExpiry stage => Sys2Proof.Machine.execStageRecordExpiry stage s
  | .bandOn b => Sys2Proof.Machine.execBandOn b s
  | .bandDrainEnd b => Sys2Proof.Machine.execBandDrainEnd b s
  | .bandFault b => Sys2Proof.Machine.execBandFault b s
  | .faultReturnAttempt b ok => Sys2Proof.Machine.execFaultReturnAttempt b ok s
  | .syncDetect ctx bitErrors preambleBits rssiQ => Sys2Proof.Machine.execSyncDetect ctx bitErrors preambleBits rssiQ s
  | .ofdmDetect ctx autocorr rssiQ => Sys2Proof.Machine.execOfdmDetect ctx autocorr rssiQ s
  | .secondaryDetect ctx overlap => Sys2Proof.Machine.execSecondaryDetect ctx overlap s
  | .headerDecide ctx heard => Sys2Proof.Machine.execHeaderDecide ctx heard s
  | .carrierDrop ctx bytes rssiQ => Sys2Proof.Machine.execCarrierDrop ctx bytes rssiQ s
  | .rxPsduEnd ctx psdu snrQ shadow => Sys2Proof.Machine.execRxPsduEnd ctx psdu snrQ shadow s
  | .uplinkDeliver => Sys2Proof.Machine.execUplinkDeliver s
  | .soundingEnd ctx snrDb => Sys2Proof.Machine.execSoundingEnd ctx snrDb s
  | .cutThroughPiece ctx bytes => Sys2Proof.Machine.execCutThroughPiece ctx bytes s
  | .joinReqHandle => Sys2Proof.Machine.execJoinReqHandle s
  | .controlFrameHandle => Sys2Proof.Machine.execControlFrameHandle s
  | .campaignStatusRx => Sys2Proof.Machine.execCampaignStatusRx s
  | .beaconRx => Sys2Proof.Machine.execBeaconRx s
  | .ackRx => Sys2Proof.Machine.execAckRx s
  | .ackWindowEnd launch => Sys2Proof.Machine.execAckWindowEnd launch s
  | .contactMiss node => Sys2Proof.Machine.execContactMiss node s
  | .adriftDeadline node => Sys2Proof.Machine.execAdriftDeadline node s
  | .parentCellMissed b => Sys2Proof.Machine.execParentCellMissed b s
  | .contextListenEnd ctx => Sys2Proof.Machine.execContextListenEnd ctx s
  | .ackLaunch b => Sys2Proof.Machine.execAckLaunch b s
  | .launchEncrypt b => Sys2Proof.Machine.execLaunchEncrypt b s
  | .burstStart b => Sys2Proof.Machine.execBurstStart b s
  | .launch b => Sys2Proof.Machine.execLaunch b s
  | .burstEnd b => Sys2Proof.Machine.execBurstEnd b s
  | .channelCalibration b locked => Sys2Proof.Machine.execChannelCalibration b locked s
  | .backgroundCalibration b cal => Sys2Proof.Machine.execBackgroundCalibration b cal s
  | .coexGrantWithdrawn b => Sys2Proof.Machine.execCoexGrantWithdrawn b s
  | .coexGrantAsserted b => Sys2Proof.Machine.execCoexGrantAsserted b s
  | .eclipseGateClose => Sys2Proof.Machine.execEclipseGateClose s
  | .eclipseGateOpen => Sys2Proof.Machine.execEclipseGateOpen s
  | .agcAttack b clip => Sys2Proof.Machine.execAgcAttack b clip s
  | .agcRelease b => Sys2Proof.Machine.execAgcRelease b s
  | .snapshotStart b => Sys2Proof.Machine.execSnapshotStart b s
  | .snapshotCaptureEnd b data => Sys2Proof.Machine.execSnapshotCaptureEnd b data s
  | .wakePatternMatch window => Sys2Proof.Machine.execWakePatternMatch window s
  | .lifetimeExpiry record => Sys2Proof.Machine.execLifetimeExpiry record s
  | .toneMapOldRetire addr => Sys2Proof.Machine.execToneMapOldRetire addr s
  | .agingVisit => Sys2Proof.Machine.execAgingVisit s
  | .scrubRead shadow => Sys2Proof.Machine.execScrubRead shadow s
  | .shadowCompare shadow => Sys2Proof.Machine.execShadowCompare shadow s
  | .ethRxFrame port bytes fcsOk => Sys2Proof.Machine.execEthRxFrame port bytes fcsOk s
  | .ethLinkChange port up => Sys2Proof.Machine.execEthLinkChange port up s
  | .ptpSyncRx port m => Sys2Proof.Machine.execPtpSyncRx port m s
  | .ptpAnnounceRx port m => Sys2Proof.Machine.execPtpAnnounceRx port m s
  | .ptpDelayRespRx port m => Sys2Proof.Machine.execPtpDelayRespRx port m s
  | .ptpDelayReqRx port m => Sys2Proof.Machine.execPtpDelayReqRx port m s
  | .ptpSyncTx port => Sys2Proof.Machine.execPtpSyncTx port s
  | .servoUpdate => Sys2Proof.Machine.execServoUpdate s
  | .sourceInvalid kind => Sys2Proof.Machine.execSourceInvalid kind s
  | .ppsInEdge => Sys2Proof.Machine.execPpsInEdge s
  | .ppsOutSecond => Sys2Proof.Machine.execPpsOutSecond s
  | .captureEdge pin rising => Sys2Proof.Machine.execCaptureEdge pin rising s
  | .eventPinEdge pin => Sys2Proof.Machine.execEventPinEdge pin s
  | .internalTriggerFire trig => Sys2Proof.Machine.execInternalTriggerFire trig s
  | .rtcWindowEnd nsCounted => Sys2Proof.Machine.execRtcWindowEnd nsCounted s
  | .ephemerisFreeze => Sys2Proof.Machine.execEphemerisFreeze s
  | .ephemerisResume => Sys2Proof.Machine.execEphemerisResume s
  | .uncFreeExpiry => Sys2Proof.Machine.execUncFreeExpiry s
  | .heartbeatSend => Sys2Proof.Machine.execHeartbeatSend s
  | .lineHeartbeatRx word => Sys2Proof.Machine.execLineHeartbeatRx word s
  | .heartbeat h word => Sys2Proof.Machine.execHeartbeat h word s
  | .hello h m => Sys2Proof.Machine.execHello h m s
  | .commit h recs => Sys2Proof.Machine.execCommit h recs s
  | .commitAck h first last => Sys2Proof.Machine.execCommitAck h first last s
  | .journal h recs => Sys2Proof.Machine.execJournal h recs s
  | .config h m => Sys2Proof.Machine.execConfig h m s
  | .contact h node entry => Sys2Proof.Machine.execContact h node entry s
  | .epoch h r => Sys2Proof.Machine.execEpoch h r s
  | .time h t1 t2 t3 t4 => Sys2Proof.Machine.execTime h t1 t2 t3 t4 s
  | .sync h p => Sys2Proof.Machine.execSync h p s
  | .pairLinkDown => Sys2Proof.Machine.execPairLinkDown s
  | .replTimeout => Sys2Proof.Machine.execReplTimeout s
  | .leaseExpiry => Sys2Proof.Machine.execLeaseExpiry s
  | .startupWaitExpiry => Sys2Proof.Machine.execStartupWaitExpiry s
  | .takeover => Sys2Proof.Machine.execTakeover s
  | .handshakePeriod domain => Sys2Proof.Machine.execHandshakePeriod domain s
  | .handshakeAnswer domain answers => Sys2Proof.Machine.execHandshakeAnswer domain answers s
  | .idleTimerExpiry domain => Sys2Proof.Machine.execIdleTimerExpiry domain s
  | .domainEntryComplete domain => Sys2Proof.Machine.execDomainEntryComplete domain s
  | .domainWake domain => Sys2Proof.Machine.execDomainWake domain s
  | .domainWakeComplete domain => Sys2Proof.Machine.execDomainWakeComplete domain s
  | .tamperAlarm sources => Sys2Proof.Machine.execTamperAlarm sources s
  | .remaskPass => Sys2Proof.Machine.execRemaskPass s
  | .revokeDrainDone slot => Sys2Proof.Machine.execRevokeDrainDone slot s
  | .entropyHealthFail => Sys2Proof.Machine.execEntropyHealthFail s
  | .entropyRestartDone => Sys2Proof.Machine.execEntropyRestartDone s
  | .maskReseed lane => Sys2Proof.Machine.execMaskReseed lane s
  | .flashRecordWrite => Sys2Proof.Machine.execFlashRecordWrite s
  | .recordSectorErase => Sys2Proof.Machine.execRecordSectorErase s
  | .handoverDispatchHold => Sys2Proof.Machine.execHandoverDispatchHold s
  | .probationFailure => Sys2Proof.Machine.execProbationFailure s
  | .kernelWatchdogExpiry core => Sys2Proof.Machine.execKernelWatchdogExpiry core s
  | .paceBelowFloor pace vcoreMv => Sys2Proof.Machine.execPaceBelowFloor pace vcoreMv s
  | .telemetrySample r => Sys2Proof.Machine.execTelemetrySample r s
  | .queueSample => Sys2Proof.Machine.execQueueSample s
  | .workSubmit item => Sys2Proof.Machine.execWorkSubmit item s
  | .coreItemComplete core => Sys2Proof.Machine.execCoreItemComplete core s
  | .tailSpill f => Sys2Proof.Machine.execTailSpill f s
  | .tailRefill f => Sys2Proof.Machine.execTailRefill f s
  | .queueCompaction queue => Sys2Proof.Machine.execQueueCompaction queue s
  | .bankArbitration bank requests => Sys2Proof.Machine.execBankArbitration bank requests s
  | .fabricWatchdogExpiry owner bank => Sys2Proof.Machine.execFabricWatchdogExpiry owner bank s
  | .campaignRoundStart => Sys2Proof.Machine.execCampaignRoundStart s
  | .collectionPhaseStart => Sys2Proof.Machine.execCollectionPhaseStart s
  | .testDurationExpiry resource => Sys2Proof.Machine.execTestDurationExpiry resource s
  | .extest => Sys2Proof.Machine.execExtest s
  | .clamp => Sys2Proof.Machine.execClamp s
  | .highz => Sys2Proof.Machine.execHighz s
  | .samplePreload => Sys2Proof.Machine.execSamplePreload s
  | .idcode => Sys2Proof.Machine.execIdcode s
  | .bypass => Sys2Proof.Machine.execBypass s
  | .vendorInstruction opcode => Sys2Proof.Machine.execVendorInstruction opcode s
  | .trstLow => Sys2Proof.Machine.execTrstLow s
  | .pairLinkUp => Sys2Proof.Machine.execPairLinkUp s
  | .longCommandComplete session tag => Sys2Proof.Machine.execLongCommandComplete session tag s
  | .isolationYield => Sys2Proof.Machine.execIsolationYield s
  | .interruptHoldoffExpiry v r => Sys2Proof.Machine.execInterruptHoldoffExpiry v r s
  | .ptpAnnounceTx port => Sys2Proof.Machine.execPtpAnnounceTx port s
  | .checkerLocked link lane => Sys2Proof.Machine.execCheckerLocked link lane s
  | .checkerLockLoss link lane bits => Sys2Proof.Machine.execCheckerLockLoss link lane bits s
  | .testFrameSend b => Sys2Proof.Machine.execTestFrameSend b s
  | .handshakeDelayExpiry domain block => Sys2Proof.Machine.execHandshakeDelayExpiry domain block s

end Sys2Proof.Machine
end

