-- ==== Sys2Proof/WellFormed.lean ====
section
/-! DEFINITION. Which terms of `Instr` stand for something the outside world can present: a host command carries the word
of its own row, and indexes lie in the ranges of the manual. -/

namespace Sys2Proof

open Sys2Proof.Machine

/-- A session that exists (R45, R51). -/
def Session.wellFormed : Session → Bool
  | .mbox _ => true
  | .chan .priv n => decide (n < 4)
  | .chan .unpriv n => decide (n < 12)
  | .spi => true

/-- A ring register set that exists in a view (R53, R54). -/
def RingId.wellFormed (v : View) : RingId → Bool
  | .event => true
  | .chan n => match v with | .priv => decide (n < 4) | .unpriv => decide (n < 12)
  | .rx n => v == .unpriv && decide (n < 16)
  | .tx n => v == .unpriv && decide (n < 16)
  | .ts => v == .unpriv

/-- An entry whose command word names this command (R69) and whose session exists. -/
def CmdEntry.wellFormed (c : CmdId) (e : CmdEntry) : Bool := e.word.toNat % 65536 == cmdCode c && e.session.wellFormed

/-- A command, access or event the outside world can present. -/
def Instr.wellFormed : Instr → Bool
  | .sysIdentify e => e.wellFormed .sysIdentify
  | .sysGetState e => e.wellFormed .sysGetState
  | .sysCounters e => e.wellFormed .sysCounters
  | .sysPin e => e.wellFormed .sysPin
  | .sysUnpin e => e.wellFormed .sysUnpin
  | .sysPinQuery e => e.wellFormed .sysPinQuery
  | .sysStageOpen e => e.wellFormed .sysStageOpen
  | .sysStageCheck e => e.wellFormed .sysStageCheck
  | .sysStageCommit e => e.wellFormed .sysStageCommit
  | .sysStageAbort e => e.wellFormed .sysStageAbort
  | .sysStageQuery e => e.wellFormed .sysStageQuery
  | .sysFunctionReset e => e.wellFormed .sysFunctionReset
  | .sysQuiesce e => e.wellFormed .sysQuiesce
  | .sysResume e => e.wellFormed .sysResume
  | .nodeCounterSnapshot e => e.wellFormed .nodeCounterSnapshot
  | .nodeCounterRestore e => e.wellFormed .nodeCounterRestore
  | .nodeColdChallenge e => e.wellFormed .nodeColdChallenge
  | .airProfileLoad e => e.wellFormed .airProfileLoad
  | .airProfileRemove e => e.wellFormed .airProfileRemove
  | .airProfileBind e => e.wellFormed .airProfileBind
  | .airProfileQuery e => e.wellFormed .airProfileQuery
  | .airSetRouterAddress e => e.wellFormed .airSetRouterAddress
  | .airToneMapRead e => e.wellFormed .airToneMapRead
  | .airSound e => e.wellFormed .airSound
  | .airCounters e => e.wellFormed .airCounters
  | .airProfileLoadRaw e => e.wellFormed .airProfileLoadRaw
  | .airToneMapWrite e => e.wellFormed .airToneMapWrite
  | .radioWindowSet e => e.wellFormed .radioWindowSet
  | .radioWindowQuery e => e.wellFormed .radioWindowQuery
  | .radioRxCounters e => e.wellFormed .radioRxCounters
  | .radioContextStatus e => e.wellFormed .radioContextStatus
  | .radioDiagRing e => e.wellFormed .radioDiagRing
  | .radioSnapshotArm e => e.wellFormed .radioSnapshotArm
  | .radioSnapshotRead e => e.wellFormed .radioSnapshotRead
  | .radioSnapshotRelease e => e.wellFormed .radioSnapshotRelease
  | .radioWakeConfig e => e.wellFormed .radioWakeConfig
  | .radioWakeStatus e => e.wellFormed .radioWakeStatus
  | .radioSyncTune e => e.wellFormed .radioSyncTune
  | .radioCaptureSet e => e.wellFormed .radioCaptureSet
  | .radioAgcSet e => e.wellFormed .radioAgcSet
  | .radioRssiCal e => e.wellFormed .radioRssiCal
  | .radioRxPathDelay e => e.wellFormed .radioRxPathDelay
  | .radioContextReserve e => e.wellFormed .radioContextReserve
  | .radioContextRelease e => e.wellFormed .radioContextRelease
  | .radioRegionLoad e => e.wellFormed .radioRegionLoad
  | .radioRegionRemove e => e.wellFormed .radioRegionRemove
  | .radioRegionBind e => e.wellFormed .radioRegionBind
  | .radioRegionQuery e => e.wellFormed .radioRegionQuery
  | .radioBandEnable e => e.wellFormed .radioBandEnable
  | .radioBandDisable e => e.wellFormed .radioBandDisable
  | .radioBandStatus e => e.wellFormed .radioBandStatus
  | .radioTxPowerSet e => e.wellFormed .radioTxPowerSet
  | .radioTxCounters e => e.wellFormed .radioTxCounters
  | .radioCoexConfig e => e.wellFormed .radioCoexConfig
  | .radioTxModeSet e => e.wellFormed .radioTxModeSet
  | .radioTxTiming e => e.wellFormed .radioTxTiming
  | .radioTxPathDelay e => e.wellFormed .radioTxPathDelay
  | .radioFeConfig e => e.wellFormed .radioFeConfig
  | .radioTxAt e => e.wellFormed .radioTxAt
  | .radioTxCalRun e => e.wellFormed .radioTxCalRun
  | .orbitStart e => e.wellFormed .orbitStart
  | .orbitStop e => e.wellFormed .orbitStop
  | .orbitStatus e => e.wellFormed .orbitStatus
  | .orbitFrameSet e => e.wellFormed .orbitFrameSet
  | .orbitStageCells e => e.wellFormed .orbitStageCells
  | .orbitHopSet e => e.wellFormed .orbitHopSet
  | .orbitParentSet e => e.wellFormed .orbitParentSet
  | .orbitClassLoad e => e.wellFormed .orbitClassLoad
  | .orbitClassRemove e => e.wellFormed .orbitClassRemove
  | .orbitNodeSchedule e => e.wellFormed .orbitNodeSchedule
  | .orbitNodeStatus e => e.wellFormed .orbitNodeStatus
  | .orbitReportSet e => e.wellFormed .orbitReportSet
  | .orbitDwellStatus e => e.wellFormed .orbitDwellStatus
  | .orbitCounters e => e.wellFormed .orbitCounters
  | .orbitClassLoadRaw e => e.wellFormed .orbitClassLoadRaw
  | .orbitPrepLead e => e.wellFormed .orbitPrepLead
  | .orbitTimingSet e => e.wellFormed .orbitTimingSet
  | .orbitDriftSet e => e.wellFormed .orbitDriftSet
  | .nodeAdd e => e.wellFormed .nodeAdd
  | .nodeRemove e => e.wellFormed .nodeRemove
  | .nodeRead e => e.wellFormed .nodeRead
  | .nodeSet e => e.wellFormed .nodeSet
  | .nodeTableLoad e => e.wellFormed .nodeTableLoad
  | .nodeLearnSet e => e.wellFormed .nodeLearnSet
  | .nodeAgeSet e => e.wellFormed .nodeAgeSet
  | .nodeShadowSet e => e.wellFormed .nodeShadowSet
  | .nodeJournalRead e => e.wellFormed .nodeJournalRead
  | .nodeCounters e => e.wellFormed .nodeCounters
  | .nodeTableStatus e => e.wellFormed .nodeTableStatus
  | .nodeHashSeed e => e.wellFormed .nodeHashSeed
  | .nodeWriteRaw e => e.wellFormed .nodeWriteRaw
  | .nodeScrubSet e => e.wellFormed .nodeScrubSet
  | .routeAdd e => e.wellFormed .routeAdd
  | .routeRemove e => e.wellFormed .routeRemove
  | .routeLookup e => e.wellFormed .routeLookup
  | .routeDefaultSet e => e.wellFormed .routeDefaultSet
  | .routeMeshSet e => e.wellFormed .routeMeshSet
  | .routeContextSet e => e.wellFormed .routeContextSet
  | .routeNodeSet e => e.wellFormed .routeNodeSet
  | .routeNodeQuery e => e.wellFormed .routeNodeQuery
  | .routeStatus e => e.wellFormed .routeStatus
  | .routeCounters e => e.wellFormed .routeCounters
  | .routeLowpanSet e => e.wellFormed .routeLowpanSet
  | .routeTrieRead e => e.wellFormed .routeTrieRead
  | .ethPortConfig e => e.wellFormed .ethPortConfig
  | .ethPortStatus e => e.wellFormed .ethPortStatus
  | .ethAddrSet e => e.wellFormed .ethAddrSet
  | .ethNeighbourSet e => e.wellFormed .ethNeighbourSet
  | .ethHostSet e => e.wellFormed .ethHostSet
  | .ethCounters e => e.wellFormed .ethCounters
  | .ethMacTune e => e.wellFormed .ethMacTune
  | .keySlotQuery e => e.wellFormed .keySlotQuery
  | .keyGenerate e => e.wellFormed .keyGenerate
  | .keyBlobLoad e => e.wellFormed .keyBlobLoad
  | .keyBlobExport e => e.wellFormed .keyBlobExport
  | .keyRevoke e => e.wellFormed .keyRevoke
  | .keyGenMap e => e.wellFormed .keyGenMap
  | .keyGenQuery e => e.wellFormed .keyGenQuery
  | .keyAttest e => e.wellFormed .keyAttest
  | .keyIdentityGenerate e => e.wellFormed .keyIdentityGenerate
  | .keyIdentityRead e => e.wellFormed .keyIdentityRead
  | .keyLifecycleAdvance e => e.wellFormed .keyLifecycleAdvance
  | .keyTamperStatus e => e.wellFormed .keyTamperStatus
  | .keyTamperConfig e => e.wellFormed .keyTamperConfig
  | .keyDebugChallenge e => e.wellFormed .keyDebugChallenge
  | .keyDebugUnlock e => e.wellFormed .keyDebugUnlock
  | .keyCounters e => e.wellFormed .keyCounters
  | .keyImportRaw e => e.wellFormed .keyImportRaw
  | .keyImportWrapped e => e.wellFormed .keyImportWrapped
  | .keyBlobWrapOut e => e.wellFormed .keyBlobWrapOut
  | .keyKdfVector e => e.wellFormed .keyKdfVector
  | .keySign e => e.wellFormed .keySign
  | .keyDebugAuthSet e => e.wellFormed .keyDebugAuthSet
  | .cryptStatus e => e.wellFormed .cryptStatus
  | .cryptCounters e => e.wellFormed .cryptCounters
  | .cryptRouterEuiSet e => e.wellFormed .cryptRouterEuiSet
  | .cryptGenRoll e => e.wellFormed .cryptGenRoll
  | .cryptNodeChallenge e => e.wellFormed .cryptNodeChallenge
  | .cryptRawBlock e => e.wellFormed .cryptRawBlock
  | .cryptCutThroughSet e => e.wellFormed .cryptCutThroughSet
  | .cryptLaneAssign e => e.wellFormed .cryptLaneAssign
  | .cryptCcmVector e => e.wellFormed .cryptCcmVector
  | .queueConfig e => e.wellFormed .queueConfig
  | .queueFlush e => e.wellFormed .queueFlush
  | .queueStatus e => e.wellFormed .queueStatus
  | .queueOverheadSet e => e.wellFormed .queueOverheadSet
  | .queueGateSet e => e.wellFormed .queueGateSet
  | .queueSampleSet e => e.wellFormed .queueSampleSet
  | .queueSamplesRead e => e.wellFormed .queueSamplesRead
  | .queueCounters e => e.wellFormed .queueCounters
  | .queueFwSet e => e.wellFormed .queueFwSet
  | .queueArbClass e => e.wellFormed .queueArbClass
  | .queueArbStarve e => e.wellFormed .queueArbStarve
  | .queueWatchdogSet e => e.wellFormed .queueWatchdogSet
  | .queueArbStatus e => e.wellFormed .queueArbStatus
  | .queueWorkStatus e => e.wellFormed .queueWorkStatus
  | .timeStatus e => e.wellFormed .timeStatus
  | .timeSet e => e.wellFormed .timeSet
  | .timeAdjust e => e.wellFormed .timeAdjust
  | .timeSourceSet e => e.wellFormed .timeSourceSet
  | .timePtpPort e => e.wellFormed .timePtpPort
  | .timePpsConfig e => e.wellFormed .timePpsConfig
  | .timePinConfig e => e.wellFormed .timePinConfig
  | .timeTriggerConfig e => e.wellFormed .timeTriggerConfig
  | .timeCaptureRead e => e.wellFormed .timeCaptureRead
  | .timeParentDelay e => e.wellFormed .timeParentDelay
  | .timeCounters e => e.wellFormed .timeCounters
  | .timeServoSet e => e.wellFormed .timeServoSet
  | .timeIncrementSet e => e.wellFormed .timeIncrementSet
  | .timeUncClear e => e.wellFormed .timeUncClear
  | .timeRtcStatus e => e.wellFormed .timeRtcStatus
  | .pairConfig e => e.wellFormed .pairConfig
  | .pairStatus e => e.wellFormed .pairStatus
  | .pairLocalApply e => e.wellFormed .pairLocalApply
  | .pairRelinquish e => e.wellFormed .pairRelinquish
  | .pairCounters e => e.wellFormed .pairCounters
  | .pairForceSolo e => e.wellFormed .pairForceSolo
  | .pwrPolicySet e => e.wellFormed .pwrPolicySet
  | .pwrDomainSet e => e.wellFormed .pwrDomainSet
  | .pwrStatus e => e.wellFormed .pwrStatus
  | .pwrRefSet e => e.wellFormed .pwrRefSet
  | .pwrBlockQuery e => e.wellFormed .pwrBlockQuery
  | .updateBegin e => e.wellFormed .updateBegin
  | .updateWrite e => e.wellFormed .updateWrite
  | .updateVerify e => e.wellFormed .updateVerify
  | .updateActivate e => e.wellFormed .updateActivate
  | .updateConfirm e => e.wellFormed .updateConfirm
  | .updateRevert e => e.wellFormed .updateRevert
  | .updateStatus e => e.wellFormed .updateStatus
  | .campaignDefine e => e.wellFormed .campaignDefine
  | .campaignLoad e => e.wellFormed .campaignLoad
  | .campaignTargets e => e.wellFormed .campaignTargets
  | .campaignStart e => e.wellFormed .campaignStart
  | .campaignActivate e => e.wellFormed .campaignActivate
  | .campaignStop e => e.wellFormed .campaignStop
  | .campaignStatus e => e.wellFormed .campaignStatus
  | .campaignTargetRead e => e.wellFormed .campaignTargetRead
  | .campaignTune e => e.wellFormed .campaignTune
  | .testLinkStart e => e.wellFormed .testLinkStart
  | .testLinkResult e => e.wellFormed .testLinkResult
  | .testRadioStart e => e.wellFormed .testRadioStart
  | .testRadioResult e => e.wellFormed .testRadioResult
  | .testStop e => e.wellFormed .testStop
  | .testStatus e => e.wellFormed .testStatus
  | .testTelemetryRead e => e.wellFormed .testTelemetryRead
  | .testTelemetrySet e => e.wellFormed .testTelemetrySet
  | .testWatchdogSet e => e.wellFormed .testWatchdogSet
  | .testFaultInject e => e.wellFormed .testFaultInject
  | .commandFetch e => e.session.wellFormed
  | .commandProdWrite v ch _ => (Session.chan v ch).wellFormed
  | .rspConsWrite v ch _ => (Session.chan v ch).wellFormed
  | .eventConsWrite _ _ => true
  | .rxProdWrite ring _ _ => decide (ring < 16)
  | .txProdWrite ring _ => decide (ring < 16)
  | .tsConsWrite _ => true
  | .ringEnable v r x => r.wellFormed v && bitOf x.ctrl.toNat 31
  | .ringTeardown v r ctrl => r.wellFormed v && !bitOf ctrl.toNat 31
  | .mboxGo _ => true
  | .mboxEvtAck _ => true
  | .registerWrite _ offset _ => decide (offset < 0x10000) && decide (offset % 4 = 0)
  | .cmdWrite _ _ => true
  | .rspRead => true
  | .evtRead => true
  | .regRead _ _ => true
  | .regWrite _ _ => true
  | .dataWrite _ _ => true
  | .dataRead _ _ => true
  | .functionLevelReset _ => true
  | .partReset _ _ => true
  | .resetAssert => true
  | .perstRelease => true
  | .powerLoss => true
  | .aonPowerOn => true
  | .transmitRingFetch ring _ _ => decide (ring < 16)
  | .slotPreparation => true
  | .planHandOff => true
  | .slotBoundary => true
  | .orbitAnchorReached => true
  | .stageCommitPoint _ => true
  | .stageLeaseExpiry _ => true
  | .stageRecordExpiry _ => true
  | .bandOn _ => true
  | .bandDrainEnd _ => true
  | .bandFault _ => true
  | .faultReturnAttempt _ _ => true
  | .syncDetect ctx bitErrors _ _ => decide (ctx < 512) && decide (bitErrors ≤ 32)
  | .ofdmDetect ctx _ _ => decide (ctx < 512)
  | .secondaryDetect ctx _ => decide (ctx < 512)
  | .headerDecide ctx _ => decide (ctx < 512)
  | .carrierDrop ctx _ _ => decide (ctx < 512)
  | .rxPsduEnd ctx _ _ _ => decide (ctx < 512)
  | .uplinkDeliver => true
  | .soundingEnd ctx _ => decide (ctx < 512)
  | .cutThroughPiece ctx _ => decide (ctx < 512)
  | .joinReqHandle => true
  | .controlFrameHandle => true
  | .campaignStatusRx => true
  | .beaconRx => true
  | .ackRx => true
  | .ackWindowEnd _ => true
  | .contactMiss node => decide (node < 262144)
  | .adriftDeadline node => decide (node < 262144)
  | .parentCellMissed _ => true
  | .contextListenEnd ctx => decide (ctx < 512)
  | .ackLaunch _ => true
  | .launchEncrypt _ => true
  | .burstStart _ => true
  | .launch _ => true
  | .burstEnd _ => true
  | .channelCalibration _ _ => true
  | .backgroundCalibration _ _ => true
  | .coexGrantWithdrawn _ => true
  | .coexGrantAsserted _ => true
  | .eclipseGateClose => true
  | .eclipseGateOpen => true
  | .agcAttack _ _ => true
  | .agcRelease _ => true
  | .snapshotStart _ => true
  | .snapshotCaptureEnd _ _ => true
  | .wakePatternMatch _ => true
  | .lifetimeExpiry _ => true
  | .toneMapOldRetire _ => true
  | .agingVisit => true
  | .scrubRead _ => true
  | .shadowCompare _ => true
  | .ethRxFrame port _ _ => decide (port < 2)
  | .ethLinkChange port _ => decide (port < 2)
  | .ptpSyncRx port _ => decide (port < 2)
  | .ptpAnnounceRx port _ => decide (port < 2)
  | .ptpDelayRespRx port _ => decide (port < 2)
  | .ptpDelayReqRx port _ => decide (port < 2)
  | .ptpSyncTx port => decide (port < 2)
  | .servoUpdate => true
  | .sourceInvalid kind => decide (kind < 6)
  | .ppsInEdge => true
  | .ppsOutSecond => true
  | .captureEdge pin _ => decide (pin < 16)
  | .eventPinEdge pin => decide (pin < 16)
  | .internalTriggerFire trig => decide (trig < 14)
  | .rtcWindowEnd _ => true
  | .ephemerisFreeze => true
  | .ephemerisResume => true
  | .uncFreeExpiry => true
  | .heartbeatSend => true
  | .lineHeartbeatRx _ => true
  | .heartbeat _ _ => true
  | .hello _ _ => true
  | .commit _ _ => true
  | .commitAck _ _ _ => true
  | .journal _ _ => true
  | .config _ _ => true
  | .contact _ node _ => decide (node < 262144)
  | .epoch _ _ => true
  | .time _ _ _ _ _ => true
  | .sync _ _ => true
  | .pairLinkDown => true
  | .replTimeout => true
  | .leaseExpiry => true
  | .startupWaitExpiry => true
  | .takeover => true
  | .handshakePeriod domain => decide (domain < 24)
  | .handshakeAnswer domain _ => decide (domain < 24)
  | .idleTimerExpiry domain => decide (domain < 24)
  | .domainEntryComplete domain => decide (domain < 24)
  | .domainWake domain => decide (domain < 24)
  | .domainWakeComplete domain => decide (domain < 24)
  | .tamperAlarm _ => true
  | .remaskPass => true
  | .revokeDrainDone slot => decide (slot < 128)
  | .entropyHealthFail => true
  | .entropyRestartDone => true
  | .maskReseed lane => decide (lane < 16)
  | .flashRecordWrite => true
  | .recordSectorErase => true
  | .handoverDispatchHold => true
  | .probationFailure => true
  | .kernelWatchdogExpiry core => decide (core < 8)
  | .paceBelowFloor _ _ => true
  | .telemetrySample _ => true
  | .queueSample => true
  | .workSubmit _ => true
  | .coreItemComplete core => decide (core < 8)
  | .tailSpill _ => true
  | .tailRefill _ => true
  | .queueCompaction queue => decide (queue < 64)
  | .bankArbitration bank _ => decide (bank < 32)
  | .fabricWatchdogExpiry owner bank => decide (owner < 16) && decide (bank < 32)
  | .campaignRoundStart => true
  | .collectionPhaseStart => true
  | .testDurationExpiry _ => true
  | .extest => true
  | .clamp => true
  | .highz => true
  | .samplePreload => true
  | .idcode => true
  | .bypass => true
  | .vendorInstruction _ => true
  | .trstLow => true
  | .pairLinkUp => true
  | .longCommandComplete s _ => s.wellFormed
  | .isolationYield => true
  | .interruptHoldoffExpiry v r => r.wellFormed v
  | .ptpAnnounceTx port => decide (port < 2)
  | .checkerLocked link lane => decide (link < 5) && decide (lane < 8)
  | .checkerLockLoss link lane _ => decide (link < 5) && decide (lane < 8)
  | .testFrameSend _ => true
  | .handshakeDelayExpiry domain _ => decide (domain < 24)

end Sys2Proof
end

