-- ==== Sys2Proof/Safety.lean ====
section
/-! DEFINITION. The terms claims are stated in: when a host command meets no refusal, the state it reaches its function in, the shapes
of what a command does, and the invariant every step keeps. -/

namespace Sys2Proof

open Sys2Proof.Machine

/-! Host commands. -/

/-- The host command a row is, with its entry. -/
def hostRow (i : Instr) : Option (CmdId × CmdEntry) :=
  match i with
  | .sysIdentify e => some (.sysIdentify, e)
  | .sysGetState e => some (.sysGetState, e)
  | .sysCounters e => some (.sysCounters, e)
  | .sysPin e => some (.sysPin, e)
  | .sysUnpin e => some (.sysUnpin, e)
  | .sysPinQuery e => some (.sysPinQuery, e)
  | .sysStageOpen e => some (.sysStageOpen, e)
  | .sysStageCheck e => some (.sysStageCheck, e)
  | .sysStageCommit e => some (.sysStageCommit, e)
  | .sysStageAbort e => some (.sysStageAbort, e)
  | .sysStageQuery e => some (.sysStageQuery, e)
  | .sysFunctionReset e => some (.sysFunctionReset, e)
  | .sysQuiesce e => some (.sysQuiesce, e)
  | .sysResume e => some (.sysResume, e)
  | .nodeCounterSnapshot e => some (.nodeCounterSnapshot, e)
  | .nodeCounterRestore e => some (.nodeCounterRestore, e)
  | .nodeColdChallenge e => some (.nodeColdChallenge, e)
  | .airProfileLoad e => some (.airProfileLoad, e)
  | .airProfileRemove e => some (.airProfileRemove, e)
  | .airProfileBind e => some (.airProfileBind, e)
  | .airProfileQuery e => some (.airProfileQuery, e)
  | .airSetRouterAddress e => some (.airSetRouterAddress, e)
  | .airToneMapRead e => some (.airToneMapRead, e)
  | .airSound e => some (.airSound, e)
  | .airCounters e => some (.airCounters, e)
  | .airProfileLoadRaw e => some (.airProfileLoadRaw, e)
  | .airToneMapWrite e => some (.airToneMapWrite, e)
  | .radioWindowSet e => some (.radioWindowSet, e)
  | .radioWindowQuery e => some (.radioWindowQuery, e)
  | .radioRxCounters e => some (.radioRxCounters, e)
  | .radioContextStatus e => some (.radioContextStatus, e)
  | .radioDiagRing e => some (.radioDiagRing, e)
  | .radioSnapshotArm e => some (.radioSnapshotArm, e)
  | .radioSnapshotRead e => some (.radioSnapshotRead, e)
  | .radioSnapshotRelease e => some (.radioSnapshotRelease, e)
  | .radioWakeConfig e => some (.radioWakeConfig, e)
  | .radioWakeStatus e => some (.radioWakeStatus, e)
  | .radioSyncTune e => some (.radioSyncTune, e)
  | .radioCaptureSet e => some (.radioCaptureSet, e)
  | .radioAgcSet e => some (.radioAgcSet, e)
  | .radioRssiCal e => some (.radioRssiCal, e)
  | .radioRxPathDelay e => some (.radioRxPathDelay, e)
  | .radioContextReserve e => some (.radioContextReserve, e)
  | .radioContextRelease e => some (.radioContextRelease, e)
  | .radioRegionLoad e => some (.radioRegionLoad, e)
  | .radioRegionRemove e => some (.radioRegionRemove, e)
  | .radioRegionBind e => some (.radioRegionBind, e)
  | .radioRegionQuery e => some (.radioRegionQuery, e)
  | .radioBandEnable e => some (.radioBandEnable, e)
  | .radioBandDisable e => some (.radioBandDisable, e)
  | .radioBandStatus e => some (.radioBandStatus, e)
  | .radioTxPowerSet e => some (.radioTxPowerSet, e)
  | .radioTxCounters e => some (.radioTxCounters, e)
  | .radioCoexConfig e => some (.radioCoexConfig, e)
  | .radioTxModeSet e => some (.radioTxModeSet, e)
  | .radioTxTiming e => some (.radioTxTiming, e)
  | .radioTxPathDelay e => some (.radioTxPathDelay, e)
  | .radioFeConfig e => some (.radioFeConfig, e)
  | .radioTxAt e => some (.radioTxAt, e)
  | .radioTxCalRun e => some (.radioTxCalRun, e)
  | .orbitStart e => some (.orbitStart, e)
  | .orbitStop e => some (.orbitStop, e)
  | .orbitStatus e => some (.orbitStatus, e)
  | .orbitFrameSet e => some (.orbitFrameSet, e)
  | .orbitStageCells e => some (.orbitStageCells, e)
  | .orbitHopSet e => some (.orbitHopSet, e)
  | .orbitParentSet e => some (.orbitParentSet, e)
  | .orbitClassLoad e => some (.orbitClassLoad, e)
  | .orbitClassRemove e => some (.orbitClassRemove, e)
  | .orbitNodeSchedule e => some (.orbitNodeSchedule, e)
  | .orbitNodeStatus e => some (.orbitNodeStatus, e)
  | .orbitReportSet e => some (.orbitReportSet, e)
  | .orbitDwellStatus e => some (.orbitDwellStatus, e)
  | .orbitCounters e => some (.orbitCounters, e)
  | .orbitClassLoadRaw e => some (.orbitClassLoadRaw, e)
  | .orbitPrepLead e => some (.orbitPrepLead, e)
  | .orbitTimingSet e => some (.orbitTimingSet, e)
  | .orbitDriftSet e => some (.orbitDriftSet, e)
  | .nodeAdd e => some (.nodeAdd, e)
  | .nodeRemove e => some (.nodeRemove, e)
  | .nodeRead e => some (.nodeRead, e)
  | .nodeSet e => some (.nodeSet, e)
  | .nodeTableLoad e => some (.nodeTableLoad, e)
  | .nodeLearnSet e => some (.nodeLearnSet, e)
  | .nodeAgeSet e => some (.nodeAgeSet, e)
  | .nodeShadowSet e => some (.nodeShadowSet, e)
  | .nodeJournalRead e => some (.nodeJournalRead, e)
  | .nodeCounters e => some (.nodeCounters, e)
  | .nodeTableStatus e => some (.nodeTableStatus, e)
  | .nodeHashSeed e => some (.nodeHashSeed, e)
  | .nodeWriteRaw e => some (.nodeWriteRaw, e)
  | .nodeScrubSet e => some (.nodeScrubSet, e)
  | .routeAdd e => some (.routeAdd, e)
  | .routeRemove e => some (.routeRemove, e)
  | .routeLookup e => some (.routeLookup, e)
  | .routeDefaultSet e => some (.routeDefaultSet, e)
  | .routeMeshSet e => some (.routeMeshSet, e)
  | .routeContextSet e => some (.routeContextSet, e)
  | .routeNodeSet e => some (.routeNodeSet, e)
  | .routeNodeQuery e => some (.routeNodeQuery, e)
  | .routeStatus e => some (.routeStatus, e)
  | .routeCounters e => some (.routeCounters, e)
  | .routeLowpanSet e => some (.routeLowpanSet, e)
  | .routeTrieRead e => some (.routeTrieRead, e)
  | .ethPortConfig e => some (.ethPortConfig, e)
  | .ethPortStatus e => some (.ethPortStatus, e)
  | .ethAddrSet e => some (.ethAddrSet, e)
  | .ethNeighbourSet e => some (.ethNeighbourSet, e)
  | .ethHostSet e => some (.ethHostSet, e)
  | .ethCounters e => some (.ethCounters, e)
  | .ethMacTune e => some (.ethMacTune, e)
  | .keySlotQuery e => some (.keySlotQuery, e)
  | .keyGenerate e => some (.keyGenerate, e)
  | .keyBlobLoad e => some (.keyBlobLoad, e)
  | .keyBlobExport e => some (.keyBlobExport, e)
  | .keyRevoke e => some (.keyRevoke, e)
  | .keyGenMap e => some (.keyGenMap, e)
  | .keyGenQuery e => some (.keyGenQuery, e)
  | .keyAttest e => some (.keyAttest, e)
  | .keyIdentityGenerate e => some (.keyIdentityGenerate, e)
  | .keyIdentityRead e => some (.keyIdentityRead, e)
  | .keyLifecycleAdvance e => some (.keyLifecycleAdvance, e)
  | .keyTamperStatus e => some (.keyTamperStatus, e)
  | .keyTamperConfig e => some (.keyTamperConfig, e)
  | .keyDebugChallenge e => some (.keyDebugChallenge, e)
  | .keyDebugUnlock e => some (.keyDebugUnlock, e)
  | .keyCounters e => some (.keyCounters, e)
  | .keyImportRaw e => some (.keyImportRaw, e)
  | .keyImportWrapped e => some (.keyImportWrapped, e)
  | .keyBlobWrapOut e => some (.keyBlobWrapOut, e)
  | .keyKdfVector e => some (.keyKdfVector, e)
  | .keySign e => some (.keySign, e)
  | .keyDebugAuthSet e => some (.keyDebugAuthSet, e)
  | .cryptStatus e => some (.cryptStatus, e)
  | .cryptCounters e => some (.cryptCounters, e)
  | .cryptRouterEuiSet e => some (.cryptRouterEuiSet, e)
  | .cryptGenRoll e => some (.cryptGenRoll, e)
  | .cryptNodeChallenge e => some (.cryptNodeChallenge, e)
  | .cryptRawBlock e => some (.cryptRawBlock, e)
  | .cryptCutThroughSet e => some (.cryptCutThroughSet, e)
  | .cryptLaneAssign e => some (.cryptLaneAssign, e)
  | .cryptCcmVector e => some (.cryptCcmVector, e)
  | .queueConfig e => some (.queueConfig, e)
  | .queueFlush e => some (.queueFlush, e)
  | .queueStatus e => some (.queueStatus, e)
  | .queueOverheadSet e => some (.queueOverheadSet, e)
  | .queueGateSet e => some (.queueGateSet, e)
  | .queueSampleSet e => some (.queueSampleSet, e)
  | .queueSamplesRead e => some (.queueSamplesRead, e)
  | .queueCounters e => some (.queueCounters, e)
  | .queueFwSet e => some (.queueFwSet, e)
  | .queueArbClass e => some (.queueArbClass, e)
  | .queueArbStarve e => some (.queueArbStarve, e)
  | .queueWatchdogSet e => some (.queueWatchdogSet, e)
  | .queueArbStatus e => some (.queueArbStatus, e)
  | .queueWorkStatus e => some (.queueWorkStatus, e)
  | .timeStatus e => some (.timeStatus, e)
  | .timeSet e => some (.timeSet, e)
  | .timeAdjust e => some (.timeAdjust, e)
  | .timeSourceSet e => some (.timeSourceSet, e)
  | .timePtpPort e => some (.timePtpPort, e)
  | .timePpsConfig e => some (.timePpsConfig, e)
  | .timePinConfig e => some (.timePinConfig, e)
  | .timeTriggerConfig e => some (.timeTriggerConfig, e)
  | .timeCaptureRead e => some (.timeCaptureRead, e)
  | .timeParentDelay e => some (.timeParentDelay, e)
  | .timeCounters e => some (.timeCounters, e)
  | .timeServoSet e => some (.timeServoSet, e)
  | .timeIncrementSet e => some (.timeIncrementSet, e)
  | .timeUncClear e => some (.timeUncClear, e)
  | .timeRtcStatus e => some (.timeRtcStatus, e)
  | .pairConfig e => some (.pairConfig, e)
  | .pairStatus e => some (.pairStatus, e)
  | .pairLocalApply e => some (.pairLocalApply, e)
  | .pairRelinquish e => some (.pairRelinquish, e)
  | .pairCounters e => some (.pairCounters, e)
  | .pairForceSolo e => some (.pairForceSolo, e)
  | .pwrPolicySet e => some (.pwrPolicySet, e)
  | .pwrDomainSet e => some (.pwrDomainSet, e)
  | .pwrStatus e => some (.pwrStatus, e)
  | .pwrRefSet e => some (.pwrRefSet, e)
  | .pwrBlockQuery e => some (.pwrBlockQuery, e)
  | .updateBegin e => some (.updateBegin, e)
  | .updateWrite e => some (.updateWrite, e)
  | .updateVerify e => some (.updateVerify, e)
  | .updateActivate e => some (.updateActivate, e)
  | .updateConfirm e => some (.updateConfirm, e)
  | .updateRevert e => some (.updateRevert, e)
  | .updateStatus e => some (.updateStatus, e)
  | .campaignDefine e => some (.campaignDefine, e)
  | .campaignLoad e => some (.campaignLoad, e)
  | .campaignTargets e => some (.campaignTargets, e)
  | .campaignStart e => some (.campaignStart, e)
  | .campaignActivate e => some (.campaignActivate, e)
  | .campaignStop e => some (.campaignStop, e)
  | .campaignStatus e => some (.campaignStatus, e)
  | .campaignTargetRead e => some (.campaignTargetRead, e)
  | .campaignTune e => some (.campaignTune, e)
  | .testLinkStart e => some (.testLinkStart, e)
  | .testLinkResult e => some (.testLinkResult, e)
  | .testRadioStart e => some (.testRadioStart, e)
  | .testRadioResult e => some (.testRadioResult, e)
  | .testStop e => some (.testStop, e)
  | .testStatus e => some (.testStatus, e)
  | .testTelemetryRead e => some (.testTelemetryRead, e)
  | .testTelemetrySet e => some (.testTelemetrySet, e)
  | .testWatchdogSet e => some (.testWatchdogSet, e)
  | .testFaultInject e => some (.testFaultInject, e)
  | _ => none

/-- The state in which a host command's function receives it: its session has taken it (R52, R78), the power domains it reaches have
seen the access (R468) and the lease of the stage it names runs anew (R93). -/
def arrived (e : CmdEntry) (s : State) : State := renewNamed (accessDoms (entered e s) (entryDoms e)) e

/-- The part takes the command into service: its word names the row (R69), its session takes it (R48, R52, R78), no earlier command
holds it back (R82, R83), and no domain stalls it (R468). -/
def served (c : CmdId) (e : CmdEntry) (s : State) : Bool :=
  e.word.toNat % 65536 == cmdCode c
    && s.host.fetched.all (fun f => !isEntry s e f) && sessionTakes e s && (e.session != .spi || e.buf == windowBytes s e)
    && mayStart (entered e s) (entered e s).host.fetched e && !stalls (entered e s) e

/-- The checks of steps 1 to 6 of R75 pass, judged with what its stage holds (R89). -/
def admitted (c : CmdId) (e : CmdEntry) (s : State) : Bool :=
  served c e s && (firstRefusal c e (arrived e s) (stageView (arrived e s) e)).isNone

/-- Nothing turns away a host command of this row that carries no stage: the other checks of R75 pass too, and its result fits where
it goes (R52, R62). -/
def ready (c : CmdId) (e : CmdEntry) (s : State) : Bool :=
  admitted c e s && e.stageId == 0
    && ((cmdSpec c).reads || !conflicts (arrived e s) e)
    && (lastRefusal .now c e (arrived e s)).isNone
    && !tooLong e (cmdSpec c) ((fnImpl c).apply .now e (arrived e s)).2

/-- The commands of the stage protocol (R87). -/
def isStageCommand (c : CmdId) : Bool :=
  c == .sysStageOpen || c == .sysStageCheck || c == .sysStageCommit || c == .sysStageAbort || c == .sysStageQuery

/-- A long command at work, as it is noted among those not completed. -/
def atWork (c : CmdId) (e : CmdEntry) (s t : State) : State :=
  { t with host := { t.host with longOps := t.host.longOps ++ [{ e := e, since := s.upNs, ref := (fnImpl c).longRef e s }] } }

/-- The row's command, which nothing turns away, leaves the state `f` gives and answers `r`, in one response. -/
def Answers (c : CmdId) (i : CmdEntry → Instr) (f : CmdEntry → State → State) (r : CmdEntry → State → Reply) : Prop :=
  ∀ e s, ready c e s = true → exec (i e) s = .next (answerFinal (f e (arrived e s)) e (r e (arrived e s)))

/-- The row's command changes the state by `f` and answers `ST_OK`. -/
def Sets (c : CmdId) (i : CmdEntry → Instr) (f : CmdEntry → State → State) : Prop := Answers c i f fun _ _ => okReply

/-- The row's command changes nothing and answers `r`. -/
def Reads (c : CmdId) (i : CmdEntry → Instr) (r : CmdEntry → State → Reply) : Prop := Answers c i (fun _ s => s) r

/-- The row's command, long, changes the state by `f`, gives its interim response `ST_ACCEPTED` and stays at work. -/
def Starts (c : CmdId) (i : CmdEntry → Instr) (f : CmdEntry → State → State) : Prop :=
  ∀ e s, ready c e s = true →
    exec (i e) s = .next (respond (atWork c e (arrived e s) (f e (arrived e s))) e { status := stAccepted } false)

/-- The long command at work that a completion means: its session's (R97 where that is lost), with its tag. -/
def worksAs (x : Session) (tag : W16) (op : LongOp) (c : CmdId) (s : State) : Prop :=
  s.host.longOps.find? (fun o => (o.e.session == x || o.e.session == lostSession x) && entryTag o.e == tag) = some op
    ∧ entryCmd op.e = some c

/-- The state in which the work of a long command ends: it is no longer at work. -/
def ended (op : LongOp) (s : State) : State := { s with host := { s.host with longOps := s.host.longOps.erase op } }

/-- The row's command, at work and ready to end by `p`, leaves the state `f` gives and its final response `r`. -/
def Ends (c : CmdId) (p : LongOp → State → Prop) (f : LongOp → State → State) (r : LongOp → State → Reply) : Prop :=
  ∀ x tag op s, worksAs x tag op c s → p op s →
    exec (.longCommandComplete x tag) s = .next (answerFinal (f op (ended op s)) op.e (r op (ended op s)))

/-! The invariant. -/

/-- Both addressed memories, the flash and the SPI data window, are in canonical form. -/
def memoryOk (s : State) : Bool := Memory.wf 0xFF s.fw.flash && Memory.wf 0 s.host.spi.window

/-- Every command that waits is one the outside world can present. -/
def queueOk (s : State) : Bool := s.pending.all (·.wellFormed)

/-- The invariant of the part. -/
def invariant (s : State) : Bool := memoryOk s && queueOk s

end Sys2Proof
end

