-- ==== Sys2Proof/Certificates/Slice0/Obligations.lean ====
section
/-! DEFINITION. Statements about the part, for the provers. -/

open Sys2Proof Sys2Proof.Machine

/-! The block: its queue, its steps, its invariant. -/

/-- A step takes the command at the front of the queue and runs it on the state with the queue's rest. -/
def Obligations.StepRunsFront : Prop :=
  ∀ i rest s, s.pending = i :: rest → step s = exec i { s with pending := rest }

/-- On an empty queue a step is one reference tick: 2 ns pass, and while the reference runs and RESET_N is high the 96-bit time adds
the increment (R405); nothing else changes. That a step on an empty queue is a tick is the model's choice (log 1). -/
def Obligations.StepTicksWhenIdle : Prop :=
  ∀ s, s.pending = [] → ∃ t, step s = .next t
    ∧ t = { s with upNs := s.upNs + 2, clk := { s.clk with timeNs := t.clk.timeNs, timeFrac := t.clk.timeFrac } }
    ∧ (s.clk.frozen = none → s.resetHigh = true →
        t.clk.timeNs ++ t.clk.timeFrac = (s.clk.timeNs ++ s.clk.timeFrac) + s.clk.increment.setWidth 96)
    ∧ (s.clk.frozen ≠ none ∨ s.resetHigh = false → t.clk.timeNs = s.clk.timeNs ∧ t.clk.timeFrac = s.clk.timeFrac)

/-- No command, access or event touches the queue: what waited behind it still waits, in its order. -/
def Obligations.ExecKeepsQueue : Prop := ∀ i s t, exec i s = .next t → t.pending = s.pending

/-- Every row has a next state in every state, but for a vendor instruction that is available, to which the manual gives no effect
(R510): that one stops. -/
def Obligations.OnlyVendorStops : Prop :=
  (∀ i s, (∀ b, i = .vendorInstruction b → vendorAvailable s b = false) → ∃ t, exec i s = .next t)
  ∧ ∀ b s, vendorAvailable s b = true → exec (.vendorInstruction b) s = .fault .vendorInstruction

/-- The invariant holds right after reset. -/
def Obligations.ResetHasInvariant : Prop := invariant State.reset = true

/-- Every step keeps the invariant: the flash and the SPI data window stay in canonical form, and what waits stays well formed. -/
def Obligations.StepKeepsInvariant : Prop := ∀ s t, invariant s = true → step s = .next t → invariant t = true

/-- Values the manual states for the part right after reset: it boots, undecided of a pair (R55); its gate is closed (R443); events are
enabled as EV_ENABLE's reset values have it in either view (R53, R54); no ring is enabled (R59); the servo has its default figures
(R409 to R414); every domain is On with policy 0 (R471). Nothing waits: the queue is the model's own. -/
def Obligations.ResetValues : Prop :=
  State.reset.part = .boot ∧ State.reset.role = .undecided ∧ State.reset.pair.gateOpen = false
  ∧ State.reset.host.priv.evEnable = 0x0003FFFF ∧ State.reset.host.unpriv.evEnable = 0x000266F8
  ∧ State.reset.host.rx.all (fun r => !ringOn r.regs) = true ∧ State.reset.host.tx.all (fun r => !ringOn r.regs) = true
  ∧ (State.reset.host.priv.chans ++ State.reset.host.unpriv.chans).all (fun c => !ringOn c.regs) = true
  ∧ ringOn State.reset.host.ts.regs = false
  ∧ State.reset.clk.cfg = { kp := 0x8000, ki := 0x2000, clampPpb := 10000, dadjMaxPpb := 100, servoMs := 125, stepThrNs := 100000
                            lockNs := 1000, holdoverPpb := 500, outlierNs := 10000 }
  ∧ (∀ d, d < 24 → (domOf State.reset d).state = .on ∧ (domOf State.reset d).policy = 0) ∧ State.reset.pending = []

/-! Commands in service (R75). -/

/-- The rows of host commands are served by one routine, under their own command. -/
def Obligations.HostRowsServed : Prop :=
  ∀ i c e s, hostRow i = some (c, e) → exec i s = .next (hostCommand c e s)

/-- Steps 2 to 6 of R75 in their order: a command in service that one of them fails is answered with that one's status, and nothing
changes but what its arrival brings: the view or a pin, the lengths, the other argument checks, TAMPERED (R517), a standby. -/
def Obligations.RefusalsInOrder : Prop :=
  ∀ i c e s, hostRow i = some (c, e) → served c e s = true →
    let x := cmdSpec c
    let a := arrived e s
    let v := stageView a e
    let bad := !bufAddrOk e || !reservedOk e x || !stageArgs c e || !(fnImpl c).args e v
    (viewRefuses a e x = true → exec i s = .next (respond a e (refuse stRefusedView) true))
    ∧ (viewRefuses a e x = false → lengthsOk e x.buf = false → exec i s = .next (respond a e (refuse stBadLength) true))
    ∧ (viewRefuses a e x = false → lengthsOk e x.buf = true → bad = true → exec i s = .next (respond a e (refuse stBadArg) true))
    ∧ (viewRefuses a e x = false → lengthsOk e x.buf = true → bad = false → tamperStops a = true → tamperExempt e c = false →
        exec i s = .next (respond a e (refuse stTampered) true))
    ∧ (viewRefuses a e x = false → lengthsOk e x.buf = true → bad = false → (tamperStops a = false ∨ tamperExempt e c = true) →
        a.role = .standby → x.reads = false → standbyTakes x.fn = false →
        exec i s = .next (respond a e (refuse stNotActive) true))

/-- A command marked privileged-only is refused from the unprivileged view (R71). -/
def Obligations.PrivilegedOnly : Prop :=
  ∀ i c e s, hostRow i = some (c, e) → served c e s = true → (cmdSpec c).privOnly = true → sessionView e.session = .unpriv →
    exec i s = .next (respond (arrived e s) e (refuse stRefusedView) true)

/-- Steps 8 to 10 of R75 for a command outside a stage: a conflict with a live stage (R85), then the state and the outcomes of its
function. -/
def Obligations.LateRefusals : Prop :=
  ∀ i c e s, hostRow i = some (c, e) → admitted c e s = true → e.stageId = 0 → isStageCommand c = false → c ≠ .pairLocalApply →
    let a := arrived e s
    ((cmdSpec c).reads = false → conflicts a e = true → exec i s = .next (respond a e (refuse stConflict) true))
    ∧ (∀ r, ((cmdSpec c).reads = true ∨ conflicts a e = false) → lastRefusal .now c e a = some r →
        exec i s = .next (respond a e r true))

/-- A response writes the host interface, counts an open value it draws, and of a pair what waits for the standby and the uses left
of the link's key: everything outside these is as before. A command's arrival, with no lowering of a domain at work, changes its session's
registers and the domains' idle times; no domain that is On leaves that state, and everything else is as before. -/
def Obligations.CommandFrames : Prop :=
  ((∀ s e r final, respond s e r final = { s with host := (respond s e r final).host, free := (respond s e r final).free })
  ∧ ∀ s e r, answerFinal s e r
      = { s with
          host := (answerFinal s e r).host, free := (answerFinal s e r).free, pair := (answerFinal s e r).pair
          key := (answerFinal s e r).key })
  ∧ (∀ e s, s.pwr.commands = [] →
    arrived e s = { s with host := { (entered e s).host with stages := (arrived e s).host.stages }, pwr := (arrived e s).pwr }
    ∧ (arrived e s).pwr.commands = [] ∧ (∀ d, (domOf s d).state = .on → (domOf (arrived e s) d).state = .on)
    ∧ (e.stageId = 0 → (arrived e s).host.stages = s.host.stages)
    ∧ (arrived e s).host.stages.map (fun st => { st with leaseEnd := 0 }) = s.host.stages.map (fun st => { st with leaseEnd := 0 })
    ∧ ∀ st, e.stageId ≠ 0 → (s.host.stages.find? fun st => st.id == e.stageId.toNat && decide (st.checkState ≤ 2)) = some st →
        ∀ x ∈ (arrived e s).host.stages, x.id = st.id → x.leaseEnd = s.upNs + x.leaseMs * 1000000)

/-! Stages (R85 to R95, R554). -/

/-- SYS_STAGE_OPEN (R88): functions that no live stage holds are locked under a fresh identifier, above every one given while a stage
lives, with the lease asked for; a function that is held is refused `ST_LOCKED`, a part state that refuses it answers
`ST_REFUSED_STATE`, and a fifth stage `ST_NO_ROOM`. That identifiers past 65,535 are no room is the model's choice (log 67). -/
def Obligations.StageOpens : Prop :=
  ∀ e s, admitted .sysStageOpen e s = true → e.stageId = 0 →
    let a := arrived e s
    let mask : W16 := BitVec.ofNat 16 (argBits e 15 0)
    let held := (liveStages a).any fun st => (st.mask &&& mask) != 0
    let lease := if argBits e 31 16 = 0 then 5000 else argBits e 31 16
    let last := if (liveStages a).isEmpty then 0 else a.host.lastStage
    let fresh (n : Nat) : Prop := last < n ∧ n ≤ 65535 ∧ ∀ st ∈ a.host.stages, st.id ≠ n
    (held = true → exec (.sysStageOpen e) s = .next (respond a e (refuse stLocked) true))
    ∧ (held = false → partRefuses a e .sysStageOpen = true → exec (.sysStageOpen e) s = .next (respond a e (refuse stRefusedState) true))
    ∧ (held = false → partRefuses a e .sysStageOpen = false → 4 ≤ (liveStages a).length →
        exec (.sysStageOpen e) s = .next (respond a e (refuse stNoRoom) true))
    ∧ (held = false → partRefuses a e .sysStageOpen = false → (∀ n, ¬fresh n) →
        exec (.sysStageOpen e) s = .next (respond a e (refuse stNoRoom) true))
    ∧ (held = false → partRefuses a e .sysStageOpen = false → (liveStages a).length < 4 → (∃ n, fresh n) →
        ∃ n, fresh n
          ∧ exec (.sysStageOpen e) s = .next (respond
              { a with host := { a.host with
                lastStage := n
                stages := a.host.stages ++
                  [{ id := n, mask := mask, owner := some e.session, cmds := [], argBytes := 0, checkState := 0, mode := 0, point := 0
                     leaseMs := lease, leaseEnd := a.upNs + lease * 1000000, firstFail := 0xFFFFFFFF, appliedNs := 0
                     commit := none }] } }
              e { status := stOk, stageId := some n } true))

/-- SYS_STAGE_CHECK, SYS_STAGE_COMMIT and SYS_STAGE_ABORT on an open stage of their session (R90, R91, R93, R94): a check notes what it
finds, a commit of mode 0 applies the stage at once, one of another mode seals it, an abort discards it.
SYS_STAGE_QUERY (R554) answers the 40-byte record of a stage. -/
def Obligations.StageCommands : Prop :=
  ((∀ e s st, admitted .sysStageCheck e s = true → partRefuses (arrived e s) e .sysStageCheck = false →
    openStage (arrived e s) e = some st →
    let mode := argBits e 1 0
    let point := if mode = 0 then 0 else argBits e 127 64
    let t := modStage (arrived e s) st.id fun x => { x with mode := mode, point := point }
    pointAhead t mode point (leadNs t + 2000000) = true →
    (stageFailure t st.cmds mode point = none → exec (.sysStageCheck e) s = .next (respond
      (modStage t st.id fun x => { x with checkState := 1, firstFail := 0xFFFFFFFF }) e { status := stOk, detail := 0xFFFFFFFF } true))
    ∧ (∀ f, stageFailure t st.cmds mode point = some f → exec (.sysStageCheck e) s = .next (respond
        (modStage t st.id fun x => { x with checkState := 2, firstFail := BitVec.ofNat 32 f.1 }) e { f.2 with detail := f.1 } true)))
  ∧ (∀ e s st, admitted .sysStageCommit e s = true → partRefuses (arrived e s) e .sysStageCommit = false →
      openStage (arrived e s) e = some st → st.checkState = 1 → st.mode = 0 →
      stageFailure (arrived e s) st.cmds 0 0 = none →
      exec (.sysStageCommit e) s = .next (answerSealed
        (dropStage (commitEffects (arrived e s) st.cmds 0 0) st.id) e st (appliedReply (arrived e s) 0 0) true))
  ∧ (∀ e s st, admitted .sysStageCommit e s = true → partRefuses (arrived e s) e .sysStageCommit = false →
      openStage (arrived e s) e = some st → st.checkState = 1 → st.mode ≠ 0 →
      pointAhead (arrived e s) st.mode st.point 2000000 = true →
      let a := arrived e s
      let t := modStage a st.id fun x => { x with checkState := 3, commit := some e, leaseEnd := recordEnd a st.mode st.point }
      exec (.sysStageCommit e) s = .next (answerSealed
        { t with host := { t.host with longOps := t.host.longOps ++ [{ e := e, since := t.upNs, ref := st.id }] } } e st
        { status := stAccepted } false))
  ∧ (∀ e s st, admitted .sysStageAbort e s = true → partRefuses (arrived e s) e .sysStageAbort = false →
      openStage (arrived e s) e = some st →
      exec (.sysStageAbort e) s = .next (respond (discardStage (arrived e s) st) e okReply true)))
  ∧ ((∀ e s st, admitted .sysStageQuery e s = true → partRefuses (arrived e s) e .sysStageQuery = false →
    queryStage (arrived e s) e = some st →
    exec (.sysStageQuery e) s = .next (respond (arrived e s) e (okData (stageRecord (arrived e s) st)) true))
  ∧ ∀ s st, (stageRecord s st).length = 40)

/-- A command that carries the identifier of its session's open stage is recorded, not applied (R89): the stage holds it at its end
and counts as not checked, and no setting changes. -/
def Obligations.CommandIsStaged : Prop :=
  ∀ i c e s st, hostRow i = some (c, e) → admitted c e s = true → e.stageId ≠ 0 → isStageCommand c = false →
    openStage (arrived e s) e = some st → bitOf st.mask.toNat ((cmdSpec c).fn - 1) = true → unstageable (cmdSpec c).fn = false →
    (cmdSpec c).reads = false → (cmdSpec c).stageable = true → st.cmds.length < 4096 →
    st.argBytes + argSize e (cmdSpec c).buf ≤ 1048576 → lastRefusal .record c e (stageView (arrived e s) e) = none →
    exec i s = .next (respond
      (modStage (arrived e s) st.id fun y =>
        { y with cmds := y.cmds ++ [e], argBytes := y.argBytes + argSize e (cmdSpec c).buf, checkState := 0 }) e okReply true)

/-- A sealed stage at its point (R91, R92): one step applies every command it holds and answers the commit, or, where the repeated check
fails, discards it. An open stage ends with its lease (R94), a sealed one's record 60 s after its point (R554). -/
def Obligations.StagePoints : Prop :=
  (∀ id s st t, (s.host.stages.find? fun st => st.id == id && st.checkState == 3) = some st → firmwareRuns s = true →
    commitNs s st.mode st.point = some t → t ≤ (nowNs s : Int) →
    let op := s.host.longOps.find? fun o => some o.e == st.commit
    let u := { s with host := { s.host with longOps := s.host.longOps.filter fun o => !(some o.e == st.commit) } }
    let answer (v : State) (r : Reply) : State := match op with | some o => respond v o.e r true | none => v
    (stageFailure u st.cmds st.mode st.point = none → exec (.stageCommitPoint id) s = .next (answer
      (modStage (commitEffects u st.cmds st.mode st.point) id fun x =>
        { x with checkState := 4, appliedNs := (commitEffects u st.cmds st.mode st.point).clk.timeNs, commit := none })
      (appliedReply u st.mode st.point)))
    ∧ (∀ f, stageFailure u st.cmds st.mode st.point = some f →
        exec (.stageCommitPoint id) s = .next (answer (discardStage u st) { f.2 with detail := f.1 })))
  ∧ (∀ id s st, (s.host.stages.find? fun st => st.id == id && decide (st.checkState ≤ 2)) = some st → st.leaseEnd ≤ s.upNs →
      exec (.stageLeaseExpiry id) s = .next (discardStage s st))
  ∧ (∀ id s st, (s.host.stages.find? fun st => st.id == id && decide (4 ≤ st.checkState)) = some st → st.leaseEnd ≤ s.upNs →
      exec (.stageRecordExpiry id) s = .next (dropStage s id))

/-! The host commands, function by function: what each one that nothing turns away leaves, and what it answers. -/

/-- The SYS commands of R73: identity and state are read, and the pins of R72 are set, removed and listed.
The commands that read a function's counters answer them all in order, 4 bytes each, as they stood, and with their `clear` bit
set every one of them at zero; of the transmit counters `tx_cal_overdue` is brought up to date first (log 101). -/
def Obligations.SystemCommands : Prop :=
  (Reads .sysIdentify .sysIdentify (fun e s => okData (identityRecord s (sessionView e.session)))
  ∧ Reads .sysGetState .sysGetState (fun _ s => okData (stateRecord s))
  ∧ Sets .sysPin .sysPin (fun e s =>
      if s.host.pins.contains (pinWord e) then s else { s with host := { s.host with pins := s.host.pins ++ [pinWord e] } })
  ∧ Sets .sysUnpin .sysUnpin (fun e s => { s with host := { s.host with pins := s.host.pins.filter fun w => w != pinWord e } })
  ∧ Reads .sysPinQuery .sysPinQuery (fun e s =>
      { status := stOk, detail := s.host.pins.length
        data := ((s.host.pins.drop (argBits e 5 0)).take 20).flatMap fun w => leBytes 2 w.toNat }))
  ∧ (Answers .sysCounters .sysCounters
      (fun e s => if argBit e 0 then { s with host := { s.host with counters := clearCtrs s.host.counters } } else s)
      (fun _ s => okData (ctrBytes s.host.counters))
  ∧ Answers .airCounters .airCounters
      (fun e s => if argBit e 2 then modAir s fun a => { a with counters := a.counters.mod (bandOfD (argBits e 1 0)) clearCtrs } else s)
      (fun e s => okData (ctrBytes (s.air.counters.get (bandOfD (argBits e 1 0)))))
  ∧ Answers .radioRxCounters .radioRxCounters
      (fun e s => if argBit e 2 then modRx s (argBand e) fun r => { r with counters := clearCtrs r.counters } else s)
      (fun e s => okData (ctrBytes (s.radio.rx.get (argBand e)).counters))
  ∧ Answers .radioTxCounters .radioTxCounters
      (fun e s =>
        let t := bgOverdue s (argBand e)
        if argBit e 2 then modTx t (argBand e) fun x => { x with counters := clearCtrs x.counters } else t)
      (fun e s => okData (ctrBytes ((bgOverdue s (argBand e)).radio.tx.get (argBand e)).counters))
  ∧ Answers .orbitCounters .orbitCounters
      (fun e s => if argBit e 0 then modOrbit s fun o => { o with counters := clearCtrs o.counters } else s)
      (fun _ s => okData (ctrBytes s.orbit.counters))
  ∧ Answers .nodeCounters .nodeCounters
      (fun e s => if argBit e 0 then modNodes s fun d => { d with counters := clearCtrs d.counters } else s)
      (fun _ s => okData (ctrBytes s.node.counters))
  ∧ Answers .routeCounters .routeCounters
      (fun e s => if argBit e 0 then modRoute s fun r => { r with counters := clearCtrs r.counters } else s)
      (fun _ s => okData (ctrBytes s.route.counters))
  ∧ Answers .ethCounters .ethCounters
      (fun e s => if argBit e 1 then modEth s (argBits e 0 0) fun p => { p with counters := clearCtrs p.counters } else s)
      (fun e s => okData (ctrBytes (ethOf s (argBits e 0 0)).counters))
  ∧ Answers .keyCounters .keyCounters
      (fun e s => if argBit e 0 then modKey s fun k => { k with counters := clearCtrs k.counters } else s)
      (fun _ s => okData (ctrBytes s.key.counters))
  ∧ Answers .cryptCounters .cryptCounters
      (fun e s => if argBit e 0 then modCrypt s fun c => { c with counters := clearCtrs c.counters } else s)
      (fun _ s => okData (ctrBytes s.crypt.counters))
  ∧ Answers .queueCounters .queueCounters
      (fun e s => if argBit e 0 then modQueue s fun q => { q with counters := clearCtrs q.counters } else s)
      (fun _ s => okData (ctrBytes s.queue.counters))
  ∧ Answers .timeCounters .timeCounters
      (fun e s => if argBit e 0 then modClk s fun c => { c with counters := clearCtrs c.counters } else s)
      (fun _ s => okData (ctrBytes s.clk.counters))
  ∧ Answers .pairCounters .pairCounters
      (fun e s => if argBit e 0 then modPair s fun p => { p with counters := clearCtrs p.counters } else s)
      (fun _ s => okData (ctrBytes s.pair.counters)))

/-- The long commands that leave their work to its end give their interim response at once and change nothing else, but for what a
per-function reset resets (R96) and for SYS_QUIESCE, which halts the radio at once where the Orbit engine is IDLE (R100). -/
def Obligations.LongCommandsStart : Prop :=
  (∀ e s, ready .sysFunctionReset e s = true → exec (.sysFunctionReset e) s = .next (functionReset
      (respond (atWork .sysFunctionReset e (arrived e s) (arrived e s)) e { status := stAccepted } false) (argBits e 5 0)))
  ∧ (∀ e s, ready .sysQuiesce e s = true →
      let t := respond (atWork .sysQuiesce e (arrived e s) (arrived e s)) e { status := stAccepted } false
      exec (.sysQuiesce e) s = .next (if t.orbit.state == .idle then radioHalts t else t))
  ∧ Starts .sysResume .sysResume (fun _ s => s)
  ∧ Starts .nodeCounterSnapshot .nodeCounterSnapshot (fun _ s => s)
  ∧ Starts .nodeColdChallenge .nodeColdChallenge (fun _ s => s)
  ∧ Starts .nodeTableLoad .nodeTableLoad (fun _ s => s)
  ∧ Starts .keyIdentityGenerate .keyIdentityGenerate (fun _ s => s)
  ∧ Starts .keyLifecycleAdvance .keyLifecycleAdvance (fun _ s => s)
  ∧ Starts .updateVerify .updateVerify (fun _ s => s)
  ∧ Starts .updateConfirm .updateConfirm (fun _ s => s)
  ∧ Starts .updateRevert .updateRevert (fun _ s => s)
  ∧ Starts .campaignStart .campaignStart (fun _ s => s)
  ∧ (∀ e s, ready .nodeCounterRestore e s = true → (takePiece (arrived e s) e).2.status = stOk →
      exec (.nodeCounterRestore e) s
        = .next (respond (atWork .nodeCounterRestore e (arrived e s) (arrived e s)) e { status := stAccepted } false))

/-- The AIR commands of R144: profiles are loaded, removed, bound and read; the router's address is set; tone maps are read, asked
for by sounding, and written. -/
def Obligations.AirCommands : Prop :=
  Sets .airProfileLoad .airProfileLoad
      (fun e s => modAir s fun a => { a with profiles := mapSet a.profiles (airRecord (inBuf e)).id (airRecord (inBuf e)) })
  ∧ Sets .airProfileLoadRaw .airProfileLoadRaw
      (fun e s => modAir s fun a => { a with profiles := mapSet a.profiles (airRecord (inBuf e)).id (airRecord (inBuf e)) })
  ∧ Sets .airProfileRemove .airProfileRemove (fun e s => modAir s fun a => { a with profiles := mapDel a.profiles (argBits e 15 0) })
  ∧ Sets .airProfileBind .airProfileBind
      (fun e s => modAir s fun a => { a with bind := a.bind.mod (bandOfD (argBits e 1 0)) fun _ => argBits e 31 16 })
  ∧ Reads .airProfileQuery .airProfileQuery
      (fun e s => match profileOf s (argBits e 15 0) with | some p => okData (airBytes p) | none => refuse stNotFound)
  ∧ Sets .airSetRouterAddress .airSetRouterAddress
      (fun e s => modAir s fun a => { a with routerAddr := BitVec.ofNat 32 (argBits e 31 0) })
  ∧ Reads .airToneMapRead .airToneMapRead (fun e s =>
      okData (leBytes 39 ((toneMapOf (tonesOf s (addrOfIndex s (argBits e 17 0))) (argBit e 18) (argBits e 23 20)).getD 0)))
  ∧ Starts .airSound .airSound (fun e s =>
      let addr := BitVec.ofNat 32 (addrOfIndex s (argBits e 17 0))
      requestSounding (modTones s addr.toNat fun t => { t with wantSounding := true, soundContacts := 0 }) (argBits e 17 0) addr)
  ∧ Sets .airToneMapWrite .airToneMapWrite (fun e s =>
      if argBit e 18 then
        offerMap s (argBits e 17 0) (BitVec.ofNat 32 (addrOfIndex s (argBits e 17 0))) (argBits e 23 20) (leNat (inBuf e))
      else modTones s (addrOfIndex s (argBits e 17 0)) fun t => { t with tx := mapSet t.tx (argBits e 23 20) (leNat (inBuf e)) })

/-- The settings of the RADIO commands (R177, R211): each writes the fields its arguments name and no other; a new drive or mode makes the
bias calibration due (R185), a new polarity of the grant line reads its level anew, and the coexistence lines of a burst in progress stay
as they are (R211). -/
def Obligations.RadioSettings : Prop :=
  (Sets .radioWindowSet .radioWindowSet (fun e s => moveWindow s (argBand e) (argBits e 31 16))
  ∧ Sets .radioDiagRing .radioDiagRing (fun e s => modRx s (argBand e) fun r => { r with diagRing := argBits e 11 8 })
  ∧ Sets .radioWakeConfig .radioWakeConfig (fun e s => modRadio s fun r => { r with wake :=
      { r.wake with
        enable := argBit e 0, actEvent := argBit e 1, tol := argBits e 6 4, freq := argBits e 31 16
        pattern := BitVec.ofNat 32 (argBits e 63 32), domainMask := BitVec.ofNat 32 (argBits e 95 64) } })
  ∧ Sets .radioSyncTune .radioSyncTune (fun e s => modRx s (argBand e) fun r =>
      { r with preQual := argBits e 15 8, syncRssiMinQ := argSigned e 31 16, ofdmThr := argBits e 39 32 })
  ∧ Sets .radioCaptureSet .radioCaptureSet (fun e s => modRx s (argBand e) fun r =>
      { r with captureSwitch := argBit e 2, captureMargin := argBits e 7 4, carrierDrop := argBits e 15 8 })
  ∧ Sets .radioAgcSet .radioAgcSet (fun e s => modRx s (argBand e) fun r =>
      { r with
        agcMode := argBits e 3 2, agcFixed := argBits e 15 8, agcRelease := argBits e 31 16
        agcGain := if argBits e 3 2 = 2 then argBits e 15 8 else r.agcGain })
  ∧ Sets .radioRssiCal .radioRssiCal (fun e s => modRx s (argBand e) fun r =>
      { r with rssiOffsetQ := argSigned e 31 16, extGainQ := argSigned e 47 32 })
  ∧ Sets .radioRxPathDelay .radioRxPathDelay (fun e s => modRx s (argBand e) fun r => { r with rxPathNs := argBits e 31 16 })
  ∧ Sets .radioRegionLoad .radioRegionLoad
      (fun e s => modRadio s fun r => { r with regions := mapSet r.regions (leAt (inBuf e) 0 2) (regionRecord (inBuf e)) })
  ∧ Sets .radioRegionRemove .radioRegionRemove (fun e s => modRadio s fun r => { r with regions := mapDel r.regions (argBits e 15 0) })
  ∧ Sets .radioRegionBind .radioRegionBind (fun e s => bindRegion s (argBand e) (argBits e 31 16))
  ∧ Sets .radioSnapshotRelease .radioSnapshotRelease (fun e s => releaseSnapshot s (argBits e 7 0)))
  ∧ (Sets .radioTxPowerSet .radioTxPowerSet (fun e s => modTx s (argBand e) fun x =>
      { x with driveQ := argSigned e 15 8, bgDue := if x.driveQ = argSigned e 15 8 then x.bgDue else modNth x.bgDue 1 fun _ => true })
  ∧ Sets .radioTxModeSet .radioTxModeSet (fun e s => modTx s (argBand e) fun x =>
      if x.linear = argBit e 2 then x
      else { x with linear := argBit e 2, modeAt := nowNs s, bgDue := modNth x.bgDue 1 fun _ => true })
  ∧ Sets .radioTxTiming .radioTxTiming (fun e s => modTx s (argBand e) fun x =>
      { x with
        rampLinear := argBit e 2, rampUs := argBits e 12 8, paLeadUs := argBits e 20 16, paLagUs := argBits e 27 24
        lateMaxUs := argBits e 40 32 })
  ∧ Sets .radioTxPathDelay .radioTxPathDelay (fun e s => modTx s (argBand e) fun x => { x with txPathNs := argBits e 31 16 })
  ∧ Sets .radioFeConfig .radioFeConfig (fun e s => modTx s (argBand e) fun x =>
      { x with
        polarity := argBits e 7 4, lnaNext := argBit e 8
        lnaStatic := if numbering s then x.lnaStatic else argBit e 8 })
  ∧ Sets .radioCoexConfig .radioCoexConfig (fun e s => modTx s (argBand e) fun x =>
      { x with
        coexEnable := argBit e 2, coexAbort := argBit e 3, gntLow := argBit e 4, outLow := argBit e 5
        coexLeadUs := argBits e 31 16, priMask := argBits e 36 32
        coexReq := x.coexReq && (argBit e 2 || x.inBurst.isSome), coexPri := x.coexPri && (argBit e 2 || x.inBurst.isSome)
        grant := x.grant != (x.gntLow != argBit e 4), grantAt := if x.grant || x.gntLow == argBit e 4 then x.grantAt else nowNs s })
  ∧ Reads .radioBandStatus .radioBandStatus (fun e s =>
      let x := s.radio.tx.get (argBand e)
      okFigures ([(bandCode x.state : Int), (x.lo.map Int.ofNat).getD noFigure, x.attempts]
        ++ x.bgAt.map fun t => (((s.upNs - t) / 1000000 : Nat) : Int))))

/-- The RADIO commands that read the receivers (R177), and the contexts and snapshots they take and release (R176, R178, R179): a
snapshot is armed, or captures at once under trigger 0, and holds its band's domain On (R463); the contexts of a reservation listen
where their band is ON, and the others return to IDLE when released. Bytes of a snapshot not complete yet are open values (log 4), and
a context with no reception reads 0 as its RSSI (log 90). -/
def Obligations.RadioReceiveReads : Prop :=
  Reads .radioWindowQuery .radioWindowQuery (fun e s =>
      match pendingWindow s (argBand e) with
      | some (c, n) => okFigures [((s.radio.rx.get (argBand e)).centre : Int), c, n]
      | none => okFigures [((s.radio.rx.get (argBand e)).centre : Int), noFigure, noFigure])
  ∧ Reads .radioContextStatus .radioContextStatus (fun e s =>
      okFigures ((List.range (argBits e 24 16)).flatMap fun k =>
        let c := ctxOf s (argBits e 8 0 + k)
        ([ctxCode c.state, c.band, c.channel, c.profile, (c.rx.map fun r => rssiField r.det.rssiQ).getD 0, c.frames] : List Int)))
  ∧ Reads .radioWakeStatus .radioWakeStatus (fun _ s =>
      okFigures [natOf s.radio.wake.enable, ((nth 0 s.radio.rx.b.counters rxWakeMatches).toNat : Nat), s.radio.wake.lastRtc.toNat])
  ∧ Reads .radioRegionQuery .radioRegionQuery (fun e s =>
      match mapGet s.radio.regions (argBits e 15 0) with | some r => okData (regionBytes r) | none => refuse stNotFound)
  ∧ Starts .radioSnapshotArm .radioSnapshotArm (fun e s =>
      let id := freeSnapId s.radio.snapshots 256 s.radio.nextSnap
      let now := argBits e 9 8 = 0
      holdOn <| modRadio s fun r =>
        { r with
          nextSnap := (id + 1) % 256
          snapshots := r.snapshots ++
            [{ id := id, band := argBits e 1 0, power := argBit e 2, units := argBits e 7 4, trigger := argBits e 9 8
               triggerId := argBits e 15 12, avgMs := argBits e 31 16, startNs := argBits e 95 32
               state := if now then .capturing else .armed, firstNs := if now then nowNs s else 0
               blanks := if (s.radio.tx.get (argBand e)).blank then [(nowNs s, none)] else [], data := [] }] })
  ∧ (∀ e s x, ready .radioSnapshotRead e s = true → snapOf (arrived e s) (argBits e 7 0) = some x → x.state = .complete →
      exec (.radioSnapshotRead e) s
        = .next (answerFinal (arrived e s) e (okData (sliceBytes x.data (argBits e 63 32) e.bufLen.toNat))))
  ∧ (∀ e s x, ready .radioSnapshotRead e s = true → snapOf (arrived e s) (argBits e 7 0) = some x → x.state ≠ .complete →
      exec (.radioSnapshotRead e) s
        = .next (answerFinal (drawBytes (arrived e s) e.bufLen.toNat).2 e (okData (drawBytes (arrived e s) e.bufLen.toNat).1)))
  ∧ Answers .radioContextReserve .radioContextReserve
      (fun e s =>
        let n := argBits e 12 4
        let first := (freeRun s n 480 0).getD 0
        let on := bandState s (argBand e) == .on
        (List.range n).foldl (fun s k => setCtx s (first + k) (armed s
            { Ctx.idle with
              purpose := .reserved, band := argBits e 1 0, channel := argBits e 31 16, profile := argBits e 47 32
              frames := (ctxOf s (first + k)).frames } (if on then listenState s (argBand e) else .idle)))
          (modRadio s fun r => { r with reserved := r.reserved ++ (List.range n).map (first + ·) }))
      (fun e s => okFigures [(freeRun s (argBits e 12 4) 480 0).getD 0, argBits e 12 4])
  ∧ Sets .radioContextRelease .radioContextRelease (fun e s =>
      let ids := (List.range (argBits e 24 16)).map (argBits e 8 0 + ·)
      ids.foldl (fun s i => if ctxBusy (ctxOf s i) then s else ctxIdle s i)
        (modRadio s fun r => { r with reserved := r.reserved.filter fun i => !ids.contains i }))

/-- Bands start and stop (R204, R205), a launch is queued for its instant (R212), and calibrations are asked for (R185): an enabled
band becomes PENDING_ON, a FAULT band makes one return attempt, an ON band goes off at its boundary and any other at once; a launch
that no dwell account refuses is queued, and one that an account refuses is counted and answered `ST_DWELL_LIMIT`. -/
def Obligations.RadioBands : Prop :=
  (∀ e s, ready .radioBandEnable e s = true →
    let w := wakeDomain (arrived e s) (domBandA + bandNum (argBand e))
    let t := if bandState w (argBand e) = .fault then modTx w (argBand e) fun x => { x with attempts := 3, onAfter := some (nowNs w) }
      else modTx w (argBand e) fun x => { x with state := .pendingOn, onAfter := some (nowNs w + 2000000) }
    exec (.radioBandEnable e) s = .next (respond (atWork .radioBandEnable e (arrived e s) (holdOn t)) e { status := stAccepted } false))
  ∧ Sets .radioBandDisable .radioBandDisable (fun e s =>
      match bandState s (argBand e) with
      | .on => modTx s (argBand e) fun x => { x with offPending := true }
      | .draining => s
      | _ => bandGoesOff s (argBand e))
  ∧ (∀ e s p, ready .radioTxAt e s = true → profileOf (arrived e s) (argBits e 47 32) = some p →
      (let l := directLaunch e (arrived e s) p; dwellRefuser (arrived e s) (argBand e) l.channel l.tL l.airNs = none) →
      exec (.radioTxAt e) s = .next (respond (atWork .radioTxAt e (arrived e s)
        (enqueueLaunch (takeLaunchId (arrived e s)) (directLaunch e (arrived e s) p))) e { status := stAccepted } false))
  ∧ (∀ e s p r key v, ready .radioTxAt e s = true → profileOf (arrived e s) (argBits e 47 32) = some p →
      (let l := directLaunch e (arrived e s) p; dwellRefuser (arrived e s) (argBand e) l.channel l.tL l.airNs = some (r, key, v)) →
      exec (.radioTxAt e) s = .next (answerFinal (dwellDeny (arrived e s) (argBand e) r key v) e (refuse stDwellLimit)))
  ∧ (∀ e s, ready .radioTxCalRun e s = true → argBits e 6 4 ≠ 0 →
      exec (.radioTxCalRun e) s = .next (respond (atWork .radioTxCalRun e (arrived e s) (modTx (arrived e s) (argBand e) fun x =>
        { x with bgDue := (List.range 3).map fun i => nth false x.bgDue i || argBit e (4 + i) })) e { status := stAccepted } false))
  ∧ (∀ e s, ready .radioTxCalRun e s = true → argBits e 6 4 = 0 →
      exec (.radioTxCalRun e) s
        = .next (answerFinal (respond (arrived e s) e { status := stAccepted } false) e (okFigures [0])))

/-- The ORBIT commands that the schedule is made of (R219, R221, R224, R227, R230): each takes effect on the running schedule, whose version
rises by one.
The other ORBIT commands (R217, R252, R264, R266): the engine is anchored and stopped, parents are listed, figures and dwell
accounts are read, thresholds set, a node's drift replaced and a schedule update sent to a node. -/
def Obligations.OrbitCommands : Prop :=
  (Sets .orbitFrameSet .orbitFrameSet (fun e s => changedSchedule .now (setFrame .now (argBits e 11 0) (argBits e 31 16) s))
  ∧ Sets .orbitStageCells .orbitStageCells (fun e s => changedSchedule .now (setCells e s))
  ∧ Sets .orbitHopSet .orbitHopSet (fun e s => changedSchedule .now (setHop e s))
  ∧ Sets .orbitClassLoad .orbitClassLoad (fun e s => changedSchedule .now (setClass e s))
  ∧ Sets .orbitClassLoadRaw .orbitClassLoadRaw (fun e s => changedSchedule .now (setClass e s))
  ∧ Sets .orbitClassRemove .orbitClassRemove
      (fun e s => changedSchedule .now (modOrbit s fun o => { o with classes := mapDel o.classes (argBits e 15 0) })))
  ∧ ((∀ e s, ready .orbitStart e s = true → ∃ t, exec (.orbitStart e) s = .next (answerFinal t e okReply)
      ∧ t.orbit.state = .idle ∧ t.orbit.anchored = true ∧ t.orbit.anchorAsn = argBits e 71 32 ∧ t.orbit.anchorNs = argBits e 159 96
      ∧ t.orbit.follow = argBit e 0)
  ∧ Sets .orbitStop .orbitStop (fun _ s => orbitStopped s)
  ∧ Reads .orbitStatus .orbitStatus (fun _ s =>
      okFigures [engineCode s.orbit.state, if numbering s then (currentAsn s : Int) else noFigure
        , if s.orbit.anchored then (s.orbit.anchorAsn : Int) else noFigure
        , if s.orbit.anchored then (s.orbit.anchorNs : Int) else noFigure
        , s.orbit.schedVersion, match s.orbit.parent with | some k => (k : Int) | none => noFigure, uTimeFigure s])
  ∧ Sets .orbitParentSet .orbitParentSet (fun e s =>
      let l := (parentRecords e).map fun r => { addr := BitVec.ofNat 32 (leAt r 0 4), band := leAt r 4 1 : Candidate }
      modOrbit s fun o =>
        { o with parents := l, parent := if l.isEmpty then none else some 0, parentMiss := 0, parentDepth := none, parentNext := none })
  ∧ (∀ e s n, ready .orbitNodeSchedule e s = true → nodeAt (arrived e s) (argBits e 17 0) = some n →
      let a := arrived e s
      let u := askedSchedule e a n
      let payload := schedPayload u a.orbit.schedVersion
      let b := replicateOffer (modOrbit a fun o => { o with schedUpdates := o.schedUpdates ++ [u] }) (argBits e 17 0) payload
      exec (.orbitNodeSchedule e) s = .next (respond (atWork .orbitNodeSchedule e a
        (parkFirmware b (firmwareFrame b n.meshAddr ftControl payload true)).1) e { status := stAccepted } false))
  ∧ Reads .orbitNodeStatus .orbitNodeStatus (fun e s =>
      match nodeAt s (argBits e 17 0) with
      | some n => okFigures (contactFigures s (argBits e 17 0) n)
      | none => refuse stNotFound)
  ∧ Sets .orbitReportSet .orbitReportSet (fun e s => modOrbit s fun o => { o with dupMask := argBits e 15 0 })
  ∧ Reads .orbitDwellStatus .orbitDwellStatus
      (fun e s => okData ((dwellList s (argBand e)).flatMap fun p => leBytes 4 p.1 ++ leBytes 4 p.2))
  ∧ Sets .orbitPrepLead .orbitPrepLead (fun e s => modOrbit s fun o => { o with leadUs := argBits e 15 0 })
  ∧ Sets .orbitTimingSet .orbitTimingSet
      (fun e s => modOrbit s fun o => { o with minSlackUs := argBits e 7 0, uncThresholdUs := argBits e 31 16 })
  ∧ Sets .orbitDriftSet .orbitDriftSet (fun e s => modNode s (argBits e 17 0) fun n =>
      { n with
        driftQ := argSigned e 47 32, samples := if argBit e 18 then 0 else n.samples
        outliers := if argBit e 18 then false else n.outliers, outlierNeg := if argBit e 18 then false else n.outlierNeg }))

/-- The NODE commands that work on entries (R278, R284, R285, R291, R292): a node is added where the table has room for it, removed
with the frames it has pending, read, set, and written raw, and the journal notes each change.
The NODE commands that set and read the table as a whole (R279, R283, R286, R287, R288, R291): learning limits, aging, the shadow
table, the journal, the figures, the hash seed and the scrub interval. -/
def Obligations.NodeCommands : Prop :=
  ((∀ e s a i t, ready .nodeAdd e s = true → assignAddr (arrived e s) (BitVec.ofNat 64 (argBits e 63 0)) = some a →
      insertEntry (arrived e s) (addedEntry e (arrived e s) a) = (t, some i) →
      exec (.nodeAdd e) s = .next (answerFinal (fileFrom (journalAdd t 2 i a i) i (currentAsn t + 2)) e
        (okData (leBytes 4 i ++ leBytes 4 a.toNat))))
  ∧ (∀ e s i n, let a := keyPass e (arrived e s)
      ready .nodeRemove e s = true → keyIndex e a = some i → nodeAt a i = some n →
      exec (.nodeRemove e) s = .next (answerFinal (deleteNode (flushNode a n.meshAddr) i 5) e okReply))
  ∧ (∀ e s i, let a := keyPass e (arrived e s)
      ready .nodeRead e s = true → keyIndex e a = some i →
      let l := (List.range (min (argBits e 25 16) (262144 - i))).map (i + ·)
      exec (.nodeRead e) s = .next (answerFinal (l.foldl readEntryWords a) e (okData (l.flatMap (indexBytes a)))))
  ∧ (∀ e s n, ready .nodeSet e s = true → nodeAt (arrived e s) (argBits e 17 0) = some n →
      let m := { n with
        rxRing := if argBit e 20 then argBits e 27 24 else n.rxRing
        attenDb := if argBit e 21 then argBits e 36 32 else n.attenDb
        isStatic := if argBit e 22 then argBit e 37 else n.isStatic }
      let i := argBits e 17 0
      exec (.nodeSet e) s = .next (answerFinal
        (if m = n then arrived e s else journalAdd (writeEntry (arrived e s) i m) 6 i m.meshAddr i) e okReply))
  ∧ Sets .nodeWriteRaw .nodeWriteRaw (fun e s =>
      let i := argBits e 17 0
      let n := entryOf (inBuf e)
      let s := modNodes s fun d => { d with errors := d.errors.filter fun p => p.1 / 8 != i }
      let s := match nodeAt s i with
        | some old => if entryValid (inBuf e) && old.eui == n.eui then s else retireStream s old
        | none => s
      journalAdd (if entryValid (inBuf e) then writeEntry s i n else modNodes (unfile s i) fun d => { d with table := mapDel d.table i })
        6 i n.meshAddr i))
  ∧ (Sets .nodeLearnSet .nodeLearnSet (fun e s =>
    modPort (refillPort s (argBits e 2 0)) (argBits e 2 0) fun x =>
      { x with
        flood := argBit e 3, ring := argBits e 7 4, rate := argBits e 31 16, burst := argBits e 47 32
        count := argBits e 82 64, tokens := min x.tokens (argBits e 47 32 * 1000000000) })
  ∧ Sets .nodeAgeSet .nodeAgeSet (fun e s => modNodes s fun d => { d with ageS := argBits e 31 0 })
  ∧ Sets .nodeShadowSet .nodeShadowSet (fun e s => modNodes s fun d =>
      { d with shadowOn := argBit e 0, cmpRate := argBits e 50 32, shadowBase := argBits e 127 64, overflow := false })
  ∧ Answers .nodeJournalRead .nodeJournalRead
      (fun e s => modNodes s fun d =>
        { d with journal := d.journal.filter fun r => seqAfter r.seq (BitVec.ofNat 32 (argBits e 31 0)) })
      (fun e s =>
        { status := stOk, detail := s.node.journalSeq.toNat
          data := (s.node.journal.filter fun r => seqAfter r.seq (BitVec.ofNat 32 (argBits e 31 0))).flatMap journalBytes })
  ∧ (∀ e s, ready .nodeTableStatus e s = true →
      let t := (List.range 5).foldl refillPort (arrived e s)
      let i (n : Nat) : Int := n
      exec (.nodeTableStatus e) s = .next (answerFinal t e (okFigures
        ([i t.node.table.length, i (t.node.table.filter fun x => x.2.role != 0).length]
          ++ (List.range 6).map (fun p => i (learnedBy t p)) ++ t.node.learn.map (fun x => i (x.tokens / 1000000000))
          ++ [i t.node.journalSeq.toNat, i (natOf t.node.overflow), i t.node.cmpPos]))))
  ∧ Sets .nodeHashSeed .nodeHashSeed (fun e s => modNodes s fun d => { d with hashSeed := BitVec.ofNat 32 (argBits e 31 0) })
  ∧ Sets .nodeScrubSet .nodeScrubSet (fun e s => modNodes s fun d => { d with scrubS := argBits e 11 0 }))

/-- The ROUTE commands (R296, R298, R303, R304, R309, R311, R318): routes enter and leave the table, settings are written, a node's
route is set and its relay slot answered, and the trie, a node's route and the figures are read. -/
def Obligations.RouteCommands : Prop :=
  Sets .routeAdd .routeAdd (fun e s =>
    setRoutes (bulkFresh s (.route (routeOf e).pfx (routeOf e).len)) fun l => l ++ [routeOf e])
  ∧ Sets .routeRemove .routeRemove (fun e s =>
      setRoutes s fun l => l.filter fun x => !(x.pfx.toNat == (routeKey e).1 && x.len == (routeKey e).2))
  ∧ Reads .routeLookup .routeLookup (fun e s =>
      let r := trieLookup s (argBits e 127 64)
      okFigures [r.1, r.2.1, r.2.2])
  ∧ Sets .routeDefaultSet .routeDefaultSet (fun e s => modRoute s fun r => { r with defaultRoute := (argBits e 2 0, argBits e 31 16) })
  ∧ Sets .routeMeshSet .routeMeshSet (fun e s => modRoute s fun r =>
      { r with
        meshPrefix := BitVec.ofNat 64 (argBits e 63 0), routerIid := BitVec.ofNat 64 (argBits e 127 64)
        preregClass := argBits e 143 128, floodBands := argBits e 146 144, meshRelay := argBit e 147, srcCheck := argBit e 148 })
  ∧ Sets .routeContextSet .routeContextSet (fun e s => modRoute s fun r =>
      if argBit e 4 then
        { r with contexts := mapSet r.contexts (argBits e 3 0) { len := argBits e 14 8, pfx := BitVec.ofNat 64 (argBits e 127 64) } }
      else { r with contexts := mapDel r.contexts (argBits e 3 0) })
  ∧ (∀ e s, ready .routeNodeSet e s = true →
      let t := setNodeRoute (arrived e s) (argBits e 17 0) (argBits e 21 20) (BitVec.ofNat 32 (argBits e 63 32))
      exec (.routeNodeSet e) s = .next (answerFinal t e (okData (leBytes 4 (match nodeAt t (argBits e 17 0) with
        | some n => if routeKind n = 2 then routeSlot n else 0xFFFFFFFF
        | none => 0xFFFFFFFF)))))
  ∧ (∀ e s n, ready .routeNodeQuery e s = true → nodeAt (arrived e s) (argBits e 17 0) = some n →
      let slot := if routeKind n = 1 || routeKind n = 2 then relayAt (arrived e s) (routeSlot n) else none
      exec (.routeNodeQuery e) s = .next (answerFinal (arrived e s) e
        { status := stOk, figures := [(n.routeRef : Int)]
          data := sliceBytes ((slot.map relayBytes).getD []) 0 16
            ++ sliceBytes (((sourceRoute (arrived e s) n).getD []).flatMap fun a => leBytes 4 a.toNat) 0 32 }))
  ∧ Reads .routeStatus .routeStatus (fun _ s =>
      okFigures [s.route.routes.length, (trieUnits s.route.routes : Nat), (28672 - trieUnits s.route.routes : Nat), s.route.relays.length
        , s.route.broadcast.length])
  ∧ Sets .routeLowpanSet .routeLowpanSet (fun e s => modRoute s fun r => { r with uncompressed := argBit e 0 })
  ∧ Answers .routeTrieRead .routeTrieRead (fun _ s => { s with free := s.free + 1 })
      (fun e s => okData ((List.range (argBits e 30 16)).flatMap fun k => trieUnitBytes s (argBits e 14 0 + k)))

/-- The ETH commands (R304, R305, R313, R318): a port is configured anew with its link down and its frames dropped, its status is read,
and its addresses, neighbours, host delivery and MAC figures are set. -/
def Obligations.EthCommands : Prop :=
  Starts .ethPortConfig .ethPortConfig (fun e s =>
    holdOn (modEth (dropPortFrames s (argBits e 0 0)) (argBits e 0 0) fun p =>
      { p with
        mode := argBits e 3 1, mtu := argBits e 31 16, mac := BitVec.ofNat 48 (argBits e 95 48), vlanId := argBits e 111 100
        vlanPcp := argBits e 114 112, up := false, sent := [] }))
  ∧ Reads .ethPortStatus .ethPortStatus (fun e s =>
      let p := ethOf s (argBits e 0 0)
      okFigures [p.mode, natOf p.up, if p.up then portSpeed p.mode else 0, p.rxFifo.length, p.txFifo.length])
  ∧ Sets .ethAddrSet .ethAddrSet (fun e s => modEth s (argBits e 0 0) fun p =>
      { p with addrs := modNth p.addrs (argBits e 2 1) fun _ => if argBit e 3 then some (BitVec.ofNat 128 (argBits e 159 32)) else none })
  ∧ Sets .ethNeighbourSet .ethNeighbourSet (fun e s => modRoute s fun r =>
      { r with neighbours :=
          if argBit e 9 then mapSet r.neighbours (argBits e 7 0) { port := argBits e 8 8, mac := BitVec.ofNat 48 (argBits e 79 32) }
          else mapDel r.neighbours (argBits e 7 0) })
  ∧ Sets .ethHostSet .ethHostSet (fun e s => modEth s (argBits e 0 0) fun p =>
      { p with hostRing := argBits e 5 2, hostEn := argBit e 6, queue := argBits e 13 8, lifetimeMs := argBits e 31 16 })
  ∧ Sets .ethMacTune .ethMacTune (fun e s => modEth s (argBits e 0 0) fun p =>
      { p with rxPause := argBit e 1, txPause := argBit e 2, ipg := argBits e 11 8 })

/-- The KEY commands that write and use slots (R326 to R343, R349): material is drawn, imported or unwrapped into an EMPTY slot, wrapped
out, revoked, bound to a generation, attested to and signed with; each use of a WRAP or SIGN slot is charged, the nonce of a signature
is an open value (log 5). A command that writes a slot waits while the source restarts and the reserve holds no mask (R341), and
KEY_REVOKE answers only when the slot has drained (R336).
The other KEY commands (R322, R332, R343, R344, R345, R349): the identity and the tamper monitor are read, the tamper sources and the
debug authority set, a challenge is drawn and answered, and a derivation shown. -/
def Obligations.KeyCommands : Prop :=
  (Reads .keySlotQuery .keySlotQuery (fun e s => okData (slotDescriptor (slotOf s (argBits e 6 0))))
  ∧ Sets .keyGenerate .keyGenerate (fun e s =>
      let r := (drawEntropy s).1.toNat
      let kt := argBits e 9 8
      writeSlot (drawEntropy s).2 (argBits e 6 0) false (argBit e 15) (argBit e 16) (argBits e 14 12) kt (argBits e 55 32)
        (if kt = 1 then beBytes 32 (r % (p256N - 1) + 1) else beBytes 16 (r % 2 ^ 128)))
  ∧ (∀ e s, ready .keyImportRaw e s = true → masksOut (arrived e s) = false →
      let w := argBits e 63 32
      exec (.keyImportRaw e) s = .next (answerFinal (writeSlot (arrived e s) (argBits e 6 0) true (bitOf w 23) (bitOf w 22)
        (bitsOf w 26 24) (bitsOf w 21 20) (argBits e 87 64) (inBuf e)) e okReply))
  ∧ (∀ e s u k p, ready .keyImportWrapped e s = true → masksOut (arrived e s) = false →
      readSlot (arrived e s) (argBits e 14 8) = (u, some k) → keyUnwrap k (inBuf e) = some p →
      exec (.keyImportWrapped e) s = .next (answerFinal (importKey (chargeUse u (argBits e 14 8) 1) e p) e okReply))
  ∧ (∀ e s, ready .keyBlobLoad e s = true → masksOut (arrived e s) = false →
      exec (.keyBlobLoad e) s = .next (answerFinal (blobLoad e (arrived e s)).1 e (blobLoad e (arrived e s)).2))
  ∧ (∀ e s, masksOut (arrived e s) = true →
      (ready .keyImportRaw e s = true → exec (.keyImportRaw e) s = .next (atWork .keyImportRaw e (arrived e s) (arrived e s)))
      ∧ (ready .keyImportWrapped e s = true →
          exec (.keyImportWrapped e) s = .next (atWork .keyImportWrapped e (arrived e s) (arrived e s)))
      ∧ (ready .keyBlobLoad e s = true → exec (.keyBlobLoad e) s = .next (atWork .keyBlobLoad e (arrived e s) (arrived e s))))
  ∧ (∀ e s u m kw, ready .keyBlobExport e s = true → readSlot (arrived e s) (argBits e 6 0) = (u, some m) →
      wrapKey (arrived e s) = some kw →
      exec (.keyBlobExport e) s = .next (answerFinal u e (okData (blobOf u (argBits e 6 0) kw m))))
  ∧ (∀ e s u v k m, ready .keyBlobWrapOut e s = true → readSlot (arrived e s) (argBits e 14 8) = (u, some k) →
      readSlot u (argBits e 6 0) = (v, some m) →
      exec (.keyBlobWrapOut e) s = .next (answerFinal (chargeUse v (argBits e 14 8) 1) e (okData (keyWrap k m))))
  ∧ (∀ e s, ready .keyRevoke e s = true →
      exec (.keyRevoke e) s = .next (atWork .keyRevoke e (arrived e s) (revokeSlot (arrived e s) (argBits e 6 0))))
  ∧ (∀ e s, ready .keyGenMap e s = true →
      let g := argBits e 7 0
      let a := arrived e s
      let t :=
        if argBit e 15 then
          rollEnds (modKey a fun k => { k with genMap := k.genMap.map fun b => if (b.map (·.1)) == some g then none else b }) g
        else modKey a fun k =>
          let pos := match bindingOf a g with | some (p, _) => p | none => (k.genMap.findIdx? (·.isNone)).getD 0
          { k with genMap := modNth k.genMap pos fun _ => some (g, argBits e 14 8) }
      exec (.keyGenMap e) s = .next (mapChanged (answerFinal t e okReply)))
  ∧ Reads .keyGenQuery .keyGenQuery (fun _ s => okFigures ((s.key.genMap.mapIdx fun i b => (i, b)).flatMap fun p =>
      match p.2 with
      | some (g, sl) => [(p.1 : Int), g, sl, (slotOf s sl).epoch.toNat]
      | none => []))
  ∧ (∀ e s u d, ready .keyAttest e s = true → readSlot (arrived e s) 0 = (u, some d) →
      let st := attestStatement u (argBits e 6 0) (argBytes e 4 32)
      let sig := signWith u d (sha256 st)
      exec (.keyAttest e) s = .next (answerFinal sig.1 e (okData (st ++ sig.2))))
  ∧ (∀ e s u d, ready .keySign e s = true → readSlot (arrived e s) (argBits e 6 0) = (u, some d) →
      let sig := signWith (chargeUse u (argBits e 6 0) 1) d (argBytes e 4 32)
      exec (.keySign e) s = .next (answerFinal sig.1 e (okData sig.2))))
  ∧ (Answers .keyIdentityRead .keyIdentityRead (fun _ s => (identityPublic s).1)
      (fun _ s => match (identityPublic s).2 with | some p => okData p | none => refuse stKeyBadSlot)
  ∧ Reads .keyTamperStatus .keyTamperStatus (fun _ s => okData
      [BitVec.ofNat 8 (natOf s.key.tampered), s.key.firstMask, s.key.liveLevels, BitVec.ofNat 8 s.key.tamperCount
        , BitVec.ofNat 8 (armedMask s), 0, 0, 0])
  ∧ Sets .keyTamperConfig .keyTamperConfig (fun e s => modKey s fun k => { k with lidEnable := argBit e 0, lidActiveHigh := argBit e 1 })
  ∧ Answers .keyDebugChallenge .keyDebugChallenge
      (fun _ s => modKey (drawEntropy s).2 fun k =>
        { k with challenge := some { nonce := (drawEntropy s).1, untilNs := s.upNs + 60000000000 } })
      (fun _ s => okData (beBytes 32 (drawEntropy s).1.toNat))
  ∧ Answers .keyDebugUnlock .keyDebugUnlock (fun e s => (debugUnlock e s).1) (fun e s => (debugUnlock e s).2)
  ∧ Reads .keyKdfVector .keyKdfVector
      (fun e _ => okData (nodeKey (inBuf e) (BitVec.ofNat 64 (argBits e 127 64)) (argBits e 7 0)))
  ∧ Sets .keyDebugAuthSet .keyDebugAuthSet
      (fun e s => modKey s fun k => { k with debugHash := some (BitVec.ofNat 256 (beNat (argBytes e 4 32))) }))

/-- The CRYPT commands (R361, R366, R373, R377, R378): figures are read, the router's EUI, cut-through and lane assignment set, a roll
planned or, with every band off, made at once, a node challenged, and blocks sealed outside the frame path, which wait while there are
no masks (R341). -/
def Obligations.CryptCommands : Prop :=
  Reads .cryptStatus .cryptStatus (fun _ s => okData (cryptStatusBytes s))
  ∧ Sets .cryptRouterEuiSet .cryptRouterEuiSet (fun e s => modCrypt s fun c => { c with routerEui := BitVec.ofNat 64 (argBits e 127 64) })
  ∧ Sets .cryptGenRoll .cryptGenRoll (fun e s =>
      if anyBandEnabled s then modCrypt s fun c => { c with roll := some { newGen := argBits e 7 0, switchAsn := argBits e 103 64 } }
      else rollSwitch s (argBits e 7 0))
  ∧ Sets .cryptNodeChallenge .cryptNodeChallenge (fun e s => challengeNode s (argBits e 17 0))
  ∧ (∀ e s, ready .cryptRawBlock e s = true → masksOut (arrived e s) = false →
      exec (.cryptRawBlock e) s = .next (answerFinal (rawBlocks e (arrived e s)).1 e (rawBlocks e (arrived e s)).2))
  ∧ (∀ e s, ready .cryptRawBlock e s = true → masksOut (arrived e s) = true →
      exec (.cryptRawBlock e) s = .next (atWork .cryptRawBlock e (arrived e s) (cryptCount (arrived e s) xcLaneWait 1)))
  ∧ Sets .cryptCutThroughSet .cryptCutThroughSet
      (fun e s => modCrypt s fun c => { c with ctMask := argBits e 15 0, ctMinLen := argBits e 42 32 })
  ∧ Sets .cryptLaneAssign .cryptLaneAssign (fun e s => modCrypt s fun c => { c with pairLanes := argBits e 1 0 })
  ∧ (∀ e s, ready .cryptCcmVector e s = true → masksOut (arrived e s) = false →
      let b := inBuf e
      let a := leAt b 29 1
      let sealed := ccmSeal (sliceBytes b 0 16) (sliceBytes b 16 13) (sliceBytes b 30 a) (b.drop (30 + a)) (micBytes (argBits e 5 4))
        (bitOf (argBits e 2 0) 2)
      exec (.cryptCcmVector e) s = .next (answerFinal (frameLane (arrived e s)) e (okData (sealed.1 ++ sealed.2))))
  ∧ (∀ e s, ready .cryptCcmVector e s = true → masksOut (arrived e s) = true →
      exec (.cryptCcmVector e) s = .next (atWork .cryptCcmVector e (arrived e s) (cryptCount (arrived e s) xcLaneWait 1)))

/-- The QUEUE commands (R385, R387, R390, R393, R394, R397, R399, R400, R403): a shaping queue's weight and limit, flushing, overheads,
gates and samples, the arbiter's classes and thresholds, and the figures of queues, banks and work lists. -/
def Obligations.QueueCommands : Prop :=
  Sets .queueConfig .queueConfig
      (fun e s => modShape s (argBits e 5 0) fun x => { x with weight := argBits e 15 8, limit := argBits e 31 16 })
  ∧ Answers .queueFlush .queueFlush
      (fun e s =>
        let gone := s.queue.records.filter fun p => bitOf (argBits e 63 0) p.2.queue
        gone.foldl (fun s p => flushFrame s p.1) (queueCount s qcFlushed gone.length))
      (fun e s => okFigures [((s.queue.records.filter fun p => bitOf (argBits e 63 0) p.2.queue).length : Int)])
  ∧ Reads .queueStatus .queueStatus (fun e s =>
      let q := argBits e 5 0
      let live := queueLive s q
      okFigures (([(live.length : Int), (queueHoles s q : Int)
        , (((live.map fun p => (s.upNs - p.2.since) / 1000).foldl max 0 : Nat) : Int), ((queueOf s q).weight : Int)] : List Int)
        ++ ((queueOf s q).v.toList.map Int.ofNat) ++ bands.map fun b => ((natOf (gateOpen s b (currentAsn s) q) : Nat) : Int)))
  ∧ Sets .queueOverheadSet .queueOverheadSet (fun e s =>
      modQueue s fun q => { q with overheads := mapSet q.overheads (argBits e 15 0) (argBits e 31 16, argBits e 47 32) })
  ∧ Sets .queueGateSet .queueGateSet (fun e s =>
      let l := (gateEntries e).map fun r => ({ slots := leAt r 0 2, openMask := BitVec.ofNat 64 (leAt r 4 8) } : Gate)
      modQueue s fun q => { q with gates := q.gates.mod (argBand e) fun g => { g with pending := some (l, argBits e 103 64) } })
  ∧ Sets .queueSampleSet .queueSampleSet (fun e s =>
      modQueue s fun q => { q with sampleMs := argBits e 15 0, sampleAt := s.upNs + argBits e 15 0 * 1000000 })
  ∧ Reads .queueSamplesRead .queueSamplesRead
      (fun e s => okData (((mapGetD [] s.queue.samples (argBits e 5 0)).take (argBits e 16 8)).flatMap sampleBytes))
  ∧ Sets .queueFwSet .queueFwSet (fun e s => modQueue s fun q => { q with fwQueue := argBits e 5 0 })
  ∧ Sets .queueArbClass .queueArbClass (fun e s => modQueue s fun q => { q with classMap := BitVec.ofNat 32 (argBits e 31 0) })
  ∧ Sets .queueArbStarve .queueArbStarve (fun e s => modQueue s fun q => { q with starveThr := argBits e 15 0 })
  ∧ Sets .queueWatchdogSet .queueWatchdogSet (fun e s => modQueue s fun q => { q with wdUs := argBits e 15 0 })
  ∧ Answers .queueArbStatus .queueArbStatus (fun _ s => modQueue s fun q => { q with starveMax := List.replicate 16 0 })
      (fun _ s => okFigures
        (((List.range 16).flatMap fun n =>
          ([(arbClass s n : Int), ((nth 0 s.queue.grants n : Nat) : Int), ((nth 0 s.queue.starveMax n : Nat) : Int)] : List Int))
        ++ s.queue.banks.map fun x => match x.owner with | some n => (n : Int) | none => noFigure))
  ∧ Reads .queueWorkStatus .queueWorkStatus (fun _ s => okFigures
      ((s.queue.ready.flatMap fun f =>
        ([((f.head.length + f.tail.length : Nat) : Int), (f.middle.length : Int)] : List Int))
      ++ [shapeCellsFree s, workCellsFree s, (s.queue.flows.filter fun p => p.2.busy).length
          , (s.queue.flows.map fun p => (fifoAll p.2.deferred).length).foldl (· + ·) 0].map Int.ofNat))

/-- The TIME commands that set the clock and its sources (R407 to R414, R416, R424, R427, R430).
The TIME commands that read, and those that program pins and triggers (R409, R420 to R423, R425, R430). -/
def Obligations.TimeCommands : Prop :=
  (Sets .timeSet .timeSet (fun e s =>
      modClk (hostTimeWrite s ((argBits e 63 0 : Int) - (nowNs s : Int))) fun c => { c with timeFrac := 0 })
  ∧ Sets .timeAdjust .timeAdjust (fun e s => hostTimeWrite s (argSigned e 63 0))
  ∧ Sets .timeSourceSet .timeSourceSet (fun e s => installSources s (sourceKinds e))
  ∧ Sets .timePtpPort .timePtpPort (fun e s => modPtp s (argBits e 0 0) fun q =>
      { q with
        role := argBits e 2 1, twoStep := argBit e 3, tsReport := argBit e 4, domain := argBits e 15 8
        logSync := argSigned e 19 16, logAnnounce := argSigned e 23 20, classLocked := argBits e 39 32
        classHoldover := argBits e 47 40, classFree := argBits e 55 48, ethRxNs := argBits e 79 64, ethTxNs := argBits e 95 80
        master := if argBits e 2 1 = q.role && argBits e 15 8 = q.domain then q.master else none
        exchange := none })
  ∧ Sets .timePpsConfig .timePpsConfig (fun e s => modClk s fun c =>
      { c with ppsInNs := argBits e 15 0, ppsOutNs := argBits e 31 16, ppsWidthUs := argBits e 50 32 })
  ∧ Sets .timeParentDelay .timeParentDelay
      (fun e s => modClk s fun c => { c with parentDelay := modNth c.parentDelay (argBits e 2 0) fun _ => argBits e 31 16 })
  ∧ Sets .timeIncrementSet .timeIncrementSet (fun e s => modClk s fun c =>
      { c with
        increment := BitVec.ofNat 64 (argBits e 63 0)
        adj := (((argBits e 63 0 : Int) - nominalIncrement : Int) : Rat) / (8589934592 / 1000000000) })
  ∧ Sets .timeUncClear .timeUncClear (fun e s => modClk s fun c =>
      if argBit e 16 then { c with uncFreeS := argBits e 15 0, u0 := some 0, tM := c.timeNs.toNat, uncertain := false }
      else { c with uncFreeS := argBits e 15 0 })
  ∧ Sets .timeServoSet .timeServoSet (fun e s =>
      let lim : Rat := argBits e 50 32
      let t := modClk s fun c =>
        { c with
          cfg := { kp := argBits e 15 0, ki := argBits e 31 16, clampPpb := argBits e 50 32, dadjMaxPpb := argBits e 80 64
                   servoMs := argBits e 109 96, stepThrNs := argBits e 159 128, lockNs := argBits e 191 160
                   holdoverPpb := argBits e 208 192, outlierNs := argBits e 243 224 }
          u0 := uTime s, tM := c.timeNs.toNat, iAcc := clampRat c.iAcc (-lim) lim
          adj := clampRat c.adj (-lim) lim
          increment := if absRat c.adj ≤ lim then c.increment else incrementOf (clampRat c.adj (-lim) lim) }
      modClk t fun c => { c with nextUpdate := nextServo c }))
  ∧ (Reads .timeStatus .timeStatus (fun _ s =>
      let c := s.clk
      let unc := match uTime s with
        | none => 0xFFFFFFFF
        | some u => (clampInt (ceilRat (u / 1000)) 0 0xFFFFFFFF).toNat
      let age := match c.measAt with | none => 0xFFFFFFFF | some t => min ((s.upNs - t) / 1000000) 0xFFFFFFFF
      okData (leBytes 1 c.servo.ctorIdx ++ leBytes 1 c.source ++ leBytes 1 (natOf c.uncertain + 2 * natOf (stepAllowed s)) ++ [0]
        ++ leBytes 4 (sat32 (roundRat c.adj)) ++ leBytes 4 unc ++ leBytes 4 (sat32 (roundRat c.theta)) ++ leBytes 8 c.increment.toNat
        ++ leBytes 2 c.utcOffset.toNat ++ leBytes 2 (stepsRemoved s) ++ leBytes 4 age ++ leBytes 8 (unsignedOf 64 c.lastStep)))
  ∧ Reads .timeRtcStatus .timeRtcStatus (fun _ s =>
      okFigures [(s.clk.rRtc * 4294967296).floor, (s.upNs - s.clk.rtcAt) / 1000000, (nth 0 s.clk.counters tcWakeAdvances).toNat])
  ∧ Sets .timePinConfig .timePinConfig (fun e s => modClk s fun c => { c with pins := modNth c.pins (argBits e 3 0) fun p =>
      { mode := argBits e 6 4, level := argBit e 7, idleLevel := argBit e 8, trig := argBits e 15 12, delayNs := argBits e 31 16
        tNs := argBits e 127 64, periodNs := argBits e 167 128, widthNs := argBits e 231 192, out := argBit e 8
        nextEdge := if argBits e 6 4 = 1 || argBits e 6 4 = 2 then some (argBits e 127 64) else none, fifo := p.fifo } })
  ∧ Sets .timeTriggerConfig .timeTriggerConfig (fun e s =>
      let now := nowNs s
      let t := argBits e 127 64
      let nxt := match argBits e 6 4 with
        | 1 => if now < t then some t else none
        | 2 => some (if now < t then t else nextOnGrid t (argBits e 167 128) now)
        | _ => none
      modClk s fun c => { c with trigs := modNth c.trigs (argBits e 3 0) fun _ =>
        { kind := argBits e 6 4, pin := argBits e 11 8, every := argBits e 55 32, tNs := t, periodNs := argBits e 167 128
          asnBase := argBits e 231 192, nextFire := nxt } })
  ∧ Answers .timeCaptureRead .timeCaptureRead
      (fun e s => modClk s fun c => { c with pins := modNth c.pins (argBits e 3 0) fun p => { p with fifo := [] } })
      (fun e s => okData ((nth PinProg.reset s.clk.pins (argBits e 3 0)).fifo.flatMap fun t => leBytes 8 t.toNat)))

/-- The PAIR commands (R436, R439, R441, R448, R452, R457, R460): a pair is configured or given up, its status read, the active role
relinquished or forced, and a unit-local command of the table run on the unit that receives it. -/
def Obligations.PairCommands : Prop :=
  (∀ e s, ready .pairConfig e s = true → argBit e 0 = false →
    let t := modPair { arrived e s with role := .single } fun p => { p with enabled := false, link := .down, startupEnd := none }
    exec (.pairConfig e) s
      = .next (respond (atWork .pairConfig e (arrived e s) (gateOpenOp t)) e { status := stAccepted } false))
  ∧ (∀ e s, ready .pairConfig e s = true → argBit e 0 = true →
    (closeGate { arrived e s with role := .undecided }).pair.link ≠ .up →
    let a := arrived e s
    let wait := argBits e 79 64 * 1000000 + (if a.straps.unitId then 0 else 2 * argBits e 31 16 * 1000)
    let t := closeGate { a with role := .undecided }
    exec (.pairConfig e) s = .next (respond (atWork .pairConfig e a (modPair t fun p =>
      { p with
        enabled := true, yieldPolicy := argBit e 1, hbUs := argBits e 15 2, leaseUs := argBits e 31 16, guardUs := argBits e 47 32
        replTimeoutUs := argBits e 63 48, startupWaitMs := argBits e 79 64, encSlot := argBits e 86 80, macSlot := argBits e 94 88
        startupEnd := some (t.upNs + wait), helloBad := false, link := .training })) e { status := stAccepted } false))
  ∧ Reads .pairStatus .pairStatus (fun _ s => okData (pairRecord s))
  ∧ Starts .pairRelinquish .pairRelinquish
      (fun _ s => becomeStandby (modPair (closeGate s) fun p => { p with noRenew := true }) .ready)
  ∧ Sets .pairForceSolo .pairForceSolo (fun _ s => if s.role == .active then goSolo s 3 else takeOver s 3)
  ∧ (∀ e s c, admitted .pairLocalApply e s = true → e.stageId = 0 → partRefuses (arrived e s) e .pairLocalApply = false →
      entryCmd (innerEntry (arrived e s) e) = some c → unitLocal c = true → (innerEntry (arrived e s) e).stageId = 0 →
      firstRefusal c (innerEntry (arrived e s) e) { arrived e s with role := .single } (arrived e s) = none →
      exec (.pairLocalApply e) s = .next (runNow c (innerEntry (arrived e s) e) (arrived e s)))

/-- The PWR commands (R464, R467, R468, R472, R473): a domain's policy and the reference's settle time are set, domains are raised or
lowered, and their states and last answers read. A command for domains already as it asks completes with 0. -/
def Obligations.PowerCommands : Prop :=
  Sets .pwrPolicySet .pwrPolicySet (fun e s => modDom s (argBits e 4 0) fun x =>
      { x with
        policy := argBits e 6 5, targetOff := argBit e 7, hsPeriodMs := argBits e 31 16, idleUs := argBits e 55 32
        since := s.upNs })
  ∧ Sets .pwrRefSet .pwrRefSet (fun e s => { s with pwr := { s.pwr with refSettleUs := argBits e 15 0 } })
  ∧ Reads .pwrStatus .pwrStatus (fun _ s => okData ((List.range 24).flatMap fun d =>
      [domCode (domOf s d).state, (domOf s d).policy, natOf (lockedDom s d), domPending (domOf s d)].map (BitVec.ofNat 8)))
  ∧ Reads .pwrBlockQuery .pwrBlockQuery (fun e s =>
      let d := argBits e 4 0
      okFigures ((List.range (domBlocks d)).flatMap fun (i : Nat) =>
        let answer : Nat := nth 0 (domOf s d).answers i
        ([(i : Int), (domDelayUs d : Int), (answer : Int)] : List Int)))
  ∧ (∀ e s, ready .pwrDomainSet e s = true → argBits e 1 0 = 0 →
      ((List.range 24).all fun d => !bitOf (argBits e 63 32) d || (domOf (arrived e s) d).state == .on) = true →
      exec (.pwrDomainSet e) s
        = .next (answerFinal
          (respond (wakeMask (arrived e s) (argBits e 63 32)) e { status := stAccepted } false) e (okFigures [0])))
  ∧ (∀ e s, ready .pwrDomainSet e s = true → argBits e 1 0 = 0 →
      ((List.range 24).all fun d => !bitOf (argBits e 63 32) d || (domOf (arrived e s) d).state == .on) = false →
      exec (.pwrDomainSet e) s = .next (respond
        (atWork .pwrDomainSet e (arrived e s) (wakeMask (arrived e s) (argBits e 63 32))) e { status := stAccepted } false))
  ∧ (∀ e s, ready .pwrDomainSet e s = true → argBits e 1 0 ≠ 0 →
      ((lowerOrder (argBits e 63 32)).all fun d => inLow (arrived e s) d (argBits e 1 0 == 2)) = false →
      let a := arrived e s
      let t := respond (atWork .pwrDomainSet e a { a with pwr := { a.pwr with commands := a.pwr.commands
        ++ [{ e := e, off := argBits e 1 0 == 2, todo := lowerOrder (argBits e 63 32), done := [], answered := false }] } })
        e { status := stAccepted } false
      exec (.pwrDomainSet e) s = .next (if t.pwr.commands.length = 1 then domNext domSteps t else t))

/-- The UPDATE commands (R477, R478, R481, R482, R490): the download area is prepared unless the same header is stored already, blocks are
written once, an activation loads the new image beside the old, and the status is read.
The CAMPAIGN commands (R491 to R499): a campaign is defined anew, given its image and targets, told when to activate, stopped, tuned
and read. -/
def Obligations.UpdateCommands : Prop :=
  (Starts .updateBegin .updateBegin (fun e s =>
      if sameHeader e s then s
      else flashProgram (flashErase (flashErase s flashHeader 65536) flashDownload 65536) flashDownload (inBuf e))
  ∧ Answers .updateWrite .updateWrite
      (fun e s => if blockWritten s (argBits e 31 0 / 4096) then s else (writeBlock s (argBits e 31 0) (inBuf e)).1)
      (fun e s => if blockWritten s (argBits e 31 0 / 4096) then okReply else (writeBlock s (argBits e 31 0) (inBuf e)).2)
  ∧ Starts .updateActivate .updateActivate (fun e s =>
      if argBit e 0 then s else modFw s fun f => { f with old := none, handover := (storedHeader s).bind (loadBank s) })
  ∧ Reads .updateStatus .updateStatus (fun _ s =>
      { okFigures ([runningVersion s, ((storedHeader s).map hdrVersion).getD 0, probationState s, probationCount s
          , s.key.securityFuses, natOf s.key.key0Retired, missingOffset s].map Int.ofNat) with
        data := flashRead s (flashDownload + 0x200) 64 }))
  ∧ (Sets .campaignDefine .campaignDefine (fun e s =>
      let t := flushCampaign s
      { t with cmp :=
        { Campaign.reset with
          state := .loading, id := argBits e 15 0, classId := argBits e 31 16, imageLen := argBits e 63 32, blkLen := argBits e 75 64
          maxRounds := argBits e 87 80, roundSlots := argBits e 127 96, bcastSlots := argBits e 159 128, hash := inBuf e
          unicastMax := t.cmp.unicastMax, unknown := t.cmp.unknown } })
  ∧ Sets .campaignLoad .campaignLoad (fun e s =>
      let lo := argBits e 31 0 / max s.cmp.blkLen 1
      let hi := (argBits e 31 0 + e.bufLen.toNat - 1) / max s.cmp.blkLen 1
      modCmp ((List.range (hi + 1 - lo)).foldl (fun s k => bulkFresh s (.block (lo + k))) s) fun c =>
        { c with image := memWriteBytes 0 c.image (argBits e 31 0) (inBuf e) })
  ∧ Answers .campaignTargets .campaignTargets
      (fun e s => modCmp s fun c => { c with targets := addTargets c.targets (targetAddrs e s) })
      (fun e s => okFigures [((addTargets s.cmp.targets (targetAddrs e s)).length : Int)])
  ∧ Sets .campaignActivate .campaignActivate (fun e s =>
      let t := modCmp s fun c => { c with activateAsn := argBits e 39 0 }
      if argBits e 39 0 = 0 then t else announceTo t fun x => x.state == 3)
  ∧ Sets .campaignStop .campaignStop (fun _ s => if s.cmp.state == .idle then s else flushCampaign (endCampaign s))
  ∧ Reads .campaignStatus .campaignStatus (fun _ s =>
      let c := s.cmp
      okFigures (([(cmpCode c.state : Int), match c.round with | some r => (r : Int) | none => noFigure] : List Int)
        ++ ((List.range 6).map fun k => Int.ofNat (c.targets.filter fun t => t.state == k).length)
        ++ ([c.sentBcast, c.sentUcast, c.statusRx, c.unknown.toNat].map Int.ofNat)))
  ∧ Reads .campaignTargetRead .campaignTargetRead
      (fun e s => okData (((s.cmp.targets.drop (argBits e 15 0)).take (argBits e 31 16)).flatMap targetBytes))
  ∧ Sets .campaignTune .campaignTune (fun e s => modCmp s fun c => { c with unicastMax := argBits e 1 0 }))

/-- The TEST commands (R500 to R507, R513, R514, R516, R518, R519): tests of links and radios start, report and stop, telemetry and
watchdogs are set and read, and faults are injected. -/
def Obligations.TestCommands : Prop :=
  Sets .testLinkStart .testLinkStart (fun e s =>
      let r := argBits e 2 0
      let t := if r < 2 then dropPortFrames (ethLinkOp s r false) r
        else if r = 2 then { losePcie s with host := { (losePcie s).host with pcieUp := false } } else s
      setRun t r { newRun t (argBits e 63 32) with
        pattern := argBits e 5 4, lb := argBits e 7 6, dir := argBits e 9 8
        lanes := List.replicate (linkLanes r) { bits := 0, errors := 0, locked := false, losses := 0 } })
  ∧ Answers .testLinkResult .testLinkResult
      (fun e s =>
        let t := accrueLanes s (argBits e 2 0)
        if argBit e 3 then modRun t (argBits e 2 0) fun x => { x with lanes := x.lanes.map fun l => { l with bits := 0, errors := 0, losses := 0 } }
        else t)
      (fun e s => okData ((((runOf (accrueLanes s (argBits e 2 0)) (argBits e 2 0)).map (·.lanes)).getD []).flatMap laneBytes))
  ∧ (∀ e s, ready .testRadioStart e s = true →
      let b := argBits e 1 0
      let w := (domFabric :: domNear :: domRef :: [domBandA + b]).foldl wakeDomain (arrived e s)
      let t := setRun w (5 + b) { newRun w (argBits e 159 128) with
        kind := argBits e 4 2, lb := argBits e 5 5, channel := argBits e 31 16, profile := argBits e 47 32, offsetKhz := argSigned e 63 48
        len := argBits e 74 64, intervalUs := argBits e 95 80, count := argBits e 127 96 }
      (argBits e 4 2 ≤ 1 → exec (.testRadioStart e) s = .next (answerFinal
        (modTx t (argBand e) fun x => { x with paEn := true, trSw := true, lnaByp := true }) e okReply))
      ∧ (argBits e 4 2 = 3 → exec (.testRadioStart e) s = .next (answerFinal t e okReply))
      ∧ (∀ i, (argBits e 4 2 = 2 ∨ 3 < argBits e 4 2) →
          freeCtx t (((profileOf t (argBits e 47 32)).map isOfdm).getD false) (fun c => c.purpose == .background) = some i →
          exec (.testRadioStart e) s = .next (answerFinal (setCtx t i (armed t { Ctx.idle with
            purpose := .test, band := b, channel := argBits e 31 16, profile := argBits e 47 32, prio := 6
            listenStart := 0, listenEnd := 2 ^ 64, frames := (ctxOf t i).frames } .armed)) e okReply)))
  ∧ (∀ e s t, ready .testRadioResult e s = true → runOf (arrived e s) (5 + argBits e 1 0) = some t →
      exec (.testRadioResult e) s = .next (answerFinal
        (if argBit e 2 then modRun (arrived e s) (5 + argBits e 1 0) fun t => { t with counts := List.replicate 6 0 } else arrived e s) e
        (okData ((t.counts ++ [t.cause]).flatMap (leBytes 4)))))
  ∧ Answers .testStop .testStop
      (fun e s => ((List.range 8).filter fun r => argBit e r && resourceTested s r).foldl (fun s r => stopTest s r causeStop) s)
      (fun e s => okFigures
        [(((((List.range 8).filter fun r => argBit e r && resourceTested s r).map fun r => 2 ^ r).foldl (· + ·) 0 : Nat) : Int)])
  ∧ Reads .testStatus .testStatus (fun _ s => okFigures
      ([(((List.range 8).filter (resourceTested s)).map fun r => 2 ^ r).foldl (· + ·) 0, s.test.resetCause, s.test.kwdStarts
        , s.test.pace].map Int.ofNat))
  ∧ Reads .testTelemetryRead .testTelemetryRead (fun e s => okData ((s.test.telemetry.take (argBits e 10 0)).flatMap telemetryBytes))
  ∧ Sets .testTelemetrySet .testTelemetrySet
      (fun e s => modTest s fun t => { t with telemMs := argBits e 15 0, telemAt := s.upNs + argBits e 15 0 * 1000000 })
  ∧ Sets .testWatchdogSet .testWatchdogSet (fun e s => modTest s fun t => { t with kwdMs := argBits e 15 0, paceFloor := argBits e 31 16 })
  ∧ Sets .testFaultInject .testFaultInject (fun e s =>
      let t := argBits e 23 4
      match argBits e 1 0 with
      | 0 => modNodes s fun d =>
        { d with errors := mapSet d.errors (8 * t + argBits e 26 24) (mapGetD false d.errors (8 * t + argBits e 26 24)) }
      | 1 => modNodes s fun d => { d with errors := mapSet d.errors (8 * t + argBits e 26 24) true }
      | 2 => resetFifo s (.shaping t) 2
      | _ => modSlot s t fun x => { x with share0 := x.share0 ^^^ 1#256 })

/-! Long commands end (R77): what their work leaves, and their final response. -/

/-- The long commands of the part, the node table and Ethernet end (R96, R100 to R102, R291, R304, R318).
The long commands of keys, the cipher lanes, the pair, updates and campaigns end (R321, R343, R366, R439, R460, R477, R480, R484,
R485, R494): a lifecycle advance asks for the cold start that it is followed by, an image verifies or its download is erased, an image
on probation is confirmed or handed back, a campaign starts, and what waited for masks goes on (R341). -/
def Obligations.LongCommandsEnd : Prop :=
  (Ends .sysFunctionReset (fun _ _ => True) (fun _ s => s) (fun _ _ => okReply)
  ∧ Ends .sysQuiesce (fun _ s => s.part = .run ∧ s.quiescing = true ∧ flightsDone s = true) (fun _ s => enterQuiesced s) (fun _ _ => okReply)
  ∧ Ends .sysResume (fun _ s => s.part = .quiesced)
      (fun _ s => { modNodes (eraseMarker s) fun d => { d with snapshot := none } with part := .run }) (fun _ _ => okReply)
  ∧ Ends .nodeCounterSnapshot (fun _ s => s.part = .quiesced) (fun _ s => s)
      (fun op s => okData (((snapshotHeld s).drop (argBits op.e 31 0)).take op.e.bufLen.toNat))
  ∧ Ends .nodeCounterRestore (fun _ s => s.part = .coldWait) (fun op s => (takePiece s op.e).1) (fun op s => (takePiece s op.e).2)
  ∧ Ends .nodeColdChallenge (fun _ s => s.part = .coldWait)
      (fun _ s => { (mapKeys s.node.table).foldl challengeNode s with part := .run }) (fun _ _ => okReply)
  ∧ Ends .nodeTableLoad (fun _ _ => True)
      (fun op s =>
        let l := imageEntries (inBuf op.e)
        let u := (mapKeys s.node.table).foldl unfile s
        let t := modNodes u fun d => { d with table := l.map fun x => (x.1, installedEntry u x.2) }
        l.foldl (fun s x => journalAdd s 2 x.1 x.2.meshAddr x.1)
          (if numbering t then l.foldl (fun s x => fileFrom s x.1 (currentAsn s + 2)) t else t))
      (fun op _ => okFigures [((imageEntries (inBuf op.e)).length : Int)])
  ∧ Ends .ethPortConfig (fun _ _ => True) (fun _ s => s) (fun op s => okFigures [((natOf (ethOf s (argBits op.e 0 0)).up : Nat) : Int)]))
  ∧ (Ends .keyIdentityGenerate (fun _ _ => True)
    (fun _ s => loadIdentity (modKey (drawEntropy s).2 fun k => { k with identitySeed := some (drawEntropy s).1 })) (fun _ _ => okReply)
  ∧ (∀ x tag op s l, worksAs x tag op .keyLifecycleAdvance s → advanceTarget s.key.lifecycle op.ref = some l →
      let t := zeroizeKeys (modKey (ended op s) fun k => { k with lifecycle := l })
      exec (.longCommandComplete x tag) s
        = .next (answerFinal { t with fw := { t.fw with coldStart := true } } op.e (okFigures [(op.ref : Int)])))
  ∧ Ends .cryptRawBlock (fun _ s => masksOut s = false) (fun op s => (rawBlocks op.e s).1) (fun op s => (rawBlocks op.e s).2)
  ∧ Ends .cryptCcmVector (fun _ s => masksOut s = false) (fun op s => (ccmVector op.e s).1) (fun op s => (ccmVector op.e s).2)
  ∧ Ends .keyImportRaw (fun _ s => masksOut s = false) (fun op s => importKey s op.e (inBuf op.e)) (fun _ _ => okReply)
  ∧ Ends .keyImportWrapped (fun _ s => masksOut s = false) (fun op s => (importWrapped op.e s).1) (fun op s => (importWrapped op.e s).2)
  ∧ Ends .keyBlobLoad (fun _ s => masksOut s = false) (fun op s => (blobLoad op.e s).1) (fun op s => (blobLoad op.e s).2)
  ∧ Ends .pairConfig (fun _ s => s.role ≠ .undecided ∨ s.pair.helloBad = true) (fun _ s => s)
      (fun _ s => okFigures [((roleCode s.role : Nat) : Int)])
  ∧ Ends .pairRelinquish (fun _ s => s.pair.claim.toNat < s.pair.seen.toNat) (fun _ s => s) (fun _ _ => okReply)
  ∧ Ends .updateBegin (fun _ _ => True)
      (fun _ s => stageEvent (if eraseDone s then s
        else flashRewrite (flashErase s flashBody 2097152) (flashDownload + 0x100) (leBytes 4 eraseDoneWord)) 1)
      (fun _ s => missingFigure (if eraseDone s then s
        else flashRewrite (flashErase s flashBody 2097152) (flashDownload + 0x100) (leBytes 4 eraseDoneWord)))
  ∧ (∀ x tag op s h, worksAs x tag op .updateVerify s → pendingHeader s = some h →
      (sha256 (flashBodyOf s h) = hdrBodyHash h → exec (.longCommandComplete x tag) s = .next (answerFinal
        (stageEvent (programRecord (flashProgram (ended op s) flashHeader h) fun r =>
          { r with probation := some { confirmed := false, count := 0 } }) 2) op.e okReply))
      ∧ (sha256 (flashBodyOf s h) ≠ hdrBodyHash h → exec (.longCommandComplete x tag) s = .next (answerFinal
        (stageEvent (flashErase (ended op s) flashDownload 65536) 8) op.e (refuse stImageBad))))
  ∧ Ends .updateActivate (fun op _ => argBit op.e 0 = true)
      (fun _ s => modFw s fun f => { f with coldStart := true })
      (fun _ s => okFigures [((((storedHeader s).map hdrVersion).getD 0 : Nat) : Int)])
  ∧ Ends .updateRevert (fun _ s => s.fw.onProbation = true ∧ s.fw.old.isSome = true) (fun _ s => stageEvent (handBack s) 5)
      (fun _ _ => okReply)
  ∧ Ends .updateConfirm (fun _ s => s.fw.onProbation = true) (fun _ s => confirmImage s) (fun _ _ => okReply)
  ∧ Ends .campaignStart (fun _ s => s.cmp.state = .loading)
      (fun op s => announceTo (modCmp s fun c =>
        { c with state := .running, startAsn := argBits op.e 39 0, round := none, planRound := none, collecting := false })
        fun t => t.state == 0)
      (fun op _ => okFigures [((argBits op.e 39 0 : Nat) : Int)]))

/-! The events: what each one that is due leaves. -/

/-- Domains enter and leave their low states (R464 to R469): a handshake period without access asks, blocks that all agree let the
domain enter, one that delays is waited for and one that refuses keeps it On, an idle timer enters Retention or, in a locked domain, runs anew, an entry ends in the
state asked for with what it loses, an access wakes the domain and those it rests on, and a wake ends On with stalled commands started. -/
def Obligations.DomainRows : Prop :=
  (∀ d s, (domOf s d).policy = 1 → (domOf s d).state = .on → (domOf s d).request = none → lockedDom s d = false →
    (domOf s d).since + (domOf s d).hsPeriodMs * 1000000 ≤ s.upNs → mayEnter s d (domOf s d).targetOff = true →
    exec (.handshakePeriod d) s
      = .next (modDom s d fun x => { x with request := some (x.targetOff, false), since := s.upNs, delaying := [] }))
  ∧ (∀ d answers s off cmd, (domOf s d).state = .on → (domOf s d).request = some (off, cmd) →
      let a := (List.range (domBlocks d)).map fun i => blockAnswer s d i ((answers[i]?).getD .agree)
      let t := modDom s d fun x => { x with answers := a.map answerCode }
      ((∀ x ∈ a, x = .agree) → mayEnter t d off = true → exec (.handshakeAnswer d answers) s
        = .next (modDom t d fun x => { x with state := .entering, since := s.upNs, delaying := [] }))
      ∧ ((∀ x ∈ a, x ≠ .refuse) → (∃ x ∈ a, x = .delay) → exec (.handshakeAnswer d answers) s
          = .next (modDom t d fun x => { x with delaying := (List.range a.length).filter fun i => a[i]? == some .delay }))
      ∧ (∀ i, a.findIdx? (· == .refuse) = some i → exec (.handshakeAnswer d answers) s = .next (domRefuse t d i 0)))
  ∧ (∀ d b s, (domOf s d).state = .on → b ∈ (domOf s d).delaying → (domOf s d).since + domDelayUs d * 1000 ≤ s.upNs →
      exec (.handshakeDelayExpiry d b) s = .next (domRefuse s d b 1))
  ∧ (∀ d s, (domOf s d).policy = 2 → (domOf s d).state = .on → (domOf s d).request = none →
      (domOf s d).since + (domOf s d).idleUs * 1000 ≤ s.upNs →
      (lockedDom s d = true → exec (.idleTimerExpiry d) s = .next (modDom s d fun x => { x with since := s.upNs }))
      ∧ (lockedDom s d = false → exec (.idleTimerExpiry d) s
          = .next (modDom s d fun x => { x with state := .entering, request := some (false, false), since := s.upNs })))
  ∧ (∀ d s off, (domOf s d).state = .entering → (domOf s d).request = some (off, false) → (domOf s d).wakeNext = false → d ≠ domRef →
      (domOf s d).since + domEntryNs d ≤ s.upNs →
      let t := domLose (modDom s d fun x => { x with state := if off then .off else .retention, request := none, wakeNext := false }) d off
      exec (.domainEntryComplete d) s
        = .next (if 2 ≤ d && d ≤ 5 && t.queue.ready.any (fun l => !(fifoAll l).isEmpty) then wakeCores t else t))
  ∧ (∀ d s, (∀ x ∈ wakeCascade d ++ [d], (domOf s x).request = none) → exec (.domainWake d) s = .next (wakeDomain s d))
  ∧ (∀ d s, (domOf s d).state = .waking → d ≠ domRef → (domOf s d).since + domWakeNs d (domOf s d).wasOff ≤ s.upNs →
      let t := wakeAnswers (domWoken (modDom s d fun x => { x with state := .on, since := s.upNs }) d (domOf s d).wasOff)
      (domOf t d).state = .on → exec (.domainWakeComplete d) s
        = .next (resumeStalled d (if 2 ≤ d && d ≤ 5 then dispatchWork t else t)))

/-- The events of the keys and the cipher lanes (R330, R336, R341, R365): the pass masks every LOADED slot anew and counts, a revoked
slot without readers is zeroized with the lanes keyed from it and its command answered, the entropy source restarts after a failed
health test and refills the reserve, a lane's mask generator takes a fresh seed. -/
def Obligations.KeyRows : Prop :=
  (∀ s, domState s domKey = .on → masksOut s = false → s.key.remaskAt + 100000000 ≤ s.upNs →
    let t := (List.range 128).foldl remaskSlot s
    exec .remaskPass s = .next (keyCount (modKey t fun k => { k with remaskAt := t.upNs }) kcRemask))
  ∧ (∀ n s, (slotOf s n).state = .loaded → slotCheck (slotOf s n) = (slotOf s n).check → s.key.entRestart = false →
      let m := maskFor (slotOf s n).keyType (drawEntropy s).1
      remaskSlot s n = modSlot (drawEntropy s).2 n fun x =>
        { x with
          share0 := x.share0 ^^^ m, share1 := x.share1 ^^^ m
          check := slotCheck { x with share0 := x.share0 ^^^ m, share1 := x.share1 ^^^ m } })
  ∧ (∀ n s, (slotOf s n).state = .revoked → (slotOf s n).refs = 0 → exec (.revokeDrainDone n) s = .next
      (finishWhere
        (clearLanes (modSlot s n fun x => { x with state := .erased, share0 := 0, share1 := 0, check := 0, epoch := x.epoch + 1 })
          fun l => l.slot == some n)
        (fun op => entryCmd op.e == some .keyRevoke && op.ref == n) fun _ => okReply))
  ∧ (∀ s, exec .entropyHealthFail s = .next (modKey (keyCount s kcEntFail) fun k => { k with entRestart := true }))
  ∧ (∀ s, s.key.entRestart = true → exec .entropyRestartDone s
      = .next (resumeWalks (modKey s fun k => { k with entRestart := false, reserve := 4096 })))
  ∧ (∀ lane s, s.key.entRestart = false → exec (.maskReseed lane) s = .next
      (modLane (drawEntropy s).2 lane fun l => { l with ops := 0, seededAt := s.upNs, seed := (drawEntropy s).1.setWidth 128 }))
  ∧ (∀ lane s, s.key.entRestart = true → 16 ≤ s.key.reserve →
      let d := drawEntropy (modKey s fun k => { k with reserve := k.reserve - 16 })
      exec (.maskReseed lane) s = .next (modLane d.2 lane fun l => { l with ops := 0, seededAt := s.upNs, seed := d.1.setWidth 128 }))

/-- Ethernet frames and links (R305, R318): a packet for the mesh or beyond goes on its way, one for the host goes to its ring, a solicited
neighbor is advertised; a frame that fails its FCS, carries another VLAN, or another's address only counts. A link comes up, or goes
down with the exchange it had open.
The PTP messages (R408, R417, R418): a Sync of the followed master opens an exchange and draws a Delay_Req, its Delay_Resp gives the
measurement ((t2 − t1) − (t4 − t3)) / 2 with an error of 100 ns, a better Announce is followed; a master port answers a Delay_Req and sends
Sync and Announce as they fall due. A message of an unsupported kind counts as rejected. -/
def Obligations.EthernetRows : Prop :=
  ((∀ port f s, (ethOf s port).up = true → (ethOf s port).mode ≠ 0 → resourceTested s port = false → 60 ≤ f.length →
    let p := ethOf s port
    let t := ethCount s port ecRxFrames
    let tagged := decide (leAt f 12 2 = 0x0081)
    let l2 := if tagged then 18 else 14
    let ethType := beNat (sliceBytes f (l2 - 2) 2)
    let pkt := (f.drop l2).take (40 + beNat (sliceBytes (f.drop l2) 4 2))
    let isIp := decide (ethType = 0x86DD) && decide (40 ≤ pkt.length)
    let vlan := decide (tagged = (p.vlanId != 0)) && (!tagged || decide (beNat (sliceBytes f 14 2) % 4096 = p.vlanId))
    exec (.ethRxFrame port f false) s = .next (ethCount t port ecRxFcs)
    ∧ (ethType ≠ 0x88F7 → vlan = false → exec (.ethRxFrame port f true) s = .next (ethCount t port ecVlan))
    ∧ (ethType ≠ 0x88F7 → vlan = true → macOurs p (beNat (sliceBytes f 0 6)) = false →
        exec (.ethRxFrame port f true) s = .next (ethCount t port ecNotOurs))
    ∧ (ethType ≠ 0x88F7 → vlan = true → macOurs p (beNat (sliceBytes f 0 6)) = true →
        (∀ target, isIp = true → solicitTarget p pkt = some target → exec (.ethRxFrame port f true) s
          = .next (ethSendOne (ethCount t port ecNsAnswered) port (neighborAdvert p (sliceBytes f 6 6) pkt target)))
        ∧ (isIp = true → solicitTarget p pkt = none → ipDst pkt / 2 ^ 120 ≠ 0xFF → ownAddress t (ipDst pkt) = false →
            exec (.ethRxFrame port f true) s = .next (ethForward t port f pkt))
        ∧ (isIp = false → p.hostEn = true → exec (.ethRxFrame port f true) s = .next (ethToHost t port p.hostRing f))))
  ∧ (∀ port s, (ethOf s port).mode ≠ 0 → resourceTested s port = false →
      exec (.ethLinkChange port true) s = .next (modEth s port fun p => { p with up := true })
      ∧ exec (.ethLinkChange port false) s
          = .next (modPtp (modEth s port fun p => { p with up := false }) port fun q => { q with exchange := none })))
  ∧ ((∀ port (m : PtpSync) s ms, ptpLive s port = true → s.clk.frozen = none → (ptpOf s port).role = 1 → (ptpOf s port).master = some ms →
    m.unsupported = false → m.domain.toNat = (ptpOf s port).domain → m.sender = ms.announce.sender →
    let q := ptpOf s port
    exec (.ptpSyncRx port m) s = .next (ptpReport
      (ethSend
        (modPtp (heardSource (timeCount s tcSyncRx) (port + 1)) port fun x =>
          { x with exchange := some (m.seqId, m.t1, m.t2 - (q.ethRxNs : Int), m.t3 + (q.ethTxNs : Int)) })
        port
        [ptpFrame (modPtp (heardSource (timeCount s tcSyncRx) (port + 1)) port fun x =>
          { x with exchange := some (m.seqId, m.t1, m.t2 - (q.ethRxNs : Int), m.t3 + (q.ethTxNs : Int)) })
          port 1 m.seqId.toNat 0x7F (ptpStamp 0)])
      port m.seqId (m.t3 + (q.ethTxNs : Int)).toNat))
  ∧ (∀ port (m : PtpSync) s, ptpLive s port = true → s.clk.frozen = none → m.unsupported = true →
      exec (.ptpSyncRx port m) s = .next (timeCount s tcRejected))
  ∧ (∀ port (m : PtpAnnounce) s, ptpLive s port = true → m.unsupported = false → (ptpOf s port).role = 1 →
      m.domain.toNat = (ptpOf s port).domain →
      let follow (keep : Bool) := modClk
        (modPtp (timeCount s tcAnnounceRx) port fun q => { q with master := some ⟨m, s.upNs⟩, exchange := if keep then q.exchange else none }) fun c =>
          { c with utcOffset := m.utcOffset }
      ((ptpOf s port).master = none → exec (.ptpAnnounceRx port m) s = .next (follow false))
      ∧ (∀ ms, (ptpOf s port).master = some ms → ms.announce.sender = m.sender →
          exec (.ptpAnnounceRx port m) s = .next (follow true))
      ∧ (∀ ms, (ptpOf s port).master = some ms → ms.announce.sender ≠ m.sender →
          (listLt (announceKey m) (announceKey ms.announce) = true → exec (.ptpAnnounceRx port m) s = .next (follow false))
          ∧ (listLt (announceKey m) (announceKey ms.announce) = false → exec (.ptpAnnounceRx port m) s = .next s)))
  ∧ (∀ port (m : PtpDelayResp) s ms t1 t2 t3, ptpLive s port = true → s.clk.frozen = none → (ptpOf s port).role = 1 →
      (ptpOf s port).master = some ms → (ptpOf s port).exchange = some (m.seqId, t1, t2, t3) → m.unsupported = false →
      m.domain.toNat = (ptpOf s port).domain → m.sender = ms.announce.sender →
      exec (.ptpDelayRespRx port m) s = .next (measure
        (timeCount (modPtp s port fun q => { q with exchange := none }) tcDelayDone) (port + 1)
        ((((t2 - t1) - (m.t4 - t3) : Int) : Rat) / 2) 100))
  ∧ (∀ port (m : PtpDelayReq) s, ptpLive s port = true → masterSends s port = true → m.unsupported = false →
      m.domain.toNat = (ptpOf s port).domain →
      exec (.ptpDelayReqRx port m) s = .next (ethSend s port [ptpFrame s port 9 m.seqId.toNat 0x7F
        (ptpStamp (m.ingress - ((ptpOf s port).ethRxNs : Int)).toNat ++ beBytes 10 m.sender.toNat)]))
  ∧ (∀ port s, masterSends s port = true → intervalDue s (ptpOf s port).syncSentAt (ptpOf s port).logSync = true →
      let q := ptpOf s port
      let t := nowNs s + q.ethTxNs
      let sync := ptpFrame s port 0 q.syncSeq.toNat q.logSync (ptpStamp (if q.twoStep then 0 else t))
      let followUp := ptpFrame s port 8 q.syncSeq.toNat q.logSync (ptpStamp t)
      let sent := ptpReport (timeCount (ethSend s port (if q.twoStep then [sync, followUp] else [sync])) tcSyncTx) port q.syncSeq t
      exec (.ptpSyncTx port) s
        = .next (modPtp sent port fun x => { x with syncSeq := x.syncSeq + 1, syncSentAt := some sent.upNs }))
  ∧ (∀ port s, masterSends s port = true → intervalDue s (ptpOf s port).annSentAt (ptpOf s port).logAnnounce = true →
      let q := ptpOf s port
      let body := ptpStamp 0 ++ beBytes 2 s.clk.utcOffset.toNat ++ [0, 0] ++ [BitVec.ofNat 8 (masterClass s q), 0] ++ beBytes 2 0
        ++ [0] ++ beBytes 8 s.crypt.routerEui.toNat ++ beBytes 2 (stepsRemoved s) ++ [0]
      let sent := ethSend s port [ptpFrame s port 11 q.announceSeq.toNat q.logAnnounce body]
      exec (.ptpAnnounceTx port) s
        = .next (modPtp sent port fun x => { x with announceSeq := x.announceSeq + 1, annSentAt := some sent.upNs })))

/-- Time's own events (R408 to R410, R420 to R425, R427): the servo's update, a source that falls silent, pulses in and out, captures,
output edges, triggers, the measurement of the RTC, and a lapse of `unc_free_s`.
The reference stops and runs again (R426, R470): at the RTC edge after the request the time freezes and REF is Off, and after the
settle time it stands further by the periods that passed; commands that waited for REF start. -/
def Obligations.TimeRows : Prop :=
  ((∀ s, s.clk.frozen = none → s.clk.nextUpdate ≤ nowNs s → exec .servoUpdate s = .next (servoUpdate s))
  ∧ (∀ s, (srcOf s.clk 3).valid = true → (srcOf s.clk 3).heardAt + 3000000000 ≤ s.upNs →
      exec (.sourceInvalid 3) s = .next (invalidate s 3))
  ∧ (∀ k s ms, k = 1 ∨ k = 2 → (srcOf s.clk k).valid = true → (ptpOf s (k - 1)).master = some ms →
      ((srcOf s.clk k).heardAt + 3 * logInterval (ptpOf s (k - 1)).logSync ≤ s.upNs
        ∨ ms.heardAt + 3 * logInterval (ptpOf s (k - 1)).logAnnounce ≤ s.upNs) →
      exec (.sourceInvalid k) s = .next (invalidate s k))
  ∧ (∀ s, s.clk.frozen = none →
      let x := ((nowNs s : Int) - s.clk.ppsInNs) % 1000000000
      exec .ppsInEdge s = .next (measure (heardSource (timeCount s tcPpsIn) 3) 3
        (((if 500000000 ≤ x then x - 1000000000 else x) : Int) : Rat) 100))
  ∧ (∀ s, s.clk.frozen = none →
      let sec := (nowNs s + s.clk.ppsOutNs) / 1000000000
      (∀ r, s.clk.ppsOutRise = some r → (r + s.clk.ppsOutNs) / 1000000000 < sec) →
      exec .ppsOutSecond s = .next (modClk s fun c => { c with ppsOutRise := some (sec * 1000000000 - s.clk.ppsOutNs) }))
  ∧ (∀ pin rising s, s.clk.frozen = none →
      let p := nth PinProg.reset s.clk.pins pin
      (p.mode = 3 ∧ rising = true ∨ p.mode = 4 ∧ rising = false ∨ p.mode = 5) →
      (16 ≤ p.fifo.length → exec (.captureEdge pin rising) s = .next (timeCount s tcCaptureLost))
      ∧ (p.fifo.length < 16 → exec (.captureEdge pin rising) s = .next ((List.range 14).foldl
          (fun u i => match u.clk.trigs[i]? with | some g => if g.kind = 4 && g.pin = pin then fireTrigger u i else u | none => u)
          (modClk s fun c =>
            { c with pins := modNth c.pins pin fun q => { q with fifo := q.fifo ++ [BitVec.ofInt 64 ((nowNs s : Int) - p.delayNs)] } }))))
  ∧ (∀ pin s t, (nth PinProg.reset s.clk.pins pin).nextEdge = some t → t + (nth PinProg.reset s.clk.pins pin).delayNs ≤ nowNs s →
      exec (.eventPinEdge pin) s = .next (modClk s fun c => { c with pins := modNth c.pins pin fun p => pinEdge p t }))
  ∧ (∀ i s g t, s.clk.trigs[i]? = some g → g.nextFire = some t → t ≤ nowNs s →
      exec (.internalTriggerFire i) s = .next (fireTrigger
        (modClk s fun c => { c with trigs := modNth c.trigs i fun x =>
          { x with nextFire := if g.kind = 2 then some (nextOnGrid g.tNs g.periodNs (nowNs s)) else none } }) i))
  ∧ (∀ ns s, s.clk.frozen = none → exec (.rtcWindowEnd ns) s = .next (modClk s fun c =>
      { c with rRtc := ((((ns : Rat) / 32768 * 4294967296).floor : Int) : Rat) / 4294967296, rtcAt := s.upNs }))
  ∧ (∀ s, sourceList s = [] → s.clk.uncFrom + s.clk.uncFreeS * 1000000000 ≤ s.upNs → s.clk.uncertain = true →
      exec .uncFreeExpiry s = .next (modClk s fun c => { c with u0 := some 0, tM := c.timeNs.toNat, uncertain := false })))
  ∧ ((∀ s, (domOf s domRef).state = .entering → s.clk.frozen = none → (domOf s domRef).wakeNext = false → mayEnter s domRef true = true →
    ethInUse s = false → bandsNotOff s = false →
    exec .ephemerisFreeze s = .next (domGoOn
      (modDom (modClk s fun c => { c with frozen := some { tFreeze := c.timeNs, fracFreeze := c.timeFrac, atNs := s.upNs } }) domRef
        fun x => { x with state := .off, request := none, wakeNext := false, since := s.upNs }) domRef true))
  ∧ (∀ s f, s.clk.frozen = some f → (domOf s domRef).state = .waking →
      (domOf s domRef).since + s.pwr.refSettleUs * 1000 ≤ s.upNs →
      let g := gapPeriods s (s.upNs - f.atNs)
      let t := wakeAnswers (modDom (resumeClock g.2 g.1) domRef fun x => { x with state := .on, since := g.2.upNs })
      t.clk.frozen = none → exec .ephemerisResume s = .next (resumeStalled domRef (flushWake t))))

/-- IDCODE shifts out the version 0x2, the part number 0x7316, the manufacturer's identity and a 1 (R511). -/
def Obligations.IdcodeReads : Prop :=
  ∀ s, ∃ t, exec .idcode s = .next t ∧ t.test.tapDr.extractLsb' 28 4 = 2 ∧ t.test.tapDr.extractLsb' 12 16 = 0x7316
    ∧ t.test.tapDr.extractLsb' 1 11 = Config.jedecId ∧ t.test.tapDr.extractLsb' 0 1 = 1

/-- The instructions of the test access port (R510, R512): SAMPLE/PRELOAD, IDCODE and BYPASS change the port alone, as does a vendor
instruction that is not available, which acts as BYPASS; EXTEST, CLAMP and HIGHZ close the gate, zeroize the keys and hold the part in
reset; TRST_N low loads IDCODE and ends such a hold with a cold start. -/
def Obligations.TapInstructions : Prop :=
  (∀ s, exec .samplePreload s = .next { s with test := { s.test with tapIr := 0x01 } })
  ∧ (∀ s, exec .idcode s = .next { s with test := { s.test with tapIr := 0x02, tapDr := idcodeValue } })
  ∧ (∀ s, exec .bypass s = .next { s with test := { s.test with tapIr := 0xFF, tapDr := 0 } })
  ∧ (∀ op s, vendorAvailable s op = false → exec (.vendorInstruction op) s = .next { s with test := { s.test with tapIr := op, tapDr := 0 } })
  ∧ (∀ i ir, (i = .extest ∧ ir = 0x00 ∨ i = .clamp ∧ ir = 0x03 ∨ i = .highz ∧ ir = (0x04 : Byte)) → ∀ s,
      let z := zeroizeKeys (closeGate s)
      let r := resetState z z.test.resetCause
      exec i s = .next { r with key := { r.key with slots := z.key.slots }, test := { r.test with tapIr := ir, held := true } }
      ∧ r.pair.gateOpen = false ∧ (∀ x ∈ z.key.slots, x.state = .erased ∧ x.share0 = 0 ∧ x.share1 = 0))
  ∧ (∀ s, s.test.held = false → exec .trstLow s = .next { s with test := { s.test with tapIr := 0x02, tapDr := idcodeValue } })
  ∧ (∀ s, s.test.held = true →
      exec .trstLow s = .next (coldStart { s with test := { s.test with tapIr := 0x02, tapDr := idcodeValue } } 3))

/-- Resets (R98, R348, R512, R525, R527): a view's function-level reset puts its registers at their reset values and keeps its latches; RESET_N
low resets everything but the flash, the fuses, the always-on domain and the straps; its release samples the straps and boots, tampered
into TAMPER_LOCK, else through the keys and the epochs to the loader's decision; PERST_N released brings the link up. -/
def Obligations.ResetRows : Prop :=
  (∀ s, pcieExists s = true →
      let t := loseViewSessions s .priv
      exec (.functionLevelReset .priv) s = .next (modView t .priv fun w => { ViewIf.reset .priv with latches := w.latches, signalled := w.signalled }))
  ∧ (∀ s, pcieExists s = true →
      let t := loseViewSessions s .unpriv
      let u := dropCuts (loseRingFrames (modView t .unpriv fun w =>
        { ViewIf.reset .unpriv with latches := w.latches, signalled := w.signalled })) fun _ => true
      exec (.functionLevelReset .unpriv) s = .next { u with host := { u.host with
        rx := List.replicate 16 RxRing.reset, ts := TsQueue.reset
        tx := u.host.tx.map fun x => { TxRing.reset with era := x.era + 1 } } })
  ∧ (∀ straps alarms s, s.resetHigh = false →
      exec (.partReset straps alarms) s = .next (boot { resetState s 0 with straps := straps, resetHigh := true } alarms))
  ∧ (∀ straps alarms s, s.resetHigh = true → s.fw.coldStart = true →
      exec (.partReset straps alarms) s = .next (boot (resetState s 2) alarms))
  ∧ (∀ s alarms, bootsTampered (sampleTamper s alarms) = true →
      boot s alarms = { advanceEpochs (sampleTamper s alarms) with part := .tamperLock })
  ∧ (∀ s alarms, bootsTampered (sampleTamper s alarms) = false → (sampleTamper s alarms).straps.bootSrc.toNat < 2 →
      boot s alarms = reportFailed (bootDecision (countWatchdog (advanceEpochs (loadKeys (sampleTamper s alarms))))))
  ∧ (∀ s h, storedHeader s = some h → headerOk s h = true → threeFailures s = false → bodyMatches s h = true →
      (bootDecision s).part = .coldWait ∧ (bootDecision s).fw.running = loadBank s h)
  ∧ (∀ s, (∀ h, storedHeader s = some h → headerOk s h = false) → pendingHeader s = none → (bootDecision s).part = .loader)
  ∧ (∀ s, exec .resetAssert s = .next (resetState { s with resetHigh := false } 0))
  ∧ (∀ s, exec .powerLoss s = .next (modTest (resetState { s with resetHigh := false } 0) fun t => { t with kwdStarts := 0 }))
  ∧ (∀ s, exec .aonPowerOn s = .next (modKey (modTest (resetState { s with resetHigh := false } 0) fun t => { t with kwdStarts := 0 })
      fun k => { k with tampered := false, firstMask := 0 }))
  ∧ (∀ s cause, (resetState s cause).part = .boot ∧ (resetState s cause).role = .undecided ∧ (resetState s cause).pair.gateOpen = false
      ∧ (resetState s cause).fw.flash = s.fw.flash ∧ (resetState s cause).key.lifecycle = s.key.lifecycle
      ∧ (resetState s cause).key.tampered = s.key.tampered)
  ∧ (∀ s, partAnswers s = true → pcieExists s = true → resourceTested s 2 = false →
      exec .perstRelease s = .next { s with host := { s.host with pcieUp := true } })

/-- Watchdogs and tamper alarms (R345, R401, R483, R513): a failure on probation hands back to the old image, or, with none, cold-starts the part
and counts; a core that misses its check-in off probation cold-starts it and says so; an owner that makes no handshake loses its grant
and its function is reset; an armed source latches TAMPERED, advances the fuse once, zeroizes the keys and raises EV_TAMPER, and one that
is not armed only shows. -/
def Obligations.WatchRows : Prop :=
  (∀ s, firmwareRuns s = true → s.fw.onProbation = true →
    (s.fw.old.isSome = true → exec .probationFailure s = .next (stageEvent (countFailure (handBack s)) 5))
    ∧ (s.fw.old = none → exec .probationFailure s
        = .next (coldStart (modTest s fun t => { t with kwdStarts := t.kwdStarts + 1 }) 1)))
  ∧ (∀ core s, firmwareRuns s = true → s.fw.onProbation = false → core < 8 → domState s (domCore0 + core / 2) = .on →
      let t := coldStart (modTest s fun t => { t with kwdStarts := t.kwdStarts + 1 }) 1
      exec (.kernelWatchdogExpiry core) s = .next (raiseEvent t evWatchdog 1 core t.test.kwdStarts s.test.kwdMs))
  ∧ (∀ owner bank s, firmwareRuns s = true → (domOf s (7 + bank / 4)).state = .on →
      (nth { owner := none, last := [] } s.queue.banks bank).owner = some owner →
      let t := modQueue s fun q => { q with banks := modNth q.banks bank fun x => { x with owner := none } }
      let u := queueCount (ownerReset t owner) qcWdResets 1
      exec (.fabricWatchdogExpiry owner bank) s = .next (raiseEvent u evWatchdog 0 owner bank u.queue.wdUs))
  ∧ (∀ sources s,
      let m := modKey s fun k => { k with liveLevels := sources }
      let mask := sources.toNat &&& armedMask m
      (mask = 0 → exec (.tamperAlarm sources) s = .next m)
      ∧ (mask ≠ 0 →
          let t := tamperAlarmOp m mask (alarmPhase m)
          exec (.tamperAlarm sources) s = .next
            ((t.radio.ctxs.filter fun x => (x.2.rx.map fun r => r.cut.isSome).getD false).foldl (fun s x => poisonCut s x.1) t)))
  ∧ (∀ s mask phase, let k := (modKey (keyCount s kcAlarms) fun k => { k with
        tampered := true, firstMask := if k.firstMask = 0 then BitVec.ofNat 8 mask else k.firstMask
        tamperCount := if !s.key.tampered then min 8 (k.tamperCount + 1) else k.tamperCount })
      let z := zeroizeKeys k
      let d : State := { z with pwr := { z.pwr with doms := modNth z.pwr.doms domKey fun x =>
        match x.state with | .on => x | _ => { x with state := .off, request := none } } }
      tamperAlarmOp s mask phase
        = failFunction (raiseEvent d evTamper mask d.key.tamperCount phase (lifeCode d.key.lifecycle)) 0x08 stTampered)

/-- The slot engine (R36, R43, R214, R217, R248 to R250, R254): a slot is prepared at its lead and handed over 50 µs before its boundary, a
boundary begins its slot with triggers, gates, keys and bands, an anchor starts the numbering, a contact missed counts and the third one
puts its node ADRIFT, an ADRIFT node's hold ends with its frames flushed, and the third beacon missed of a parent enters HOLDOVER. -/
def Obligations.SlotRows : Prop :=
  (∀ s, s.orbit.anchored = true → firmwareRuns s = true →
    let n := nextPrepared s
    let view := modeView s (slotView (stagedView n s) n) n
    slotBoundary view n - (leadNs s : Int) ≤ (nowNs s : Int) →
    exec .slotPreparation s = .next (overrunEvent (mergePlanned s (planSlot view n)) n))
  ∧ (∀ s p, s.role ≠ .standby → radioStopped s = false → (s.orbit.plans.find? fun p => !p.handed) = some p →
      handOffNs p.t0 ≤ nowNs s → exec .planHandOff s = .next (handPlan s p))
  ∧ (∀ s, s.role ≠ .standby → radioStopped s = true → exec .planHandOff s = .next s)
  ∧ (∀ s, numbering s = true →
      let n := nextSlot s
      slotBoundary (frameInForce s n) n ≤ (nowNs s : Int) →
      let begun := slotTriggers (modOrbit (frameInForce s n) fun o => { o with slot := some n }) n
      let framed := if isFrameBoundary begun n then frameBoundary begun else begun
      let gated := modQueue framed fun q => { q with gates := q.gates.all (gatesAt n) }
      let t := bands.foldl (fun s b => bandBoundary s n b) (rollAt gated n)
      exec .slotBoundary s = .next (dropPlans (if quiesceWaits t then radioHalts t else t) n))
  ∧ (∀ s, s.orbit.anchored = true → s.orbit.state = .idle → s.orbit.anchorNs ≤ nowNs s →
      let t := modOrbit s fun o => { o with state := if o.follow then .acquiring else .run }
      exec .orbitAnchorReached s = .next ((mapKeys t.node.table).foldl (fun u i =>
        match nodeAt u i with
        | some n => if meetsPart u n && !awaitsJoin u i && !isFiled u i && n.nextWake = 0 then fileFrom u i (u.orbit.anchorAsn + 2) else u
        | none => u) t))
  ∧ (∀ i s n asn c, nodeAt s i = some n → missedContact s n.meshAddr = some (asn, c) →
      let t := orbitCount
        (modNode (modPlan s asn fun p => { p with contacts := p.contacts.map fun x => if x = c then { x with expected := false, dls := [] } else x }) i
          fun n => if n.adrift then n else { n with misses := min 3 (n.misses + 1) }) ocMiss
      (n.misses = 2 → n.adrift = false → exec (.contactMiss i) s = .next (sendContact (enterAdrift t i n) i))
      ∧ (n.misses ≠ 2 ∨ n.adrift = true → exec (.contactMiss i) s = .next (sendContact t i)))
  ∧ (∀ i s n, nodeAt s i = some n → n.adrift = true → numbering s = true → n.adriftDeadline ≤ currentAsn s →
      exec (.adriftDeadline i) s = .next (flushNode s n.meshAddr))
  ∧ (∀ b s, s.orbit.parentNext.isSome = true → exec (.parentCellMissed b) s = .next s)
  ∧ (∀ b s k, s.orbit.parents ≠ [] → enginePlans s = true → bandState s b = .on → s.orbit.parentNext = none → s.orbit.parent = some k →
      let t := orbitCount s ocParentMissed
      (t.orbit.parentMiss < 2 → exec (.parentCellMissed b) s = .next (modOrbit t fun o => { o with parentMiss := o.parentMiss + 1 }))
      ∧ (2 ≤ t.orbit.parentMiss →
          let asn := currentAsn t
          let next := nextCandidate t k
          exec (.parentCellMissed b) s = .next (modOrbit
            (raiseEvent t evTimeParentLost k (next.getD 0xFFFFFFFF) (asn % 2 ^ 32) (asn / 2 ^ 32)) fun o =>
            { o with
              state := .holdover, parentMiss := 0, parent := if next.isSome then o.parent else none, parentNext := next
              parentDepth := none })))

/-- The node table at work (R16, R283, R284, R286, R287): an aging visit clears `hit`, leaves the entry, or sends a compare-and-delete to the
node's flow; the scrubber reads one word; the compare reads one entry beside its shadow copy. What a pass finds is repaired, and with a bank
of the table below On each wakes it instead. -/
def Obligations.TableRows : Prop :=
  (∀ s, anyLow s tableDoms = true →
    (s.node.ageS ≠ 0 → tableFrozen s = false → s.role ≠ .standby → exec .agingVisit s = .next (accessDoms s tableDoms))
    ∧ (∀ sh, exec (.scrubRead sh) s = .next (accessDoms s tableDoms))
    ∧ (∀ sh, s.node.shadowOn = true → s.node.overflow = false → exec (.shadowCompare sh) s = .next (accessDoms s tableDoms)))
  ∧ (∀ s, (s.node.ageS = 0 ∨ tableFrozen s = true ∨ s.role = .standby) → exec .agingVisit s = .next s)
  ∧ (∀ s, anyLow s tableDoms = false → s.node.ageS ≠ 0 → tableFrozen s = false → s.role ≠ .standby →
      let a := accessDoms s tableDoms
      let i := a.node.agePos
      let t := modNodes a fun d => { d with agePos := (d.agePos + 1) % 262144 }
      (nodeAt t i = none → exec .agingVisit s = .next t)
      ∧ (∀ n, nodeAt t i = some n →
          let children := routeKind n == 2 && decide (0 < ((mapGet t.route.relays (routeSlot n)).map (·.childCount)).getD 0)
          let keeps := n.isStatic || underRepair t i || children || !(framesFor t n.meshAddr).isEmpty
          (keeps = true → exec .agingVisit s = .next t)
          ∧ (keeps = false → n.hit = true → exec .agingVisit s = .next (modNode t i fun n => { n with hit := false }))
          ∧ (keeps = false → n.hit = false → exec .agingVisit s = .next (commitDeletes (modNodes t fun d =>
              { d with ageDeletes := if d.ageDeletes.contains n.meshAddr then d.ageDeletes else d.ageDeletes ++ [n.meshAddr] })))))
  ∧ (∀ s a, s.node.ageDeletes = [a] →
      ((flowOf s (flowIndex a)).busy = true → commitDeletes s = s)
      ∧ ((flowOf s (flowIndex a)).busy = false → commitDeletes s = commitDelete s a))
  ∧ (∀ s a i n, let t := modNodes s fun d => { d with ageDeletes := d.ageDeletes.filter (· != a) }
      lookupAddr t a = some i → nodeAt t i = some n →
      (n.hit = true → commitDelete s a = nodeCount t ncAgeCancelled)
      ∧ (n.hit = false → agingSkips t i n = false → commitDelete s a = nodeCount (deleteNode t i 4) ncAgeDeleted)
      ∧ (n.hit = false → agingSkips t i n = true → commitDelete s a = t))
  ∧ (∀ sh s, anyLow s tableDoms = false → (accessDoms s tableDoms).node.repair = [] →
      let a := accessDoms s tableDoms
      let i := a.node.scrubPos / 8
      let t := modNodes (readWord a i (a.node.scrubPos % 8)) fun d => { d with scrubPos := (d.scrubPos + 1) % 2097152 }
      (mapGet t.node.repair i = none → exec (.scrubRead sh) s = .next t)
      ∧ (∀ r, mapGet t.node.repair i = some r → exec (.scrubRead sh) s = .next (repairEntry t i r.cause r.words sh)))
  ∧ (∀ sh s i r rest, anyLow s tableDoms = false → (accessDoms s tableDoms).node.repair = (i, r) :: rest →
      exec (.scrubRead sh) s = .next (repairEntry (accessDoms s tableDoms) i r.cause r.words sh))
  ∧ (∀ sh s, anyLow s tableDoms = false → s.node.shadowOn = true → s.node.overflow = false →
      let a := accessDoms s tableDoms
      let i := a.node.cmpPos
      let t := modNodes (readEntryWords a i) fun d => { d with cmpPos := (d.cmpPos + 1) % 262144 }
      (∀ r, mapGet t.node.repair i = some r → exec (.shadowCompare sh) s = .next (repairEntry t i r.cause r.words sh))
      ∧ (mapGet t.node.repair i = none →
          (shadowDiff t i sh = 0 → exec (.shadowCompare sh) s = .next t)
          ∧ (shadowDiff t i sh ≠ 0 → (∀ r ∈ t.node.journal, r.index ≠ i ∧ r.fromIndex ≠ i) →
              exec (.shadowCompare sh) s = .next (repairEntry t i 1 (shadowDiff t i sh ||| 1) sh))
          ∧ (shadowDiff t i sh ≠ 0 → (∃ r ∈ t.node.journal, r.index = i ∨ r.fromIndex = i) →
              exec (.shadowCompare sh) s = .next t)))
  ∧ (∀ sh s, (s.node.shadowOn = false ∨ s.node.overflow = true) → exec (.shadowCompare sh) s = .next s)

/-- Bands, calibrations and coexistence (R184 to R186, R197, R198, R204 to R207): a band enters and leaves service, faults and tries to return
at its slotframe boundaries; a channel calibration locks, repeats or ends in a fault; a due background calibration runs in a gap; the
coexistence grant comes and goes, and a launch it governs is judged first. -/
def Obligations.BandRows : Prop :=
  (∀ b s t, bandState s b = .pendingOn → (s.radio.tx.get b).onAfter = some t → atFrameBoundary s t = true →
    exec (.bandOn b) s = .next (bandGoesOn s b))
  ∧ (∀ b s, bandState s b = .draining → (s.radio.tx.get b).burst = [] → bandCtxs s b ctxBusy = [] →
      exec (.bandDrainEnd b) s = .next (bandGoesOff s b))
  ∧ (∀ b s, bandState s b ≠ .off → bandState s b ≠ .fault → exec (.bandFault b) s = .next (bandFaults s b))
  ∧ (∀ b s, bandState s b = .fault → (s.radio.tx.get b).attempts ≠ 0 → atFrameBoundary s ((s.radio.tx.get b).onAfter.getD 0) = true →
      exec (.faultReturnAttempt b true) s = .next (bandGoesOn (modTx (txCount s b tcCalChan) b fun x => { x with calFails := 0 }) b)
      ∧ (let t := txCount (modTx s b fun x => { x with attempts := x.attempts - 1, onAfter := some (nowNs s + 1) }) b tcCalFail
         exec (.faultReturnAttempt b false) s
           = .next (if (s.radio.tx.get b).attempts = 1 then enableEnds t b stBandBusy else t)))
  ∧ (∀ b s lo start, let t := calStarts s b
      calNeed t b = some (lo, start) → start + 48000 ≤ nowNs t →
      exec (.channelCalibration b true) s = .next (txCount
        (modTx t b fun x => { x with lo := some lo, calLo := none, calEnd := some (start + 48000), calFails := 0 }) b tcCalChan)
      ∧ ((t.radio.tx.get b).calFails = 0 → exec (.channelCalibration b false) s = .next (modTx
          (txCount (txCount t b tcCalChan) b tcCalFail) b fun x => { x with calLo := some lo, calEnd := some (start + 96000), calFails := 1 }))
      ∧ ((t.radio.tx.get b).calFails ≠ 0 →
          exec (.channelCalibration b false) s = .next (bandFaults (txCount (txCount t b tcCalChan) b tcCalFail) b)))
  ∧ (∀ b w tempQ s, let t := bgOverdue (calStarts s b) b; let i := bgIndex w
      (bgIsDue t (t.radio.tx.get b) i tempQ = true → bgGap t b (bgTimes i).1 = true →
        exec (.backgroundCalibration b ⟨w, tempQ⟩) s = .next (calRunAnswers
          (txCount
            (modTx t b fun x =>
              { x with
                calEnd := some (nowNs t + (bgTimes i).1), calLo := none, bgAt := modNth x.bgAt i fun _ => t.upNs
                bgDue := modNth x.bgDue i fun _ => false, bgOver := modNth x.bgOver i fun _ => false
                bgTempQ := if i = 0 then tempQ else x.bgTempQ })
            b tcCalBg) b))
      ∧ ((bgIsDue t (t.radio.tx.get b) i tempQ = false ∨ bgGap t b (bgTimes i).1 = false) →
          exec (.backgroundCalibration b ⟨w, tempQ⟩) s = .next t))
  ∧ (∀ b s, (s.radio.tx.get b).grant = false →
      let granted (u : State) : State := modTx u b fun x => { x with grant := true, grantAt := nowNs u }
      ((s.radio.tx.get b).coexEnable = false → exec (.coexGrantAsserted b) s = .next (granted s))
      ∧ ((s.radio.tx.get b).coexEnable = true →
          exec (.coexGrantAsserted b) s = .next (launchOp (granted (launchOp s b)) b)))
  ∧ (∀ b s, let t := if (s.radio.tx.get b).coexEnable then launchOp s b else s; let x := inForce (t.radio.tx.get b)
      let u := modTx t b fun x => { x with grant := false }
      (x.coexEnable = true → x.coexAbort = true → x.burst ≠ [] →
        exec (.coexGrantWithdrawn b) s = .next (cutBurst u b (some tcCoexAbort)))
      ∧ ((x.coexEnable = false ∨ x.coexAbort = false ∨ x.burst = []) → exec (.coexGrantWithdrawn b) s = .next u))

/-- Launches and bursts (R27, R29, R188 to R193, R195, R210, R256, R299, R358): a launch is encrypted where the pool has room for it; with no
burst under way the lines switch ahead of the first launch; a launch starts its ramp on time or late, is cancelled, or waits; an
acknowledgement's ramp starts ahead of its decision and commits or is abandoned at tL; a burst ends with its airtime charged. -/
def Obligations.LaunchRows : Prop :=
  (∀ b s l, ((s.radio.tx.get b).queue.find? fun l =>
        l.psdu.isNone && !isAckLaunch l && decide (l.tL ≤ nowNs s + 40000) && !waitsForTwin s l && !followUntold s l) = some l →
      (l.record = none → frameBufferRoom s (plainLen s l) = true → exec (.launchEncrypt b) s = .next (encryptNow s l))
      ∧ (l.record = none → frameBufferRoom s (plainLen s l) = false → exec (.launchEncrypt b) s = .next s)
      ∧ (∀ r f, l.record = some r → recordOf s r = some f →
          let fits := f.dest = addrBroadcast ∨ f.ftype = ftJoinRsp ∨ launchTooLong s f = false
          let len := ((profileOf s l.profile).map fun p => psduLen p (hopsTo s f.dest) f.payload.length).getD 0
          (bulkBad s (.pending r) = true →
            exec (.launchEncrypt b) s = .next (completeFrame (bulkLose s (.pending r)) r fsFlushed false false))
          ∧ (bulkBad s (.pending r) = false → ¬ fits → exec (.launchEncrypt b) s
              = .next (completeFrame (routeCount s rcTooLong) r fsFlushed false true))
          ∧ (bulkBad s (.pending r) = false → fits → frameBufferRoom s len = true →
              exec (.launchEncrypt b) s = .next (encryptNow s l))
          ∧ (bulkBad s (.pending r) = false → fits → frameBufferRoom s len = false → exec (.launchEncrypt b) s = .next s)))
  ∧ (∀ b s, (s.radio.tx.get b).burst = [] → let t := linesDue (calStarts (releaseLines s b) b) b
      ((s.radio.tx.get b).queue.find? isAckLaunch = none → exec (.burstStart b) s = .next t)
      ∧ (∀ l, (s.radio.tx.get b).queue.find? isAckLaunch = some l → nowNs s + rampNs (s.radio.tx.get b) + (s.radio.tx.get b).txPathNs < l.tL →
          exec (.burstStart b) s = .next t ∧ exec (.ackLaunch b) s = .next t)
      ∧ (∀ l, (s.radio.tx.get b).queue.find? isAckLaunch = some l → l.tL ≤ nowNs s + rampNs (s.radio.tx.get b) + (s.radio.tx.get b).txPathNs →
          s.pair.gateOpen = true → (bandState s b = .on ∨ bandState s b = .draining) →
          exec (.ackLaunch b) s = .next (carriersEnd (carriersDue (rampUp t b l l.tL) b) b))
      ∧ (∀ l, (s.radio.tx.get b).queue.find? isAckLaunch = none → (s.radio.tx.get b).queue.find? (fun l => !isAckLaunch l) = some l →
          exec (.launch b) s = .next (judgeLaunch t b l)))
  ∧ (∀ b s l rest, (s.radio.tx.get b).queue = l :: rest →
      let x := s.radio.tx.get b; let due := nowNs s + x.txPathNs
      x.paLeadUs ≤ 20 →
      (due + x.coexLeadUs * 1000 < l.tL → due + 20000 < l.tL → linesDue s b = s)
      ∧ (due + 20000 < l.tL → l.tL ≤ due + x.coexLeadUs * 1000 → linesDue s b = requestLines s b l))
  ∧ (∀ b s l tA, let x := s.radio.tx.get b
      followUntold s l = false → chainLaunches s b = true → earliest s b l = some tA →
      ((l.tL + lateBound l < tA ∨ (l.tL < tA ∧ endsInSlot s b l tA = false)) → judgeLaunch s b l = cancelLaunch s l true)
      ∧ (tA ≤ l.tL + lateBound l → (tA ≤ l.tL ∨ endsInSlot s b l tA = true) →
          (tA ≤ nowNs s + rampNs x + x.txPathNs → judgeLaunch s b l = carriersEnd (carriersDue (rampUp s b l tA) b) b)
          ∧ (nowNs s + rampNs x + x.txPathNs < tA → judgeLaunch s b l = s)))
  ∧ (∀ b s l, followUntold s l = false → chainLaunches s b = false →
      (l.tL ≤ nowNs s → judgeLaunch s b l = cancelLaunch s l false) ∧ (nowNs s < l.tL → judgeLaunch s b l = s))
  ∧ (∀ b s l, let x := s.radio.tx.get b
      followUntold s l = false → chainLaunches s b = true → earliest s b l = none → l.tL + lateBound l ≤ nowNs s →
      ((x.coexEnable = true ∧ x.grant = false) → judgeLaunch s b l = cancelLaunch (txCount s b tcCoexDenied) l false)
      ∧ ((x.coexEnable = false ∨ x.grant = true) → judgeLaunch s b l = cancelLaunch s l true))
  ∧ (∀ b s l, ((s.radio.tx.get b).burst.filter fun l => l.carrier == .ramping && decide (l.tA ≤ nowNs s)) = [l] →
      (isAckLaunch l = false → carriersDue s b = launchNow s b l)
      ∧ (isAckLaunch l = true →
          ((l.decided = false ∨ l.psdu = none) → carriersDue s b = abandonAck s b l tcAckAbandoned)
          ∧ (l.decided = true → l.psdu ≠ none → (inForce (s.radio.tx.get b)).coexEnable = true → (s.radio.tx.get b).grant = false →
              carriersDue s b = abandonAck s b l tcCoexDenied)
          ∧ (l.decided = true → l.psdu ≠ none → ((inForce (s.radio.tx.get b)).coexEnable = false ∨ (s.radio.tx.get b).grant = true) →
              carriersDue s b = if l.kind = .challenge then cryptCount (goOnAir s b l) xcChalSent 1
                else ackSent (goOnAir s b l) l.addr (BitVec.ofNat 32 (leAt l.payload 0 4)))))
  ∧ (∀ b s, let x := s.radio.tx.get b
      x.burst ≠ [] → (∀ l ∈ x.burst, l.carrier = .onAir ∧ carrierEndNs x l ≤ nowNs s) → burstEndNs x ≤ nowNs s →
      let ended := x.burst.foldl (fun t l => carrierOver t b l) s
      let t := modTx (chargeBurst ended b none) b fun y =>
        { y with burst := [], quietFrom := burstEndNs x + 16000, driveOff := burstEndNs x }
      exec (.burstEnd b) s = .next (releaseLines t b))

/-- Reception up to its PSDU (R44, R112, R132, R151, R157 to R163, R166): a context that listens locks on what meets the thresholds it was
armed with and on nothing else, and a sync word that ends inside a retune is lost; a second frame is captured or kept away; a header is
taken or fails; a carrier that drops ends the PSDU as an FCS failure; the bytes of a TL-OFDM frame arrive in pieces. -/
def Obligations.DetectionRows : Prop :=
  (∀ i errs pre rssi s p, let c := ctxOf s i; let b := bandOfD c.band
    profileOf s c.profile = some p →
    ((listens s i = false ∨ beganEarly s c p = true ∨ isOfdm p = true) → exec (.syncDetect i errs pre rssi) s = .next s)
    ∧ (listens s i = true → beganEarly s c p = false → isOfdm p = false →
        (c.set.preQual ≤ pre → errs ≤ p.syncTol → (c.set.syncRssiMinQ = -520 ∨ c.set.syncRssiMinQ ≤ rssiOf s b rssi) →
          (retuning s b = false → exec (.syncDetect i errs pre rssi) s = .next (rxCount
            (setCtx s i { c with state := .locked, rx := some (reception (detection s b (rssiOf s b rssi))) }) b rxSyncDetect))
          ∧ (retuning s b = true → exec (.syncDetect i errs pre rssi) s = .next (rxCount s b rxRetuneLost)))
        ∧ ((pre < c.set.preQual ∨ p.syncTol < errs ∨ (c.set.syncRssiMinQ ≠ -520 ∧ rssiOf s b rssi < c.set.syncRssiMinQ)) →
            exec (.syncDetect i errs pre rssi) s = .next s)))
  ∧ (∀ i corr rssi s p, let c := ctxOf s i; let b := bandOfD c.band
      profileOf s c.profile = some p →
      ((listens s i = false ∨ beganEarly s c p = true ∨ isOfdm p = false ∨ corr ≤ c.set.ofdmThr) → exec (.ofdmDetect i corr rssi) s = .next s)
      ∧ (listens s i = true → beganEarly s c p = false → isOfdm p = true → c.set.ofdmThr < corr →
          (retuning s b = false → exec (.ofdmDetect i corr rssi) s = .next (rxCount
            (setCtx s i { c with state := .locked, rx := some (reception (detection s b (rssiOf s b rssi))) }) b rxSyncDetect))
          ∧ (retuning s b = true → exec (.ofdmDetect i corr rssi) s = .next (rxCount s b rxRetuneLost))))
  ∧ (∀ i rssi bytes s r p, let c := ctxOf s i; let b := bandOfD c.band; let t := rxCount s b rxSyncDetect
      let d := detection s b (rssiOf s b rssi)
      let strong := r.det.rssiQ + 4 * (c.set.captureMargin : Int) ≤ rssiOf s b rssi
      c.rx = some r → profileOf s c.profile = some p → r.stalled = none →
      (c.state = .locked → strong → exec (.secondaryDetect i ⟨rssi, bytes⟩) s
        = .next (rxCount (setCtx t i { c with rx := some (reception d) }) b rxCapturePre))
      ∧ (c.state = .locked → ¬ strong → exec (.secondaryDetect i ⟨rssi, bytes⟩) s
          = .next (setCtx t i { c with rx := some { r with held := some d } }))
      ∧ (c.state = .psdu → judgedPre p r d c.band = false → c.set.captureSwitch = true → strong → isOfdm p = false →
          exec (.secondaryDetect i ⟨rssi, bytes⟩) s = .next (rxCount
            (setCtx (diagEntry t i r fsCaptured none none (dewhiten p r.whiten 0 (bytes.take (arrivedBytes t c r)))) i
              { c with state := .locked, rx := some (reception d) }) b rxCapturePost))
      ∧ (ctxBusy c = true → c.state ≠ .locked → judgedPre p r d c.band = false →
          (c.set.captureSwitch = false ∨ ¬ strong ∨ c.state ≠ .psdu ∨ isOfdm p = true) →
          exec (.secondaryDetect i ⟨rssi, bytes⟩) s = .next (rxCount t b rxCaptureIgnored))
      ∧ (ctxBusy c = true → c.state ≠ .locked → judgedPre p r d c.band = true → strong →
          let u := poisonCut t i
          exec (.secondaryDetect i ⟨rssi, bytes⟩) s = .next (rxCount
            (setCtx u i { ctxOf u i with state := .locked, rx := some (reception d) }) (bandOfD (ctxOf u i).band) rxCapturePre))
      ∧ (ctxBusy c = true → c.state ≠ .locked → judgedPre p r d c.band = true → ¬ strong →
          exec (.secondaryDetect i ⟨rssi, bytes⟩) s = .next (rxCount t b rxOverlapLost)))
  ∧ (∀ i hdr soft s r p, let c := ctxOf s i; let b := bandOfD c.band
      c.rx = some r → profileOf s c.profile = some p → c.state = .locked →
      let taken (t : State) (f : HdrFields) : State := setCtx t i
        { c with
          state := .psdu
          rx := some { r with
            decidedNs := antennaNs s b, held := none, length := f.length, whiten := f.whiten, fcsType := f.fcsType, rateHint := f.rateHint
            toneMap := f.toneMap, symbolBits := f.symbolBits
            posted := s.host.rx.map fun x => if ringOn x.regs && x.regs.active then x.posted.length else 0 } }
      (isOfdm p = false → let h := hdr.toNat % 2 ^ 24
        (gfskHeader p h = none → exec (.headerDecide i ⟨hdr, soft⟩) s = .next (headerFails s i r h))
        ∧ (∀ f, gfskHeader p h = some f →
            (r.held = none → exec (.headerDecide i ⟨hdr, soft⟩) s = .next (taken s f))
            ∧ (r.held ≠ none → exec (.headerDecide i ⟨hdr, soft⟩) s = .next (taken (rxCount s b rxOverlapLost) f))))
      ∧ (isOfdm p = true → let t := (drawNat s).2; let h := combineCopies soft (drawNat s).1
          (∀ u, signalHeader c h = (none, u) →
            exec (.headerDecide i ⟨hdr, soft⟩) s = .next (headerFails (if u then airCount t b 5 else t) i r h))
              ∧ (∀ f u, signalHeader c h = (some f, u) → exec (.headerDecide i ⟨hdr, soft⟩) s
              = .next (taken (if r.held = none then t else rxCount t b rxOverlapLost) f))))
  ∧ (∀ i bytes rssi s r p, let c := ctxOf s i; let b := bandOfD c.band
      let u := fcsFails (rxCount s b rxCarrierLost) i r none (dewhiten p r.whiten 0 (bytes.take r.length))
      c.rx = some r → profileOf s c.profile = some p → c.state = .psdu → r.stalled = none →
      (r.det.rssiQ - 4 * (c.set.carrierDrop : Int) ≤ rssiOf s b rssi → exec (.carrierDrop i bytes rssi) s = .next s)
      ∧ (rssiOf s b rssi < r.det.rssiQ - 4 * (c.set.carrierDrop : Int) →
          (c.purpose ≠ .test → exec (.carrierDrop i bytes rssi) s = .next (ctxRest u i))
          ∧ (c.purpose = .test → exec (.carrierDrop i bytes rssi) s = .next (setCtx u i (armed u c .armed)))))
  ∧ (∀ i bytes s r p, let c := ctxOf s i
      c.rx = some r → profileOf s c.profile = some p → c.state = .psdu → isOfdm p = true →
      let all := r.bytes ++ dewhiten p r.whiten r.bytes.length bytes
      let t := setCtx s i { c with rx := some { r with bytes := all } }
      (r.bytes.length + bytes.length ≤ r.length →
        (masksOut t = false → exec (.cutThroughPiece i bytes) s = .next (ctPieces t i all (all.length == r.length)))
        ∧ (masksOut t = true → exec (.cutThroughPiece i bytes) s = .next t))
      ∧ (r.length < r.bytes.length + bytes.length → exec (.cutThroughPiece i bytes) s = .next s))
  ∧ (∀ i errs pre corr rssi s, profileOf s (ctxOf s i).profile = none →
      exec (.syncDetect i errs pre rssi) s = .next s ∧ exec (.ofdmDetect i corr rssi) s = .next s)
  ∧ (∀ i rssi bytes hdr soft s, (ctxOf s i).rx = none → exec (.secondaryDetect i ⟨rssi, bytes⟩) s = .next s
      ∧ exec (.headerDecide i ⟨hdr, soft⟩) s = .next s ∧ exec (.carrierDrop i bytes rssi) s = .next s
      ∧ exec (.cutThroughPiece i bytes) s = .next s)
  ∧ (∀ i rssi bytes hdr soft s r p, let c := ctxOf s i
      c.rx = some r → profileOf s c.profile = some p →
      ((ctxBusy c = false ∨ r.stalled ≠ none) → exec (.secondaryDetect i ⟨rssi, bytes⟩) s = .next s)
      ∧ (c.state ≠ .locked → exec (.headerDecide i ⟨hdr, soft⟩) s = .next s)
      ∧ ((c.state ≠ .psdu ∨ r.stalled ≠ none) → exec (.carrierDrop i bytes rssi) s = .next s)
      ∧ ((c.state ≠ .psdu ∨ isOfdm p = false) → exec (.cutThroughPiece i bytes) s = .next s))

/-- Contexts, gain, snapshots and the wake receiver (R152, R153, R157, R171, R172, R174, R175): a listen ends at its instant; the gain steps down
6 dB on an attack and up 2 dB after its quiet time; a snapshot starts at its trigger and completes when it has filled its units; the wake
receiver matches its pattern, counts, raises its event and wakes its domains. -/
def Obligations.ReceiverRows : Prop :=
  (∀ i s, let c := ctxOf s i
      (c.purpose ≠ .test → ctxReserved s i = false → (c.state = .armed ∨ c.state = .blanked) → c.listenEnd ≤ nowNs s →
        exec (.contextListenEnd i) s = .next (setCtx s i { Ctx.idle with frames := c.frames }))
      ∧ ((c.purpose = .test ∨ ctxReserved s i = true ∨ (c.state ≠ .armed ∧ c.state ≠ .blanked) ∨ nowNs s < c.listenEnd) →
          exec (.contextListenEnd i) s = .next s))
  ∧ (∀ b s, let down (t : State) : State := modRx t b fun r => { r with agcGain := r.agcGain - 6, agcAt := s.upNs }
      ((s.radio.rx.get b).agcGain ≠ 0 → exec (.agcAttack b true) s = .next (rxCount (down (rxCount s b rxAgcClip)) b rxAgcAttack))
      ∧ ((s.radio.rx.get b).agcGain = 0 → exec (.agcAttack b true) s = .next (down (rxCount s b rxAgcClip)))
      ∧ ((s.radio.rx.get b).agcMode ≠ 2 → (s.radio.rx.get b).agcGain ≠ 0 →
          exec (.agcAttack b false) s = .next (rxCount (down s) b rxAgcAttack))
      ∧ ((s.radio.rx.get b).agcMode ≠ 2 → (s.radio.rx.get b).agcGain = 0 → exec (.agcAttack b false) s = .next (down s))
      ∧ ((s.radio.rx.get b).agcMode = 2 → exec (.agcAttack b false) s = .next s))
  ∧ (∀ b s, let r := s.radio.rx.get b
      (r.agcMode ≠ 2 → (r.agcMode = 1 → ofdmUnderWay s b = false) → r.agcAt + r.agcRelease * 1000 ≤ s.upNs →
        exec (.agcRelease b) s = .next (modRx s b fun r => { r with agcGain := min 60 (r.agcGain + 2), agcAt := s.upNs }))
      ∧ ((r.agcMode = 2 ∨ (r.agcMode = 1 ∧ ofdmUnderWay s b = true) ∨ s.upNs < r.agcAt + r.agcRelease * 1000) →
          exec (.agcRelease b) s = .next s))
  ∧ (∀ b s x, liveSnap s b = some x →
      (x.state = .armed → x.trigger = 1 → x.startNs ≤ nowNs s → exec (.snapshotStart b) s = .next (modRadio s fun r =>
        { r with snapshots := r.snapshots.map fun y => if y.id == x.id then { y with state := .capturing, firstNs := nowNs s } else y }))
      ∧ ((x.state ≠ .armed ∨ x.trigger ≠ 1 ∨ nowNs s < x.startNs) → exec (.snapshotStart b) s = .next s)
      ∧ (∀ data, x.state = .capturing → x.firstNs + captureNs x ≤ nowNs s →
          let t := modRadio s fun r =>
            { r with snapshots := r.snapshots.map fun y =>
              if y.id == x.id then { y with state := .complete, data := snapContent x data } else y }
          exec (.snapshotCaptureEnd b data) s = .next (finishWhere (drawNat t).2
            (fun op => entryCmd op.e == some .radioSnapshotArm && op.ref == x.id)
            fun _ => okFigures [x.id, x.firstNs, signedOf 16 (drawNat t).1]))
      ∧ (∀ data, (x.state ≠ .capturing ∨ nowNs s < x.firstNs + captureNs x) → exec (.snapshotCaptureEnd b data) s = .next s))
  ∧ (∀ b data s, liveSnap s b = none →
      exec (.snapshotStart b) s = .next s ∧ exec (.snapshotCaptureEnd b data) s = .next s)
  ∧ (∀ window s, let w := s.radio.wake; let miss := diffBits window.toNat w.pattern.toNat
      (w.enable = true → miss ≤ w.tol → (∀ t, w.lastAt = some t → t + 8000000 ≤ s.upNs) → (s.radio.tx.get .bandB).burst = [] →
        let c := (drawBelow s (2 ^ 32)).1
        let t := modRadio (rxCount (drawBelow s (2 ^ 32)).2 .bandB rxWakeMatches) fun r =>
          { r with wake := { r.wake with lastRtc := BitVec.ofNat 32 c, lastAt := some (drawBelow s (2 ^ 32)).2.upNs } }
        let u := if w.actEvent = false then t
          else if t.clk.frozen.isSome then modRadio t fun r => { r with wake := { r.wake with held := r.wake.held ++ [(c, miss)] } }
          else raiseEvent t evWakePattern c miss 0 0
        exec (.wakePatternMatch window) s = .next (wakeMask u w.domainMask.toNat))
      ∧ ((w.enable = false ∨ w.tol < miss ∨ (s.radio.tx.get .bandB).burst ≠ [] ∨ ∃ t, w.lastAt = some t ∧ s.upNs < t + 8000000) →
          exec (.wakePatternMatch window) s = .next s))

/-- Received frames (R30, R34, R35, R122, R127, R136 to R138, R164, R165, R244 to R246, R253, R278, R356, R495): a PSDU that ends whole is walked and one that is not
counts as an FCS failure; an authenticated frame whose counter is below the last accepted one is a replay, one equal is a duplicate,
one above is accepted; a MIC that fails leaves the node as it was; accepted frames go to their ring or thread, and each thread handles the
oldest frame of its type; an acknowledgement completes its frame FS_OK, and a window without one sends it back or flushes it; receive tone
maps that were replaced go 2 s after their acknowledgement. -/
def Obligations.FrameRows : Prop :=
  (∀ i psdu snr sh s r p, let c := ctxOf s i; let b := bandOfD c.band; let bytes := dewhiten p r.whiten 0 (psdu.take r.length)
    c.rx = some r → profileOf s c.profile = some p → c.state = .psdu → r.stalled = none →
    (c.purpose = .test → let whole := bytes.length == r.length && fcsOk r.fcsType bytes
      let t := rxCount s b (if whole then rxFcsOkCount else rxFcsFail)
      exec (.rxPsduEnd i psdu snr sh) s
        = .next (setCtx (testReceive t b bytes) i (armed t { c with frames := c.frames + natOf whole } .armed)))
    ∧ (c.purpose ≠ .test → let room := frameBufferRoom (setCtx s i { c with rx := none }) bytes.length
    (room = false → exec (.rxPsduEnd i psdu snr sh) s = .next (ctxRest (poisonCut (rxCount s b rxNoBuffer) i) i))
    ∧ (room = true → bytes.length = r.length → fcsOk r.fcsType bytes = true → let u := rxCount s b rxFcsOkCount
        (masksOut u = false →
          let t := if isOfdm p then ctPieces u i bytes true else u
          let x : Heard := { ctx := i, c := c, r := r, p := p, psdu := bytes, h := parseMac bytes, lqi := lqiOf snr, ack := none }
          exec (.rxPsduEnd i psdu snr sh) s = .next (ctxDone (walkFrame t x sh) x))
        ∧ (masksOut u = true → exec (.rxPsduEnd i psdu snr sh) s = .next (cryptCount
            (setCtx u i { c with rx := some { r with bytes := bytes, stalled := some (snr, sh) } }) xcLaneWait 1)))
    ∧ (room = true → (bytes.length ≠ r.length ∨ fcsOk r.fcsType bytes = false) →
        let t := if isOfdm p && !masksOut s then ctPieces s i bytes true else s
        exec (.rxPsduEnd i psdu snr sh) s = .next (ctxRest (fcsFails t i r (some (lqiOf snr)) bytes) i))))
  ∧ (∀ s x sh k, macCheck (micBytes x.p.micLen) (fcsLen x.r.fcsType) (destOurs s) x.psdu = some k →
      walkFrame s x sh = cutFails (airCount s x.band k) x)
  ∧ (∀ s x i n payload c, let ackNow := hdrAckReq x.h.fc && ackable (hdrType x.h.fc)
      (c ≠ .switch → x.h.counter.toNat < n.rxCounter.toNat →
        classifyUplink s x i n payload c = cutFails (reportNode (orbitCount s ocReplay) x i n fsReplay payload) x)
      ∧ (c ≠ .switch → x.h.counter = n.rxCounter →
          classifyUplink s x i n payload c = duplicateUplink (markSounder (nodeHeard s x i n) x payload) x i n payload ackNow)
      ∧ (c = .switch ∨ n.rxCounter.toNat < x.h.counter.toNat →
          classifyUplink s x i n payload c = acceptUplink (markSounder (nodeHeard s x i n) x payload) x i n payload c ackNow))
  ∧ (∀ s x i n join go key, (genCase s n x.h.keyGen join = .normal ∨ genCase s n x.h.keyGen join = .switch) →
      let eui := if x.h.dest = addrBroadcast ∧ join = false then groupEui else n.eui
      let t := (resolveKey s eui x.h.keyGen.toNat).1
      (resolveKey s eui x.h.keyGen.toNat).2 = .key key →
      ((x.verify key n.eui).2 = true → verifyNode s x i n join go
        = go (frameLane t) (x.verify key n.eui).1 (genCase s n x.h.keyGen join))
      ∧ ((x.verify key n.eui).2 = false → verifyNode s x i n join go
          = cutFails (reportHidden (cryptCount (frameLane t) xcTagFail 1) x i n fsTagFail) x))
  ∧ (∀ s, s.path.uplinks.find? (mayProceed s) = none → exec .uplinkDeliver s = .next s)
  ∧ (∀ s u, s.path.uplinks.find? (mayProceed s) = some u →
      let t : State := { s with path := { s.path with uplinks := dropFirst (· == u) s.path.uplinks } }
      let ring := (((nodeAt t u.index).filter (·.eui == u.eui)).map (·.rxRing)).getD 0
      (u.cut = none → u.ftype = ftData → exec .uplinkDeliver s = .next (routeData t u ring))
      ∧ (u.cut = none → u.ftype ≠ ftData → exec .uplinkDeliver s = .next (hostDeliver t u ring fsOk).1)
      ∧ (∀ id pieces, u.cut = some (id, pieces) → exec .uplinkDeliver s = .next (rxWrite t ring fun buf ph =>
          { buf := buf, phase := ph, last := true, frameStatus := fsOk, length := 0, mode := ((profileOf s u.profile).map (·.mode)).getD 0
            context := u.ctx, band := u.band, nodeValid := true, nodeIndex := u.index, tsNs := BitVec.ofNat 64 u.tsNs, tsFrac := u.tsFrac
            keyGen := u.keyGen, lqi := BitVec.ofNat 8 u.lqi, rssi := u.rssiQ, frameCounter := u.counter, srcAddr := u.src
            chunkSeq := pieces, channel := u.channel, frameId := id, data := [] }).1))
  ∧ (∀ i snrs s a n r p, let c := ctxOf s i
      c.rx = some r → r.sounder = some (a, n) → profileOf s c.profile = some p → c.state = .sounding →
      r.decidedNs + n * ofdmSymbolNs c.band ≤ antennaNs s (bandOfD c.band) →
      let t := modTones (ctxRest s i) a.toNat fun t => { t with wantSounding := false }
      (∀ k, lookupAddr t a = some k → exec (.soundingEnd i snrs) s = .next (offerMap t k a
        (if (tonesOf t a.toNat).rxActive < 15 then (tonesOf t a.toNat).rxActive + 1 else 1) (loadMap snrs p.tlMarginDb)))
      ∧ (lookupAddr t a = none → exec (.soundingEnd i snrs) s = .next t))
  ∧ (∀ addr s, let gone := (tonesOf s addr.toNat).old.filter fun o => decide (o.2 ≤ s.upNs)
      (gone = [] → exec (.toneMapOldRetire addr) s = .next s)
      ∧ (gone ≠ [] → exec (.toneMapOldRetire addr) s = .next (modTones s addr.toNat fun t =>
          { t with
            old := t.old.filter fun o => !gone.contains o
            rx := gone.foldl (fun m o => if o.1 = 0 then m else mapDel m o.1) t.rx })))
  ∧ (∀ s u t, takeThread s ftJoinReq = some (u, t) →
      (classOf t (leAt u.payload 0 2) = none → exec .joinReqHandle s = .next (nodeCount t ncJoinBadClass))
      ∧ (∀ c, classOf t (leAt u.payload 0 2) = some c →
          (∀ i n, lookupEui t u.eui = some i → nodeAt t i = some n → exec .joinReqHandle s = .next (rejoin (touchHit t i) u i n))
          ∧ (lookupEui t u.eui = none → (chargePort t u.band).2 = .allowed →
              exec .joinReqHandle s = .next (learnNode (chargePort t u.band).1 u c))))
  ∧ (∀ s u t, takeThread s ftControl = some (u, t) →
      let priv := ((nodeAt t u.index).map (·.role == 2)).getD false
      (∀ rest, u.payload = 0x01 :: rest → 42 ≤ u.payload.length → priv = true → leAt u.payload 2 1 = 0 →
        1 ≤ leAt u.payload 1 1 → leAt u.payload 1 1 ≤ 15 → mapValid (leAt u.payload 3 39) = true →
        (u.acked = true → exec .controlFrameHandle s = .next (useTxMap t u.src (leAt u.payload 1 1) (leAt u.payload 3 39)))
        ∧ (u.acked = false → exec .controlFrameHandle s = .next (modTones t u.src.toNat fun x =>
            { x with txWaits := some (leAt u.payload 1 1, leAt u.payload 3 39, u.counter) })))
      ∧ (∀ rest, u.payload = 0x02 :: rest → priv = true → 4 ≤ leAt u.payload 1 1 → leAt u.payload 1 1 ≤ 16 →
          exec .controlFrameHandle s = .next
            (parkFirmware t (firmwareFrame t u.src ftSounding [BitVec.ofNat 8 (leAt u.payload 1 1)] true)).1)
      ∧ (∀ b rest, u.payload = b :: rest → (b = 0 ∨ 5 < b.toNat) → exec .controlFrameHandle s = .next (airCount t (bandOfD u.band) 4)))
  ∧ (∀ s u t rest, takeThread s ftCampaign = some (u, t) → u.payload = 0x03 :: rest → t.cmp.state = .running →
      leAt u.payload 1 2 = t.cmp.id → leAt u.payload 4 1 ≤ 16 → 5 + 4 * leAt u.payload 4 1 ≤ u.payload.length →
      (∃ x ∈ t.cmp.targets, x.meshAddr = u.src) →
      exec .campaignStatusRx s = .next (targetStatus (modCmp t fun c => { c with statusRx := c.statusRx + 1 }) u.src u.payload))
  ∧ (∀ s u t cand off, takeThread s ftBeacon = some (u, t) →
      (t.orbit.parents.findIdx? fun c => c.addr == u.src && c.band == u.band) = some cand →
      beaconOffset t u cand (leAt u.payload 0 5) = some off →
      (t.orbit.state = .acquiring → t.orbit.runPending = false → exec .beaconRx s = .next
        (reAnchor t cand (leAt u.payload 0 5) (leAt u.payload 26 1) ((u.tsNs : Int) - off - (nth 0 t.clk.parentDelay cand : Nat))))
      ∧ (t.orbit.state ≠ .acquiring → enginePlans t = true → t.orbit.parentNext = none → u.parent.map (·.1) = some cand → t.orbit.parent = some cand →
          exec .beaconRx s = .next (followBeacon t u cand (leAt u.payload 0 5) (leAt u.payload 26 1) off)))
  ∧ (∀ s u t l r f, takeThread s ftAck = some (u, t) →
      ((t.radio.tx.toList.flatMap (·.awaiting)).find? fun l => some l.id == u.launch) = some l →
      lookupAddr (orbitCount (awaitEnds t l) ocAcked) l.addr = none → l.record = some r →
      recordOf (orbitCount (awaitEnds t l) ocAcked) r = some f →
      exec .ackRx s = .next
        (completeFrame (campaignAcked (schedAcked (mapAcked (orbitCount (awaitEnds t l) ocAcked) f) f) f) r fsOk false false))
  ∧ (∀ s u t l i n e r f, takeThread s ftAck = some (u, t) →
      ((t.radio.tx.toList.flatMap (·.awaiting)).find? fun l => some l.id == u.launch) = some l →
      lookupAddr (orbitCount (awaitEnds t l) ocAcked) l.addr = some i → nodeAt (orbitCount (awaitEnds t l) ocAcked) i = some n →
      u.e = some e →
      let a := orbitCount (awaitEnds t l) ocAcked
      let m := sendContact (if n.adrift then adriftReturn a i (some (e, u.tsNs)) false else clockMeasure a i e u.tsNs false false) i
      l.record = some r → recordOf m r = some f →
      exec .ackRx s = .next (completeFrame (campaignAcked (schedAcked (mapAcked m f) f) f) r fsOk false false))
  ∧ (∀ s id l r f, ((s.radio.tx.toList.flatMap (·.awaiting)).find? (·.id == id)) = some l →
      (∀ x ∈ s.radio.ctxs, ∀ a, x.2.purpose = .ack id a → ctxBusy x.2 = false ∧ (x.2.state = .idle ∨ x.2.listenEnd ≤ nowNs s)) → (∀ q ∈ (s.radio.tx.get (bandOfD l.band)).burst, q.id ≠ id) →
      (∀ p ∈ s.orbit.plans, p.handed = true ∨ ∀ x ∈ p.listens, ∀ a, x.purpose ≠ .ack id a) →
      (∀ u ∈ s.path.threads, u.launch ≠ some id) → (∀ w ∈ s.pair.waits, ∀ u, w.hold = .uplink u → u.launch ≠ some id) →
      l.record = some r → recordOf (awaitEnds s l) r = some f →
      (retryMax (awaitEnds s l) f.dest ≤ f.attempts →
        exec (.ackWindowEnd id) s = .next (completeFrame (awaitEnds s l) r fsFlushed false false))
      ∧ (f.attempts < retryMax (awaitEnds s l) f.dest → exec (.ackWindowEnd id) s = .next (returnFrame (awaitEnds s l) l)))

/-- What the host does through a view's registers (R52, R57 to R60, R65, R78, R552, R553): index writes take effect and free what was read, an
enable starts a ring at its first entry or records `fault_size`, a teardown ends it, the mailbox executes and retires, a plain register
takes its writable bits, a holdoff's end signals the ring's vector, and a command is fetched in its turn. -/
def Obligations.HostAccessRows : Prop :=
  (∀ v ch value s, let a := accessView s
    viewsAnswer a = true →
    exec (.commandProdWrite v ch value) s = .next (modRing a v (.chan ch) fun r => { r with prod := value.setWidth 12 }))
  ∧ (∀ v ch value s, let a := accessView s
      viewsAnswer a = true → exec (.rspConsWrite v ch value) s = .next (modChan a v ch fun c =>
        { c with
          regs := { c.regs with rspCons := value.setWidth 12 }
          responses := c.responses.drop (indexGap (ringSize c.regs) c.regs.rspCons (value.setWidth 12)) }))
  ∧ (∀ v value s, let a := accessView s
      viewsAnswer a = true → exec (.eventConsWrite v value) s = .next (modView a v fun w => flushLatches 18
        { w with event :=
          { regs := { w.event.regs with cons := value.setWidth 12 }
            entries := w.event.entries.drop (indexGap (ringSize w.event.regs) w.event.regs.cons (value.setWidth 12)) } }))
  ∧ (∀ ring value bufs s, let a := accessView s
      viewsAnswer a = true → exec (.rxProdWrite ring value bufs) s
        = .next { a with host := { a.host with rx := modNth a.host.rx ring fun r => postBufs r value bufs } })
  ∧ (∀ ring value s, let a := accessView s
      viewsAnswer a = true → exec (.txProdWrite ring value) s
        = .next (modRing a .unpriv (.tx ring) fun r => { r with prod := value.setWidth 12 }))
  ∧ (∀ value s, let a := accessView s
      viewsAnswer a = true → exec (.tsConsWrite value) s = .next { a with host := { a.host with ts :=
        { regs := { a.host.ts.regs with cons := value.setWidth 12 }
          entries := a.host.ts.entries.drop (indexGap 64 a.host.ts.regs.cons (value.setWidth 12)) } } })
  ∧ (∀ v r ctrl dma s x, let a := accessView s; let c := ctrl &&& ctrlMask r
      viewsAnswer a = true → bitOf ctrl.toNat 31 = true → bitOf c.toNat 31 = true → ringRegs a v r = some x →
      (ringOn x = false ∨ x.active = false) →
      (sizeOk r (bitsOf c.toNat 3 0) = true → exec (.ringEnable v r ⟨ctrl, dma⟩) s = .next (startRing a v r c dma))
      ∧ (sizeOk r (bitsOf c.toNat 3 0) = false → exec (.ringEnable v r ⟨ctrl, dma⟩) s
          = .next (modRing a v r fun x => { x with ctrl := c &&& 0x7FFFFFFF, faultSize := true, active := false })))
  ∧ (∀ v r ctrl s x, let a := accessView s; let c := ctrl &&& ctrlMask r
      viewsAnswer a = true → bitOf ctrl.toNat 31 = false → bitOf c.toNat 31 = false → ringRegs a v r = some x → ringOn x = true →
      exec (.ringTeardown v r ctrl) s = .next (stopRing a v r c))
  ∧ (∀ v s, sessionServed s (.mbox v) = true → (viewOf s v).mboxBusy = false →
      let t := modView s v fun w => { w with mboxBusy := true, mboxWaits := true }
      (turn t = some (.mbox v) → exec (.mboxGo v) s = .next (deliver (mboxEntry t v) (fetchMbox v t)))
      ∧ (turn t ≠ some (.mbox v) → exec (.mboxGo v) s = .next t))
  ∧ (∀ v s e, viewsAnswer s = true → mirrorEvent (accessView s) v = some e →
      exec (.mboxEvtAck v) s = .next (modView (accessView s) v fun w => { w with latches := w.latches.drop 1 }))
  ∧ (∀ v value s, let a := accessView s
      viewsAnswer a = true → exec (.registerWrite v 0x20 value) s
        = .next (modView a v fun w => { w with evEnable := value &&& (if v = .priv then 0x0003FFFF else BitVec.ofNat 32 evBoth) }))
  ∧ (∀ v i value s, let a := accessView s
      viewsAnswer a = true → i < 40 → exec (.registerWrite v (0x500 + 4 * i) value) s
        = .next (modView a v fun w => { w with mbox := mapSet w.mbox i value }))
  ∧ (∀ v r s x, ringRegs s v r = some x → x.unreported ≠ 0 → exec (.interruptHoldoffExpiry v r) s = .next
      (modRing (modView s v fun w => signalVector w (ringVector x)) v r fun x => { x with unreported := 0 }))
  ∧ (∀ e s v n, e.session = .chan v n → turn s = some (.chan v n) →
      let t := takeSlot { s with host := { s.host with rrLast := sessionIndex e.session } } v n
      (dmaFails (chanOf s v n).regs = false →
        (entryCmd e = none → exec (.commandFetch e) s = .next (respond t e (refuse stBadOpcode) true))
        ∧ (entryCmd e ≠ none →
            exec (.commandFetch e) s = .next { t with host := { t.host with fetched := t.host.fetched ++ [e] } }))
      ∧ (dmaFails (chanOf s v n).regs = true → exec (.commandFetch e) s = .next (modChan s v n fun c =>
          { c with regs := { c.regs with faultDma := true, active := false } })))
  ∧ (∀ e s v, e.session = .mbox v → turn s = some (.mbox v) →
      exec (.commandFetch e) s = .next (deliver (mboxEntry s v) (fetchMbox v s)))
  ∧ (∀ e s, turn s ≠ some e.session → exec (.commandFetch e) s = .next s)

/-- The transactions of the SPI target (R48, R49): each answers its status byte, then its data with their CRC; a payload whose CRC is wrong is
discarded whole, counted, and answered with the complement; a command is taken or refused while another is outstanding. -/
def Obligations.SpiRows : Prop :=
  (∀ payload crc s, partAnswers s = true → crc16 (0x01#8 :: payload) = crc →
    exec (.cmdWrite payload crc) s = .next (spiEnd (takeSpi (entryOfBytes .spi payload) s) (spiStatus s) [] false))
  ∧ (∀ e s, sessionServed s .spi = true → e.session = .spi →
      (s.host.spi.outstanding = true → takeSpi e s = { s with host := { s.host with spi := { s.host.spi with refused := true } } })
      ∧ (s.host.spi.outstanding = false →
          let t := { s with host := { s.host with spi := { s.host.spi with outstanding := true, refused := false, waits := some e } } }
          (turn t = some .spi → takeSpi e s = deliver { e with buf := windowBytes t e } (fetchSpi t))
          ∧ (turn t ≠ some .spi → takeSpi e s = t)))
  ∧ (∀ payload crc s, partAnswers s = true → crc16 (0x01#8 :: payload) ≠ crc →
      exec (.cmdWrite payload crc) s = .next (spiEnd (hostCount s hcSpiCrcError) (spiStatus s) [] true))
  ∧ (∀ s, partAnswers s = true →
      (s.host.spi.rsps = [] → exec .rspRead s = .next (spiEnd s (spiStatus s) (withCrc (List.replicate 64 0)) false))
      ∧ (∀ r rest, s.host.spi.rsps = r :: rest → exec .rspRead s
          = .next (spiEnd (modSpi s fun x => { x with rsps := rest }) (spiStatus s) (withCrc (responseBytes r)) false)))
  ∧ (∀ s, partAnswers s = true →
      (mirrorEvent s .priv = none → exec .evtRead s = .next (spiEnd s (spiStatus s) (withCrc (List.replicate 32 0)) false))
      ∧ (∀ e, mirrorEvent s .priv = some e → exec .evtRead s = .next (spiEnd
          (modView s .priv fun w => { w with latches := w.latches.drop 1 }) (spiStatus s) (withCrc (eventBytes e)) false)))
  ∧ (∀ payload crc s, partAnswers s = true →
      let z : List Byte := [0, 0, 0, 0]
      (crc16 (0x04#8 :: payload) = crc → exec (.regRead payload crc) s = .next (spiEnd s (spiStatus s)
        (withCrc (leBytes 4 (readReg s .priv (leAt payload 0 2)))) false))
      ∧ (crc16 (0x04#8 :: payload) ≠ crc → exec (.regRead payload crc) s = .next (spiEnd (hostCount s hcSpiCrcError) (spiStatus s)
          (z ++ leBytes 2 (crc16 z ^^^ 0xFFFF#16).toNat) true)))
  ∧ (∀ payload crc s, partAnswers s = true → crc16 (0x05#8 :: payload) = crc →
      let off := leAt payload 0 2
      let value := BitVec.ofNat 32 (leAt payload 2 4)
      let t := writeReg s .priv off value
      exec (.regWrite payload crc) s
        = .next (spiEnd (if off = 0x400 ∧ bitOf value.toNat 0 = true then mboxGoOp .priv t else t) (spiStatus s) [] false))
  ∧ (∀ payload crc s, partAnswers s = true → crc16 (0x06#8 :: payload) = crc →
      exec (.dataWrite payload crc) s = .next (spiEnd
        (modSpi s fun x =>
          { x with window := memWriteBytes 0 x.window (leAt payload 0 2) ((payload.drop 2).take (65536 - leAt payload 0 2)) })
        (spiStatus s) [] false))
  ∧ (∀ payload crc s, partAnswers s = true → crc16 (0x07#8 :: payload) = crc → 1 ≤ leAt payload 2 2 →
      exec (.dataRead payload crc) s = .next (spiEnd s (spiStatus s)
        (withCrc (memReadBytes 0 s.host.spi.window (leAt payload 0 2) (min (leAt payload 2 2) 256))) false))
  ∧ (∀ payload crc s, partAnswers s = true →
      let bad (b : List Byte) := spiEnd (hostCount s hcSpiCrcError) (spiStatus s) b true
      let z : List Byte := List.replicate (min (leAt payload 2 2) 256) 0
      (crc16 (0x05#8 :: payload) ≠ crc → exec (.regWrite payload crc) s = .next (bad []))
      ∧ (crc16 (0x06#8 :: payload) ≠ crc → exec (.dataWrite payload crc) s = .next (bad []))
      ∧ (crc16 (0x07#8 :: payload) ≠ crc → 1 ≤ leAt payload 2 2 →
          exec (.dataRead payload crc) s = .next (bad (z ++ leBytes 2 (crc16 z ^^^ 0xFFFF#16).toNat))))

/-- The twin pair (R432, R433, R435 to R440, R443, R445 to R447, R452, R456, R457): the gate opens while the part may drive its outputs and
closes when it may not; heartbeats go out with the lease renewed, and what is heard of the twin is taken; each message that comes in charges a
use of the link's key (R329), one in order whose tag holds takes effect and is acknowledged, and any other does not; a link comes up and goes down, replication times out into solo, a lease
ends with the gate closed, and a standby takes over. -/
def Obligations.PairRows : Prop :=
  (∀ s, (gateMay s = true → exec .eclipseGateOpen s = .next (openGate s)) ∧ (gateMay s = false → exec .eclipseGateClose s = .next (closeGate s)))
  ∧ (∀ s, s.pair.gateOpen = true →
      let u := bands.foldl (fun s b => burstEndOp s b) s
      let v := bands.foldl (fun s b => cutBurst s b (some tcEclipseCut)) u
      closeGate s = stopGatedTests
        { v with pair := { v.pair with gateOpen := false }, radio := { v.radio with tx := v.radio.tx.all safeLines } })
  ∧ (∀ s, s.pair.gateOpen = false →
      openGate s = bands.foldl (fun s b => modTx s b fun x => { x with lnaByp := linesLive s b && x.lnaStatic })
        (flushHeld (flushHeld { s with pair := { s.pair with gateOpen := true } } 0) 1))
  ∧ (∀ s, s.pair.enabled = true → firmwareRuns s = true → (∀ t, s.pair.hbAt = some t → t + s.pair.hbUs * 1000 ≤ s.upNs) →
      let l := if s.role = .active ∧ s.pair.noRenew = false then modPair s fun p => { p with leaseEnd := some (s.upNs + s.pair.leaseUs * 1000) }
        else s
      let b := modPair l fun p =>
        { p with lineSent := p.lineSent ++ [hbWord l], hbSeq := (p.hbSeq + 1) % 16, hbAt := some l.upNs }
      let u := linkSend b lmHeartbeat (leBytes 8 (hbWord l).toNat)
      exec .heartbeatSend s = .next (if gateMay u then openGate u else u))
  ∧ (∀ w s, (bitsOf w.toNat 7 0 = hbCrc w.toNat → exec (.lineHeartbeatRx w) s
        = .next (hearTwin (pairCount (modPair s fun p => { p with lineAt := some s.upNs }) pcHbLine 1) w))
      ∧ (bitsOf w.toNat 7 0 ≠ hbCrc w.toNat → exec (.lineHeartbeatRx w) s = .next (pairCount s pcHbCrc 1)))
  ∧ (∀ h s, s.pair.link = .up → resourceTested s 3 = false → h.tagOk = true → h.seq = s.pair.rxSeq →
      let t := modPair (linkUse s) fun p => { p with rxSeq := p.rxSeq + 1, tagFails := 0, linkAt := some s.upNs }
      (∀ w, bitsOf w.toNat 7 0 = hbCrc w.toNat → exec (.heartbeat h w) s = .next (hearTwin (pairCount t pcHbLink 1) w))
      ∧ (∀ m, let u := if t.pair.helloAsked then modPair t fun p => { p with helloAsked := false } else sendHello t false
          (helloFits u m = false → exec (.hello h m) s
            = .next (pairCount (modPair u fun p => { p with helloOk := false, helloBad := true }) pcConfigErr 1))
          ∧ (helloFits u m = true → (∀ k, k ∈ keyChecks u ↔ k ∈ m.kcvs) →
              let v := maybeSync (modPair u fun p => { p with helloOk := true, helloBad := false, kcvDiffer := false })
              exec (.hello h m) s = .next (if v.role = .active ∧ v.pair.replica = .syncing then nextSync v else v)))
      ∧ (follows t = true → let a := accessDoms t tableDoms
          (∀ recs, exec (.commit h recs) s = .next (sendAck (recs.foldl applyCommit a) h))
          ∧ (∀ recs, exec (.journal h recs) s = .next (sendAck (recs.foldl applyJournal a) h))
          ∧ (∀ m, exec (.config h m) s = .next (sendAck (applyConfig runReplicated t m) h))
          ∧ (∀ i e n, nodeAt t i = some n → n.meshAddr = (entryOf (leBytes 64 (e : BitVec 512).toNat)).meshAddr →
              exec (.contact h i e) s = .next (fileAsIs (writeEntry a i (withContact n (entryOf (leBytes 64 e.toNat)))) i)))
      ∧ (∀ first last, let u := releaseWaits t fun w => decide ((w.seq - first).toNat ≤ (last - first).toNat)
          exec (.commitAck h first last) s = .next (if u.role = .active ∧ u.pair.replica = .syncing then nextSync u else u))
      ∧ (∀ r, t.role = .standby →
          let up (e : BitVec 12) : BitVec 12 := if e = 0xFFF then e else e + 1
          let r' := { r with epochCur := up r.epochCur, epochPrev := up r.epochPrev }
          exec (.epoch h r) s = .next (sendAck
            (modCrypt (programRecord t fun x => { x with epochs := some r' }) fun c => { c with flashEpochs := r', epochWrite := none }) h))
      ∧ (∀ t1 t2 t3 t4, (t.role = .standby → exec (.time h t1 t2 t3 t4) s = .next
            (measure t 5 (((((t2.toNat : Int) - t1.toNat) - ((t4.toNat : Int) - t3.toNat) : Int) : Rat) / 2) 100))
          ∧ (t.role ≠ .standby → exec (.time h t1 t2 t3 t4) s = .next
              (linkSend t lmTime (leBytes 8 t1.toNat ++ leBytes 8 t2.toNat ++ leBytes 8 t3.toNat ++ leBytes 8 t4.toNat))))
      ∧ (∀ p, t.role = .standby → exec (.sync h p) s = .next (sendAck (applySync runReplicated (accessDoms t tableDoms) p) h)))
  ∧ (∀ h s recs, (s.pair.link ≠ .up → exec (.commit h recs) s = .next s)
      ∧ (s.pair.link = .up → resourceTested s 3 = false → h.tagOk = true → h.seq ≠ s.pair.rxSeq → exec (.commit h recs) s = .next
          (replicaStale (pairCount (modPair (linkUse s) fun p => { p with rxSeq := h.seq + 1, tagFails := 0 }) pcTagFail 1))))
  ∧ (∀ s, s.pair.link = .up →
      let t := pairCount (modPair s fun p => { p with link := .down, helloOk := false, helloAsked := false, tagFails := 0 }) pcLinkDown 1
      let u := if s.role = .active ∧ s.pair.replica = .syncing then modPair t fun p => { p with replica := .stale, sync := none, delta := [] }
        else t
      exec .pairLinkDown s = .next (goSolo (replicaStale (invalidate u 5)) 4))
  ∧ (∀ s, s.pair.enabled = true → s.pair.link ≠ .up → resourceTested s 3 = false → exec .pairLinkUp s = .next
      (sendHello (modPair s fun p => { p with link := .up, txSeq := 0, rxSeq := 0, tagFails := 0 }) true))
  ∧ (∀ s w rest, s.pair.waits = w :: rest → s.role = .active → w.since + s.pair.replTimeoutUs * 1000 ≤ s.upNs →
      exec .replTimeout s = .next (goSolo (pairCount s pcCommitTimeout 1) 4))
  ∧ (∀ s t, s.pair.leaseEnd = some t → t ≤ s.upNs →
      exec .leaseExpiry s = .next (closeGate (modPair s fun p => { p with leaseEnd := none })))
  ∧ (∀ s t, s.pair.startupEnd = some t → s.role = .undecided → s.pair.enabled = true → s.pair.helloBad = false → t ≤ s.upNs →
      firmwareRuns s = true → exec .startupWaitExpiry s = .next (takeOver s 0))
  ∧ (∀ s t, s.pair.judgedEnd = some t → s.role = .standby → t ≤ s.upNs →
      exec .takeover s = .next (takeOver s (if hbRole s.pair.twinHb = 2 then 1 else 0)))
  ∧ (∀ s, s.role = .active → s.pair.yieldPolicy = true → silentFor s s.pair.lineAt (s.pair.leaseUs * 1000) = true →
      silentFor s s.pair.linkAt (s.pair.leaseUs * 1000) = true → exec .isolationYield s = .next
        (becomeStandby (releaseWaits (modPair (closeGate s) fun p => { p with leaseEnd := none }) fun _ => true) .stale))

/-- The scheduler, the queues and the memory fabric (R16, R27, R60, R67, R379 to R391, R397, R399): an item is submitted and dispatched, a core
completes one and its flow goes on; a ring's entry is fetched and classified while the pool has room, a lifetime ends with FS_FLUSHED or
dooms a frame on the air; a full tail spills and a short head refills, a queue with too many holes is rewritten, queues are sampled, and a
bank grants the asking requester next in its class's turn. -/
def Obligations.WorkRows : Prop :=
  (∀ item s, firmwareRuns s = true → exec (.workSubmit item) s = .next (dispatchWork (submitWork s item)))
  ∧ (∀ item s, let w : WorkRec := { item := item, enqNs := s.clk.timeNs }
      let t := queueCount s qcSubmitted 1
      let f := flowOf t (flowIndex item.flowKey)
      let waits := item.isAtomic && (f.busy || !(fifoAll f.deferred).isEmpty)
      let takes := 1024 < workCellsFree s ∨ (0 < workCellsFree s ∧ item.prio.toNat < 4)
      (s.queue.held = [] → takes → waits = false → submitWork s item = modReady t item.prio.toNat fun l => fifoPush l w)
      ∧ (s.queue.held = [] → takes → waits = true → submitWork s item = queueCount
          (setFlow t (flowIndex item.flowKey) { f with deferred := fifoPush f.deferred w }) qcDeferred 1)
      ∧ ((workCellsFree s = 0 ∨ s.queue.held ≠ []) → submitWork s item = modQueue s fun q => { q with held := q.held ++ [item] })
      ∧ (s.queue.held = [] → 0 < workCellsFree s → workCellsFree s ≤ 1024 → 4 ≤ item.prio.toNat →
          submitWork s item = loseItem (queueCount s qcRefused 1) w))
  ∧ (∀ n s w, (coreOf s n).running = some w →
      let t := setCore s n { coreOf s n with running := none }
      exec (.coreItemComplete n) s
        = .next (dispatchWork (if w.item.isAtomic then commitDeletes (releaseFlow t (flowIndex w.item.flowKey)) else t)))
  ∧ (∀ ring e payload s,
      let r := nth TxRing.reset s.host.tx ring
      let body := sliceBytes payload 0 (bitsOf e.ctl.toNat 10 0)
      pcieExists s = true → inRun s = true → radioStopped s = false → s.key.tampered = false → ringOn r.regs = true →
      r.regs.active = true → r.regs.prod ≠ r.regs.cons → poolHasRoom s body.length = true →
      (dmaFails r.regs = false → exec (.transmitRingFetch ring e payload) s = .next (classifyEntry
        (accessDoms
          { s with host := { s.host with tx := modNth s.host.tx ring fun x =>
            { x with regs := advanceCons (dmaUse x.regs), live := x.live + 1 } } }
          (lookupDoms ++ shaperDoms))
        ring r.regs.cons.toNat r.era e body))
      ∧ (dmaFails r.regs = true → exec (.transmitRingFetch ring e payload) s = .next
          { s with host := { s.host with tx := modNth s.host.tx ring fun x =>
            { x with regs := { x.regs with faultDma := true, active := false } } } }))
  ∧ (∀ r s f t, recordOf s r = some f → f.expires = some t → t ≤ s.upNs →
      (anyLow s shaperDoms = true → exec (.lifetimeExpiry r) s = .next (accessDoms s shaperDoms))
      ∧ (anyLow s shaperDoms = false →
          (f.onAir = true → exec (.lifetimeExpiry r) s = .next (modRecord s r fun f => { f with doomed := true }))
          ∧ (f.onAir = false →
              exec (.lifetimeExpiry r) s = .next (queueCount (completeFrame s r fsFlushed false false) qcExpired 1))))
  ∧ (∀ f s, let a := accessDoms s tailDoms
      (anyLow s tailDoms = true → exec (.tailSpill f) s = .next a ∧ exec (.tailRefill f) s = .next a)
      ∧ (anyLow s tailDoms = false →
          exec (.tailSpill f) s = .next (spillTail a f) ∧ exec (.tailRefill f) s = .next (resumeProducers (refillTail a f))))
  ∧ (∀ f s, bulkBad s (.tailCell f) = true → refillTail s f = resetFifo (bulkLose s (.tailCell f)) f 0)
  ∧ (∀ q s,
      (mismatchOf (queueOf s q).fifo = none →
        spillTail s (.shaping q) = modShape s q (fun x => { x with fifo := fifoSpill x.fifo })
        ∧ (bulkBad s (.tailCell (.shaping q)) = false →
            refillTail s (.shaping q) = trimHead (modShape s q fun x => { x with fifo := fifoRefill x.fifo }) q))
      ∧ (∀ k, mismatchOf (queueOf s q).fifo = some k →
          spillTail s (.shaping q) = resetFifo s (.shaping q) k
          ∧ (bulkBad s (.tailCell (.shaping q)) = false → refillTail s (.shaping q) = resetFifo s (.shaping q) k)))
  ∧ (∀ p s,
      (mismatchOf (readyOf s p) = none →
        spillTail s (.ready p) = modReady s p fifoSpill
        ∧ (bulkBad s (.tailCell (.ready p)) = false → refillTail s (.ready p) = modReady s p fifoRefill))
      ∧ (∀ k, mismatchOf (readyOf s p) = some k →
          spillTail s (.ready p) = resetFifo s (.ready p) k
          ∧ (bulkBad s (.tailCell (.ready p)) = false → refillTail s (.ready p) = resetFifo s (.ready p) k)))
  ∧ (∀ i s, let f := flowOf s i
      (mismatchOf f.deferred = none →
        spillTail s (.deferred i) = setFlow s i { f with deferred := fifoSpill f.deferred }
        ∧ (bulkBad s (.tailCell (.deferred i)) = false → refillTail s (.deferred i) = setFlow s i { f with deferred := fifoRefill f.deferred }))
      ∧ (∀ k, mismatchOf f.deferred = some k →
          spillTail s (.deferred i) = resetFifo s (.deferred i) k
          ∧ (bulkBad s (.tailCell (.deferred i)) = false → refillTail s (.deferred i) = resetFifo s (.deferred i) k)))
  ∧ (∀ (f : Fifo Nat), (fifoSpill f).head ++ (fifoSpill f).middle ++ (fifoSpill f).tail = f.head ++ f.middle ++ f.tail
      ∧ (fifoRefill f).head ++ (fifoRefill f).middle ++ (fifoRefill f).tail = f.head ++ f.middle ++ f.tail)
  ∧ (∀ q s, (queueLive s q).length + 48 < queueHoles s q →
      (anyLow s tailDoms = false → exec (.queueCompaction q) s = .next (queueCount
        (modShape s q fun x => { x with fifo := { x.fifo with middle := x.fifo.middle.filter (entryLive s) } }) qcCompactions 1))
      ∧ (anyLow s tailDoms = true → exec (.queueCompaction q) s = .next (accessDoms s tailDoms)))
  ∧ (∀ s, s.queue.sampleMs ≠ 0 → s.queue.sampleAt ≤ s.upNs → firmwareRuns s = true →
      let t := modQueue s fun d =>
        { d with
          samples := (List.range 64).foldl
            (fun m q => mapSet m q ((sampleOf s q (decide (s.queue.sampleAt < s.upNs)) :: mapGetD [] m q).take 256)) s.queue.samples
          sampleLost := false, sampleAt := d.sampleAt + d.sampleMs * 1000000 }
      exec .queueSample s = .next (if s.queue.sampleLost then queueCount t qcSamplesMissed 64 else t))
  ∧ (∀ bank req s w, let x := nth BankArb.reset s.queue.banks bank
      arbWinner s x req.toNat = some w →
      let t := modQueue s fun q =>
        { q with
          banks := modNth q.banks bank fun _ => { owner := some w, last := modNth x.last (arbClass s w) fun _ => w }
          grants := modNth q.grants w (· + 1), starve := modNth q.starve w fun _ => 0 }
      exec (.bankArbitration bank req) s
        = .next (((List.range 16).filter fun n => bitOf req.toNat n && n != w).foldl (starveOne bank) t))

/-- Flash records, images, campaigns and tests (R141, R475, R482, R494, R495, R497, R502, R504 to R506, R514, R516): the waiting epoch record is
written, a full record sector is erased, a downloaded image takes over, the pace monitor raises its event at most once per second,
telemetry is sampled, a campaign's rounds and collections begin, a test ends with its duration, checkers lock and lose lock, and a
radio test sends its next frame. -/
def Obligations.ServiceRows : Prop :=
  (∀ s r, s.crypt.epochWrite = some r → exec .flashRecordWrite s = .next (replicateEpoch
    (modCrypt (programRecord s fun x => { x with epochs := some r }) fun c => { c with flashEpochs := r, epochWrite := none }) r))
  ∧ (∀ s, exec .recordSectorErase s = .next (modFw s fun f => { f with recs := { f.recs with eraseDue := false } }))
  ∧ (∀ s b, s.fw.handover = some b →
      let t := stageEvent (modFw s fun f =>
        { f with
          running := some b, old := f.running, bankB := !f.bankB
          onProbation := !((s.fw.recs.probation.map (·.confirmed)).getD false), handover := none }) 3
      exec .handoverDispatchHold s = .next (finishWhere t (fun op => entryCmd op.e == some .updateActivate && !argBit op.e 0)
        fun _ => okFigures [((runningVersion t : Nat) : Int)]))
  ∧ (∀ pace mv s, let t := modTest s fun t => { t with pace := pace }
      (s.test.paceFloor ≤ pace → exec (.paceBelowFloor pace mv) s = .next t)
      ∧ (∀ x, s.test.paceEventAt = some x → s.upNs < x + 1000000000 → exec (.paceBelowFloor pace mv) s = .next t)
      ∧ (pace < s.test.paceFloor → (∀ x, s.test.paceEventAt = some x → x + 1000000000 ≤ s.upNs) → exec (.paceBelowFloor pace mv) s
          = .next (raiseEvent (modTest t fun t => { t with paceEventAt := some s.upNs }) evWatchdog 2 pace s.test.paceFloor mv)))
  ∧ (∀ (r : Readings) s, s.test.telemAt ≤ s.upNs → firmwareRuns s = true → exec (.telemetrySample r) s = .next (modTest (accessDoms s [13]) fun t =>
      { t with
        telemetry := (({ timeNs := s.clk.timeNs, pace := r.pace, late := s.test.telemLost || decide (s.test.telemAt < s.upNs)
                         tempMaxQ := r.tempMaxQ, tempMinQ := r.tempMinQ, vcoreMv := r.vcoreMv, vaonMv := r.vaonMv, descInUse := descriptorsInUse s
                         granulesFree := 8192 - granulesInUse s, cmdsOutstanding := s.host.fetched.length + s.host.longOps.length
                         contextsBusy := contextsBusy s } : Telemetry) :: t.telemetry).take 1024
        telemAt := t.telemAt + t.telemMs * 1000000, telemLost := false, pace := r.pace.toNat }))
  ∧ (∀ s k, reachedRound s = some k → campaignRuns s = true → (∀ r, s.cmp.round = some r → r < k) →
      let t := closeCollection s
      (t.cmp.maxRounds ≤ k → exec .campaignRoundStart s = .next (endCampaign t))
      ∧ (k < t.cmp.maxRounds →
          let u := modCmp t fun c => { c with round := some k }
          exec .campaignRoundStart s
            = .next (announceTo (if u.cmp.planRound = some k then u else openRound u k) fun t => t.state == 0)))
  ∧ (∀ s k, s.cmp.round = some k → campaignRuns s = true → s.cmp.collecting = false →
      s.cmp.startAsn + k * s.cmp.roundSlots + s.cmp.bcastSlots ≤ currentAsn s →
      exec .collectionPhaseStart s = .next (endIfDone (modCmp s fun c =>
        { c with collecting := true, want := [], targets := c.targets.map fun t => { t with heard := false } })))
  ∧ (∀ r s t x, runOf s r = some t → t.endAt = some x → x ≤ s.upNs →
      exec (.testDurationExpiry r) s = .next (stopTest s r causeDuration))
  ∧ (∀ link lane s t l, runOf s link = some t → t.running = true → t.dir ≠ 1 → t.lanes[lane]? = some l →
      (l.locked = false → exec (.checkerLocked link lane) s = .next (modRun s link fun t =>
        { t with lanes := modNth t.lanes lane fun l => { l with locked := true } }))
      ∧ (∀ bits, l.locked = true → let more := drawBelow s (bits - 1024 + 1)
          exec (.checkerLockLoss link lane bits) s = .next (modRun more.2 link fun t =>
            { t with lanes := modNth t.lanes lane fun l =>
              { l with
                locked := false, bits := l.bits + bits, errors := sat32n (l.errors + 32 + more.1), losses := min (l.losses + 1) 0xFFFF } })))
  ∧ (∀ b s t, runOf s (5 + bandNum b) = some t → t.running = true → (t.kind = 2 ∨ t.kind = 3) →
      (∀ x, t.lastTx = some x → x + t.intervalUs * 1000 ≤ s.upNs) → (t.count = 0 ∨ nth 0 t.counts 0 < t.count) →
      let u := testCount (modRun s (5 + bandNum b) fun t => { t with seqTx := (t.seqTx + 1) % 2 ^ 32, lastTx := some s.upNs })
        (5 + bandNum b) 0 1
      (t.kind = 2 → exec (.testFrameSend b) s = .next u)
      ∧ (∀ p, t.kind = 3 → profileOf u t.profile = some p →
          let f := modulate (some p)
            { band := bandNum b, channel := t.channel, profile := t.profile, kind := 8, tA := nowNs u, counter := 0, phy := 0
              psdu := testPsdu u t.len t.seqTx, wave := .none, levelQ := outputLevelQ (u.radio.tx.get b) (isOfdm p) 0 } 0 0 mapZero true 0
          exec (.testFrameSend b) s = .next { u with path := { u.path with air := u.path.air ++ [f] } }))

/-! Rules stated whole. -/

/-- R112: a context that holds a GFSK header to decide rejects it in exactly the five cases, and goes on to its PSDU in any other. -/
def Obligations.HeaderRejection : Prop :=
  ∀ i hdr soft s r p, (ctxOf s i).rx = some r → profileOf s (ctxOf s i).profile = some p → (ctxOf s i).state = .locked → isOfdm p = false →
    let h := hdr.toNat % 2 ^ 24
    let bad := hcs8 (leBytes 2 (bitsOf h 15 0)) ≠ bitsOf h 23 16 ∨ bitsOf h 10 0 = 0 ∨ bitsOf h 15 13 = 6 ∨ bitsOf h 15 13 = 7
      ∨ (bitsOf h 15 13 % 2 = 1 ∧ p.mode = 0) ∨ p.maxPsdu < bitsOf h 10 0
    (bad → exec (.headerDecide i ⟨hdr, soft⟩) s = .next (headerFails s i r h))
    ∧ (¬ bad → exec (.headerDecide i ⟨hdr, soft⟩) s = .next (setCtx
        (if r.held.isSome then rxCount s (bandOfD (ctxOf s i).band) rxOverlapLost else s) i
        { ctxOf s i with
          state := .psdu
          rx := some { r with
            decidedNs := antennaNs s (bandOfD (ctxOf s i).band), symbolBits := 0, held := none, length := bitsOf h 10 0, whiten := bitOf h 12, fcsType := natOf (bitOf h 11), rateHint := bitsOf h 15 13
            toneMap := 0, posted := s.host.rx.map fun x => if ringOn x.regs && x.regs.active then x.posted.length else 0 } }))

/-- R147: AIR_SET_ROUTER_ADDRESS while a band is enabled, and with a reserved address of R118. -/
def Obligations.RouterAddressRefusals : Prop :=
  (∀ e s, admitted .airSetRouterAddress e s = true → partRefuses (arrived e s) e .airSetRouterAddress = false → e.stageId = 0 →
    conflicts (arrived e s) e = false → (∃ b, bandEnabled (arrived e s) b = true) →
    exec (.airSetRouterAddress e) s = .next (respond (arrived e s) e (refuse stRefusedState) true))
  ∧ (∀ e s, served .airSetRouterAddress e s = true → viewRefuses (arrived e s) e (cmdSpec .airSetRouterAddress) = false →
      lengthsOk e (cmdSpec .airSetRouterAddress).buf = true →
      (argBits e 31 0 = 0 ∨ 0xFFFFFF00 ≤ argBits e 31 0 ∧ argBits e 31 0 ≤ 0xFFFFFFFF) →
      exec (.airSetRouterAddress e) s = .next (respond (arrived e s) e (refuse stBadArg) true))

/-- R356: a frame of a node whose MIC fails. Nothing is sent or delivered, no entry and no plan changes, the failure counts, and the ring
has its FS_TAG_FAIL entry where error reports are on (R80); the entry's `hit` stays as the lookup left it. -/
def Obligations.TagFailure : Prop :=
  ∀ s x i n join go key, (genCase s n x.h.keyGen join = .normal ∨ genCase s n x.h.keyGen join = .switch) →
    let eui := if x.h.dest = addrBroadcast ∧ join = false then groupEui else n.eui
    let t := frameLane (resolveKey s eui x.h.keyGen.toNat).1
    let u := verifyNode s x i n join go
    (resolveKey s eui x.h.keyGen.toNat).2 = .key key → (x.verify key n.eui).2 = false →
    u.radio.tx = s.radio.tx ∧ u.path = s.path ∧ u.node = s.node ∧ u.orbit = s.orbit ∧ u.queue = s.queue ∧ u.clk = s.clk
    ∧ u.air = s.air ∧ u.pair = s.pair
    ∧ u = cutFails (reportHidden (cryptCount t xcTagFail 1) x i n fsTagFail) x
    ∧ (cryptCount t xcTagFail 1).crypt.counters = bumpBy t.crypt.counters xcTagFail 1
    ∧ (errReport (cryptCount t xcTagFail 1) n.rxRing = true → reportHidden (cryptCount t xcTagFail 1) x i n fsTagFail
        = (hostDeliver (cryptCount t xcTagFail 1) (x.uplink (some (i, n)) (List.replicate x.sealed.length 0) 0) n.rxRing fsTagFail).1)

/-- R428: what a TIME per-function reset keeps and what it clears. -/
def Obligations.TimeFunctionReset : Prop :=
  ∀ s, let t := functionDiscards s 0x0B
    t.clk.timeNs = s.clk.timeNs ∧ t.clk.timeFrac = s.clk.timeFrac ∧ t.clk.increment = s.clk.increment ∧ t.clk.pins = s.clk.pins
    ∧ t.clk.trigs = s.clk.trigs ∧ t.clk.iAcc = 0 ∧ t.clk.meas = [] ∧ (∀ x ∈ t.clk.srcs, x.last = none ∧ x.rejected = [])
    ∧ t.clk.servo = (if sourceList s = [] then .free else .acquire)
    ∧ t.clk.u0 = s.clk.u0 ∧ t.clk.tM = s.clk.tM ∧ t.clk.uncertain = s.clk.uncertain
    ∧ (∀ u, functionReset u 0x0B = functionDiscards
        (discardStages (endCommands u (fun e => entryFn e == 0x0B) stFunctionReset) fun st => bitOf st.mask.toNat 10) 0x0B)
    ∧ (∀ e u, ready .sysFunctionReset e u = true → argBits e 5 0 = 0x0B → exec (.sysFunctionReset e) u = .next
        (functionReset (respond (atWork .sysFunctionReset e (arrived e u) (arrived e u)) e { status := stAccepted } false) 0x0B))

/-- R484: UPDATE_REVERT hands back as a probation failure with the old image present does, but for the probation count; without
probation, or without the old image, it is refused. -/
def Obligations.RevertRule : Prop :=
  (∀ e s, admitted .updateRevert e s = true → partRefuses (arrived e s) e .updateRevert = false → e.stageId = 0 →
    conflicts (arrived e s) e = false → ((arrived e s).fw.onProbation = false ∨ (arrived e s).fw.old = none) →
    exec (.updateRevert e) s = .next (respond (arrived e s) e (refuse stUpdateSequence) true))
  ∧ (∀ x tag op s, worksAs x tag op .updateRevert s → s.fw.onProbation = true → s.fw.old.isSome = true →
      exec (.longCommandComplete x tag) s = .next (answerFinal (stageEvent (handBack (ended op s)) 5) op.e okReply))
  ∧ (∀ s, firmwareRuns s = true → s.fw.onProbation = true → s.fw.old.isSome = true →
      exec .probationFailure s = .next (stageEvent (countFailure (handBack s)) 5))
  ∧ (∀ s, countFailure s = programRecord s fun r => { r with probation := r.probation.map fun p => { p with count := p.count + 1 } })
end

