-- ==== Sys2Proof/Laws/Command.lean ====
section
/-! SUPPORT. What a host command that nothing turns away does: the state its function leaves and its response, in one lemma for each
shape of command. The per-command statements follow from these without unfolding the checks of R75. -/

namespace Sys2Proof.Laws

open Sys2Proof.Machine

/-- A command's code names the command. -/
theorem cmdOfCode_cmdCode (c : CmdId) : cmdOfCode (cmdCode c) = some c := by
  cases c <;> decide

/-- The parts of `served`. -/
theorem served_parts {c : CmdId} {e : CmdEntry} {s : State} (h : served c e s = true) :
    e.word.toNat % 65536 = cmdCode c ∧ (∀ f ∈ s.host.fetched, isEntry s e f = false) ∧ sessionTakes e s = true
      ∧ (e.session = .spi → e.buf = windowBytes s e) ∧ mayStart (entered e s) (entered e s).host.fetched e = true
      ∧ stalls (entered e s) e = false := by
  unfold served at h
  simp only [Bool.and_eq_true, beq_iff_eq, List.all_eq_true, Bool.not_eq_true', Bool.or_eq_true, bne_iff_ne] at h
  obtain ⟨⟨⟨⟨⟨h1, h2⟩, h3⟩, h4⟩, h5⟩, h6⟩ := h
  exact ⟨h1, h2, h3, fun hx => h4.resolve_left fun hn => hn hx, h5, h6⟩

/-- The parts of `admitted`. -/
theorem admitted_parts {c : CmdId} {e : CmdEntry} {s : State} (h : admitted c e s = true) :
    served c e s = true ∧ firstRefusal c e (arrived e s) (stageView (arrived e s) e) = none := by
  unfold admitted at h
  simp only [Bool.and_eq_true, Option.isNone_iff_eq_none] at h
  exact h

/-- The parts of `ready`. -/
theorem ready_parts {c : CmdId} {e : CmdEntry} {s : State} (h : ready c e s = true) :
    admitted c e s = true ∧ e.stageId = 0 ∧ ((cmdSpec c).reads = false → conflicts (arrived e s) e = false)
      ∧ lastRefusal .now c e (arrived e s) = none
      ∧ tooLong e (cmdSpec c) ((fnImpl c).apply .now e (arrived e s)).2 = false := by
  unfold ready at h
  simp only [Bool.and_eq_true, beq_iff_eq, Bool.not_eq_true', Bool.or_eq_true, Option.isNone_iff_eq_none] at h
  obtain ⟨⟨⟨⟨h1, h2⟩, h3⟩, h4⟩, h5⟩ := h
  exact ⟨h1, h2, fun hr => h3.resolve_left (by rw [hr]; decide), h4, h5⟩

/-- The word already names the row. -/
theorem named_ready {c : CmdId} {e : CmdEntry} (h : e.word.toNat % 65536 = cmdCode c) : named c e = e := by
  have hw : entryTag e ++ BitVec.ofNat 16 (cmdCode c) = e.word := by
    rw [← h]
    apply BitVec.eq_of_toNat_eq
    unfold entryTag
    simp only [BitVec.toNat_append, BitVec.extractLsb'_toNat, BitVec.toNat_ofNat]
    have := e.word.isLt
    rw [Nat.shiftLeft_eq, Nat.shiftRight_eq_div_pow, Nat.mul_comm, ← Nat.two_pow_add_eq_or_of_lt (Nat.mod_lt _ (by decide))]
    omega
  unfold named
  rw [hw]

theorem entryCmd_ready {c : CmdId} {e : CmdEntry} (h : e.word.toNat % 65536 = cmdCode c) : entryCmd e = some c := by
  unfold entryCmd; rw [h]; exact cmdOfCode_cmdCode c

/-- What a command in service does, from the state it arrives in (R75, R93): the checks of R75 in order, then its effect. -/
def runChecked (c : CmdId) (e : CmdEntry) (s : State) : State :=
  match firstRefusal c e s (stageView s e) with
  | some r => respond s e r true
  | none =>
    if isStageCommand c then runStageCmd c e s
    else if e.stageId != 0 then runStaged c e s (stageView s e)
    else if c == .pairLocalApply then (if partRefuses s e c then respond s e (refuse stRefusedState) true else runLocal e s)
    else runNow c e s

/-- A command that the part takes into service reaches its function. -/
theorem hostCommand_served {c : CmdId} {e : CmdEntry} {s : State} (h : served c e s = true) :
    hostCommand c e s = runChecked c e (arrived e s) := by
  obtain ⟨hw, hf, ht, hb, hm, hs⟩ := served_parts h
  have hbuf : (if (e.session == .spi) = true then { e with buf := windowBytes s e } else e) = e := by
    split
    · rename_i hx
      rw [← hb (beq_iff_eq.mp hx)]
    · rfl
  have hfree : (e.session == .spi && s.host.spi.outstanding) = false := by
    unfold sessionTakes at ht
    cases hx : e.session <;> rw [hx] at ht <;> simp_all
  unfold hostCommand
  rw [named_ready hw]
  dsimp only
  rw [List.find?_eq_none.mpr (fun f hm => by rw [hf f hm]; decide)]
  dsimp only
  unfold takeEntry
  rw [hfree, if_neg (by decide), if_pos ht, hbuf]
  unfold deliver
  rw [hm, hs]
  show runEntry e (accessDoms (entered e s) (entryDoms e)) = _
  unfold runEntry
  rw [entryCmd_ready hw]
  rfl

/-- A command outside the stage protocol runs: its function's state and reply, and what follows them. -/
theorem ready_run {c : CmdId} {e : CmdEntry} {s : State} (h : ready c e s = true) (hc : isStageCommand c = false)
    (hl : c ≠ .pairLocalApply) :
    hostCommand c e s
      = finishRun c e (arrived e s) ((fnImpl c).apply .now e (arrived e s)).1 ((fnImpl c).apply .now e (arrived e s)).2 := by
  obtain ⟨hd, h0, hk, ha, -⟩ := ready_parts h
  obtain ⟨hv, hr⟩ := admitted_parts hd
  rw [hostCommand_served hv]
  unfold runChecked
  rw [hr]
  dsimp only
  have hl' : (c == .pairLocalApply) = false := by cases hq : (c == CmdId.pairLocalApply); rfl; exact absurd (beq_iff_eq.mp hq) hl
  rw [hc, hl']
  have h0' : (e.stageId != 0) = false := by rw [h0]; rfl
  rw [h0']
  unfold runNow
  have hcf : (!(cmdSpec c).reads && conflicts (arrived e s) e) = false := by
    cases hq : (cmdSpec c).reads
    · rw [hk hq]; rfl
    · rfl
  rw [hcf, ha]
  rfl

/-- A command of one response: its function's state, answered. -/
theorem ready_short {c : CmdId} {e : CmdEntry} {s : State} (h : ready c e s = true) (hc : isStageCommand c = false)
    (hl : c ≠ .pairLocalApply) (hm : c ≠ .keyGenMap) (hg : (cmdSpec c).long = false) {t : State} {r : Reply}
    (ha : (fnImpl c).apply .now e (arrived e s) = (t, r)) (h1 : r.status ≠ stAccepted) (h2 : r.status ≠ stDeferred) :
    hostCommand c e s = answerFinal t e r := by
  obtain ⟨-, -, -, -, ht⟩ := ready_parts h
  rw [ready_run h hc hl]
  rw [ha] at ht ⊢
  unfold finishRun
  have hm' : (c == .keyGenMap) = false := by cases hq : (c == CmdId.keyGenMap); rfl; exact absurd (beq_iff_eq.mp hq) hm
  dsimp only at ht ⊢
  rw [ht, hg, hm', if_neg (by decide), if_neg h1, if_neg h2]
  rfl

/-- A command that meets an outcome of its function: its one response. -/
theorem ready_refused {c : CmdId} {e : CmdEntry} {s : State} (h : ready c e s = true) (hc : isStageCommand c = false)
    (hl : c ≠ .pairLocalApply) (hm : c ≠ .keyGenMap) {t : State} {r : Reply}
    (ha : (fnImpl c).apply .now e (arrived e s) = (t, r)) (h0 : r.status ≠ stOk) (h1 : r.status ≠ stAccepted)
    (h2 : r.status ≠ stDeferred) : hostCommand c e s = answerFinal t e r := by
  obtain ⟨-, -, -, -, ht⟩ := ready_parts h
  rw [ready_run h hc hl]
  rw [ha] at ht ⊢
  unfold finishRun
  have hm' : (c == .keyGenMap) = false := by cases hq : (c == CmdId.keyGenMap); rfl; exact absurd (beq_iff_eq.mp hq) hm
  dsimp only at ht ⊢
  rw [ht, hm', if_neg (by decide), if_neg h1, if_neg h2]
  simp [h0]

/-- A long command whose work is done at once: its interim response, then its final one. -/
theorem ready_done {c : CmdId} {e : CmdEntry} {s : State} (h : ready c e s = true) (hc : isStageCommand c = false)
    (hl : c ≠ .pairLocalApply) (hm : c ≠ .keyGenMap) (hg : (cmdSpec c).long = true) {t : State} {r : Reply}
    (ha : (fnImpl c).apply .now e (arrived e s) = (t, r)) (h0 : r.status = stOk) :
    hostCommand c e s = answerFinal (respond t e { status := stAccepted } false) e r := by
  obtain ⟨-, -, -, -, ht⟩ := ready_parts h
  rw [ready_run h hc hl]
  rw [ha] at ht ⊢
  unfold finishRun
  have hm' : (c == .keyGenMap) = false := by cases hq : (c == CmdId.keyGenMap); rfl; exact absurd (beq_iff_eq.mp hq) hm
  dsimp only at ht ⊢
  rw [ht, hg, hm', h0, if_neg (by decide), if_neg (by decide), if_neg (by decide)]
  rfl

/-- A command that changes the state and answers `ST_OK`. -/
theorem ready_setter {c : CmdId} {e : CmdEntry} {s : State} {f : CmdEntry → State → State} (h : ready c e s = true)
    (ha : (fnImpl c).apply = setter f) (hc : isStageCommand c = false) (hl : c ≠ .pairLocalApply) (hm : c ≠ .keyGenMap)
    (hg : (cmdSpec c).long = false) : hostCommand c e s = answerFinal (f e (arrived e s)) e okReply :=
  ready_short h hc hl hm hg (by rw [ha]; rfl) (by decide) (by decide)

/-- A long command whose whole effect comes with its completion: its interim response, and the work that goes on. -/
theorem ready_long {c : CmdId} {e : CmdEntry} {s : State} (h : ready c e s = true) (hc : isStageCommand c = false)
    (hl : c ≠ .pairLocalApply) {t : State} {r : Reply} (ha : (fnImpl c).apply .now e (arrived e s) = (t, r))
    (h1 : r.status = stAccepted) :
    hostCommand c e s
      = (fnImpl c).after e (respond { t with host := { t.host with longOps := t.host.longOps
          ++ [{ e := e, since := (arrived e s).upNs, ref := (fnImpl c).longRef e (arrived e s) }] } } e r false) := by
  obtain ⟨-, -, -, -, ht⟩ := ready_parts h
  rw [ready_run h hc hl]
  rw [ha] at ht ⊢
  unfold finishRun
  dsimp only at ht ⊢
  rw [ht, if_neg (by decide), if_pos h1]

/-- An update of a view's registers writes the host interface alone. -/
theorem modView_frame (s : State) (v : View) (f : ViewIf → ViewIf) : modView s v f = { s with host := (modView s v f).host } := by
  cases v <;> rfl

/-- A response entry writes the host interface alone. -/
theorem respondChan_frame (s : State) (v : View) (n : Nat) (mk : Bool → Response) :
    respondChan s v n mk = { s with host := (respondChan s v n mk).host } := by
  unfold respondChan
  dsimp only
  split
  · rfl
  · split
    · exact modView_frame _ _ _
    · exact modView_frame _ _ _

/-- A response writes the host interface and counts an open value, nothing else. -/
theorem respond_frame (s : State) (e : CmdEntry) (r : Reply) (final : Bool) :
    respond s e r final = { s with host := (respond s e r final).host, free := (respond s e r final).free } := by
  unfold respond
  dsimp only
  generalize (if (!r.figures.isEmpty && r.data.isEmpty) = true then s.free + 1 else s.free) = k
  split
  · rw [respondChan_frame]
  · split
    · rw [modView_frame]
    · rfl
  · rfl

/-- A final response writes the host interface and, of a pair, what waits for the standby and a use of the link's key; nothing else. -/
theorem answerFinal_frame (s : State) (e : CmdEntry) (r : Reply) :
    answerFinal s e r = { s with
                          host := (answerFinal s e r).host, free := (answerFinal s e r).free, pair := (answerFinal s e r).pair
                          key := (answerFinal s e r).key } := by
  unfold answerFinal
  have hr := fun s => respond_frame s e r true
  split
  · split
    · unfold linkHold linkSend linkUse modPair
      split <;> rfl
    · split
      · rw [hr]
        unfold deltaAdd pairCount modPair
        split <;> rfl
      · rw [hr]
  · rw [hr]

end Sys2Proof.Laws
end

