-- ==== Sys2Proof/Laws/Memory.lean ====
section
/-! SUPPORT. Memory keeps its canonical form: sorted, and with no entry equal to what an unlisted address reads as. -/

namespace Sys2Proof.Laws

open Sys2Proof.Machine

/-- Sorted above a bound: the parts. -/
theorem sortedFrom_cons (d : Byte) (lo : Option Nat) (c : Host.Cell) (m : Memory) :
    Memory.sortedFrom d lo (c :: m) = true ↔ (∀ l ∈ lo, l < c.1) ∧ c.2 ≠ d ∧ Memory.sortedFrom d (some c.1) m = true := by
  cases lo <;> simp [Memory.sortedFrom, and_assoc]

/-- A bound may be lowered. -/
theorem sortedFrom_lower (d : Byte) {lo hi : Option Nat} (m : Memory) (h : ∀ l ∈ lo, ∃ k ∈ hi, l ≤ k)
    (hm : Memory.sortedFrom d hi m = true) : Memory.sortedFrom d lo m = true := by
  cases m with
  | nil => rfl
  | cons c m =>
    rw [sortedFrom_cons] at hm ⊢
    refine ⟨fun l hl => ?_, hm.2⟩
    obtain ⟨k, hk, hlk⟩ := h l hl
    exact Nat.lt_of_le_of_lt hlk (hm.1 k hk)

theorem sortedFrom_erase (d : Byte) (lo : Option Nat) (m : Memory) (a : Nat) (h : Memory.sortedFrom d lo m = true) :
    Memory.sortedFrom d lo (memErase m a) = true := by
  induction m generalizing lo with
  | nil => exact h
  | cons c m ih =>
    rw [sortedFrom_cons] at h
    unfold memErase
    split
    · exact sortedFrom_lower d m (fun l hl => ⟨c.1, rfl, Nat.le_of_lt (h.1 l hl)⟩) h.2.2
    · rw [sortedFrom_cons]; exact ⟨h.1, h.2.1, ih _ h.2.2⟩

theorem sortedFrom_insert (d : Byte) (lo : Option Nat) (m : Memory) (a : Nat) (b : Byte) (hb : b ≠ d) (ha : ∀ l ∈ lo, l < a)
    (h : Memory.sortedFrom d lo m = true) (hn : ∀ c ∈ m, c.1 ≠ a) : Memory.sortedFrom d lo (memInsert m a b) = true := by
  induction m generalizing lo with
  | nil => unfold memInsert; rw [sortedFrom_cons]; exact ⟨ha, hb, rfl⟩
  | cons c m ih =>
    rw [sortedFrom_cons] at h
    unfold memInsert
    split
    · rename_i hlt
      rw [sortedFrom_cons, sortedFrom_cons]
      exact ⟨ha, hb, fun l hl => by cases hl; exact hlt, h.2.1, h.2.2⟩
    · rename_i hlt
      rw [sortedFrom_cons]
      refine ⟨h.1, h.2.1, ih _ (fun l hl => ?_) h.2.2 fun x hx => hn x (List.mem_cons_of_mem c hx)⟩
      cases hl
      have := hn c List.mem_cons_self
      omega

theorem not_mem_sorted (d : Byte) (l a : Nat) (m : Memory) (h : Memory.sortedFrom d (some l) m = true) (hl : a ≤ l) : ∀ c ∈ m, c.1 ≠ a := by
  induction m generalizing l with
  | nil => intro c hc; cases hc
  | cons x m ih =>
    rw [sortedFrom_cons] at h
    have hx := h.1 l rfl
    intro c hc
    cases hc with
    | head => omega
    | tail _ hc => exact ih x.1 h.2.2 (by omega) c hc

theorem erase_not_mem (d : Byte) (lo : Option Nat) (m : Memory) (a : Nat) (h : Memory.sortedFrom d lo m = true) : ∀ c ∈ memErase m a, c.1
    ≠ a := by
  induction m generalizing lo with
  | nil => intro c hc; cases hc
  | cons x m ih =>
    rw [sortedFrom_cons] at h
    unfold memErase
    split
    · rename_i hx
      subst hx
      exact not_mem_sorted d x.1 x.1 m h.2.2 (Nat.le_refl _)
    · rename_i hx
      intro c hc
      cases hc with
      | head => exact fun e => hx e.symm
      | tail _ hc => exact ih _ h.2.2 c hc

/-- Writing a byte keeps the canonical form. -/
theorem wf_memWrite (d : Byte) (m : Memory) (a : Nat) (b : Byte) (h : Memory.wf d m = true) : Memory.wf d (memWrite d m a b) = true := by
  unfold memWrite
  split
  · exact sortedFrom_erase d none m a h
  · rename_i hb
    exact sortedFrom_insert d none _ a b hb (fun l hl => nomatch hl) (sortedFrom_erase d none m a h) (erase_not_mem d none m a h)

/-- Writing bytes keeps the canonical form. -/
theorem wf_memWriteBytes (d : Byte) (m : Memory) (a : Nat) (bs : List Byte) (h : Memory.wf d m = true) :
    Memory.wf d (memWriteBytes d m a bs) = true := by
  induction bs generalizing m a with
  | nil => exact h
  | cons b bs ih => exact ih _ _ (wf_memWrite d m a b h)

theorem sortedFrom_filter (d : Byte) (lo : Option Nat) (m : Memory) (p : Host.Cell → Bool) (h : Memory.sortedFrom d lo m = true) :
    Memory.sortedFrom d lo (m.filter p) = true := by
  induction m generalizing lo with
  | nil => exact h
  | cons c m ih =>
    rw [sortedFrom_cons] at h
    rw [List.filter_cons]
    split
    · rw [sortedFrom_cons]; exact ⟨h.1, h.2.1, ih _ h.2.2⟩
    · exact sortedFrom_lower d _ (fun l hl => ⟨c.1, rfl, Nat.le_of_lt (h.1 l hl)⟩) (ih _ h.2.2)

/-- Erasing a range keeps the canonical form. -/
theorem wf_memClear (d : Byte) (m : Memory) (lo n : Nat) (h : Memory.wf d m = true) : Memory.wf d (memClear m lo n) = true :=
  sortedFrom_filter d none m _ h

/-- Above every listed address a memory reads as unlisted. -/
theorem memReadBytes_above (d : Byte) (m : Memory) (a n : Nat) (h : ∀ c ∈ m, c.1 < a) : memReadBytes d m a n = List.replicate n d := by
  have one (m : Memory) (b : Nat) (h : ∀ c ∈ m, c.1 < b) : memRead d m b = d := by
    induction m with
    | nil => rfl
    | cons c m ih =>
      have hc := h c (by simp)
      simp only [memRead]
      rw [if_neg (by omega)]
      exact ih fun x hx => h x (by simp [hx])
  induction n generalizing a with
  | zero => rfl
  | succ n ih =>
    rw [memReadBytes, one m a h, ih (a + 1) fun c hc => by have := h c hc; omega, List.replicate_succ]

end Sys2Proof.Laws
end

