-- ==== Sys2Proof/Laws/Keeps.lean ====
section
/-! SUPPORT. What it is for an operation to keep the queue and the canonical form of the addressed memories, and the rules by which that is shown of an
operation from the operations it calls. -/

namespace Sys2Proof.Laws

open Sys2Proof.Machine

/-- Both addressed memories are in canonical form. -/
def MemOk (s : State) : Prop := Memory.wf 0xFF s.fw.flash = true ∧ Memory.wf 0 s.host.spi.window = true

/-- The queue is the same, and canonical memories stay canonical. -/
def Keeps (s0 s : State) : Prop := s.pending = s0.pending ∧ (MemOk s0 → MemOk s)

theorem keeps_refl (s : State) : Keeps s s := ⟨rfl, id⟩
theorem keeps_mk {s0 s : State} {upNs free part role straps resetHigh quiescing snapshotSeq host clk key air node radio orbit crypt queue
    route path pair pwr fw cmp test}
    (h : Keeps s0 s) (hw : host.spi.window = s.host.spi.window) (hf : fw.flash = s.fw.flash) :
    Keeps s0 (State.mk s.pending upNs free part role straps resetHigh quiescing snapshotSeq host clk key air node radio orbit crypt queue route path pair pwr fw cmp test) :=
  ⟨h.1, fun k => ⟨(congrArg (fun m => Memory.wf 0xFF m) hf).trans (h.2 k).1, (congrArg (fun m => Memory.wf 0 m) hw).trans (h.2 k).2⟩⟩
theorem keeps_mem {s0 s : State} {upNs free part role straps resetHigh quiescing snapshotSeq host clk key air node radio orbit crypt
    queue route path pair pwr fw cmp test}
    (h : Keeps s0 s) (hw : Memory.wf 0 s.host.spi.window = true → Memory.wf 0 host.spi.window = true)
    (hf : Memory.wf 0xFF s.fw.flash = true → Memory.wf 0xFF fw.flash = true) :
    Keeps s0 (State.mk s.pending upNs free part role straps resetHigh quiescing snapshotSeq host clk key air node radio orbit crypt queue route path pair pwr fw cmp test) :=
  ⟨h.1, fun k => ⟨hf (h.2 k).1, hw (h.2 k).2⟩⟩
theorem keeps_foldl {α : Type} {s0 s : State} {f : State → α → State} {l : List α} (h : Keeps s0 s)
    (hf : ∀ t x, Keeps s0 t → Keeps s0 (f t x)) : Keeps s0 (l.foldl f s) := by
  induction l generalizing s with
  | nil => exact h
  | cons x l ih => exact ih (hf s x h)
theorem keeps_foldr {α : Type} {s0 s : State} {f : α → State → State} {l : List α} (h : Keeps s0 s)
    (hf : ∀ x t, Keeps s0 t → Keeps s0 (f x t)) : Keeps s0 (l.foldr f s) := by
  induction l with
  | nil => exact h
  | cons x l ih => exact hf x _ ih
theorem keeps_ite {s0 a b : State} {c : Prop} [Decidable c] (ha : Keeps s0 a) (hb : Keeps s0 b) : Keeps s0 (if c then a else b) := by
  split
  · exact ha
  · exact hb
theorem keeps_ite_fst {α : Type} {s0 : State} {a b : State × α} {c : Prop} [Decidable c] (ha : Keeps s0 a.1) (hb : Keeps s0 b.1) :
    Keeps s0 (if c then a else b).1 := by
  split
  · exact ha
  · exact hb
theorem keeps_fst {α : Type} {s0 s : State} {p : State × α} {a : α} (e : p = (s, a)) (h : Keeps s0 p.1) : Keeps s0 s := by
  rw [e] at h; exact h
theorem keeps_snd {α : Type} {s0 s : State} {p : α × State} {a : α} (e : p = (a, s)) (h : Keeps s0 p.2) : Keeps s0 s := by
  rw [e] at h; exact h
theorem keeps_foldl_fst {α β : Type} {s0 : State} {f : State × β → α → State × β} {l : List α} {p : State × β} (h : Keeps s0 p.1)
    (hf : ∀ t x, Keeps s0 t.1 → Keeps s0 (f t x).1) : Keeps s0 (l.foldl f p).1 := by
  induction l generalizing p with
  | nil => exact h
  | cons x l ih => exact ih (hf p x h)

end Sys2Proof.Laws
end

