-- ==== Sys2Proof/Laws/KeepsHost.lean ====
section
/-! SUPPORT. The queue and the canonical form of the addressed memories are kept by the shared operations, keys, Ephemeris, the pair link, the calendar, the pending queue and power. -/

namespace Sys2Proof.Laws

open Sys2Proof.Machine

theorem keeps_linkUse {s0 : State} (s : State) (hs : Keeps s0 s) : Keeps s0 (linkUse s) := by
  unfold Machine.linkUse
  repeat' first
    | with_reducible assumption | dsimp only | (with_reducible refine keeps_mk ?_ rfl rfl)

theorem keeps_modPair {s0 : State} (s : State) (f : Pair → Pair) (hs : Keeps s0 s) : Keeps s0 (modPair s f) := by
  unfold Machine.modPair
  repeat' first
    | with_reducible assumption | (with_reducible refine keeps_mk ?_ rfl rfl)

theorem keeps_linkSend {s0 : State} (s : State) (type : Nat) (body : List Byte) (hs : Keeps s0 s) : Keeps s0 (linkSend s type body) := by
  unfold Machine.linkSend
  repeat' first
    | with_reducible assumption | with_reducible apply keeps_modPair | with_reducible apply keeps_linkUse | with_reducible apply keeps_ite

theorem keeps_pairCount {s0 : State} (s : State) (i : Nat) (n : Nat) (hs : Keeps s0 s) : Keeps s0 (pairCount s i n) := by
  unfold Machine.pairCount
  repeat' first
    | with_reducible assumption | with_reducible apply keeps_modPair

theorem keeps_deltaAdd {s0 : State} (s : State) (r : DeltaRec) (hs : Keeps s0 s) : Keeps s0 (deltaAdd s r) := by
  unfold Machine.deltaAdd
  repeat' first
    | with_reducible assumption | with_reducible apply keeps_modPair | with_reducible apply keeps_pairCount
    | with_reducible apply keeps_ite

theorem keeps_linkHold {s0 : State} (s : State) (h2 : Hold) (hs : Keeps s0 s) : Keeps s0 (linkHold s h2) := by
  unfold Machine.linkHold
  repeat' first
    | with_reducible assumption | with_reducible apply keeps_modPair

theorem keeps_drawEntropy {s0 : State} (s : State) (hs : Keeps s0 s) : Keeps s0 (drawEntropy s).2 := by
  unfold Machine.drawEntropy
  repeat' first
    | with_reducible assumption | dsimp only | (with_reducible refine keeps_mk ?_ rfl rfl)

theorem keeps_modView {s0 : State} (s : State) (v : View) (f : ViewIf → ViewIf) (hs : Keeps s0 s) : Keeps s0 (modView s v f) := by
  unfold Machine.modView
  repeat' first
    | with_reducible assumption | split | dsimp only | (with_reducible refine keeps_mk ?_ rfl rfl)

theorem keeps_raiseAt {s0 : State} (s : State) (code : Nat) (timeNs : Nat) (a0 : Nat) (a1 : Nat) (a2 : Nat) (a3 : Nat) (hs : Keeps s0 s)
    : Keeps s0 (raiseAt s code timeNs a0 a1 a2 a3) := by
  unfold Machine.raiseAt
  repeat' first
    | with_reducible assumption | with_reducible apply keeps_modView | with_reducible apply keeps_ite

theorem keeps_raiseEvent {s0 : State} (s : State) (code : Nat) (a0 : Nat) (a1 : Nat) (a2 : Nat) (a3 : Nat) (hs : Keeps s0 s) : Keeps s0
    (raiseEvent s code a0 a1 a2 a3) := by
  unfold Machine.raiseEvent
  repeat' first
    | with_reducible assumption | with_reducible apply keeps_raiseAt

theorem keeps_modChan {s0 : State} (s : State) (v : View) (n : Nat) (f : CmdChan → CmdChan) (hs : Keeps s0 s) : Keeps s0 (modChan s v n
    f) := by
  unfold Machine.modChan
  repeat' first
    | with_reducible assumption | with_reducible apply keeps_modView

theorem keeps_respondChan {s0 : State} (s : State) (v : View) (n : Nat) (mk : Bool → Response) (hs : Keeps s0 s) : Keeps s0 (respondChan
    s v n mk) := by
  unfold Machine.respondChan
  repeat' first
    | with_reducible assumption | with_reducible apply keeps_modChan | with_reducible apply keeps_modView | with_reducible apply keeps_ite

theorem keeps_respond {s0 : State} (s : State) (e : CmdEntry) (r : Reply) (final : Bool) (hs : Keeps s0 s) : Keeps s0 (respond s e r
    final) := by
  unfold Machine.respond
  repeat' first
    | with_reducible assumption | with_reducible apply keeps_respondChan | with_reducible apply keeps_modView
    | with_reducible apply keeps_ite | split | dsimp only | (with_reducible refine keeps_mk ?_ rfl rfl)
    | (with_reducible refine keeps_mem ?_ (fun k => by first | exact k | exact wf_memWriteBytes _ _ _ _ k | exact wf_memClear _ _ _ _ k) (fun k => by first | exact k | exact wf_memWriteBytes _ _ _ _ k | exact wf_memClear _ _ _ _ k))

theorem keeps_answerFinal {s0 : State} (s : State) (e : CmdEntry) (r : Reply) (hs : Keeps s0 s) : Keeps s0 (answerFinal s e r) := by
  unfold Machine.answerFinal
  repeat' first
    | with_reducible assumption | with_reducible apply keeps_linkHold | with_reducible apply keeps_linkSend
    | with_reducible apply keeps_respond | with_reducible apply keeps_deltaAdd | with_reducible apply keeps_ite

theorem keeps_finishWhere {s0 : State} (s : State) (p : LongOp → Bool) (r : LongOp → Reply) (hs : Keeps s0 s) : Keeps s0 (finishWhere s p
    r) := by
  unfold Machine.finishWhere
  repeat' first
    | with_reducible assumption | with_reducible apply keeps_answerFinal | split | dsimp only
    | (with_reducible refine keeps_mk ?_ rfl rfl)

theorem keeps_drawBelow {s0 : State} (s : State) (n : Nat) (hs : Keeps s0 s) : Keeps s0 (drawBelow s n).2 := by
  unfold Machine.drawBelow
  repeat' first
    | with_reducible assumption | dsimp only | (with_reducible refine keeps_mk ?_ rfl rfl)

theorem keeps_drawNat {s0 : State} (s : State) (hs : Keeps s0 s) : Keeps s0 (drawNat s).2 := by
  unfold Machine.drawNat
  repeat' first
    | with_reducible assumption | dsimp only | (with_reducible refine keeps_mk ?_ rfl rfl)

theorem keeps_hostCount {s0 : State} (s : State) (i : Nat) (hs : Keeps s0 s) : Keeps s0 (hostCount s i) := by
  unfold Machine.hostCount
  repeat' first
    | with_reducible assumption | dsimp only | (with_reducible refine keeps_mk ?_ rfl rfl)

theorem keeps_bulkFresh {s0 : State} (s : State) (i : BulkItem) (hs : Keeps s0 s) : Keeps s0 (bulkFresh s i) := by
  unfold Machine.bulkFresh
  repeat' first
    | with_reducible assumption | dsimp only | (with_reducible refine keeps_mk ?_ rfl rfl)

theorem keeps_txComplete {s0 : State} (s : State) (ring : Nat) (idx : Nat) (era : Nat) (mk : Bool → TxDone) (hs : Keeps s0 s) : Keeps s0
    (txComplete s ring idx era mk) := by
  unfold Machine.txComplete
  repeat' first
    | with_reducible assumption | with_reducible apply keeps_hostCount | with_reducible apply keeps_ite | split | dsimp only
    | (with_reducible refine keeps_mk ?_ rfl rfl)

theorem keeps_timeCount {s0 : State} (s : State) (i : Nat) (hs : Keeps s0 s) : Keeps s0 (timeCount s i) := by
  unfold Machine.timeCount
  repeat' first
    | with_reducible assumption | dsimp only | (with_reducible refine keeps_mk ?_ rfl rfl)

theorem keeps_tsPush {s0 : State} (s : State) (source : Nat) (id : W16) (ns : W64) (frac : W32) (hs : Keeps s0 s) : Keeps s0 (tsPush s
    source id ns frac) := by
  unfold Machine.tsPush
  repeat' first
    | with_reducible assumption | with_reducible apply keeps_timeCount | with_reducible apply keeps_raiseEvent
    | with_reducible apply keeps_ite | split | dsimp only | (with_reducible refine keeps_mk ?_ rfl rfl)

theorem keeps_rxWrite {s0 : State} (s : State) (ring : Nat) (mk : PostedBuf → Bool → RxEntry) (hs : Keeps s0 s) : Keeps s0 (rxWrite s
    ring mk).1 := by
  unfold Machine.rxWrite
  repeat' first
    | with_reducible assumption | with_reducible apply keeps_hostCount | with_reducible apply keeps_ite_fst | split | dsimp only
    | (with_reducible refine keeps_mk ?_ rfl rfl)

theorem keeps_bulkLose {s0 : State} (s : State) (i : BulkItem) (hs : Keeps s0 s) : Keeps s0 (bulkLose s i) := by
  unfold Machine.bulkLose
  repeat' first
    | with_reducible assumption | with_reducible apply keeps_bulkFresh | dsimp only | (with_reducible refine keeps_mk ?_ rfl rfl)

theorem keeps_getter {s0 : State} (f : CmdEntry → State → Reply) (x2 : When) (x3 : CmdEntry) (x4 : State) (hx4 : Keeps s0 x4) : Keeps s0
    (getter f x2 x3 x4).1 := by
  unfold Machine.getter
  repeat' first
    | with_reducible assumption

theorem keeps_longStart {s0 : State} (x1 : When) (x2 : CmdEntry) (x3 : State) (hx3 : Keeps s0 x3) : Keeps s0 (longStart x1 x2 x3).1 := by
  unfold Machine.longStart
  repeat' first
    | with_reducible assumption

theorem keeps_setter {s0 : State} (f : CmdEntry → State → State) (x2 : When) (x3 : CmdEntry) (x4 : State) (hf : ∀ v0 v1, Keeps s0 v1 →
    Keeps s0 (f v0 v1)) (hx4 : Keeps s0 x4) : Keeps s0 (setter f x2 x3 x4).1 := by
  unfold Machine.setter
  repeat' first
    | with_reducible assumption | with_reducible apply hf

theorem keeps_tick {s0 : State} (s : State) (hs : Keeps s0 s) : Keeps s0 (tick s) := by
  unfold Machine.tick
  repeat' first
    | with_reducible assumption | with_reducible apply keeps_ite | dsimp only | (with_reducible refine keeps_mk ?_ rfl rfl)

theorem keeps_modTx {s0 : State} (s : State) (b : Band) (f : TxBand → TxBand) (hs : Keeps s0 s) : Keeps s0 (modTx s b f) := by
  unfold Machine.modTx
  repeat' first
    | with_reducible assumption | dsimp only | (with_reducible refine keeps_mk ?_ rfl rfl)

theorem keeps_txCount {s0 : State} (s : State) (b : Band) (i : Nat) (hs : Keeps s0 s) : Keeps s0 (txCount s b i) := by
  unfold Machine.txCount
  repeat' first
    | with_reducible assumption | with_reducible apply keeps_modTx

theorem keeps_orbitCount {s0 : State} (s : State) (i : Nat) (hs : Keeps s0 s) : Keeps s0 (orbitCount s i) := by
  unfold Machine.orbitCount
  repeat' first
    | with_reducible assumption | dsimp only | (with_reducible refine keeps_mk ?_ rfl rfl)

theorem keeps_modTest {s0 : State} (s : State) (f : TestDom → TestDom) (hs : Keeps s0 s) : Keeps s0 (modTest s f) := by
  unfold Machine.modTest
  repeat' first
    | with_reducible assumption | (with_reducible refine keeps_mk ?_ rfl rfl)

theorem keeps_modRx {s0 : State} (s : State) (b : Band) (f : RxBand → RxBand) (hs : Keeps s0 s) : Keeps s0 (modRx s b f) := by
  unfold Machine.modRx
  repeat' first
    | with_reducible assumption | dsimp only | (with_reducible refine keeps_mk ?_ rfl rfl)

theorem keeps_rxCount {s0 : State} (s : State) (b : Band) (i : Nat) (hs : Keeps s0 s) : Keeps s0 (rxCount s b i) := by
  unfold Machine.rxCount
  repeat' first
    | with_reducible assumption | with_reducible apply keeps_modRx

theorem keeps_airCount {s0 : State} (s : State) (b : Band) (i : Nat) (hs : Keeps s0 s) : Keeps s0 (airCount s b i) := by
  unfold Machine.airCount
  repeat' first
    | with_reducible assumption | dsimp only | (with_reducible refine keeps_mk ?_ rfl rfl)

theorem keeps_unplanRecord {s0 : State} (s : State) (r : Nat) (hs : Keeps s0 s) : Keeps s0 (unplanRecord s r) := by
  unfold Machine.unplanRecord
  repeat' first
    | with_reducible assumption | dsimp only | (with_reducible refine keeps_mk ?_ rfl rfl)

theorem keeps_unplanLaunch {s0 : State} (s : State) (l : Launch) (hs : Keeps s0 s) : Keeps s0 (unplanLaunch s l) := by
  unfold Machine.unplanLaunch
  repeat' first
    | with_reducible assumption | with_reducible apply keeps_unplanRecord | split

theorem keeps_fireTrigger {s0 : State} (s : State) (trig : Nat) (hs : Keeps s0 s) : Keeps s0 (fireTrigger s trig) := by
  unfold Machine.fireTrigger
  repeat' first
    | with_reducible assumption | dsimp only | (with_reducible refine keeps_mk ?_ rfl rfl)

theorem keeps_discardPlans {s0 : State} (s : State) (t : Nat) (hs : Keeps s0 s) : Keeps s0 (discardPlans s t) := by
  unfold Machine.discardPlans
  repeat' first
    | with_reducible assumption | with_reducible apply keeps_unplanLaunch | with_reducible refine keeps_foldl ?_ fun _ _ _ => ?_
    | dsimp only | (with_reducible refine keeps_mk ?_ rfl rfl)

theorem keeps_pinsPassed {s0 : State} (s : State) (hs : Keeps s0 s) : Keeps s0 (pinsPassed s) := by
  unfold Machine.pinsPassed
  repeat' first
    | with_reducible assumption | dsimp only | (with_reducible refine keeps_mk ?_ rfl rfl)

theorem keeps_snapshotsPassed {s0 : State} (s : State) (hs : Keeps s0 s) : Keeps s0 (snapshotsPassed s) := by
  unfold Machine.snapshotsPassed
  repeat' first
    | with_reducible assumption | dsimp only | (with_reducible refine keeps_mk ?_ rfl rfl)

theorem keeps_triggerPassed {s0 : State} (s : State) (i : Nat) (hs : Keeps s0 s) : Keeps s0 (triggerPassed s i) := by
  unfold Machine.triggerPassed
  repeat' first
    | with_reducible assumption | with_reducible apply keeps_fireTrigger | with_reducible apply keeps_ite | split | dsimp only
    | (with_reducible refine keeps_mk ?_ rfl rfl)

theorem keeps_triggersPassed {s0 : State} (s : State) (hs : Keeps s0 s) : Keeps s0 (triggersPassed s) := by
  unfold Machine.triggersPassed
  repeat' first
    | with_reducible assumption | with_reducible apply keeps_triggerPassed | with_reducible refine keeps_foldl ?_ fun _ _ _ => ?_

theorem keeps_passEdges {s0 : State} (s : State) (hs : Keeps s0 s) : Keeps s0 (passEdges s) := by
  unfold Machine.passEdges
  repeat' first
    | with_reducible assumption | with_reducible apply keeps_snapshotsPassed | with_reducible apply keeps_triggersPassed
    | with_reducible apply keeps_pinsPassed

theorem keeps_restepSlots {s0 : State} (s : State) (before : Nat) (hs : Keeps s0 s) : Keeps s0 (restepSlots s before) := by
  unfold Machine.restepSlots
  repeat' first
    | with_reducible assumption | with_reducible apply keeps_discardPlans | with_reducible apply keeps_ite | split | dsimp only
    | (with_reducible refine keeps_mk ?_ rfl rfl)

theorem keeps_stepEffects {s0 : State} (s : State) (before : Nat) (hs : Keeps s0 s) : Keeps s0 (stepEffects s before) := by
  unfold Machine.stepEffects
  repeat' first
    | with_reducible assumption | with_reducible apply keeps_restepSlots | with_reducible apply keeps_passEdges | dsimp only
    | (with_reducible refine keeps_mk ?_ rfl rfl)

theorem keeps_slotTriggers {s0 : State} (s : State) (n : Nat) (hs : Keeps s0 s) : Keeps s0 (slotTriggers s n) := by
  unfold Machine.slotTriggers
  repeat' first
    | with_reducible assumption | with_reducible apply keeps_fireTrigger | with_reducible apply keeps_ite
    | with_reducible refine keeps_foldl ?_ fun _ _ _ => ?_ | split

theorem keeps_modKey {s0 : State} (s : State) (f : KeyDom → KeyDom) (hs : Keeps s0 s) : Keeps s0 (modKey s f) := by
  unfold Machine.modKey
  repeat' first
    | with_reducible assumption | (with_reducible refine keeps_mk ?_ rfl rfl)

theorem keeps_drawMask {s0 s s' : State} {n : Nat} {m : BitVec 256} (e : drawMask s n = some (m, s')) (h : Keeps s0 s) : Keeps s0 s' := by
  unfold drawMask at e
  split at e
  · split at e
    · cases e; exact keeps_drawEntropy _ (keeps_modKey _ _ h)
    · cases e
  · cases e; exact keeps_drawEntropy _ h
theorem keeps_modSlot {s0 : State} (s : State) (n : Nat) (f : KeySlot → KeySlot) (hs : Keeps s0 s) : Keeps s0 (modSlot s n f) := by
  unfold Machine.modSlot
  repeat' first
    | with_reducible assumption | with_reducible apply keeps_modKey

theorem keeps_chargeUse {s0 : State} (s : State) (n : Nat) (k : Nat) (hs : Keeps s0 s) : Keeps s0 (chargeUse s n k) := by
  unfold Machine.chargeUse
  repeat' first
    | with_reducible assumption | with_reducible apply keeps_modSlot

theorem keeps_keyCount {s0 : State} (s : State) (i : Nat) (hs : Keeps s0 s) : Keeps s0 (keyCount s i) := by
  unfold Machine.keyCount
  repeat' first
    | with_reducible assumption | with_reducible apply keeps_modKey

theorem keeps_markBad {s0 : State} (s : State) (n : Nat) (cause : Nat) (hs : Keeps s0 s) : Keeps s0 (markBad s n cause) := by
  unfold Machine.markBad
  repeat' first
    | with_reducible assumption | with_reducible apply keeps_modSlot | with_reducible apply keeps_keyCount
    | with_reducible apply keeps_raiseEvent

theorem keeps_readSlot {s0 : State} (s : State) (n : Nat) (hs : Keeps s0 s) : Keeps s0 (readSlot s n).1 := by
  unfold Machine.readSlot
  repeat' first
    | with_reducible assumption | with_reducible apply keeps_markBad | with_reducible apply keeps_ite_fst

theorem keeps_deriveKey {s0 : State} (s : State) (slot : Nat) (eui : W64) (g : Nat) (hs : Keeps s0 s) : Keeps s0 (deriveKey s slot eui
    g).1 := by
  unfold Machine.deriveKey
  repeat' first
    | with_reducible assumption | with_reducible apply keeps_keyCount | with_reducible apply keeps_readSlot
    | (with_reducible refine keeps_drawMask (by with_reducible assumption) ?_) | with_reducible apply keeps_chargeUse
    | with_reducible apply keeps_modKey | with_reducible apply keeps_ite_fst
    | (with_reducible refine keeps_fst (by with_reducible assumption) ?_) | split

theorem keeps_resolveKey {s0 : State} (s : State) (eui : W64) (g : Nat) (hs : Keeps s0 s) : Keeps s0 (resolveKey s eui g).1 := by
  unfold Machine.resolveKey
  repeat' first
    | with_reducible assumption | with_reducible apply keeps_keyCount | with_reducible apply keeps_deriveKey
    | with_reducible apply keeps_modKey | with_reducible apply keeps_ite_fst | split | dsimp only

theorem keeps_writeSlot {s0 : State} (s : State) (n : Nat) (origin : Bool) (vol : Bool) (exp : Bool) (use : Nat) (keyType : Nat) (uses :
    Nat) (material : List Byte) (hs : Keeps s0 s) : Keeps s0 (writeSlot s n origin vol exp use keyType uses material) := by
  unfold Machine.writeSlot
  repeat' first
    | with_reducible assumption | (with_reducible refine keeps_drawMask (by with_reducible assumption) ?_)
    | with_reducible apply keeps_modSlot | split

theorem keeps_blobLoad {s0 : State} (e : CmdEntry) (s : State) (hs : Keeps s0 s) : Keeps s0 (blobLoad e s).1 := by
  unfold Machine.blobLoad
  repeat' first
    | with_reducible assumption | with_reducible apply keeps_writeSlot | with_reducible apply keeps_ite_fst | split | dsimp only

theorem keeps_drawChal {s0 : State} (s : State) (hs : Keeps s0 s) : Keeps s0 (drawChal s) := by
  unfold Machine.drawChal
  repeat' first
    | with_reducible assumption | with_reducible apply keeps_drawEntropy | with_reducible apply keeps_modKey

theorem keeps_loadIdentity {s0 : State} (s : State) (hs : Keeps s0 s) : Keeps s0 (loadIdentity s) := by
  unfold Machine.loadIdentity
  repeat' first
    | with_reducible assumption | with_reducible apply keeps_writeSlot | with_reducible apply keeps_modSlot | split

theorem keeps_loadRoot {s0 : State} (s : State) (hs : Keeps s0 s) : Keeps s0 (loadRoot s) := by
  unfold Machine.loadRoot
  repeat' first
    | with_reducible assumption | with_reducible apply keeps_drawEntropy | with_reducible apply keeps_modKey | split

theorem keeps_failFunction {s0 : State} (s : State) (fn : Nat) (status : Nat) (hs : Keeps s0 s) : Keeps s0 (failFunction s fn status) := by
  unfold Machine.failFunction
  repeat' first
    | with_reducible assumption | with_reducible apply keeps_respond | with_reducible refine keeps_foldl ?_ fun _ _ _ => ?_ | dsimp only
    | (with_reducible refine keeps_mk ?_ rfl rfl)

theorem keeps_clearLanes {s0 : State} (s : State) (p : Lane → Bool) (hs : Keeps s0 s) : Keeps s0 (clearLanes s p) := by
  unfold Machine.clearLanes
  repeat' first
    | with_reducible assumption | dsimp only | (with_reducible refine keeps_mk ?_ rfl rfl)

theorem keeps_zeroizeKeys {s0 : State} (s : State) (hs : Keeps s0 s) : Keeps s0 (zeroizeKeys s) := by
  unfold Machine.zeroizeKeys
  repeat' first
    | with_reducible assumption | with_reducible apply keeps_modKey | with_reducible apply keeps_clearLanes

theorem keeps_tamperAlarmOp {s0 : State} (s : State) (mask : Nat) (phase : Nat) (hs : Keeps s0 s) : Keeps s0 (tamperAlarmOp s mask phase)
    := by
  unfold Machine.tamperAlarmOp
  repeat' first
    | with_reducible assumption | with_reducible apply keeps_keyCount | with_reducible apply keeps_modKey
    | with_reducible apply keeps_zeroizeKeys | with_reducible apply keeps_raiseEvent | with_reducible apply keeps_failFunction | split
    | dsimp only | (with_reducible refine keeps_mk ?_ rfl rfl)

theorem keeps_identityPublic {s0 : State} (s : State) (hs : Keeps s0 s) : Keeps s0 (identityPublic s).1 := by
  unfold Machine.identityPublic
  repeat' first
    | with_reducible assumption | with_reducible apply keeps_readSlot
    | (with_reducible refine keeps_fst (by with_reducible assumption) ?_) | split

theorem keeps_debugUnlock {s0 : State} (e : CmdEntry) (s : State) (hs : Keeps s0 s) : Keeps s0 (debugUnlock e s).1 := by
  unfold Machine.debugUnlock
  repeat' first
    | with_reducible assumption | with_reducible apply keeps_identityPublic | with_reducible apply keeps_modKey
    | with_reducible apply keeps_zeroizeKeys | with_reducible apply keeps_ite_fst
    | (with_reducible refine keeps_fst (by with_reducible assumption) ?_) | split

theorem keeps_remaskSlot {s0 : State} (s : State) (n : Nat) (hs : Keeps s0 s) : Keeps s0 (remaskSlot s n) := by
  unfold Machine.remaskSlot
  repeat' first
    | with_reducible assumption | with_reducible apply keeps_markBad
    | (with_reducible refine keeps_drawMask (by with_reducible assumption) ?_) | with_reducible apply keeps_modSlot
    | with_reducible apply keeps_ite | split

theorem keeps_entropyRestartOp {s0 : State} (s : State) (hs : Keeps s0 s) : Keeps s0 (entropyRestartOp s) := by
  unfold Machine.entropyRestartOp
  repeat' first
    | with_reducible assumption | with_reducible apply keeps_modKey | with_reducible apply keeps_ite

theorem keeps_entropyFailOp {s0 : State} (s : State) (hs : Keeps s0 s) : Keeps s0 (entropyFailOp s) := by
  unfold Machine.entropyFailOp
  repeat' first
    | with_reducible assumption | with_reducible apply keeps_modKey | with_reducible apply keeps_keyCount

theorem keeps_keyReset {s0 : State} (s : State) (hs : Keeps s0 s) : Keeps s0 (keyReset s) := by
  unfold Machine.keyReset
  repeat' first
    | with_reducible assumption | with_reducible apply keeps_modKey

theorem keeps_importKey {s0 : State} (s : State) (e : CmdEntry) (material : List Byte) (hs : Keeps s0 s) : Keeps s0 (importKey s e
    material) := by
  unfold Machine.importKey
  repeat' first
    | with_reducible assumption | with_reducible apply keeps_writeSlot

theorem keeps_importWrapped {s0 : State} (e : CmdEntry) (s : State) (hs : Keeps s0 s) : Keeps s0 (importWrapped e s).1 := by
  unfold Machine.importWrapped
  repeat' first
    | with_reducible assumption | with_reducible apply keeps_readSlot | with_reducible apply keeps_importKey
    | with_reducible apply keeps_chargeUse | (with_reducible refine keeps_fst (by with_reducible assumption) ?_) | split | dsimp only

-- SKIP Sys2Proof.Machine.onceMasked
theorem keeps_remaskOp {s0 : State} (s : State) (hs : Keeps s0 s) : Keeps s0 (remaskOp s) := by
  unfold Machine.remaskOp
  repeat' first
    | with_reducible assumption | with_reducible apply keeps_remaskSlot | with_reducible apply keeps_keyCount
    | with_reducible apply keeps_modKey | with_reducible apply keeps_ite | with_reducible refine keeps_foldl ?_ fun _ _ _ => ?_

theorem keeps_revokeDrainOp {s0 : State} (s : State) (n : Nat) (hs : Keeps s0 s) : Keeps s0 (revokeDrainOp s n) := by
  unfold Machine.revokeDrainOp
  repeat' first
    | with_reducible assumption | with_reducible apply keeps_modSlot | with_reducible apply keeps_clearLanes
    | with_reducible apply keeps_finishWhere | with_reducible apply keeps_ite

theorem keeps_revokeSlot {s0 : State} (s : State) (n : Nat) (hs : Keeps s0 s) : Keeps s0 (revokeSlot s n) := by
  unfold Machine.revokeSlot
  repeat' first
    | with_reducible assumption | with_reducible apply keeps_modSlot

theorem keeps_signWith {s0 : State} (s : State) (material : List Byte) (digest : List Byte) (hs : Keeps s0 s) : Keeps s0 (signWith s
    material digest).1 := by
  unfold Machine.signWith
  repeat' first
    | with_reducible assumption | with_reducible apply keeps_drawEntropy

theorem keeps_whenMasked {s0 : State} (f : CmdEntry → State → State × Reply) (e : CmdEntry) (s : State)
    (hf : ∀ e t, Keeps s0 t → Keeps s0 (f e t).1) (hs : Keeps s0 s) : Keeps s0 (whenMasked f e s).1 := by
  unfold whenMasked
  split
  · exact hs
  · exact hf e s hs

theorem keeps_modEth {s0 : State} (s : State) (port : Nat) (f : EthPort → EthPort) (hs : Keeps s0 s) : Keeps s0 (modEth s port f) := by
  unfold Machine.modEth
  repeat' first
    | with_reducible assumption | dsimp only | (with_reducible refine keeps_mk ?_ rfl rfl)

theorem keeps_ethCount {s0 : State} (s : State) (port : Nat) (i : Nat) (hs : Keeps s0 s) : Keeps s0 (ethCount s port i) := by
  unfold Machine.ethCount
  repeat' first
    | with_reducible assumption | with_reducible apply keeps_modEth

theorem keeps_ethSendOne {s0 : State} (s : State) (port : Nat) (frame : List Byte) (hs : Keeps s0 s) : Keeps s0 (ethSendOne s port frame)
    := by
  unfold Machine.ethSendOne
  repeat' first
    | with_reducible assumption | with_reducible apply keeps_ethCount | with_reducible apply keeps_modEth | with_reducible apply keeps_ite

theorem keeps_modClk {s0 : State} (s : State) (f : Clk → Clk) (hs : Keeps s0 s) : Keeps s0 (modClk s f) := by
  unfold Machine.modClk
  repeat' first
    | with_reducible assumption | (with_reducible refine keeps_mk ?_ rfl rfl)

theorem keeps_followSource {s0 : State} (s : State) (hs : Keeps s0 s) : Keeps s0 (followSource s) := by
  unfold Machine.followSource
  repeat' first
    | with_reducible assumption | with_reducible apply keeps_modClk | with_reducible apply keeps_timeCount
    | with_reducible apply keeps_ite

theorem keeps_takeMeasurement {s0 : State} (s : State) (kind : Nat) (theta : Rat) (err : Rat) (hs : Keeps s0 s) : Keeps s0
    (takeMeasurement s kind theta err) := by
  unfold Machine.takeMeasurement
  repeat' first
    | with_reducible assumption | with_reducible apply keeps_modClk | with_reducible apply keeps_timeCount
    | with_reducible apply keeps_followSource | with_reducible apply keeps_ite

theorem keeps_measure {s0 : State} (s : State) (kind : Nat) (theta : Rat) (err : Rat) (hs : Keeps s0 s) : Keeps s0 (measure s kind theta
    err) := by
  unfold Machine.measure
  repeat' first
    | with_reducible assumption | with_reducible apply keeps_takeMeasurement | with_reducible apply keeps_timeCount
    | with_reducible apply keeps_modClk | with_reducible apply keeps_ite | split | dsimp only

theorem keeps_enterList {s0 : State} (s : State) (u : Option Rat) (hs : Keeps s0 s) : Keeps s0 (enterList s u) := by
  unfold Machine.enterList
  repeat' first
    | with_reducible assumption | with_reducible apply keeps_modClk

theorem keeps_loseSources {s0 : State} (s : State) (hs : Keeps s0 s) : Keeps s0 (loseSources s) := by
  unfold Machine.loseSources
  repeat' first
    | with_reducible assumption | with_reducible apply keeps_modClk | with_reducible apply keeps_ite

theorem keeps_useTwin {s0 : State} (s : State) (hs : Keeps s0 s) : Keeps s0 (useTwin s) := by
  unfold Machine.useTwin
  repeat' first
    | with_reducible assumption | with_reducible apply keeps_modClk | with_reducible apply keeps_enterList
    | with_reducible apply keeps_loseSources | with_reducible apply keeps_followSource | with_reducible apply keeps_ite

theorem keeps_captureOp {s0 : State} (s : State) (pin : Nat) (rising : Bool) (hs : Keeps s0 s) : Keeps s0 (captureOp s pin rising) := by
  unfold Machine.captureOp
  repeat' first
    | with_reducible assumption | with_reducible apply keeps_timeCount | with_reducible apply keeps_modClk
    | with_reducible apply keeps_fireTrigger | with_reducible apply keeps_ite | with_reducible refine keeps_foldl ?_ fun _ _ _ => ?_
    | split

theorem keeps_invalidate {s0 : State} (s : State) (kind : Nat) (hs : Keeps s0 s) : Keeps s0 (invalidate s kind) := by
  unfold Machine.invalidate
  repeat' first
    | with_reducible assumption | with_reducible apply keeps_modClk | with_reducible apply keeps_loseSources
    | with_reducible apply keeps_followSource

theorem keeps_resumeClock {s0 : State} (s : State) (periods : Nat) (hs : Keeps s0 s) : Keeps s0 (resumeClock s periods) := by
  unfold Machine.resumeClock
  repeat' first
    | with_reducible assumption | with_reducible apply keeps_timeCount | with_reducible apply keeps_modClk
    | with_reducible apply keeps_passEdges | with_reducible apply keeps_ite | split | dsimp only
    | (with_reducible refine keeps_mk ?_ rfl rfl)

theorem keeps_modPtp {s0 : State} (s : State) (port : Nat) (f : PtpPort → PtpPort) (hs : Keeps s0 s) : Keeps s0 (modPtp s port f) := by
  unfold Machine.modPtp
  repeat' first
    | with_reducible assumption | with_reducible apply keeps_modClk

theorem keeps_ethSend {s0 : State} (s : State) (port : Nat) (frames : List (List Byte)) (hs : Keeps s0 s) : Keeps s0 (ethSend s port
    frames) := by
  unfold Machine.ethSend
  repeat' first
    | with_reducible assumption | with_reducible apply keeps_ethSendOne | with_reducible refine keeps_foldl ?_ fun _ _ _ => ?_

theorem keeps_eventPinOp {s0 : State} (s : State) (pin : Nat) (hs : Keeps s0 s) : Keeps s0 (eventPinOp s pin) := by
  unfold Machine.eventPinOp
  repeat' first
    | with_reducible assumption | with_reducible apply keeps_modClk | with_reducible apply keeps_ite | split | dsimp only

theorem keeps_timeReset {s0 : State} (s : State) (hs : Keeps s0 s) : Keeps s0 (timeReset s) := by
  unfold Machine.timeReset
  repeat' first
    | with_reducible assumption | with_reducible apply keeps_modClk

theorem keeps_freezeClock {s0 : State} (s : State) (hs : Keeps s0 s) : Keeps s0 (freezeClock s) := by
  unfold Machine.freezeClock
  repeat' first
    | with_reducible assumption | with_reducible apply keeps_modClk | with_reducible apply keeps_ite

theorem keeps_heardSource {s0 : State} (s : State) (kind : Nat) (hs : Keeps s0 s) : Keeps s0 (heardSource s kind) := by
  unfold Machine.heardSource
  repeat' first
    | with_reducible assumption | with_reducible apply keeps_modClk

theorem keeps_moveTime {s0 : State} (s : State) (d : Int) (hs : Keeps s0 s) : Keeps s0 (moveTime s d) := by
  unfold Machine.moveTime
  repeat' first
    | with_reducible assumption | with_reducible apply keeps_timeCount | with_reducible apply keeps_modClk
    | with_reducible apply keeps_stepEffects

theorem keeps_hostTimeWrite {s0 : State} (s : State) (d : Int) (hs : Keeps s0 s) : Keeps s0 (hostTimeWrite s d) := by
  unfold Machine.hostTimeWrite
  repeat' first
    | with_reducible assumption | with_reducible apply keeps_moveTime | with_reducible apply keeps_modClk

theorem keeps_installSources {s0 : State} (s : State) (l : List Nat) (hs : Keeps s0 s) : Keeps s0 (installSources s l) := by
  unfold Machine.installSources
  repeat' first
    | with_reducible assumption | with_reducible apply keeps_enterList | with_reducible apply keeps_modClk
    | with_reducible apply keeps_ite

theorem keeps_ppsInOp {s0 : State} (s : State) (hs : Keeps s0 s) : Keeps s0 (ppsInOp s) := by
  unfold Machine.ppsInOp
  repeat' first
    | with_reducible assumption | with_reducible apply keeps_measure | with_reducible apply keeps_heardSource
    | with_reducible apply keeps_timeCount | with_reducible apply keeps_ite

theorem keeps_ppsOutOp {s0 : State} (s : State) (hs : Keeps s0 s) : Keeps s0 (ppsOutOp s) := by
  unfold Machine.ppsOutOp
  repeat' first
    | with_reducible assumption | with_reducible apply keeps_modClk | with_reducible apply keeps_ite

theorem keeps_ptpAnnounceOp {s0 : State} (s : State) (port : Nat) (m : PtpAnnounce) (hs : Keeps s0 s) : Keeps s0 (ptpAnnounceOp s port m)
    := by
  unfold Machine.ptpAnnounceOp
  repeat' first
    | with_reducible assumption | with_reducible apply keeps_timeCount | with_reducible apply keeps_modPtp
    | with_reducible apply keeps_modClk | with_reducible apply keeps_ite

theorem keeps_ptpAnnounceTxOp {s0 : State} (s : State) (port : Nat) (hs : Keeps s0 s) : Keeps s0 (ptpAnnounceTxOp s port) := by
  unfold Machine.ptpAnnounceTxOp
  repeat' first
    | with_reducible assumption | with_reducible apply keeps_ethSend | with_reducible apply keeps_modPtp | with_reducible apply keeps_ite

theorem keeps_ptpDelayReqOp {s0 : State} (s : State) (port : Nat) (m : PtpDelayReq) (hs : Keeps s0 s) : Keeps s0 (ptpDelayReqOp s port m)
    := by
  unfold Machine.ptpDelayReqOp
  repeat' first
    | with_reducible assumption | with_reducible apply keeps_timeCount | with_reducible apply keeps_ethSend
    | with_reducible apply keeps_ite

theorem keeps_ptpDelayRespOp {s0 : State} (s : State) (port : Nat) (m : PtpDelayResp) (hs : Keeps s0 s) : Keeps s0 (ptpDelayRespOp s port
    m) := by
  unfold Machine.ptpDelayRespOp
  repeat' first
    | with_reducible assumption | with_reducible apply keeps_timeCount | with_reducible apply keeps_modPtp
    | with_reducible apply keeps_measure | with_reducible apply keeps_ite | split

theorem keeps_ptpReport {s0 : State} (s : State) (port : Nat) (seq : W16) (ns : Nat) (hs : Keeps s0 s) : Keeps s0 (ptpReport s port seq
    ns) := by
  unfold Machine.ptpReport
  repeat' first
    | with_reducible assumption | with_reducible apply keeps_tsPush | with_reducible apply keeps_ite

theorem keeps_ptpSyncRxOp {s0 : State} (s : State) (port : Nat) (m : PtpSync) (hs : Keeps s0 s) : Keeps s0 (ptpSyncRxOp s port m) := by
  unfold Machine.ptpSyncRxOp
  repeat' first
    | with_reducible assumption | with_reducible apply keeps_timeCount | with_reducible apply keeps_heardSource
    | with_reducible apply keeps_modPtp | with_reducible apply keeps_ethSend | with_reducible apply keeps_ptpReport
    | with_reducible apply keeps_ite | split

theorem keeps_ptpSyncTxOp {s0 : State} (s : State) (port : Nat) (hs : Keeps s0 s) : Keeps s0 (ptpSyncTxOp s port) := by
  unfold Machine.ptpSyncTxOp
  repeat' first
    | with_reducible assumption | with_reducible apply keeps_ethSend | with_reducible apply keeps_ptpReport
    | with_reducible apply keeps_timeCount | with_reducible apply keeps_modPtp | with_reducible apply keeps_ite

theorem keeps_rtcWindowOp {s0 : State} (s : State) (ns : Nat) (hs : Keeps s0 s) : Keeps s0 (rtcWindowOp s ns) := by
  unfold Machine.rtcWindowOp
  repeat' first
    | with_reducible assumption | with_reducible apply keeps_modClk | with_reducible apply keeps_ite

theorem keeps_slew {s0 : State} (s : State) (theta : Rat) (ts : Rat) (hs : Keeps s0 s) : Keeps s0 (slew s theta ts) := by
  unfold Machine.slew
  repeat' first
    | with_reducible assumption | with_reducible apply keeps_modClk

theorem keeps_updateSource {s0 : State} (s : State) (hs : Keeps s0 s) : Keeps s0 (updateSource s) := by
  unfold Machine.updateSource
  repeat' first
    | with_reducible assumption | with_reducible apply keeps_modClk | with_reducible apply keeps_enterList
    | with_reducible apply keeps_loseSources | with_reducible apply keeps_followSource | with_reducible apply keeps_ite

theorem keeps_servoUpdate {s0 : State} (s : State) (hs : Keeps s0 s) : Keeps s0 (servoUpdate s) := by
  unfold Machine.servoUpdate
  repeat' first
    | with_reducible assumption | with_reducible apply keeps_updateSource | with_reducible apply keeps_modClk
    | with_reducible apply keeps_timeCount | with_reducible apply keeps_moveTime | with_reducible apply keeps_slew
    | with_reducible apply keeps_ite

theorem keeps_servoUpdateOp {s0 : State} (s : State) (hs : Keeps s0 s) : Keeps s0 (servoUpdateOp s) := by
  unfold Machine.servoUpdateOp
  repeat' first
    | with_reducible assumption | with_reducible apply keeps_servoUpdate | with_reducible apply keeps_ite

theorem keeps_sourceInvalidOp {s0 : State} (s : State) (kind : Nat) (hs : Keeps s0 s) : Keeps s0 (sourceInvalidOp s kind) := by
  unfold Machine.sourceInvalidOp
  repeat' first
    | with_reducible assumption | with_reducible apply keeps_invalidate | with_reducible apply keeps_ite

theorem keeps_uncFreeOp {s0 : State} (s : State) (hs : Keeps s0 s) : Keeps s0 (uncFreeOp s) := by
  unfold Machine.uncFreeOp
  repeat' first
    | with_reducible assumption | with_reducible apply keeps_modClk | with_reducible apply keeps_ite

theorem keeps_replicateEpoch {s0 : State} (s : State) (r : EpochRec) (hs : Keeps s0 s) : Keeps s0 (replicateEpoch s r) := by
  unfold Machine.replicateEpoch
  repeat' first
    | with_reducible assumption | with_reducible apply keeps_linkHold | with_reducible apply keeps_linkSend
    | with_reducible apply keeps_ite

theorem keeps_replicateOffer {s0 : State} (s : State) (node : Nat) (payload : List Byte) (hs : Keeps s0 s) : Keeps s0 (replicateOffer s
    node payload) := by
  unfold Machine.replicateOffer
  repeat' first
    | with_reducible assumption | with_reducible apply keeps_linkHold | with_reducible apply keeps_linkSend
    | with_reducible apply keeps_ite

theorem keeps_modNodes {s0 : State} (s : State) (f : NodeDom → NodeDom) (hs : Keeps s0 s) : Keeps s0 (modNodes s f) := by
  unfold Machine.modNodes
  repeat' first
    | with_reducible assumption | (with_reducible refine keeps_mk ?_ rfl rfl)

theorem keeps_modNode {s0 : State} (s : State) (i : Nat) (f : NodeEntry → NodeEntry) (hs : Keeps s0 s) : Keeps s0 (modNode s i f) := by
  unfold Machine.modNode
  repeat' first
    | with_reducible assumption | with_reducible apply keeps_modNodes

theorem keeps_modOrbit {s0 : State} (s : State) (f : Orbit → Orbit) (hs : Keeps s0 s) : Keeps s0 (modOrbit s f) := by
  unfold Machine.modOrbit
  repeat' first
    | with_reducible assumption | (with_reducible refine keeps_mk ?_ rfl rfl)

theorem keeps_adriftReturn {s0 : State} (s : State) (i : Nat) (m : Option (Int × Nat)) (acked : Bool) (hs : Keeps s0 s) : Keeps s0
    (adriftReturn s i m acked) := by
  unfold adriftReturn
  cases nodeAt s i with
  | none => exact hs
  | some n =>
    refine keeps_orbitCount _ _ (keeps_modNode _ _ _ ?_)
    apply keeps_ite
    · exact keeps_orbitCount _ _ (keeps_orbitCount _ _ hs)
    · exact hs

theorem keeps_countFate {s0 : State} (s : State) (x2 : SampleFate) (hs : Keeps s0 s) : Keeps s0 (countFate s x2) := by
  unfold Machine.countFate
  repeat' first
    | with_reducible assumption | with_reducible apply keeps_orbitCount | split

theorem keeps_clockMeasure {s0 : State} (s : State) (i : Nat) (e : Int) (t : Nat) (acked : Bool) (dup : Bool) (hs : Keeps s0 s) : Keeps
    s0 (clockMeasure s i e t acked dup) := by
  unfold Machine.clockMeasure
  repeat' first
    | with_reducible assumption | with_reducible apply keeps_countFate | with_reducible apply keeps_modNode | split

theorem keeps_noteBlink {s0 : State} (s : State) (addr : W32) (blink : Bool) (hs : Keeps s0 s) : Keeps s0 (noteBlink s addr blink) := by
  unfold Machine.noteBlink
  repeat' first
    | with_reducible assumption | with_reducible apply keeps_modOrbit

theorem keeps_fileNode {s0 : State} (k : Nat) (s : State) (i : Nat) (hs : Keeps s0 s) : Keeps s0 (fileNode k s i) := by
  induction k generalizing s with
  | zero => exact hs
  | succ k ih =>
    unfold fileNode
    cases nodeAt s i with
    | none => exact hs
    | some n =>
      dsimp only
      split
      · exact keeps_modOrbit _ _ hs
      · exact ih _ (keeps_orbitCount _ _ (keeps_modNode _ _ _ hs))
theorem keeps_unfile {s0 : State} (s : State) (i : Nat) (hs : Keeps s0 s) : Keeps s0 (unfile s i) := by
  unfold Machine.unfile
  repeat' first
    | with_reducible assumption | with_reducible apply keeps_modOrbit

theorem keeps_refile {s0 : State} (s : State) (i : Nat) (hs : Keeps s0 s) : Keeps s0 (refile s i) := by
  unfold Machine.refile
  repeat' first
    | with_reducible assumption | with_reducible apply keeps_fileNode | with_reducible apply keeps_unfile

theorem keeps_fileFrom {s0 : State} (s : State) (i : Nat) (a : Nat) (hs : Keeps s0 s) : Keeps s0 (fileFrom s i a) := by
  unfold Machine.fileFrom
  repeat' first
    | with_reducible assumption | with_reducible apply keeps_modNode | with_reducible apply keeps_unfile
    | with_reducible apply keeps_refile | with_reducible apply keeps_ite | split

theorem keeps_holdJoin {s0 : State} (s : State) (addr : W32) (on : Bool) (hs : Keeps s0 s) : Keeps s0 (holdJoin s addr on) := by
  unfold Machine.holdJoin
  repeat' first
    | with_reducible assumption | with_reducible apply keeps_modOrbit

theorem keeps_refileAll {s0 : State} (s : State) (hs : Keeps s0 s) : Keeps s0 (refileAll s) := by
  unfold Machine.refileAll
  repeat' first
    | with_reducible assumption | with_reducible apply keeps_fileFrom | with_reducible apply keeps_ite
    | with_reducible refine keeps_foldl ?_ fun _ _ _ => ?_

theorem keeps_dropLaunches {s0 : State} (s : State) (r : Nat) (hs : Keeps s0 s) : Keeps s0 (dropLaunches s r) := by
  unfold Machine.dropLaunches
  repeat' first
    | with_reducible assumption | dsimp only | (with_reducible refine keeps_mk ?_ rfl rfl)

theorem keeps_modQueue {s0 : State} (s : State) (f : QueueDom → QueueDom) (hs : Keeps s0 s) : Keeps s0 (modQueue s f) := by
  unfold Machine.modQueue
  repeat' first
    | with_reducible assumption | (with_reducible refine keeps_mk ?_ rfl rfl)

theorem keeps_modShape {s0 : State} (s : State) (q : Nat) (f : ShapeQueue → ShapeQueue) (hs : Keeps s0 s) : Keeps s0 (modShape s q f) := by
  unfold Machine.modShape
  repeat' first
    | with_reducible assumption | with_reducible apply keeps_modQueue

theorem keeps_trimHead {s0 : State} (s : State) (q : Nat) (hs : Keeps s0 s) : Keeps s0 (trimHead s q) := by
  unfold Machine.trimHead
  repeat' first
    | with_reducible assumption | with_reducible apply keeps_modShape

theorem keeps_freeRecord {s0 : State} (s : State) (r : Nat) (hs : Keeps s0 s) : Keeps s0 (freeRecord s r) := by
  unfold Machine.freeRecord
  repeat' first
    | with_reducible assumption | with_reducible apply keeps_modQueue | with_reducible apply keeps_dropLaunches
    | with_reducible apply keeps_trimHead | with_reducible apply keeps_modOrbit | split | dsimp only
    | (with_reducible refine keeps_mk ?_ rfl rfl)

theorem keeps_queueCount {s0 : State} (s : State) (i : Nat) (n : Nat) (hs : Keeps s0 s) : Keeps s0 (queueCount s i n) := by
  unfold Machine.queueCount
  repeat' first
    | with_reducible assumption | with_reducible apply keeps_modQueue

theorem keeps_park {s0 : State} (s : State) (f : Frame) (hs : Keeps s0 s) : Keeps s0 (park s f).1 := by
  unfold Machine.park
  repeat' first
    | with_reducible assumption | with_reducible apply keeps_modQueue | with_reducible apply keeps_bulkFresh
    | with_reducible apply keeps_modShape | with_reducible apply keeps_queueCount

theorem keeps_parkFirmware {s0 : State} (s : State) (f : Frame) (hs : Keeps s0 s) : Keeps s0 (parkFirmware s f).1 := by
  unfold Machine.parkFirmware
  repeat' first
    | with_reducible assumption | with_reducible apply keeps_modQueue | with_reducible apply keeps_queueCount
    | with_reducible apply keeps_park | with_reducible apply keeps_ite_fst

theorem keeps_parkHeld {s0 : State} (s : State) (hs : Keeps s0 s) : Keeps s0 (parkHeld s) := by
  unfold Machine.parkHeld
  repeat' first
    | with_reducible assumption | with_reducible apply keeps_parkFirmware | with_reducible apply keeps_modQueue
    | with_reducible apply keeps_modOrbit | with_reducible apply keeps_ite | with_reducible refine keeps_foldl ?_ fun _ _ _ => ?_
    | (with_reducible refine keeps_fst (by with_reducible assumption) ?_) | split

theorem keeps_completeFrame {s0 : State} (s : State) (r : Nat) (status : Byte) (errDest : Bool) (errDesc : Bool) (hs : Keeps s0 s) :
    Keeps s0 (completeFrame s r status errDest errDesc) := by
  unfold Machine.completeFrame
  repeat' first
    | with_reducible assumption | with_reducible apply keeps_parkHeld | with_reducible apply keeps_freeRecord
    | with_reducible apply keeps_hostCount | with_reducible apply keeps_txComplete | with_reducible apply keeps_ite | split

theorem keeps_modRecord {s0 : State} (s : State) (r : Nat) (f : Frame → Frame) (hs : Keeps s0 s) : Keeps s0 (modRecord s r f) := by
  unfold Machine.modRecord
  repeat' first
    | with_reducible assumption | with_reducible apply keeps_modQueue

theorem keeps_leaveQueue {s0 : State} (s : State) (r : Nat) (hs : Keeps s0 s) : Keeps s0 (leaveQueue s r) := by
  unfold Machine.leaveQueue
  repeat' first
    | with_reducible assumption | with_reducible apply keeps_trimHead | with_reducible apply keeps_modRecord | split

theorem keeps_flushFrame {s0 : State} (s : State) (r : Nat) (hs : Keeps s0 s) : Keeps s0 (flushFrame s r) := by
  unfold Machine.flushFrame
  repeat' first
    | with_reducible assumption | with_reducible apply keeps_modRecord | with_reducible apply keeps_completeFrame
    | with_reducible apply keeps_ite | split

theorem keeps_flushNode {s0 : State} (s : State) (a : W32) (hs : Keeps s0 s) : Keeps s0 (flushNode s a) := by
  unfold Machine.flushNode
  repeat' first
    | with_reducible assumption | with_reducible apply keeps_flushFrame | with_reducible refine keeps_foldl ?_ fun _ _ _ => ?_

theorem keeps_modReady {s0 : State} (s : State) (p : Nat) (f : Fifo WorkRec → Fifo WorkRec) (hs : Keeps s0 s) : Keeps s0 (modReady s p f)
    := by
  unfold Machine.modReady
  repeat' first
    | with_reducible assumption | with_reducible apply keeps_modQueue

theorem keeps_setFlow {s0 : State} (s : State) (i : Nat) (f : FlowEntry) (hs : Keeps s0 s) : Keeps s0 (setFlow s i f) := by
  unfold Machine.setFlow
  repeat' first
    | with_reducible assumption | with_reducible apply keeps_modQueue

theorem keeps_answerCommand {s0 : State} (s : State) (c : DomCommand) (r : Reply) (hs : Keeps s0 s) : Keeps s0 (answerCommand s c r) := by
  unfold Machine.answerCommand
  repeat' first
    | with_reducible assumption | with_reducible apply keeps_finishWhere | with_reducible apply keeps_ite

theorem keeps_popCommand {s0 : State} (s : State) (hs : Keeps s0 s) : Keeps s0 (popCommand s) := by
  unfold Machine.popCommand
  repeat' first
    | with_reducible assumption | dsimp only | (with_reducible refine keeps_mk ?_ rfl rfl)

theorem keeps_modDom {s0 : State} (s : State) (d : Nat) (f : Domain → Domain) (hs : Keeps s0 s) : Keeps s0 (modDom s d f) := by
  unfold Machine.modDom
  repeat' first
    | with_reducible assumption | dsimp only | (with_reducible refine keeps_mk ?_ rfl rfl)

theorem keeps_wakeOne {s0 : State} (s : State) (d : Nat) (hs : Keeps s0 s) : Keeps s0 (wakeOne s d) := by
  unfold Machine.wakeOne
  repeat' first
    | with_reducible assumption | with_reducible apply keeps_modDom

theorem keeps_wakeDomain {s0 : State} (s : State) (d : Nat) (hs : Keeps s0 s) : Keeps s0 (wakeDomain s d) := by
  unfold Machine.wakeDomain
  repeat' first
    | with_reducible assumption | with_reducible apply keeps_wakeOne | with_reducible refine keeps_foldl ?_ fun _ _ _ => ?_

theorem keeps_failCommand {s0 : State} (s : State) (c : DomCommand) (detail : Nat) (hs : Keeps s0 s) : Keeps s0 (failCommand s c detail)
    := by
  unfold Machine.failCommand
  repeat' first
    | with_reducible assumption | with_reducible apply keeps_answerCommand | with_reducible apply keeps_popCommand
    | with_reducible apply keeps_wakeDomain | with_reducible refine keeps_foldl ?_ fun _ _ _ => ?_

theorem keeps_modCommand {s0 : State} (s : State) (f : DomCommand → DomCommand) (hs : Keeps s0 s) : Keeps s0 (modCommand s f) := by
  unfold Machine.modCommand
  repeat' first
    | with_reducible assumption | dsimp only | (with_reducible refine keeps_mk ?_ rfl rfl)

theorem keeps_domNext {s0 : State} (k : Nat) (s : State) (hs : Keeps s0 s) : Keeps s0 (domNext k s) := by
  induction k generalizing s with
  | zero => exact hs
  | succ k ih =>
    unfold domNext
    split
    · exact hs
    · split
      · exact ih _ (keeps_popCommand _ (keeps_answerCommand _ _ _ hs))
      · dsimp only
        with_reducible apply keeps_ite
        · refine ih _ (keeps_modCommand _ _ (keeps_modCommand _ _ (keeps_ite ?_ hs)))
          exact keeps_answerCommand _ _ _ hs
        · with_reducible apply keeps_ite
          · refine ih _ (keeps_failCommand _ _ _ (keeps_modCommand _ _ (keeps_ite ?_ hs)))
            exact keeps_answerCommand _ _ _ hs
          · with_reducible apply keeps_ite
            · refine keeps_modDom _ _ _ (keeps_modCommand _ _ (keeps_ite ?_ hs))
              exact keeps_answerCommand _ _ _ hs
            · refine keeps_modDom _ _ _ (keeps_modCommand _ _ (keeps_ite ?_ hs))
              exact keeps_answerCommand _ _ _ hs

theorem keeps_domGoOn {s0 : State} (s : State) (d : Nat) (entered : Bool) (hs : Keeps s0 s) : Keeps s0 (domGoOn s d entered) := by
  unfold Machine.domGoOn
  repeat' first
    | with_reducible assumption | with_reducible apply keeps_domNext | with_reducible apply keeps_modCommand
    | with_reducible apply keeps_ite | split

theorem keeps_domainWakeOp {s0 : State} (s : State) (d : Nat) (hs : Keeps s0 s) : Keeps s0 (domainWakeOp s d) := by
  unfold Machine.domainWakeOp
  repeat' first
    | with_reducible assumption | with_reducible apply keeps_domGoOn | with_reducible apply keeps_wakeDomain
    | with_reducible refine keeps_foldl ?_ fun _ _ _ => ?_

theorem keeps_accessDoms {s0 : State} (s : State) (doms : List Nat) (hs : Keeps s0 s) : Keeps s0 (accessDoms s doms) := by
  unfold Machine.accessDoms
  repeat' first
    | with_reducible assumption | with_reducible apply keeps_domainWakeOp | with_reducible refine keeps_foldl ?_ fun _ _ _ => ?_

theorem keeps_accessView {s0 : State} (s : State) (hs : Keeps s0 s) : Keeps s0 (accessView s) := by
  unfold Machine.accessView
  repeat' first
    | with_reducible assumption | with_reducible apply keeps_accessDoms

theorem keeps_worksOn {s0 : State} (doms : List Nat) (f : State → State) (s : State) (hf : ∀ v0, Keeps s0 v0 → Keeps s0 (f v0)) (hs :
    Keeps s0 s) : Keeps s0 (worksOn doms f s) := by
  unfold Machine.worksOn
  repeat' first
    | with_reducible assumption | with_reducible apply hf | with_reducible apply keeps_accessDoms | with_reducible apply keeps_ite

theorem keeps_holdOn {s0 : State} (s : State) (hs : Keeps s0 s) : Keeps s0 (holdOn s) := by
  unfold Machine.holdOn
  repeat' first
    | with_reducible assumption | with_reducible apply keeps_accessDoms

theorem keeps_wakeCores {s0 : State} (s : State) (hs : Keeps s0 s) : Keeps s0 (wakeCores s) := by
  unfold Machine.wakeCores
  repeat' first
    | with_reducible assumption | with_reducible apply keeps_domainWakeOp | with_reducible apply keeps_ite | split

theorem keeps_domRefused {s0 : State} (s : State) (d : Nat) (block : Nat) (late : Nat) (source : Nat) (hs : Keeps s0 s) : Keeps s0
    (domRefused s d block late source) := by
  unfold Machine.domRefused
  repeat' first
    | with_reducible assumption | with_reducible apply keeps_raiseEvent | with_reducible apply keeps_modDom
    | with_reducible apply keeps_ite | split

theorem keeps_domRefuse {s0 : State} (s : State) (d : Nat) (block : Nat) (late : Nat) (hs : Keeps s0 s) : Keeps s0 (domRefuse s d block
    late) := by
  unfold Machine.domRefuse
  repeat' first
    | with_reducible assumption | with_reducible apply keeps_modDom | with_reducible apply keeps_domRefused
    | with_reducible apply keeps_domNext | with_reducible apply keeps_failCommand | with_reducible apply keeps_ite | split | dsimp only

theorem keeps_delayExpiryOp {s0 : State} (s : State) (d : Nat) (block : Nat) (hs : Keeps s0 s) : Keeps s0 (delayExpiryOp s d block) := by
  unfold Machine.delayExpiryOp
  repeat' first
    | with_reducible assumption | with_reducible apply keeps_domRefuse | with_reducible apply keeps_ite

theorem keeps_emptyCore {s0 : State} (s : State) (n : Nat) (hs : Keeps s0 s) : Keeps s0 (emptyCore s n) := by
  unfold Machine.emptyCore
  repeat' first
    | with_reducible assumption | with_reducible apply keeps_modQueue | with_reducible apply keeps_modReady
    | with_reducible apply keeps_setFlow | with_reducible apply keeps_ite | split | dsimp only

theorem keeps_ethLose {s0 : State} (s : State) (hs : Keeps s0 s) : Keeps s0 (ethLose s) := by
  unfold Machine.ethLose
  repeat' first
    | with_reducible assumption | dsimp only | (with_reducible refine keeps_mk ?_ rfl rfl)

theorem keeps_domLose {s0 : State} (s : State) (d : Nat) (off : Bool) (hs : Keeps s0 s) : Keeps s0 (domLose s d off) := by
  unfold Machine.domLose
  repeat' first
    | with_reducible assumption | with_reducible apply keeps_clearLanes | with_reducible apply keeps_zeroizeKeys
    | with_reducible apply keeps_emptyCore | with_reducible apply keeps_modTx | with_reducible apply keeps_ethLose
    | with_reducible apply keeps_ite | dsimp only | (with_reducible refine keeps_mk ?_ rfl rfl)

theorem keeps_domWoken {s0 : State} (s : State) (d : Nat) (off : Bool) (hs : Keeps s0 s) : Keeps s0 (domWoken s d off) := by
  unfold Machine.domWoken
  repeat' first
    | with_reducible assumption | with_reducible apply keeps_drawChal | with_reducible apply keeps_loadRoot
    | with_reducible apply keeps_modKey | with_reducible apply keeps_remaskSlot | with_reducible apply keeps_ite
    | with_reducible refine keeps_foldl ?_ fun _ _ _ => ?_

theorem keeps_wakeAnswers {s0 : State} (s : State) (hs : Keeps s0 s) : Keeps s0 (wakeAnswers s) := by
  unfold Machine.wakeAnswers
  repeat' first
    | with_reducible assumption | with_reducible apply keeps_finishWhere

theorem keeps_wakeCompleteOp {s0 : State} (s : State) (d : Nat) (hs : Keeps s0 s) : Keeps s0 (wakeCompleteOp s d) := by
  unfold Machine.wakeCompleteOp
  repeat' first
    | with_reducible assumption | with_reducible apply keeps_wakeAnswers | with_reducible apply keeps_domWoken
    | with_reducible apply keeps_modDom | with_reducible apply keeps_ite

theorem keeps_entryCompleteOp {s0 : State} (s : State) (d : Nat) (hs : Keeps s0 s) : Keeps s0 (entryCompleteOp s d) := by
  unfold Machine.entryCompleteOp
  repeat' first
    | with_reducible assumption | with_reducible apply keeps_domLose | with_reducible apply keeps_modDom
    | with_reducible apply keeps_domGoOn | with_reducible apply keeps_wakeDomain | with_reducible apply keeps_wakeCores
    | with_reducible apply keeps_ite | split | dsimp only

theorem keeps_gapPeriods {s0 : State} (s : State) (gapNs : Nat) (hs : Keeps s0 s) : Keeps s0 (gapPeriods s gapNs).2 := by
  unfold Machine.gapPeriods
  repeat' first
    | with_reducible assumption | with_reducible apply keeps_drawBelow

theorem keeps_resumeOp {s0 : State} (s : State) (hs : Keeps s0 s) : Keeps s0 (resumeOp s) := by
  unfold Machine.resumeOp
  repeat' first
    | with_reducible assumption | with_reducible apply keeps_gapPeriods | with_reducible apply keeps_wakeAnswers
    | with_reducible apply keeps_modDom | with_reducible apply keeps_resumeClock | with_reducible apply keeps_ite | split

theorem keeps_freezeOp {s0 : State} (s : State) (hs : Keeps s0 s) : Keeps s0 (freezeOp s) := by
  unfold Machine.freezeOp
  repeat' first
    | with_reducible assumption | with_reducible apply keeps_modDom | with_reducible apply keeps_domNext
    | with_reducible apply keeps_failCommand | with_reducible apply keeps_freezeClock | with_reducible apply keeps_domGoOn
    | with_reducible apply keeps_wakeDomain | with_reducible apply keeps_ite | split | dsimp only

theorem keeps_handshakeAnswerOp {s0 : State} (s : State) (d : Nat) (answers : List BlockAnswer) (hs : Keeps s0 s) : Keeps s0
    (handshakeAnswerOp s d answers) := by
  unfold Machine.handshakeAnswerOp
  repeat' first
    | with_reducible assumption | with_reducible apply keeps_modDom | with_reducible apply keeps_domRefuse
    | with_reducible apply keeps_domNext | with_reducible apply keeps_failCommand | with_reducible apply keeps_ite | split | dsimp only

theorem keeps_handshakePeriodOp {s0 : State} (s : State) (d : Nat) (hs : Keeps s0 s) : Keeps s0 (handshakePeriodOp s d) := by
  unfold Machine.handshakePeriodOp
  repeat' first
    | with_reducible assumption | with_reducible apply keeps_modDom | with_reducible apply keeps_ite

theorem keeps_idleTimerOp {s0 : State} (s : State) (d : Nat) (hs : Keeps s0 s) : Keeps s0 (idleTimerOp s d) := by
  unfold Machine.idleTimerOp
  repeat' first
    | with_reducible assumption | with_reducible apply keeps_modDom | with_reducible apply keeps_ite

theorem keeps_wakeMask {s0 : State} (s : State) (mask : Nat) (hs : Keeps s0 s) : Keeps s0 (wakeMask s mask) := by
  unfold Machine.wakeMask
  repeat' first
    | with_reducible assumption | with_reducible apply keeps_accessDoms

end Sys2Proof.Laws
end

