-- ==== Sys2Proof/Laws/KeepsNode.lean ====
section
/-! SUPPORT. The queue and the canonical form of the addressed memories are kept by the node table, routing, Ethernet, tone maps and cells. -/

namespace Sys2Proof.Laws

open Sys2Proof.Machine

theorem keeps_modCrypt {s0 : State} (s : State) (f : Crypt → Crypt) (hs : Keeps s0 s) : Keeps s0 (modCrypt s f) := by
  unfold Machine.modCrypt
  repeat' first
    | with_reducible assumption | (with_reducible refine keeps_mk ?_ rfl rfl)

theorem keeps_requestEpoch {s0 : State} (s : State) (g : Nat) (e : Nat) (hs : Keeps s0 s) : Keeps s0 (requestEpoch s g e) := by
  unfold Machine.requestEpoch
  repeat' first
    | with_reducible assumption | with_reducible apply keeps_ite | split | dsimp only | (with_reducible refine keeps_mk ?_ rfl rfl)

theorem keeps_unlinkNode {s0 : State} (s : State) (i : Nat) (n : NodeEntry) (hs : Keeps s0 s) : Keeps s0 (unlinkNode s i n) := by
  unfold Machine.unlinkNode
  repeat' first
    | with_reducible assumption | with_reducible apply keeps_unfile | split | dsimp only | (with_reducible refine keeps_mk ?_ rfl rfl)

theorem keeps_nodeCount {s0 : State} (s : State) (i : Nat) (hs : Keeps s0 s) : Keeps s0 (nodeCount s i) := by
  unfold Machine.nodeCount
  repeat' first
    | with_reducible assumption | with_reducible apply keeps_modNodes

theorem keeps_replicateJournal {s0 : State} (s : State) (r : JournalRec) (hs : Keeps s0 s) : Keeps s0 (replicateJournal s r) := by
  unfold Machine.replicateJournal
  repeat' first
    | with_reducible assumption | with_reducible apply keeps_linkHold | with_reducible apply keeps_linkSend
    | with_reducible apply keeps_deltaAdd | with_reducible apply keeps_ite

theorem keeps_journalAdd {s0 : State} (s : State) (kind : Nat) (index : Nat) (addr : W32) (src : Nat) (hs : Keeps s0 s) : Keeps s0
    (journalAdd s kind index addr src) := by
  unfold Machine.journalAdd
  repeat' first
    | with_reducible assumption | with_reducible apply keeps_nodeCount | with_reducible apply keeps_modNodes
    | with_reducible apply keeps_replicateJournal | with_reducible apply keeps_ite

theorem keeps_retireStream {s0 : State} (s : State) (n : NodeEntry) (hs : Keeps s0 s) : Keeps s0 (retireStream s n) := by
  unfold Machine.retireStream
  repeat' first
    | with_reducible assumption | with_reducible apply keeps_modCrypt

theorem keeps_deleteNode {s0 : State} (s : State) (i : Nat) (kind : Nat) (hs : Keeps s0 s) : Keeps s0 (deleteNode s i kind) := by
  unfold Machine.deleteNode
  repeat' first
    | with_reducible assumption | with_reducible apply keeps_modNodes | with_reducible apply keeps_unlinkNode
    | with_reducible apply keeps_retireStream | with_reducible apply keeps_modKey | with_reducible apply keeps_modOrbit
    | with_reducible apply keeps_finishWhere | with_reducible apply keeps_journalAdd
    | with_reducible refine keeps_foldl ?_ fun _ _ _ => ?_ | split

theorem keeps_commitDelete {s0 : State} (s : State) (a : W32) (hs : Keeps s0 s) : Keeps s0 (commitDelete s a) := by
  unfold Machine.commitDelete
  repeat' first
    | with_reducible assumption | with_reducible apply keeps_modNodes | with_reducible apply keeps_nodeCount
    | with_reducible apply keeps_deleteNode | with_reducible apply keeps_ite | split | dsimp only

theorem keeps_commitDeletes {s0 : State} (s : State) (hs : Keeps s0 s) : Keeps s0 (commitDeletes s) := by
  unfold Machine.commitDeletes
  repeat' first
    | with_reducible assumption | with_reducible apply keeps_commitDelete | with_reducible refine keeps_foldl ?_ fun _ _ _ => ?_

theorem keeps_ageEntry {s0 : State} (s : State) (hs : Keeps s0 s) : Keeps s0 (ageEntry s) := by
  unfold Machine.ageEntry
  repeat' first
    | with_reducible assumption | with_reducible apply keeps_modNodes | with_reducible apply keeps_modNode
    | with_reducible apply keeps_commitDeletes | with_reducible apply keeps_ite | split | dsimp only

theorem keeps_agingOp {s0 : State} (s : State) (hs : Keeps s0 s) : Keeps s0 (agingOp s) := by
  unfold Machine.agingOp
  repeat' first
    | with_reducible assumption | with_reducible apply keeps_worksOn | with_reducible apply keeps_ageEntry
    | with_reducible apply keeps_ite

theorem keeps_writeEntry {s0 : State} (s : State) (i : Nat) (n : NodeEntry) (hs : Keeps s0 s) : Keeps s0 (writeEntry s i n) := by
  unfold Machine.writeEntry
  repeat' first
    | with_reducible assumption | with_reducible apply keeps_modNodes

theorem keeps_modPort {s0 : State} (s : State) (p : Nat) (f : LearnPort → LearnPort) (hs : Keeps s0 s) : Keeps s0 (modPort s p f) := by
  unfold Machine.modPort
  repeat' first
    | with_reducible assumption | with_reducible apply keeps_modNodes

theorem keeps_refillPort {s0 : State} (s : State) (p : Nat) (hs : Keeps s0 s) : Keeps s0 (refillPort s p) := by
  unfold Machine.refillPort
  repeat' first
    | with_reducible assumption | with_reducible apply keeps_modPort

theorem keeps_chargePort {s0 : State} (s : State) (p : Nat) (hs : Keeps s0 s) : Keeps s0 (chargePort s p).1 := by
  unfold Machine.chargePort
  repeat' first
    | with_reducible assumption | with_reducible apply keeps_refillPort | with_reducible apply keeps_modPort
    | with_reducible apply keeps_ite_fst

theorem keeps_markRepair {s0 : State} (s : State) (i : Nat) (cause : Nat) (words : Nat) (hs : Keeps s0 s) : Keeps s0 (markRepair s i
    cause words) := by
  unfold Machine.markRepair
  repeat' first
    | with_reducible assumption | with_reducible apply keeps_modNodes

theorem keeps_readWord {s0 : State} (s : State) (i : Nat) (w : Nat) (hs : Keeps s0 s) : Keeps s0 (readWord s i w) := by
  unfold Machine.readWord
  repeat' first
    | with_reducible assumption | with_reducible apply keeps_modNodes | with_reducible apply keeps_markRepair
    | with_reducible apply keeps_nodeCount | with_reducible apply keeps_ite | split

theorem keeps_readEntryWords {s0 : State} (s : State) (i : Nat) (hs : Keeps s0 s) : Keeps s0 (readEntryWords s i) := by
  unfold Machine.readEntryWords
  repeat' first
    | with_reducible assumption | with_reducible apply keeps_readWord | with_reducible refine keeps_foldl ?_ fun _ _ _ => ?_

theorem keeps_passAddr {s0 : State} (s : State) (a : W32) (hs : Keeps s0 s) : Keeps s0 (passAddr s a) := by
  unfold Machine.passAddr
  repeat' first
    | with_reducible assumption | with_reducible apply keeps_readEntryWords | with_reducible apply keeps_ite
    | with_reducible refine keeps_foldl ?_ fun _ _ _ => ?_

theorem keeps_touchHit {s0 : State} (s : State) (i : Nat) (hs : Keeps s0 s) : Keeps s0 (touchHit s i) := by
  unfold Machine.touchHit
  repeat' first
    | with_reducible assumption | with_reducible apply keeps_modNode | with_reducible apply keeps_ite

theorem keeps_mismatchEvent {s0 : State} (s : State) (i : Nat) (words : Nat) (cause : Nat) (addr : W32) (hs : Keeps s0 s) : Keeps s0
    (mismatchEvent s i words cause addr) := by
  unfold Machine.mismatchEvent
  repeat' first
    | with_reducible assumption | with_reducible apply keeps_raiseEvent

theorem keeps_orphanFrames {s0 : State} (s : State) (a : W32) (hs : Keeps s0 s) : Keeps s0 (orphanFrames s a) := by
  unfold Machine.orphanFrames
  repeat' first
    | with_reducible assumption | with_reducible apply keeps_flushFrame | with_reducible apply keeps_completeFrame
    | with_reducible apply keeps_ite | with_reducible refine keeps_foldl ?_ fun _ _ _ => ?_

theorem keeps_repairEntry {s0 : State} (s : State) (i : Nat) (cause : Nat) (words : Nat) (shadow : List Byte) (hs : Keeps s0 s) : Keeps
    s0 (repairEntry s i cause words shadow) := by
  unfold Machine.repairEntry
  repeat' first
    | with_reducible assumption | with_reducible apply keeps_modNodes | with_reducible apply keeps_mismatchEvent
    | with_reducible apply keeps_journalAdd | with_reducible apply keeps_writeEntry | with_reducible apply keeps_orphanFrames
    | with_reducible apply keeps_deleteNode | with_reducible apply keeps_nodeCount | with_reducible apply keeps_requestEpoch
    | with_reducible apply keeps_fileFrom | with_reducible apply keeps_refile | with_reducible apply keeps_ite | split | dsimp only

theorem keeps_compareEntry {s0 : State} (s : State) (shadow : List Byte) (hs : Keeps s0 s) : Keeps s0 (compareEntry s shadow) := by
  unfold Machine.compareEntry
  repeat' first
    | with_reducible assumption | with_reducible apply keeps_modNodes | with_reducible apply keeps_readEntryWords
    | with_reducible apply keeps_repairEntry | with_reducible apply keeps_ite | split | dsimp only

theorem keeps_compareOp {s0 : State} (s : State) (shadow : List Byte) (hs : Keeps s0 s) : Keeps s0 (compareOp s shadow) := by
  unfold Machine.compareOp
  repeat' first
    | with_reducible assumption | with_reducible apply keeps_worksOn | with_reducible apply keeps_compareEntry
    | with_reducible apply keeps_ite | intro _

theorem keeps_passEui {s0 : State} (s : State) (eui : W64) (hs : Keeps s0 s) : Keeps s0 (passEui s eui) := by
  unfold Machine.passEui
  repeat' first
    | with_reducible assumption | with_reducible apply keeps_passAddr | with_reducible refine keeps_foldl ?_ fun _ _ _ => ?_

theorem keeps_renameIndex {s0 : State} (s : State) (i : Nat) (j : Nat) (hs : Keeps s0 s) : Keeps s0 (renameIndex s i j) := by
  unfold Machine.renameIndex
  repeat' first
    | with_reducible assumption | dsimp only | (with_reducible refine keeps_mk ?_ rfl rfl)

theorem keeps_moveEntry {s0 : State} (s : State) (i : Nat) (j : Nat) (hs : Keeps s0 s) : Keeps s0 (moveEntry s i j) := by
  unfold Machine.moveEntry
  repeat' first
    | with_reducible assumption | with_reducible apply keeps_modNodes | with_reducible apply keeps_journalAdd
    | with_reducible apply keeps_nodeCount | with_reducible apply keeps_renameIndex | split

theorem keeps_runPath {s0 : State} (s : State) (path : List Nat) (free : Nat) (hs : Keeps s0 s) : Keeps s0 (runPath s path free).1 := by
  unfold Machine.runPath
  repeat' first
    | with_reducible assumption | with_reducible apply keeps_moveEntry | with_reducible refine keeps_foldl_fst ?_ fun _ _ _ => ?_

theorem keeps_insertEntry {s0 : State} (s : State) (n : NodeEntry) (hs : Keeps s0 s) : Keeps s0 (insertEntry s n).1 := by
  unfold Machine.insertEntry
  repeat' first
    | with_reducible assumption | with_reducible apply keeps_writeEntry | with_reducible apply keeps_runPath
    | with_reducible apply keeps_modNodes | split | dsimp only

theorem keeps_insertFailed {s0 : State} (s : State) (port : Nat) (eui : W64) (hs : Keeps s0 s) : Keeps s0 (insertFailed s port eui) := by
  unfold Machine.insertFailed
  repeat' first
    | with_reducible assumption | with_reducible apply keeps_nodeCount | with_reducible apply keeps_raiseEvent
    | with_reducible apply keeps_modNodes | with_reducible apply keeps_ite

theorem keeps_learnRefused {s0 : State} (s : State) (p : Nat) (byCount : Bool) (hs : Keeps s0 s) : Keeps s0 (learnRefused s p byCount) := by
  unfold Machine.learnRefused
  repeat' first
    | with_reducible assumption | with_reducible apply keeps_nodeCount | with_reducible apply keeps_modPort
    | with_reducible apply keeps_raiseEvent | with_reducible apply keeps_ite

theorem keeps_returnToken {s0 : State} (s : State) (p : Nat) (hs : Keeps s0 s) : Keeps s0 (returnToken s p) := by
  unfold Machine.returnToken
  repeat' first
    | with_reducible assumption | with_reducible apply keeps_modPort

theorem keeps_keyPass {s0 : State} (e : CmdEntry) (s : State) (hs : Keeps s0 s) : Keeps s0 (keyPass e s) := by
  unfold Machine.keyPass
  repeat' first
    | with_reducible assumption | with_reducible apply keeps_passAddr | with_reducible apply keeps_passEui | split

theorem keeps_scrubWord {s0 : State} (s : State) (shadow : List Byte) (hs : Keeps s0 s) : Keeps s0 (scrubWord s shadow) := by
  unfold Machine.scrubWord
  repeat' first
    | with_reducible assumption | with_reducible apply keeps_repairEntry | with_reducible apply keeps_readWord
    | with_reducible apply keeps_modNodes | split | dsimp only

theorem keeps_scrubOp {s0 : State} (s : State) (shadow : List Byte) (hs : Keeps s0 s) : Keeps s0 (scrubOp s shadow) := by
  unfold Machine.scrubOp
  repeat' first
    | with_reducible assumption | with_reducible apply keeps_worksOn | with_reducible apply keeps_scrubWord | intro _

theorem keeps_modRoute {s0 : State} (s : State) (f : Routing → Routing) (hs : Keeps s0 s) : Keeps s0 (modRoute s f) := by
  unfold Machine.modRoute
  repeat' first
    | with_reducible assumption | (with_reducible refine keeps_mk ?_ rfl rfl)

theorem keeps_routeCount {s0 : State} (s : State) (i : Nat) (hs : Keeps s0 s) : Keeps s0 (routeCount s i) := by
  unfold Machine.routeCount
  repeat' first
    | with_reducible assumption | with_reducible apply keeps_modRoute

theorem keeps_floodAdd {s0 : State} (s : State) (f : Frame) (bandMask : Nat) (hs : Keeps s0 s) : Keeps s0 (floodAdd s f bandMask) := by
  unfold Machine.floodAdd
  repeat' first
    | with_reducible assumption | with_reducible apply keeps_routeCount | with_reducible apply keeps_queueCount
    | with_reducible apply keeps_park | with_reducible apply keeps_modRoute | with_reducible apply keeps_ite

theorem keeps_modRelay {s0 : State} (s : State) (k : Nat) (f : RelaySlot → RelaySlot) (hs : Keeps s0 s) : Keeps s0 (modRelay s k f) := by
  unfold Machine.modRelay
  repeat' first
    | with_reducible assumption | with_reducible apply keeps_modRoute

theorem keeps_relinkPending {s0 : State} (s : State) (i : Nat) (hs : Keeps s0 s) : Keeps s0 (relinkPending s i) := by
  unfold Machine.relinkPending
  repeat' first
    | with_reducible assumption | with_reducible apply keeps_modRoute | with_reducible apply keeps_modRelay
    | with_reducible apply keeps_ite | split

theorem keeps_hostDeliver {s0 : State} (s : State) (u : Uplink) (ring : Nat) (status : Byte) (hs : Keeps s0 s) : Keeps s0 (hostDeliver s
    u ring status).1 := by
  unfold Machine.hostDeliver
  repeat' first
    | with_reducible assumption | with_reducible apply keeps_rxWrite

theorem keeps_countChild {s0 : State} (s : State) (k : Nat) (more : Bool) (hs : Keeps s0 s) : Keeps s0 (countChild s k more) := by
  unfold Machine.countChild
  repeat' first
    | with_reducible assumption | with_reducible apply keeps_modRelay

theorem keeps_enterFrame {s0 : State} (s : State) (i : Nat) (f : Frame) (hs : Keeps s0 s) : Keeps s0 (enterFrame s i f).1 := by
  unfold Machine.enterFrame
  repeat' first
    | with_reducible assumption | with_reducible apply keeps_queueCount | with_reducible apply keeps_park
    | with_reducible apply keeps_relinkPending | with_reducible apply keeps_ite_fst

theorem keeps_ethEgress {s0 : State} (s : State) (neighbour : Nat) (pkt : List Byte) (hs : Keeps s0 s) : Keeps s0 (ethEgress s neighbour
    pkt) := by
  unfold Machine.ethEgress
  repeat' first
    | with_reducible assumption | with_reducible apply keeps_ethCount | with_reducible apply keeps_routeCount
    | with_reducible apply keeps_ethSendOne | with_reducible apply keeps_ite | split

theorem keeps_setRoutes {s0 : State} (s : State) (f : List Route → List Route) (hs : Keeps s0 s) : Keeps s0 (setRoutes s f) := by
  unfold Machine.setRoutes
  repeat' first
    | with_reducible assumption | with_reducible apply keeps_modRoute

theorem keeps_walkTrie {s0 : State} (s : State) (hi : Nat) (hs : Keeps s0 s) : Keeps s0 (walkTrie s hi) := by
  unfold Machine.walkTrie
  repeat' first
    | with_reducible assumption | with_reducible apply keeps_setRoutes | with_reducible apply keeps_bulkLose
    | with_reducible refine keeps_foldl ?_ fun _ _ _ => ?_

theorem keeps_leaveParent {s0 : State} (s : State) (n : NodeEntry) (hs : Keeps s0 s) : Keeps s0 (leaveParent s n) := by
  unfold Machine.leaveParent
  repeat' first
    | with_reducible assumption | with_reducible apply keeps_countChild | with_reducible apply keeps_ite | split

theorem keeps_meshForward {s0 : State} (s : State) (i : Nat) (payload : List Byte) (hs : Keeps s0 s) : Keeps s0 (meshForward s i payload)
    := by
  unfold Machine.meshForward
  repeat' first
    | with_reducible assumption | with_reducible apply keeps_touchHit | with_reducible apply keeps_routeCount
    | with_reducible apply keeps_enterFrame | with_reducible apply keeps_ite | split

theorem keeps_packetToNode {s0 : State} (s : State) (i : Nat) (pkt : List Byte) (hs : Keeps s0 s) : Keeps s0 (packetToNode s i pkt) := by
  unfold Machine.packetToNode
  repeat' first
    | with_reducible assumption | with_reducible apply keeps_meshForward | split

theorem keeps_meshAction {s0 : State} (s : State) (u : Uplink) (pkt : List Byte) (action : Nat) (target : Nat) (hs : Keeps s0 s) : Keeps
    s0 (meshAction s u pkt action target) := by
  unfold Machine.meshAction
  repeat' first
    | with_reducible assumption | with_reducible apply keeps_ethEgress | with_reducible apply keeps_passAddr
    | with_reducible apply keeps_packetToNode | with_reducible apply keeps_routeCount | with_reducible apply keeps_hostDeliver | split
    | dsimp only

theorem keeps_routeUp {s0 : State} (s : State) (u : Uplink) (ring : Nat) (pkt : List Byte) (hs : Keeps s0 s) : Keeps s0 (routeUp s u ring
    pkt) := by
  unfold Machine.routeUp
  repeat' first
    | with_reducible assumption | with_reducible apply keeps_routeCount | with_reducible apply keeps_hostDeliver
    | with_reducible apply keeps_passEui | with_reducible apply keeps_packetToNode | with_reducible apply keeps_walkTrie
    | with_reducible apply keeps_meshAction | with_reducible apply keeps_ite | split | dsimp only

theorem keeps_routeData {s0 : State} (s : State) (u : Uplink) (ring : Nat) (hs : Keeps s0 s) : Keeps s0 (routeData s u ring) := by
  unfold Machine.routeData
  repeat' first
    | with_reducible assumption | with_reducible apply keeps_passAddr | with_reducible apply keeps_meshForward
    | with_reducible apply keeps_hostDeliver | with_reducible apply keeps_routeUp | with_reducible apply keeps_routeCount
    | with_reducible apply keeps_ite | split | dsimp only

theorem keeps_setNodeRoute {s0 : State} (s : State) (i : Nat) (role : Nat) (parent : W32) (hs : Keeps s0 s) : Keeps s0 (setNodeRoute s i
    role parent) := by
  unfold Machine.setNodeRoute
  repeat' first
    | with_reducible assumption | with_reducible apply keeps_leaveParent | with_reducible apply keeps_modRoute
    | with_reducible apply keeps_countChild | with_reducible apply keeps_writeEntry | with_reducible apply keeps_journalAdd
    | with_reducible apply keeps_fileFrom | with_reducible apply keeps_unfile | with_reducible apply keeps_relinkPending
    | with_reducible apply keeps_ite | split

theorem keeps_dropPortFrames {s0 : State} (s : State) (port : Nat) (hs : Keeps s0 s) : Keeps s0 (dropPortFrames s port) := by
  unfold Machine.dropPortFrames
  repeat' first
    | with_reducible assumption | with_reducible apply keeps_modEth

theorem keeps_ethFlood {s0 : State} (s : State) (port : Nat) (pkt : List Byte) (hs : Keeps s0 s) : Keeps s0 (ethFlood s port pkt) := by
  unfold Machine.ethFlood
  repeat' first
    | with_reducible assumption | with_reducible apply keeps_floodAdd

theorem keeps_ethPark {s0 : State} (s : State) (port : Nat) (i : Nat) (pkt : List Byte) (hs : Keeps s0 s) : Keeps s0 (ethPark s port i
    pkt) := by
  unfold Machine.ethPark
  repeat' first
    | with_reducible assumption | with_reducible apply keeps_routeCount | with_reducible apply keeps_enterFrame
    | with_reducible apply keeps_ite | split

theorem keeps_ethLearnEvent {s0 : State} (s : State) (port : Nat) (eui : W64) (pkt : List Byte) (hs : Keeps s0 s) : Keeps s0
    (ethLearnEvent s port eui pkt) := by
  unfold Machine.ethLearnEvent
  repeat' first
    | with_reducible assumption | with_reducible apply keeps_nodeCount | with_reducible apply keeps_modPort
    | with_reducible apply keeps_ethFlood | with_reducible apply keeps_chargePort | with_reducible apply keeps_insertFailed
    | with_reducible apply keeps_returnToken | with_reducible apply keeps_drawBelow | with_reducible apply keeps_insertEntry
    | with_reducible apply keeps_ethPark | with_reducible apply keeps_journalAdd | with_reducible apply keeps_learnRefused
    | with_reducible apply keeps_ite | (with_reducible refine keeps_fst (by with_reducible assumption) ?_) | split | dsimp only

theorem keeps_ethToHost {s0 : State} (s : State) (port : Nat) (ring : Nat) (frame : List Byte) (hs : Keeps s0 s) : Keeps s0 (ethToHost s
    port ring frame) := by
  unfold Machine.ethToHost
  repeat' first
    | with_reducible assumption | with_reducible apply keeps_ethCount | with_reducible apply keeps_rxWrite
    | with_reducible apply keeps_ite

theorem keeps_ethTrie {s0 : State} (s : State) (port : Nat) (frame : List Byte) (pkt : List Byte) (hs : Keeps s0 s) : Keeps s0 (ethTrie s
    port frame pkt) := by
  unfold Machine.ethTrie
  repeat' first
    | with_reducible assumption | with_reducible apply keeps_ethCount | with_reducible apply keeps_passAddr
    | with_reducible apply keeps_ethPark | with_reducible apply keeps_touchHit | with_reducible apply keeps_routeCount
    | with_reducible apply keeps_ethToHost | with_reducible apply keeps_walkTrie | with_reducible apply keeps_ite | split | dsimp only

theorem keeps_ethForward {s0 : State} (s : State) (port : Nat) (frame : List Byte) (pkt : List Byte) (hs : Keeps s0 s) : Keeps s0
    (ethForward s port frame pkt) := by
  unfold Machine.ethForward
  repeat' first
    | with_reducible assumption | with_reducible apply keeps_accessDoms | with_reducible apply keeps_routeCount
    | with_reducible apply keeps_passEui | with_reducible apply keeps_ethPark | with_reducible apply keeps_touchHit
    | with_reducible apply keeps_ethLearnEvent | with_reducible apply keeps_ethTrie | with_reducible apply keeps_ite | split | dsimp only

theorem keeps_ethLinkOp {s0 : State} (s : State) (port : Nat) (up : Bool) (hs : Keeps s0 s) : Keeps s0 (ethLinkOp s port up) := by
  unfold Machine.ethLinkOp
  repeat' first
    | with_reducible assumption | with_reducible apply keeps_modEth | with_reducible apply keeps_modPtp | with_reducible apply keeps_ite

theorem keeps_ethRxOp {s0 : State} (s : State) (port : Nat) (frame : List Byte) (fcsGood : Bool) (hs : Keeps s0 s) : Keeps s0 (ethRxOp s
    port frame fcsGood) := by
  unfold Machine.ethRxOp
  repeat' first
    | with_reducible assumption | with_reducible apply keeps_ethCount | with_reducible apply keeps_ethSendOne
    | with_reducible apply keeps_ethToHost | with_reducible apply keeps_ethForward | with_reducible apply keeps_ite | split

theorem keeps_modAir {s0 : State} (s : State) (f : Air → Air) (hs : Keeps s0 s) : Keeps s0 (modAir s f) := by
  unfold Machine.modAir
  repeat' first
    | with_reducible assumption | (with_reducible refine keeps_mk ?_ rfl rfl)

theorem keeps_modTones {s0 : State} (s : State) (addr : Nat) (f : ToneMaps → ToneMaps) (hs : Keeps s0 s) : Keeps s0 (modTones s addr f)
    := by
  unfold Machine.modTones
  repeat' first
    | with_reducible assumption | with_reducible apply keeps_modAir

theorem keeps_useTxMap {s0 : State} (s : State) (addr : W32) (id : Nat) (m : Nat) (hs : Keeps s0 s) : Keeps s0 (useTxMap s addr id m) := by
  unfold Machine.useTxMap
  repeat' first
    | with_reducible assumption | with_reducible apply keeps_modTones

theorem keeps_ackSent {s0 : State} (s : State) (addr : W32) (counter : W32) (hs : Keeps s0 s) : Keeps s0 (ackSent s addr counter) := by
  unfold Machine.ackSent
  repeat' first
    | with_reducible assumption | with_reducible apply keeps_useTxMap | with_reducible apply keeps_ite | split | dsimp only
    | (with_reducible refine keeps_mk ?_ rfl rfl)

theorem keeps_answerSound {s0 : State} (s : State) (addr : W32) (r : Reply) (hs : Keeps s0 s) : Keeps s0 (answerSound s addr r) := by
  unfold Machine.answerSound
  repeat' first
    | with_reducible assumption | with_reducible apply keeps_finishWhere

theorem keeps_activateMap {s0 : State} (s : State) (addr : W32) (id : Nat) (m : Nat) (hs : Keeps s0 s) : Keeps s0 (activateMap s addr id
    m) := by
  unfold Machine.activateMap
  repeat' first
    | with_reducible assumption | with_reducible apply keeps_modTones | with_reducible apply keeps_answerSound
    | with_reducible apply keeps_ite

theorem keeps_mapAcked {s0 : State} (s : State) (f : Frame) (hs : Keeps s0 s) : Keeps s0 (mapAcked s f) := by
  unfold Machine.mapAcked
  repeat' first
    | with_reducible assumption | with_reducible apply keeps_modTones | with_reducible apply keeps_linkSend
    | with_reducible apply keeps_activateMap | with_reducible apply keeps_ite | split

theorem keeps_mapUsed {s0 : State} (s : State) (addr : W32) (id : Nat) (hs : Keeps s0 s) : Keeps s0 (mapUsed s addr id) := by
  unfold Machine.mapUsed
  repeat' first
    | with_reducible assumption | with_reducible apply keeps_modTones | with_reducible apply keeps_ite | split | dsimp only

theorem keeps_soundPassed {s0 : State} (s : State) (addr : W32) (hs : Keeps s0 s) : Keeps s0 (soundPassed s addr) := by
  unfold Machine.soundPassed
  repeat' first
    | with_reducible assumption | with_reducible apply keeps_modTones | with_reducible apply keeps_answerSound
    | with_reducible apply keeps_ite

theorem keeps_offerMap {s0 : State} (s : State) (i : Nat) (addr : W32) (id : Nat) (m : Nat) (hs : Keeps s0 s) : Keeps s0 (offerMap s i
    addr id m) := by
  unfold Machine.offerMap
  repeat' first
    | with_reducible assumption | with_reducible apply keeps_flushFrame | with_reducible apply keeps_modTones
    | with_reducible apply keeps_replicateOffer | with_reducible apply keeps_parkFirmware
    | with_reducible refine keeps_foldl ?_ fun _ _ _ => ?_

theorem keeps_profileLoad {s0 : State} (e : CmdEntry) (s : State) (hs : Keeps s0 s) : Keeps s0 (profileLoad e s) := by
  unfold Machine.profileLoad
  repeat' first
    | with_reducible assumption | with_reducible apply keeps_modAir

theorem keeps_requestSounding {s0 : State} (s : State) (i : Nat) (addr : W32) (hs : Keeps s0 s) : Keeps s0 (requestSounding s i addr) := by
  unfold Machine.requestSounding
  repeat' first
    | with_reducible assumption | with_reducible apply keeps_parkFirmware

theorem keeps_toneMapRetireOp {s0 : State} (s : State) (addr : W32) (hs : Keeps s0 s) : Keeps s0 (toneMapRetireOp s addr) := by
  unfold Machine.toneMapRetireOp
  repeat' first
    | with_reducible assumption | with_reducible apply keeps_modTones | split

theorem keeps_dwellDeny {s0 : State} (s : State) (b : Band) (r : Region) (key : Nat) (v : Nat) (hs : Keeps s0 s) : Keeps s0 (dwellDeny s
    b r key v) := by
  unfold Machine.dwellDeny
  repeat' first
    | with_reducible assumption | with_reducible apply keeps_orbitCount | with_reducible apply keeps_raiseEvent
    | with_reducible apply keeps_modTx | with_reducible apply keeps_ite

theorem keeps_bumpSchedule {s0 : State} (s : State) (hs : Keeps s0 s) : Keeps s0 (bumpSchedule s) := by
  unfold Machine.bumpSchedule
  repeat' first
    | with_reducible assumption | with_reducible apply keeps_modOrbit

end Sys2Proof.Laws
end

