-- ==== Sys2Proof/Laws/KeepsRadio.lean ====
section
/-! SUPPORT. The queue and the canonical form of the addressed memories are kept by the receivers, transmit chains, campaigns and the Orbit engine. -/

namespace Sys2Proof.Laws

open Sys2Proof.Machine

theorem keeps_modRadio {s0 : State} (s : State) (f : Radio → Radio) (hs : Keeps s0 s) : Keeps s0 (modRadio s f) := by
  unfold Machine.modRadio
  repeat' first
    | with_reducible assumption | (with_reducible refine keeps_mk ?_ rfl rfl)

theorem keeps_setCtx {s0 : State} (s : State) (i : Nat) (c : Ctx) (hs : Keeps s0 s) : Keeps s0 (setCtx s i c) := by
  unfold Machine.setCtx
  repeat' first
    | with_reducible assumption | with_reducible apply keeps_modRadio

theorem keeps_ctxIdle {s0 : State} (s : State) (i : Nat) (hs : Keeps s0 s) : Keeps s0 (ctxIdle s i) := by
  unfold Machine.ctxIdle
  repeat' first
    | with_reducible assumption | with_reducible apply keeps_setCtx

theorem keeps_endCut {s0 : State} (s : State) (i : Nat) (status : Byte) (lqi : Nat) (hs : Keeps s0 s) : Keeps s0 (endCut s i status lqi)
    := by
  unfold Machine.endCut
  repeat' first
    | with_reducible assumption | with_reducible apply keeps_setCtx | with_reducible apply keeps_rxWrite | with_reducible apply keeps_ite
    | split | dsimp only | (with_reducible refine keeps_mk ?_ rfl rfl)

theorem keeps_poisonCut {s0 : State} (s : State) (i : Nat) (hs : Keeps s0 s) : Keeps s0 (poisonCut s i) := by
  unfold Machine.poisonCut
  repeat' first
    | with_reducible assumption | with_reducible apply keeps_endCut

theorem keeps_snapBlanked {s0 : State} (s : State) (b : Band) (on : Bool) (hs : Keeps s0 s) : Keeps s0 (snapBlanked s b on) := by
  unfold Machine.snapBlanked
  repeat' first
    | with_reducible assumption | with_reducible apply keeps_modRadio

theorem keeps_ctxRest {s0 : State} (s : State) (i : Nat) (hs : Keeps s0 s) : Keeps s0 (ctxRest s i) := by
  unfold Machine.ctxRest
  repeat' first
    | with_reducible assumption | with_reducible apply keeps_setCtx | with_reducible apply keeps_ite

theorem keeps_armReserved {s0 : State} (s : State) (b : Band) (on : Bool) (hs : Keeps s0 s) : Keeps s0 (armReserved s b on) := by
  unfold Machine.armReserved
  repeat' first
    | with_reducible assumption | with_reducible apply keeps_setCtx | with_reducible refine keeps_foldl ?_ fun _ _ _ => ?_

theorem keeps_loseReceptions {s0 : State} (s : State) (b : Band) (counter : Nat) (hs : Keeps s0 s) : Keeps s0 (loseReceptions s b
    counter) := by
  unfold Machine.loseReceptions
  repeat' first
    | with_reducible assumption | with_reducible apply keeps_ctxRest | with_reducible apply keeps_poisonCut
    | with_reducible apply keeps_rxCount | with_reducible refine keeps_foldl ?_ fun _ _ _ => ?_

theorem keeps_drawBytes {s0 : State} (s : State) (n : Nat) (hs : Keeps s0 s) : Keeps s0 (drawBytes s n).2 := by
  unfold Machine.drawBytes
  repeat' first
    | with_reducible assumption | dsimp only | (with_reducible refine keeps_mk ?_ rfl rfl)

theorem keeps_moveWindow {s0 : State} (s : State) (b : Band) (centre : Nat) (hs : Keeps s0 s) : Keeps s0 (moveWindow s b centre) := by
  unfold Machine.moveWindow
  repeat' first
    | with_reducible assumption | with_reducible apply keeps_loseReceptions | with_reducible apply keeps_modRx
    | with_reducible apply keeps_ite

theorem keeps_releaseSnapshot {s0 : State} (s : State) (id : Nat) (hs : Keeps s0 s) : Keeps s0 (releaseSnapshot s id) := by
  unfold Machine.releaseSnapshot
  repeat' first
    | with_reducible assumption | with_reducible apply keeps_modRadio | with_reducible apply keeps_finishWhere

theorem keeps_snapshotEndOp {s0 : State} (s : State) (b : Band) (data : List Byte) (hs : Keeps s0 s) : Keeps s0 (snapshotEndOp s b data)
    := by
  unfold Machine.snapshotEndOp
  repeat' first
    | with_reducible assumption | with_reducible apply keeps_modRadio | with_reducible apply keeps_drawNat
    | with_reducible apply keeps_finishWhere | with_reducible apply keeps_ite | split

theorem keeps_snapshotStartOp {s0 : State} (s : State) (b : Band) (hs : Keeps s0 s) : Keeps s0 (snapshotStartOp s b) := by
  unfold Machine.snapshotStartOp
  repeat' first
    | with_reducible assumption | with_reducible apply keeps_modRadio | with_reducible apply keeps_ite | split

theorem keeps_calStarts {s0 : State} (s : State) (b : Band) (hs : Keeps s0 s) : Keeps s0 (calStarts s b) := by
  unfold Machine.calStarts
  repeat' first
    | with_reducible assumption | with_reducible apply keeps_modTx | with_reducible apply keeps_ite | split

theorem keeps_enqueueLaunch {s0 : State} (s : State) (l : Launch) (hs : Keeps s0 s) : Keeps s0 (enqueueLaunch s l) := by
  unfold Machine.enqueueLaunch
  repeat' first
    | with_reducible assumption | with_reducible apply keeps_modTx | with_reducible apply keeps_calStarts

theorem keeps_takeLaunchId {s0 : State} (s : State) (hs : Keeps s0 s) : Keeps s0 (takeLaunchId s) := by
  unfold Machine.takeLaunchId
  repeat' first
    | with_reducible assumption | with_reducible apply keeps_modRadio

theorem keeps_answerDirect {s0 : State} (s : State) (l : Launch) (r : Reply) (hs : Keeps s0 s) : Keeps s0 (answerDirect s l r) := by
  unfold Machine.answerDirect
  repeat' first
    | with_reducible assumption | with_reducible apply keeps_finishWhere | with_reducible apply keeps_ite

theorem keeps_dropAckListens {s0 : State} (s : State) (l : Launch) (hs : Keeps s0 s) : Keeps s0 (dropAckListens s l) := by
  unfold Machine.dropAckListens
  repeat' first
    | with_reducible assumption | with_reducible apply keeps_modOrbit | with_reducible apply keeps_ctxIdle
    | with_reducible refine keeps_foldl ?_ fun _ _ _ => ?_

theorem keeps_chargeBurst {s0 : State} (s : State) (b : Band) (stop : Option Nat) (hs : Keeps s0 s) : Keeps s0 (chargeBurst s b stop) := by
  unfold Machine.chargeBurst
  repeat' first
    | with_reducible assumption | with_reducible apply keeps_modTx | with_reducible apply keeps_ite
    | with_reducible refine keeps_foldl ?_ fun _ _ _ => ?_ | split

theorem keeps_releaseFrom {s0 : State} (s : State) (b : Band) (t : Nat) (hs : Keeps s0 s) : Keeps s0 (releaseFrom s b t) := by
  unfold Machine.releaseFrom
  repeat' first
    | with_reducible assumption | with_reducible apply keeps_modTx

theorem keeps_unqueue {s0 : State} (s : State) (l : Launch) (hs : Keeps s0 s) : Keeps s0 (unqueue s l) := by
  unfold Machine.unqueue
  repeat' first
    | with_reducible assumption | with_reducible apply keeps_modTx | with_reducible apply keeps_calStarts

theorem keeps_returnFrame {s0 : State} (s : State) (l : Launch) (hs : Keeps s0 s) : Keeps s0 (returnFrame s l) := by
  unfold Machine.returnFrame
  repeat' first
    | with_reducible assumption | with_reducible apply keeps_completeFrame | with_reducible apply keeps_modRecord
    | with_reducible apply keeps_ite | split

theorem keeps_bgOverdue {s0 : State} (s : State) (b : Band) (hs : Keeps s0 s) : Keeps s0 (bgOverdue s b) := by
  unfold Machine.bgOverdue
  repeat' first
    | with_reducible assumption | with_reducible apply keeps_txCount | with_reducible apply keeps_modTx | with_reducible apply keeps_ite
    | with_reducible refine keeps_foldl ?_ fun _ _ _ => ?_

theorem keeps_calRunAnswers {s0 : State} (s : State) (b : Band) (hs : Keeps s0 s) : Keeps s0 (calRunAnswers s b) := by
  unfold Machine.calRunAnswers
  repeat' first
    | with_reducible assumption | with_reducible apply keeps_finishWhere

theorem keeps_backgroundCalOp {s0 : State} (s : State) (b : Band) (which : BgCal) (tempQ : Int) (hs : Keeps s0 s) : Keeps s0
    (backgroundCalOp s b which tempQ) := by
  unfold Machine.backgroundCalOp
  repeat' first
    | with_reducible assumption | with_reducible apply keeps_bgOverdue | with_reducible apply keeps_calStarts
    | with_reducible apply keeps_txCount | with_reducible apply keeps_modTx | with_reducible apply keeps_calRunAnswers
    | with_reducible apply keeps_ite

theorem keeps_cancelLaunch {s0 : State} (s : State) (l : Launch) (late : Bool) (hs : Keeps s0 s) : Keeps s0 (cancelLaunch s l late) := by
  unfold Machine.cancelLaunch
  repeat' first
    | with_reducible assumption | with_reducible apply keeps_unqueue | with_reducible apply keeps_txCount
    | with_reducible apply keeps_returnFrame | with_reducible apply keeps_dropAckListens | with_reducible apply keeps_releaseFrom
    | with_reducible apply keeps_answerDirect | with_reducible apply keeps_ite

theorem keeps_cancelAll {s0 : State} (s : State) (b : Band) (hs : Keeps s0 s) : Keeps s0 (cancelAll s b) := by
  unfold Machine.cancelAll
  repeat' first
    | with_reducible assumption | with_reducible apply keeps_cancelLaunch | with_reducible refine keeps_foldl ?_ fun _ _ _ => ?_

theorem keeps_bandDrains {s0 : State} (s : State) (b : Band) (hs : Keeps s0 s) : Keeps s0 (bandDrains s b) := by
  unfold Machine.bandDrains
  repeat' first
    | with_reducible assumption | with_reducible apply keeps_cancelAll | with_reducible apply keeps_modTx
    | with_reducible apply keeps_ctxIdle | with_reducible refine keeps_foldl ?_ fun _ _ _ => ?_

theorem keeps_unlaunch {s0 : State} (s : State) (l : Launch) (hs : Keeps s0 s) : Keeps s0 (unlaunch s l) := by
  unfold Machine.unlaunch
  repeat' first
    | with_reducible assumption | with_reducible apply keeps_modRecord | with_reducible apply keeps_modOrbit
    | with_reducible apply keeps_ite | split

theorem keeps_cutBurst {s0 : State} (s : State) (b : Band) (counter : Option Nat) (hs : Keeps s0 s) : Keeps s0 (cutBurst s b counter) := by
  unfold Machine.cutBurst
  repeat' first
    | with_reducible assumption | with_reducible apply keeps_chargeBurst | with_reducible apply keeps_answerDirect
    | with_reducible apply keeps_returnFrame | with_reducible apply keeps_unlaunch | with_reducible apply keeps_dropAckListens
    | with_reducible apply keeps_txCount | with_reducible apply keeps_modTx | with_reducible apply keeps_ite
    | with_reducible refine keeps_foldl ?_ fun _ _ _ => ?_ | split

theorem keeps_idleContexts {s0 : State} (s : State) (b : Band) (counter : Option Nat) (hs : Keeps s0 s) : Keeps s0 (idleContexts s b
    counter) := by
  unfold Machine.idleContexts
  repeat' first
    | with_reducible assumption | with_reducible apply keeps_txCount | with_reducible apply keeps_ctxIdle
    | with_reducible apply keeps_poisonCut | with_reducible apply keeps_ite | with_reducible refine keeps_foldl ?_ fun _ _ _ => ?_ | split

theorem keeps_bandFaults {s0 : State} (s : State) (b : Band) (hs : Keeps s0 s) : Keeps s0 (bandFaults s b) := by
  unfold Machine.bandFaults
  repeat' first
    | with_reducible assumption | with_reducible apply keeps_cutBurst | with_reducible apply keeps_cancelAll
    | with_reducible apply keeps_idleContexts | with_reducible apply keeps_txCount | with_reducible apply keeps_modTx

theorem keeps_bandFaultOp {s0 : State} (s : State) (b : Band) (hs : Keeps s0 s) : Keeps s0 (bandFaultOp s b) := by
  unfold Machine.bandFaultOp
  repeat' first
    | with_reducible assumption | with_reducible apply keeps_bandFaults | split

theorem keeps_enableEnds {s0 : State} (s : State) (b : Band) (st : Nat) (hs : Keeps s0 s) : Keeps s0 (enableEnds s b st) := by
  unfold Machine.enableEnds
  repeat' first
    | with_reducible assumption | with_reducible apply keeps_finishWhere

theorem keeps_bandGoesOff {s0 : State} (s : State) (b : Band) (hs : Keeps s0 s) : Keeps s0 (bandGoesOff s b) := by
  unfold Machine.bandGoesOff
  repeat' first
    | with_reducible assumption | with_reducible apply keeps_cancelAll | with_reducible apply keeps_idleContexts
    | with_reducible apply keeps_modTx | with_reducible apply keeps_enableEnds

theorem keeps_bandGoesOn {s0 : State} (s : State) (b : Band) (hs : Keeps s0 s) : Keeps s0 (bandGoesOn s b) := by
  unfold Machine.bandGoesOn
  repeat' first
    | with_reducible assumption | with_reducible apply keeps_armReserved | with_reducible apply keeps_modTx
    | with_reducible apply keeps_finishWhere

theorem keeps_bandOnOp {s0 : State} (s : State) (b : Band) (hs : Keeps s0 s) : Keeps s0 (bandOnOp s b) := by
  unfold Machine.bandOnOp
  repeat' first
    | with_reducible assumption | with_reducible apply keeps_bandGoesOn | with_reducible apply keeps_ite | split | dsimp only

theorem keeps_bindRegion {s0 : State} (s : State) (b : Band) (id : Nat) (hs : Keeps s0 s) : Keeps s0 (bindRegion s b id) := by
  unfold Machine.bindRegion
  repeat' first
    | with_reducible assumption | with_reducible apply keeps_modTx | split

theorem keeps_channelCalOp {s0 : State} (s : State) (b : Band) (locked : Bool) (hs : Keeps s0 s) : Keeps s0 (channelCalOp s b locked) := by
  unfold Machine.channelCalOp
  repeat' first
    | with_reducible assumption | with_reducible apply keeps_calStarts | with_reducible apply keeps_txCount
    | with_reducible apply keeps_modTx | with_reducible apply keeps_bandFaults | with_reducible apply keeps_ite | split | dsimp only

theorem keeps_drainEndOp {s0 : State} (s : State) (b : Band) (hs : Keeps s0 s) : Keeps s0 (drainEndOp s b) := by
  unfold Machine.drainEndOp
  repeat' first
    | with_reducible assumption | with_reducible apply keeps_bandGoesOff | with_reducible apply keeps_ite

theorem keeps_faultReturnOp {s0 : State} (s : State) (b : Band) (ok : Bool) (hs : Keeps s0 s) : Keeps s0 (faultReturnOp s b ok) := by
  unfold Machine.faultReturnOp
  repeat' first
    | with_reducible assumption | with_reducible apply keeps_bandGoesOn | with_reducible apply keeps_modTx
    | with_reducible apply keeps_txCount | with_reducible apply keeps_enableEnds | with_reducible apply keeps_ite

theorem keeps_setBand {s0 : State} (s : State) (b : Band) (st : BandState) (hs : Keeps s0 s) : Keeps s0 (setBand s b st) := by
  unfold Machine.setBand
  repeat' first
    | with_reducible assumption | with_reducible apply keeps_modTx

theorem keeps_shaperCharge {s0 : State} (s : State) (b : Band) (q : Nat) (f : Nat) (hs : Keeps s0 s) : Keeps s0 (shaperCharge s b q f) := by
  unfold Machine.shaperCharge
  repeat' first
    | with_reducible assumption | with_reducible apply keeps_modShape | with_reducible apply keeps_modQueue

theorem keeps_modCmp {s0 : State} (s : State) (f : Campaign → Campaign) (hs : Keeps s0 s) : Keeps s0 (modCmp s f) := by
  unfold Machine.modCmp
  repeat' first
    | with_reducible assumption | (with_reducible refine keeps_mk ?_ rfl rfl)

theorem keeps_campaignSent {s0 : State} (s : State) (payload : List Byte) (unicast : Bool) (hs : Keeps s0 s) : Keeps s0 (campaignSent s
    payload unicast) := by
  unfold Machine.campaignSent
  repeat' first
    | with_reducible assumption | with_reducible apply keeps_modCmp | with_reducible apply keeps_ite

theorem keeps_endCampaign {s0 : State} (s : State) (hs : Keeps s0 s) : Keeps s0 (endCampaign s) := by
  unfold Machine.endCampaign
  repeat' first
    | with_reducible assumption | with_reducible apply keeps_modCmp

theorem keeps_endIfDone {s0 : State} (s : State) (hs : Keeps s0 s) : Keeps s0 (endIfDone s) := by
  unfold Machine.endIfDone
  repeat' first
    | with_reducible assumption | with_reducible apply keeps_endCampaign | with_reducible apply keeps_ite

theorem keeps_modTarget {s0 : State} (s : State) (addr : W32) (f : Target → Target) (hs : Keeps s0 s) : Keeps s0 (modTarget s addr f) := by
  unfold Machine.modTarget
  repeat' first
    | with_reducible assumption | with_reducible apply keeps_modCmp

theorem keeps_campaignAcked {s0 : State} (s : State) (f : Frame) (hs : Keeps s0 s) : Keeps s0 (campaignAcked s f) := by
  unfold Machine.campaignAcked
  repeat' first
    | with_reducible assumption | with_reducible apply keeps_endIfDone | with_reducible apply keeps_modTarget
    | with_reducible apply keeps_ite | split

theorem keeps_queueCampaign {s0 : State} (s : State) (addr : W32) (payload : List Byte) (hs : Keeps s0 s) : Keeps s0 (queueCampaign s
    addr payload) := by
  unfold Machine.queueCampaign
  repeat' first
    | with_reducible assumption | with_reducible apply keeps_parkFirmware | with_reducible apply keeps_ite

theorem keeps_announceTo {s0 : State} (s : State) (p : Target → Bool) (hs : Keeps s0 s) : Keeps s0 (announceTo s p) := by
  unfold Machine.announceTo
  repeat' first
    | with_reducible assumption | with_reducible apply keeps_queueCampaign | with_reducible refine keeps_foldl ?_ fun _ _ _ => ?_

theorem keeps_openRound {s0 : State} (s : State) (round : Nat) (hs : Keeps s0 s) : Keeps s0 (openRound s round) := by
  unfold Machine.openRound
  repeat' first
    | with_reducible assumption | with_reducible apply keeps_modCmp

theorem keeps_campaignTakeover {s0 : State} (s : State) (hs : Keeps s0 s) : Keeps s0 (campaignTakeover s) := by
  unfold Machine.campaignTakeover
  repeat' first
    | with_reducible assumption | with_reducible apply keeps_modCmp | with_reducible apply keeps_ite

theorem keeps_repeatBlock {s0 : State} (s : State) (hs : Keeps s0 s) : Keeps s0 (repeatBlock s) := by
  unfold Machine.repeatBlock
  repeat' first
    | with_reducible assumption | with_reducible apply keeps_modCmp | with_reducible apply keeps_ite

theorem keeps_loseBlock {s0 : State} (s : State) (k : Nat) (hs : Keeps s0 s) : Keeps s0 (loseBlock s k) := by
  unfold Machine.loseBlock
  repeat' first
    | with_reducible assumption | with_reducible apply keeps_modCmp | with_reducible apply keeps_bulkLose

theorem keeps_flushCampaign {s0 : State} (s : State) (hs : Keeps s0 s) : Keeps s0 (flushCampaign s) := by
  unfold Machine.flushCampaign
  repeat' first
    | with_reducible assumption | with_reducible apply keeps_modQueue | with_reducible apply keeps_flushFrame
    | with_reducible refine keeps_foldl ?_ fun _ _ _ => ?_

theorem keeps_modPlan {s0 : State} (s : State) (n : Nat) (f : Plan → Plan) (hs : Keeps s0 s) : Keeps s0 (modPlan s n f) := by
  unfold Machine.modPlan
  repeat' first
    | with_reducible assumption | with_reducible apply keeps_modOrbit

theorem keeps_addLaunch {s0 : State} (s : State) (n : Nat) (l : Launch) (hs : Keeps s0 s) : Keeps s0 (addLaunch s n l) := by
  unfold Machine.addLaunch
  repeat' first
    | with_reducible assumption | with_reducible apply keeps_modPlan | with_reducible apply keeps_takeLaunchId
    | with_reducible apply keeps_leaveQueue | with_reducible apply keeps_modRecord | split

theorem keeps_addListen {s0 : State} (s : State) (n : Nat) (l : Listen) (hs : Keeps s0 s) : Keeps s0 (addListen s n l) := by
  unfold Machine.addListen
  repeat' first
    | with_reducible assumption | with_reducible apply keeps_modPlan

theorem keeps_addPark {s0 : State} (s : State) (n : Nat) (k : Park) (hs : Keeps s0 s) : Keeps s0 (addPark s n k) := by
  unfold Machine.addPark
  repeat' first
    | with_reducible assumption | with_reducible apply keeps_modPlan

theorem keeps_advanceWake {s0 : State} (s : State) (i : Nat) (hs : Keeps s0 s) : Keeps s0 (advanceWake s i) := by
  unfold Machine.advanceWake
  repeat' first
    | with_reducible assumption | with_reducible apply keeps_modOrbit | with_reducible apply keeps_modNode | split | dsimp only

theorem keeps_deferContact {s0 : State} (s : State) (i : Nat) (hs : Keeps s0 s) : Keeps s0 (deferContact s i) := by
  unfold Machine.deferContact
  repeat' first
    | with_reducible assumption | with_reducible apply keeps_orbitCount | with_reducible apply keeps_refile
    | with_reducible apply keeps_advanceWake

theorem keeps_advanceDue {s0 : State} (s : State) (due : List Nat) (ks : List ContactPlan) (hs : Keeps s0 s) : Keeps s0 (advanceDue s due
    ks) := by
  unfold Machine.advanceDue
  repeat' first
    | with_reducible assumption | with_reducible apply keeps_refile | with_reducible apply keeps_advanceWake
    | with_reducible apply keeps_deferContact | with_reducible apply keeps_ite | with_reducible refine keeps_foldl ?_ fun _ _ _ => ?_

theorem keeps_cellListen {s0 : State} (s : State) (n : Nat) (c : Cell) (ch : Nat) (purpose : Purpose) (prio : Nat) (lengthUs : Nat) (hs :
    Keeps s0 s) : Keeps s0 (cellListen s n c ch purpose prio lengthUs) := by
  unfold Machine.cellListen
  repeat' first
    | with_reducible assumption | with_reducible apply keeps_addListen

theorem keeps_contactUntil {s0 : State} (s : State) (n : Nat) (addr : W32) (t : Nat) (hs : Keeps s0 s) : Keeps s0 (contactUntil s n addr
    t) := by
  unfold Machine.contactUntil
  repeat' first
    | with_reducible assumption | with_reducible apply keeps_modPlan

theorem keeps_discardJoinRsps {s0 : State} (s : State) (n : Nat) (hs : Keeps s0 s) : Keeps s0 (discardJoinRsps s n) := by
  unfold Machine.discardJoinRsps
  repeat' first
    | with_reducible assumption | with_reducible apply keeps_modOrbit | with_reducible apply keeps_freeRecord
    | with_reducible apply keeps_ite | with_reducible refine keeps_foldl ?_ fun _ _ _ => ?_

theorem keeps_enterContact {s0 : State} (s : State) (n : Nat) (c : Contact) (hs : Keeps s0 s) : Keeps s0 (enterContact s n c) := by
  unfold Machine.enterContact
  repeat' first
    | with_reducible assumption | with_reducible apply keeps_contactUntil | with_reducible apply keeps_modPlan
    | with_reducible apply keeps_orbitCount | with_reducible apply keeps_ite

theorem keeps_tryPlace {s0 : State} (s : State) (n : Nat) (l : Launch) (hs : Keeps s0 s) : Keeps s0 (tryPlace s n l).1 := by
  unfold Machine.tryPlace
  repeat' first
    | with_reducible assumption | with_reducible apply keeps_dwellDeny | with_reducible apply keeps_addLaunch
    | with_reducible apply keeps_orbitCount | with_reducible apply keeps_ite_fst | split | dsimp only

theorem keeps_placeCampaign {s0 : State} (s : State) (n : Nat) (c : Cell) (p : AirProfile) (ch : Nat) (endT : Nat) (t : Nat) (payload :
    List Byte) (hs : Keeps s0 s) : Keeps s0 (placeCampaign s n c p ch endT t payload).1 := by
  unfold Machine.placeCampaign
  repeat' first
    | with_reducible assumption | with_reducible apply keeps_tryPlace | with_reducible apply keeps_ite_fst

theorem keeps_fillBlocks {s0 : State} (n : Nat) (c : Cell) (p : AirProfile) (ch endT : Nat) (l : List Nat) (t : Nat) (s : State)
    (hs : Keeps s0 s) : Keeps s0 (fillBlocks n c p ch endT l t s) := by
  induction l generalizing t s with
  | nil => exact hs
  | cons k l ih =>
    unfold fillBlocks
    have h := keeps_placeCampaign s n c p ch endT t (blockPayload s.cmp k) hs
    dsimp only
    split
    · exact ih _ _ (keeps_loseBlock _ _ hs)
    · split
      · rename_i e
        exact ih _ _ (keeps_modCmp _ _ (keeps_fst e h))
      · rename_i e
        exact keeps_fst e h
theorem keeps_fillCell {s0 : State} (n : Nat) (c : Cell) (p : AirProfile) (ch endT k : Nat) (recs : List (Nat × LaunchKind)) (t : Nat) (s
    : State)
    (hs : Keeps s0 s) : Keeps s0 (fillCell n c p ch endT k recs t s) := by
  induction k generalizing recs t s with
  | zero => exact hs
  | succ k ih =>
    unfold fillCell
    dsimp only
    split
    · exact hs
    · split
      · exact ih _ _ _ hs
      · with_reducible apply keeps_ite
        · exact ih _ _ _ hs
        · split
          · rename_i e
            exact ih _ _ _ (keeps_shaperCharge _ _ _ _ (keeps_fst e (keeps_tryPlace _ _ _ hs)))
          · rename_i e
            exact ih _ _ _ (keeps_fst e (keeps_tryPlace _ _ _ hs))

theorem keeps_keepWindow {s0 : State} (s : State) (n : Nat) (b : Band) (hs : Keeps s0 s) : Keeps s0 (keepWindow s n b) := by
  unfold Machine.keepWindow
  repeat' first
    | with_reducible assumption | with_reducible apply keeps_modTx | with_reducible apply keeps_ite

theorem keeps_openCell {s0 : State} (s : State) (n : Nat) (c : Cell) (p : AirProfile) (ch : Nat) (endT : Nat) (t : Nat) (hs : Keeps s0 s)
    : Keeps s0 (openCell s n c p ch endT t) := by
  unfold Machine.openCell
  repeat' first
    | with_reducible assumption | with_reducible apply keeps_openRound | with_reducible apply keeps_placeCampaign
    | with_reducible apply keeps_modCmp | with_reducible apply keeps_ite
    | (with_reducible refine keeps_fst (by with_reducible assumption) ?_) | split

theorem keeps_parkUplink {s0 : State} (s : State) (n : Nat) (k : ContactPlan) (l : Listen) (hs : Keeps s0 s) : Keeps s0 (parkUplink s n k
    l) := by
  unfold Machine.parkUplink
  repeat' first
    | with_reducible assumption | with_reducible apply keeps_addPark | with_reducible apply keeps_modOrbit
    | with_reducible apply keeps_ite | split

theorem keeps_planAcquire {s0 : State} (s : State) (n : Nat) (b : Band) (hs : Keeps s0 s) : Keeps s0 (planAcquire s n b) := by
  unfold Machine.planAcquire
  repeat' first
    | with_reducible assumption | with_reducible apply keeps_addListen | with_reducible apply keeps_ite
    | with_reducible refine keeps_foldl ?_ fun _ _ _ => ?_ | split

theorem keeps_planAimed {s0 : State} (s : State) (n : Nat) (k : ContactPlan) (nominal : Int) (offsetNs : Nat) (lateUs : Nat) (follow :
    Bool) (hs : Keeps s0 s) : Keeps s0 (planAimed s n k nominal offsetNs lateUs follow) := by
  unfold Machine.planAimed
  repeat' first
    | with_reducible assumption | with_reducible apply keeps_orbitCount | with_reducible apply keeps_tryPlace
    | with_reducible apply keeps_enterContact | with_reducible apply keeps_shaperCharge | with_reducible apply keeps_contactUntil
    | with_reducible apply keeps_addListen | with_reducible apply keeps_ite
    | (with_reducible refine keeps_fst (by with_reducible assumption) ?_) | split | dsimp only

theorem keeps_planBackground {s0 : State} (s : State) (n : Nat) (b : Band) (hs : Keeps s0 s) : Keeps s0 (planBackground s n b) := by
  unfold Machine.planBackground
  repeat' first
    | with_reducible assumption | with_reducible apply keeps_addListen | with_reducible apply keeps_ite
    | with_reducible refine keeps_foldl ?_ fun _ _ _ => ?_

theorem keeps_planBeacon {s0 : State} (s : State) (n : Nat) (c : Cell) (hs : Keeps s0 s) : Keeps s0 (planBeacon s n c) := by
  unfold Machine.planBeacon
  repeat' first
    | with_reducible assumption | with_reducible apply keeps_tryPlace | split

theorem keeps_planFill {s0 : State} (s : State) (n : Nat) (c : Cell) (hs : Keeps s0 s) : Keeps s0 (planFill s n c) := by
  unfold Machine.planFill
  repeat' first
    | with_reducible assumption | with_reducible apply keeps_openCell | with_reducible apply keeps_fillCell
    | with_reducible apply keeps_fillBlocks | with_reducible apply keeps_ite | split | dsimp only

theorem keeps_planListen {s0 : State} (s : State) (n : Nat) (c : Cell) (hs : Keeps s0 s) : Keeps s0 (planListen s n c) := by
  unfold Machine.planListen
  repeat' first
    | with_reducible assumption | with_reducible apply keeps_cellListen | with_reducible apply keeps_ite | split

theorem keeps_planBand {s0 : State} (s : State) (n : Nat) (b : Band) (hs : Keeps s0 s) : Keeps s0 (planBand s n b) := by
  unfold Machine.planBand
  repeat' first
    | with_reducible assumption | with_reducible apply keeps_planListen | with_reducible apply keeps_planFill
    | with_reducible apply keeps_planBeacon | with_reducible apply keeps_planBackground
    | with_reducible refine keeps_foldl ?_ fun _ _ _ => ?_

theorem keeps_planDedicatedRx {s0 : State} (s : State) (n : Nat) (c : Cell) (hs : Keeps s0 s) : Keeps s0 (planDedicatedRx s n c) := by
  unfold Machine.planDedicatedRx
  repeat' first
    | with_reducible assumption | with_reducible apply keeps_enterContact | with_reducible apply keeps_addListen
    | with_reducible apply keeps_parkUplink | with_reducible apply keeps_ite | split

theorem keeps_planDedicatedTx {s0 : State} (s : State) (n : Nat) (c : Cell) (hs : Keeps s0 s) : Keeps s0 (planDedicatedTx s n c) := by
  unfold Machine.planDedicatedTx
  repeat' first
    | with_reducible assumption | with_reducible apply keeps_planAimed | split

theorem keeps_planDownlinks {s0 : State} (s : State) (n : Nat) (ks : List ContactPlan) (hs : Keeps s0 s) : Keeps s0 (planDownlinks s n
    ks) := by
  unfold Machine.planDownlinks
  repeat' first
    | with_reducible assumption | with_reducible apply keeps_planAimed | with_reducible apply keeps_ite
    | with_reducible refine keeps_foldl ?_ fun _ _ _ => ?_

theorem keeps_planOffers {s0 : State} (s : State) (n : Nat) (hs : Keeps s0 s) : Keeps s0 (planOffers s n) := by
  unfold Machine.planOffers
  repeat' first
    | with_reducible assumption | with_reducible apply keeps_addListen | with_reducible refine keeps_foldl ?_ fun _ _ _ => ?_ | split

theorem keeps_planUplink {s0 : State} (s : State) (n : Nat) (k : ContactPlan) (hs : Keeps s0 s) : Keeps s0 (planUplink s n k) := by
  unfold Machine.planUplink
  repeat' first
    | with_reducible assumption | with_reducible apply keeps_enterContact | with_reducible apply keeps_addListen
    | with_reducible apply keeps_parkUplink | with_reducible apply keeps_ite

theorem keeps_planUplinks {s0 : State} (s : State) (n : Nat) (ks : List ContactPlan) (hs : Keeps s0 s) : Keeps s0 (planUplinks s n ks) := by
  unfold Machine.planUplinks
  repeat' first
    | with_reducible assumption | with_reducible apply keeps_planUplink | with_reducible refine keeps_foldl ?_ fun _ _ _ => ?_

theorem keeps_planSlot {s0 : State} (s : State) (n : Nat) (hs : Keeps s0 s) : Keeps s0 (planSlot s n) := by
  unfold Machine.planSlot
  repeat' first
    | with_reducible assumption | with_reducible apply keeps_modOrbit | with_reducible apply keeps_planAcquire
    | with_reducible apply keeps_bgOverdue | with_reducible apply keeps_discardJoinRsps | with_reducible apply keeps_unfile
    | with_reducible apply keeps_bulkLose | with_reducible apply keeps_planDedicatedRx | with_reducible apply keeps_planUplinks
    | with_reducible apply keeps_keepWindow | with_reducible apply keeps_planDedicatedTx | with_reducible apply keeps_planDownlinks
    | with_reducible apply keeps_advanceDue | with_reducible apply keeps_planOffers | with_reducible apply keeps_planBand
    | with_reducible apply keeps_ite | with_reducible refine keeps_foldl ?_ fun _ _ _ => ?_

theorem keeps_cryptCount {s0 : State} (s : State) (i : Nat) (n : Nat) (hs : Keeps s0 s) : Keeps s0 (cryptCount s i n) := by
  unfold Machine.cryptCount
  repeat' first
    | with_reducible assumption | with_reducible apply keeps_modCrypt

theorem keeps_modLane {s0 : State} (s : State) (i : Nat) (f : Lane → Lane) (hs : Keeps s0 s) : Keeps s0 (modLane s i f) := by
  unfold Machine.modLane
  repeat' first
    | with_reducible assumption | with_reducible apply keeps_modCrypt

theorem keeps_reseedLane {s0 : State} (s : State) (i : Nat) (hs : Keeps s0 s) : Keeps s0 (reseedLane s i) := by
  unfold Machine.reseedLane
  repeat' first
    | with_reducible assumption | (with_reducible refine keeps_drawMask (by with_reducible assumption) ?_)
    | with_reducible apply keeps_modLane | split

theorem keeps_laneRun {s0 : State} (s : State) (i : Nat) (n : Nat) (hs : Keeps s0 s) : Keeps s0 (laneRun s i n) := by
  unfold Machine.laneRun
  repeat' first
    | with_reducible assumption | with_reducible apply keeps_reseedLane | with_reducible apply keeps_cryptCount
    | with_reducible apply keeps_modLane | with_reducible apply keeps_ite

theorem keeps_frameLane {s0 : State} (s : State) (hs : Keeps s0 s) : Keeps s0 (frameLane s) := by
  unfold Machine.frameLane
  repeat' first
    | with_reducible assumption | with_reducible apply keeps_modLane | with_reducible apply keeps_laneRun

theorem keeps_raiseEpoch {s0 : State} (s : State) (g : Nat) (e : Nat) (hs : Keeps s0 s) : Keeps s0 (raiseEpoch s g e) := by
  unfold Machine.raiseEpoch
  repeat' first
    | with_reducible assumption | with_reducible apply keeps_modCrypt

theorem keeps_exhaustGen {s0 : State} (s : State) (g : Nat) (hs : Keeps s0 s) : Keeps s0 (exhaustGen s g) := by
  unfold Machine.exhaustGen
  repeat' first
    | with_reducible assumption | with_reducible apply keeps_modCrypt

theorem keeps_setStream {s0 : State} (s : State) (st : Stream) (epoch : Nat) (count : Nat) (hs : Keeps s0 s) : Keeps s0 (setStream s st
    epoch count) := by
  unfold Machine.setStream
  repeat' first
    | with_reducible assumption | with_reducible apply keeps_modNode | with_reducible apply keeps_modCrypt | split

theorem keeps_streamPassed {s0 : State} (s : State) (st : Stream) (g : Nat) (e : Nat) (c : Nat) (hs : Keeps s0 s) : Keeps s0
    (streamPassed s st g e c) := by
  unfold Machine.streamPassed
  repeat' first
    | with_reducible assumption | with_reducible apply keeps_requestEpoch | with_reducible apply keeps_setStream
    | with_reducible apply keeps_exhaustGen | with_reducible apply keeps_ite

theorem keeps_takeCounter {s0 : State} (s : State) (st : Stream) (hs : Keeps s0 s) : Keeps s0 (takeCounter s st).1 := by
  unfold Machine.takeCounter
  repeat' first
    | with_reducible assumption | with_reducible apply keeps_cryptCount | with_reducible apply keeps_requestEpoch
    | with_reducible apply keeps_raiseEpoch | with_reducible apply keeps_streamPassed | with_reducible apply keeps_ite_fst

theorem keeps_ccmVector {s0 : State} (e : CmdEntry) (s : State) (hs : Keeps s0 s) : Keeps s0 (ccmVector e s).1 := by
  unfold Machine.ccmVector
  repeat' first
    | with_reducible assumption | with_reducible apply keeps_frameLane

theorem keeps_challengeNode {s0 : State} (s : State) (i : Nat) (hs : Keeps s0 s) : Keeps s0 (challengeNode s i) := by
  unfold Machine.challengeNode
  repeat' first
    | with_reducible assumption | with_reducible apply keeps_modNode

theorem keeps_rawBlocks {s0 : State} (e : CmdEntry) (s : State) (hs : Keeps s0 s) : Keeps s0 (rawBlocks e s).1 := by
  unfold Machine.rawBlocks
  repeat' first
    | with_reducible assumption | with_reducible apply keeps_readSlot | with_reducible apply keeps_cryptCount
    | with_reducible apply keeps_laneRun | with_reducible apply keeps_chargeUse | with_reducible apply keeps_modLane
    | (with_reducible refine keeps_fst (by with_reducible assumption) ?_) | split | dsimp only

theorem keeps_writeEpochs {s0 : State} (s : State) (r : EpochRec) (hs : Keeps s0 s) : Keeps s0 (writeEpochs s r) := by
  unfold Machine.writeEpochs
  repeat' first
    | with_reducible assumption | dsimp only | (with_reducible refine keeps_mk ?_ rfl rfl)

theorem keeps_rollSwitch {s0 : State} (s : State) (new : Nat) (hs : Keeps s0 s) : Keeps s0 (rollSwitch s new) := by
  unfold Machine.rollSwitch
  repeat' first
    | with_reducible assumption | with_reducible apply keeps_modCrypt | with_reducible apply keeps_writeEpochs

theorem keeps_rollAt {s0 : State} (s : State) (n : Nat) (hs : Keeps s0 s) : Keeps s0 (rollAt s n) := by
  unfold Machine.rollAt
  repeat' first
    | with_reducible assumption | with_reducible apply keeps_rollSwitch | with_reducible apply keeps_ite | split

theorem keeps_rollEnds {s0 : State} (s : State) (g : Nat) (hs : Keeps s0 s) : Keeps s0 (rollEnds s g) := by
  unfold Machine.rollEnds
  repeat' first
    | with_reducible assumption | with_reducible apply keeps_writeEpochs | with_reducible apply keeps_modCrypt
    | with_reducible apply keeps_modRecord | with_reducible apply keeps_completeFrame | with_reducible apply keeps_ite
    | with_reducible refine keeps_foldl ?_ fun _ _ _ => ?_

theorem keeps_sendContact {s0 : State} (s : State) (i : Nat) (hs : Keeps s0 s) : Keeps s0 (sendContact s i) := by
  unfold Machine.sendContact
  repeat' first
    | with_reducible assumption | with_reducible apply keeps_linkSend | with_reducible apply keeps_ite

theorem keeps_applySched {s0 : State} (s : State) (i : Nat) (u : SchedUpdate) (hs : Keeps s0 s) : Keeps s0 (applySched s i u) := by
  unfold Machine.applySched
  repeat' first
    | with_reducible assumption | with_reducible apply keeps_modOrbit | with_reducible apply keeps_refile
    | with_reducible apply keeps_modNode

theorem keeps_schedAcked {s0 : State} (s : State) (f : Frame) (hs : Keeps s0 s) : Keeps s0 (schedAcked s f) := by
  unfold Machine.schedAcked
  repeat' first
    | with_reducible assumption | with_reducible apply keeps_modOrbit | with_reducible apply keeps_orbitCount
    | with_reducible apply keeps_finishWhere | with_reducible apply keeps_linkSend | with_reducible apply keeps_applySched
    | with_reducible apply keeps_ite | split | dsimp only

theorem keeps_adriftDeadlineOp {s0 : State} (s : State) (i : Nat) (hs : Keeps s0 s) : Keeps s0 (adriftDeadlineOp s i) := by
  unfold Machine.adriftDeadlineOp
  repeat' first
    | with_reducible assumption | with_reducible apply keeps_flushNode | with_reducible apply keeps_ite | split

theorem keeps_anchorReachedOp {s0 : State} (s : State) (hs : Keeps s0 s) : Keeps s0 (anchorReachedOp s) := by
  unfold Machine.anchorReachedOp
  repeat' first
    | with_reducible assumption | with_reducible apply keeps_modOrbit | with_reducible apply keeps_fileFrom
    | with_reducible apply keeps_ite | with_reducible refine keeps_foldl ?_ fun _ _ _ => ?_ | split

theorem keeps_parentMissedOp {s0 : State} (s : State) (b : Band) (hs : Keeps s0 s) : Keeps s0 (parentMissedOp s b) := by
  unfold Machine.parentMissedOp
  repeat' first
    | with_reducible assumption | with_reducible apply keeps_orbitCount | with_reducible apply keeps_modOrbit
    | with_reducible apply keeps_raiseEvent | with_reducible apply keeps_ite | split | dsimp only

theorem keeps_changedSchedule {s0 : State} (w : When) (s : State) (hs : Keeps s0 s) : Keeps s0 (changedSchedule w s) := by
  unfold Machine.changedSchedule
  repeat' first
    | with_reducible assumption | with_reducible apply keeps_bumpSchedule | with_reducible apply keeps_ite

theorem keeps_dropDownlinks {s0 : State} (s : State) (addr : W32) (hs : Keeps s0 s) : Keeps s0 (dropDownlinks s addr) := by
  unfold Machine.dropDownlinks
  repeat' first
    | with_reducible assumption | with_reducible apply keeps_returnFrame | with_reducible apply keeps_unqueue
    | with_reducible apply keeps_dropAckListens | with_reducible apply keeps_modOrbit
    | with_reducible refine keeps_foldl ?_ fun _ _ _ => ?_

theorem keeps_enterAdrift {s0 : State} (s : State) (i : Nat) (n : NodeEntry) (hs : Keeps s0 s) : Keeps s0 (enterAdrift s i n) := by
  unfold Machine.enterAdrift
  repeat' first
    | with_reducible assumption | with_reducible apply keeps_modNode | with_reducible apply keeps_dropDownlinks
    | with_reducible apply keeps_raiseEvent | with_reducible apply keeps_orbitCount

theorem keeps_contactMissOp {s0 : State} (s : State) (i : Nat) (hs : Keeps s0 s) : Keeps s0 (contactMissOp s i) := by
  unfold Machine.contactMissOp
  repeat' first
    | with_reducible assumption | with_reducible apply keeps_modPlan | with_reducible apply keeps_orbitCount
    | with_reducible apply keeps_modNode | with_reducible apply keeps_sendContact | with_reducible apply keeps_enterAdrift
    | with_reducible apply keeps_ite | split

theorem keeps_schedPassed {s0 : State} (s : State) (addr : W32) (hs : Keeps s0 s) : Keeps s0 (schedPassed s addr) := by
  unfold Machine.schedPassed
  repeat' first
    | with_reducible assumption | with_reducible apply keeps_modOrbit | with_reducible apply keeps_finishWhere
    | with_reducible apply keeps_flushFrame | with_reducible apply keeps_ite | with_reducible refine keeps_foldl ?_ fun _ _ _ => ?_
    | split

theorem keeps_frameInForce {s0 : State} (s : State) (n : Nat) (hs : Keeps s0 s) : Keeps s0 (frameInForce s n) := by
  unfold Machine.frameInForce
  repeat' first
    | with_reducible assumption | with_reducible apply keeps_modOrbit | with_reducible apply keeps_ite | split

theorem keeps_orbitStopped {s0 : State} (s : State) (hs : Keeps s0 s) : Keeps s0 (orbitStopped s) := by
  unfold Machine.orbitStopped
  repeat' first
    | with_reducible assumption | with_reducible apply keeps_modOrbit | with_reducible apply keeps_discardPlans
    | with_reducible apply keeps_modRadio

theorem keeps_setCells {s0 : State} (e : CmdEntry) (s : State) (hs : Keeps s0 s) : Keeps s0 (setCells e s) := by
  unfold Machine.setCells
  repeat' first
    | with_reducible assumption | with_reducible apply keeps_modOrbit

theorem keeps_setClass {s0 : State} (e : CmdEntry) (s : State) (hs : Keeps s0 s) : Keeps s0 (setClass e s) := by
  unfold Machine.setClass
  repeat' first
    | with_reducible assumption | with_reducible apply keeps_modOrbit

theorem keeps_setFrame {s0 : State} (w : When) (slotLen : Nat) (frameLen : Nat) (s : State) (hs : Keeps s0 s) : Keeps s0 (setFrame w
    slotLen frameLen s) := by
  unfold Machine.setFrame
  repeat' first
    | with_reducible assumption | with_reducible apply keeps_modOrbit | with_reducible apply keeps_ite | split

theorem keeps_setHop {s0 : State} (e : CmdEntry) (s : State) (hs : Keeps s0 s) : Keeps s0 (setHop e s) := by
  unfold Machine.setHop
  repeat' first
    | with_reducible assumption | with_reducible apply keeps_modOrbit

theorem keeps_armListen {s0 : State} (s : State) (l : Listen) (hs : Keeps s0 s) : Keeps s0 (armListen s l) := by
  unfold Machine.armListen
  repeat' first
    | with_reducible assumption | with_reducible apply keeps_rxCount | with_reducible apply keeps_setCtx | with_reducible apply keeps_ite
    | split

theorem keeps_bandBoundary {s0 : State} (s : State) (n : Nat) (b : Band) (hs : Keeps s0 s) : Keeps s0 (bandBoundary s n b) := by
  unfold Machine.bandBoundary
  repeat' first
    | with_reducible assumption | with_reducible apply keeps_modTx | with_reducible apply keeps_modRx
    | with_reducible apply keeps_bandDrains | with_reducible apply keeps_ite

theorem keeps_contactPassed {s0 : State} (s : State) (c : Contact) (hs : Keeps s0 s) : Keeps s0 (contactPassed s c) := by
  unfold Machine.contactPassed
  repeat' first
    | with_reducible assumption | with_reducible apply keeps_soundPassed | with_reducible apply keeps_schedPassed

theorem keeps_deferPassed {s0 : State} (s : State) (p : Plan) (hs : Keeps s0 s) : Keeps s0 (deferPassed s p) := by
  unfold Machine.deferPassed
  repeat' first
    | with_reducible assumption | with_reducible apply keeps_orbitCount | with_reducible apply keeps_modPlan
    | with_reducible refine keeps_foldl ?_ fun _ _ _ => ?_

theorem keeps_dropPlans {s0 : State} (s : State) (n : Nat) (hs : Keeps s0 s) : Keeps s0 (dropPlans s n) := by
  unfold Machine.dropPlans
  repeat' first
    | with_reducible assumption | with_reducible apply keeps_unplanLaunch | with_reducible apply keeps_contactPassed
    | with_reducible apply keeps_modOrbit | with_reducible refine keeps_foldl ?_ fun _ _ _ => ?_

theorem keeps_receiversBack {s0 : State} (s : State) (hs : Keeps s0 s) : Keeps s0 (receiversBack s) := by
  unfold Machine.receiversBack
  repeat' first
    | with_reducible assumption | with_reducible apply keeps_modRadio | with_reducible apply keeps_armReserved
    | with_reducible apply keeps_ite | with_reducible refine keeps_foldl ?_ fun _ _ _ => ?_

theorem keeps_frameBoundary {s0 : State} (s : State) (hs : Keeps s0 s) : Keeps s0 (frameBoundary s) := by
  unfold Machine.frameBoundary
  repeat' first
    | with_reducible assumption | with_reducible apply keeps_receiversBack | with_reducible apply keeps_modOrbit

theorem keeps_queuePlanned {s0 : State} (s : State) (l : Launch) (hs : Keeps s0 s) : Keeps s0 (queuePlanned s l) := by
  unfold Machine.queuePlanned
  repeat' first
    | with_reducible assumption | with_reducible apply keeps_enqueueLaunch | with_reducible apply keeps_unplanLaunch
    | with_reducible apply keeps_ite

theorem keeps_handPlan {s0 : State} (s : State) (p : Plan) (hs : Keeps s0 s) : Keeps s0 (handPlan s p) := by
  unfold Machine.handPlan
  repeat' first
    | with_reducible assumption | with_reducible apply keeps_modPlan | with_reducible apply keeps_deferPassed
    | with_reducible apply keeps_armListen | with_reducible apply keeps_modTx | with_reducible apply keeps_queuePlanned
    | with_reducible refine keeps_foldl ?_ fun _ _ _ => ?_

theorem keeps_mergePlanned {s0 : State} (s : State) (p : State) (hs : Keeps s0 s) (hp : Keeps s0 p) : Keeps s0 (mergePlanned s p) :=
  ⟨hs.1, fun k => ⟨(hs.2 k).1, (hp.2 k).2⟩⟩

theorem keeps_modeView {s0 : State} (s : State) (v : State) (n : Nat) (hs : Keeps s0 s) (hv : Keeps s0 v) : Keeps s0 (modeView s v n) := by
  unfold Machine.modeView
  repeat' first
    | with_reducible assumption | with_reducible apply keeps_modTx | with_reducible apply keeps_ite
    | with_reducible refine keeps_foldl ?_ fun _ _ _ => ?_

theorem keeps_overrunEvent {s0 : State} (s : State) (n : Nat) (hs : Keeps s0 s) : Keeps s0 (overrunEvent s n) := by
  unfold Machine.overrunEvent
  repeat' first
    | with_reducible assumption | with_reducible apply keeps_raiseEvent | with_reducible apply keeps_orbitCount
    | with_reducible apply keeps_ite | split

theorem keeps_planHandOffOp {s0 : State} (s : State) (hs : Keeps s0 s) : Keeps s0 (planHandOffOp s) := by
  unfold Machine.planHandOffOp
  repeat' first
    | with_reducible assumption | with_reducible apply keeps_handPlan | with_reducible apply keeps_ite | split

theorem keeps_radioHalts {s0 : State} (s : State) (hs : Keeps s0 s) : Keeps s0 (radioHalts s) := by
  unfold Machine.radioHalts
  repeat' first
    | with_reducible assumption | with_reducible apply keeps_cancelAll | with_reducible apply keeps_ctxIdle
    | with_reducible apply keeps_unplanLaunch | with_reducible apply keeps_modOrbit | with_reducible refine keeps_foldl ?_ fun _ _ _ => ?_
    | (with_reducible refine keeps_mk ?_ rfl rfl)

theorem keeps_slotBoundaryOp {s0 : State} (s : State) (hs : Keeps s0 s) : Keeps s0 (slotBoundaryOp s) := by
  unfold Machine.slotBoundaryOp
  repeat' first
    | with_reducible assumption | with_reducible apply keeps_frameInForce | with_reducible apply keeps_modOrbit
    | with_reducible apply keeps_slotTriggers | with_reducible apply keeps_frameBoundary | with_reducible apply keeps_modQueue
    | with_reducible apply keeps_rollAt | with_reducible apply keeps_bandBoundary | with_reducible apply keeps_radioHalts
    | with_reducible apply keeps_dropPlans | with_reducible apply keeps_ite | with_reducible refine keeps_foldl ?_ fun _ _ _ => ?_

theorem keeps_slotView {s0 : State} (s : State) (n : Nat) (hs : Keeps s0 s) : Keeps s0 (slotView s n) := by
  unfold Machine.slotView
  repeat' first
    | with_reducible assumption | with_reducible apply keeps_frameInForce | with_reducible apply keeps_modQueue
    | with_reducible apply keeps_modTx | with_reducible apply keeps_modOrbit | with_reducible refine keeps_foldl ?_ fun _ _ _ => ?_

theorem keeps_slotPreparationOp {s0 : State} (staged : Nat → State → State) (s : State) (hstaged : ∀ v0 v1, Keeps s0 v1 → Keeps s0
    (staged v0 v1)) (hs : Keeps s0 s) : Keeps s0 (slotPreparationOp staged s) := by
  unfold Machine.slotPreparationOp
  repeat' first
    | with_reducible assumption | with_reducible apply hstaged | with_reducible apply keeps_modeView | with_reducible apply keeps_slotView
    | with_reducible apply keeps_overrunEvent | with_reducible apply keeps_mergePlanned | with_reducible apply keeps_planSlot
    | with_reducible apply keeps_ite

end Sys2Proof.Laws
end

