-- ==== Sys2Proof/Laws/KeepsPath.lean ====
section
/-! SUPPORT. The queue and the canonical form of the addressed memories are kept by the frame path, queues, tests and register accesses. -/

namespace Sys2Proof.Laws

open Sys2Proof.Machine

theorem keeps_endCommands {s0 : State} (s : State) (p : CmdEntry → Bool) (status : Nat) (hs : Keeps s0 s) : Keeps s0 (endCommands s p
    status) := by
  unfold Machine.endCommands
  repeat' first
    | with_reducible assumption | with_reducible apply keeps_respond | with_reducible refine keeps_foldl ?_ fun _ _ _ => ?_ | dsimp only
    | (with_reducible refine keeps_mk ?_ rfl rfl)

theorem keeps_discardStage {s0 : State} (s : State) (st : Stage) (hs : Keeps s0 s) : Keeps s0 (discardStage s st) := by
  unfold Machine.discardStage
  repeat' first
    | with_reducible assumption | with_reducible apply keeps_endCommands | split | dsimp only
    | (with_reducible refine keeps_mk ?_ rfl rfl)

theorem keeps_modRing {s0 : State} (s : State) (v : View) (r : RingId) (f : RingRegs → RingRegs) (hs : Keeps s0 s) : Keeps s0 (modRing s
    v r f) := by
  unfold Machine.modRing
  repeat' first
    | with_reducible assumption | with_reducible apply keeps_modView | with_reducible apply keeps_modChan | with_reducible apply keeps_ite
    | split | dsimp only | (with_reducible refine keeps_mk ?_ rfl rfl)

theorem keeps_commandProdOp {s0 : State} (s : State) (v : View) (ch : Nat) (value : W32) (hs : Keeps s0 s) : Keeps s0 (commandProdOp s v
    ch value) := by
  unfold Machine.commandProdOp
  repeat' first
    | with_reducible assumption | with_reducible apply keeps_modRing | with_reducible apply keeps_ite

theorem keeps_emptyRing {s0 : State} (s : State) (v : View) (start : Bool) (x4 : RingId) (hs : Keeps s0 s) : Keeps s0 (emptyRing s v
    start x4) := by
  unfold Machine.emptyRing
  repeat' first
    | with_reducible assumption | with_reducible apply keeps_modView | with_reducible apply keeps_modChan | with_reducible apply keeps_ite
    | split | dsimp only | (with_reducible refine keeps_mk ?_ rfl rfl)

theorem keeps_startRing {s0 : State} (s : State) (v : View) (r : RingId) (ctrl : W32) (dma : Option Nat) (hs : Keeps s0 s) : Keeps s0
    (startRing s v r ctrl dma) := by
  unfold Machine.startRing
  repeat' first
    | with_reducible assumption | with_reducible apply keeps_modRing | with_reducible apply keeps_emptyRing
    | with_reducible apply keeps_modView | split

theorem keeps_dropCuts {s0 : State} (s : State) (p : Nat → Bool) (hs : Keeps s0 s) : Keeps s0 (dropCuts s p) := by
  unfold Machine.dropCuts
  repeat' first
    | with_reducible assumption | with_reducible apply keeps_modRadio

theorem keeps_discardStages {s0 : State} (s : State) (p : Stage → Bool) (hs : Keeps s0 s) : Keeps s0 (discardStages s p) := by
  unfold Machine.discardStages
  repeat' first
    | with_reducible assumption | with_reducible apply keeps_discardStage | with_reducible refine keeps_foldl ?_ fun _ _ _ => ?_

theorem keeps_mapEntries {s0 : State} (f : CmdEntry → CmdEntry) (s : State) (hs : Keeps s0 s) : Keeps s0 (mapEntries f s) := by
  unfold Machine.mapEntries
  repeat' first
    | with_reducible assumption | dsimp only | (with_reducible refine keeps_mk ?_ rfl rfl)

theorem keeps_loseSession {s0 : State} (s : State) (x : Session) (hs : Keeps s0 s) : Keeps s0 (loseSession s x) := by
  unfold Machine.loseSession
  repeat' first
    | with_reducible assumption | with_reducible apply keeps_mapEntries | with_reducible apply keeps_discardStages

theorem keeps_stopRing {s0 : State} (s : State) (v : View) (r : RingId) (ctrl : W32) (hs : Keeps s0 s) : Keeps s0 (stopRing s v r ctrl)
    := by
  unfold Machine.stopRing
  repeat' first
    | with_reducible assumption | with_reducible apply keeps_emptyRing | with_reducible apply keeps_modRing
    | with_reducible apply keeps_loseSession | with_reducible apply keeps_dropCuts | split

theorem keeps_ctrlWrite {s0 : State} (s : State) (v : View) (r : RingId) (value : W32) (dma : Option Nat) (hs : Keeps s0 s) : Keeps s0
    (ctrlWrite s v r value dma) := by
  unfold Machine.ctrlWrite
  repeat' first
    | with_reducible assumption | with_reducible apply keeps_startRing | with_reducible apply keeps_modRing
    | with_reducible apply keeps_stopRing | with_reducible apply keeps_ite | split

theorem keeps_eventConsOp {s0 : State} (s : State) (v : View) (value : W32) (hs : Keeps s0 s) : Keeps s0 (eventConsOp s v value) := by
  unfold Machine.eventConsOp
  repeat' first
    | with_reducible assumption | with_reducible apply keeps_modView | with_reducible apply keeps_ite

theorem keeps_evtAckOp {s0 : State} (s : State) (v : View) (hs : Keeps s0 s) : Keeps s0 (evtAckOp s v) := by
  unfold Machine.evtAckOp
  repeat' first
    | with_reducible assumption | with_reducible apply keeps_modView | with_reducible apply keeps_ite

theorem keeps_loseRingFrames {s0 : State} (s : State) (hs : Keeps s0 s) : Keeps s0 (loseRingFrames s) := by
  unfold Machine.loseRingFrames
  repeat' first
    | with_reducible assumption | with_reducible apply keeps_modRecord | with_reducible apply keeps_hostCount
    | with_reducible apply keeps_parkHeld | with_reducible apply keeps_freeRecord | with_reducible apply keeps_ite
    | with_reducible refine keeps_foldl ?_ fun _ _ _ => ?_

theorem keeps_loseViewSessions {s0 : State} (s : State) (v : View) (hs : Keeps s0 s) : Keeps s0 (loseViewSessions s v) := by
  unfold Machine.loseViewSessions
  repeat' first
    | with_reducible assumption | with_reducible apply keeps_loseSession | with_reducible refine keeps_foldl ?_ fun _ _ _ => ?_

theorem keeps_flrOp {s0 : State} (s : State) (v : View) (hs : Keeps s0 s) : Keeps s0 (flrOp s v) := by
  unfold Machine.flrOp
  repeat' first
    | with_reducible assumption | with_reducible apply keeps_loseViewSessions | with_reducible apply keeps_modView
    | with_reducible apply keeps_dropCuts | with_reducible apply keeps_loseRingFrames | with_reducible apply keeps_ite | dsimp only
    | (with_reducible refine keeps_mk ?_ rfl rfl)

theorem keeps_holdoffExpiryOp {s0 : State} (s : State) (v : View) (r : RingId) (hs : Keeps s0 s) : Keeps s0 (holdoffExpiryOp s v r) := by
  unfold Machine.holdoffExpiryOp
  repeat' first
    | with_reducible assumption | with_reducible apply keeps_modRing | with_reducible apply keeps_modView | with_reducible apply keeps_ite
    | split

theorem keeps_losePcie {s0 : State} (s : State) (hs : Keeps s0 s) : Keeps s0 (losePcie s) := by
  unfold Machine.losePcie
  repeat' first
    | with_reducible assumption | with_reducible apply keeps_loseViewSessions | with_reducible apply keeps_modView
    | with_reducible refine keeps_foldl ?_ fun _ _ _ => ?_

theorem keeps_plainWrite {s0 : State} (s : State) (v : View) (off : Nat) (value : W32) (hs : Keeps s0 s) : Keeps s0 (plainWrite s v off
    value) := by
  unfold Machine.plainWrite
  repeat' first
    | with_reducible assumption | with_reducible apply keeps_modView | with_reducible apply keeps_modRing | with_reducible apply keeps_ite
    | split

theorem keeps_writeReg {s0 : State} (s : State) (v : View) (off : Nat) (value : W32) (hs : Keeps s0 s) : Keeps s0 (writeReg s v off
    value) := by
  unfold Machine.writeReg
  repeat' first
    | with_reducible assumption | with_reducible apply keeps_ctrlWrite | with_reducible apply keeps_modRing
    | with_reducible apply keeps_modView | with_reducible apply keeps_modChan | with_reducible apply keeps_evtAckOp
    | with_reducible apply keeps_plainWrite | with_reducible apply keeps_ite | split

theorem keeps_registerWriteOp {s0 : State} (s : State) (v : View) (off : Nat) (value : W32) (hs : Keeps s0 s) : Keeps s0 (registerWriteOp
    s v off value) := by
  unfold Machine.registerWriteOp
  repeat' first
    | with_reducible assumption | with_reducible apply keeps_plainWrite | with_reducible apply keeps_ite

theorem keeps_ringEnableOp {s0 : State} (s : State) (v : View) (r : RingId) (ctrl : W32) (dma : Option Nat) (hs : Keeps s0 s) : Keeps s0
    (ringEnableOp s v r ctrl dma) := by
  unfold Machine.ringEnableOp
  repeat' first
    | with_reducible assumption | with_reducible apply keeps_ctrlWrite | with_reducible apply keeps_ite

theorem keeps_ringTeardownOp {s0 : State} (s : State) (v : View) (r : RingId) (ctrl : W32) (hs : Keeps s0 s) : Keeps s0 (ringTeardownOp s
    v r ctrl) := by
  unfold Machine.ringTeardownOp
  repeat' first
    | with_reducible assumption | with_reducible apply keeps_ctrlWrite | with_reducible apply keeps_ite

theorem keeps_rspConsOp {s0 : State} (s : State) (v : View) (ch : Nat) (value : W32) (hs : Keeps s0 s) : Keeps s0 (rspConsOp s v ch
    value) := by
  unfold Machine.rspConsOp
  repeat' first
    | with_reducible assumption | with_reducible apply keeps_modChan | with_reducible apply keeps_ite

theorem keeps_rxProdOp {s0 : State} (s : State) (ring : Nat) (value : W32) (bufs : List PostedBuf) (hs : Keeps s0 s) : Keeps s0 (rxProdOp
    s ring value bufs) := by
  unfold Machine.rxProdOp
  repeat' first
    | with_reducible assumption | with_reducible apply keeps_ite | dsimp only | (with_reducible refine keeps_mk ?_ rfl rfl)

theorem keeps_tsConsOp {s0 : State} (s : State) (value : W32) (hs : Keeps s0 s) : Keeps s0 (tsConsOp s value) := by
  unfold Machine.tsConsOp
  repeat' first
    | with_reducible assumption | with_reducible apply keeps_ite | dsimp only | (with_reducible refine keeps_mk ?_ rfl rfl)

theorem keeps_txProdOp {s0 : State} (s : State) (ring : Nat) (value : W32) (hs : Keeps s0 s) : Keeps s0 (txProdOp s ring value) := by
  unfold Machine.txProdOp
  repeat' first
    | with_reducible assumption | with_reducible apply keeps_modRing | with_reducible apply keeps_ite

theorem keeps_starveOne {s0 : State} (bank : Nat) (s : State) (n : Nat) (hs : Keeps s0 s) : Keeps s0 (starveOne bank s n) := by
  unfold Machine.starveOne
  repeat' first
    | with_reducible assumption | with_reducible apply keeps_modQueue | with_reducible apply keeps_raiseEvent
    | with_reducible apply keeps_queueCount | with_reducible apply keeps_ite

theorem keeps_arbitrationOp {s0 : State} (s : State) (bank : Nat) (req : W16) (hs : Keeps s0 s) : Keeps s0 (arbitrationOp s bank req) := by
  unfold Machine.arbitrationOp
  repeat' first
    | with_reducible assumption | with_reducible apply keeps_modQueue | with_reducible apply keeps_starveOne
    | with_reducible refine keeps_foldl ?_ fun _ _ _ => ?_ | split | dsimp only

theorem keeps_refuseEntry {s0 : State} (s : State) (ring : Nat) (idx : Nat) (era : Nat) (errDest : Bool) (errDesc : Bool) (hs : Keeps s0
    s) : Keeps s0 (refuseEntry s ring idx era errDest errDesc) := by
  unfold Machine.refuseEntry
  repeat' first
    | with_reducible assumption | with_reducible apply keeps_txComplete

theorem keeps_enterHost {s0 : State} (s : State) (f : Frame) (ring : Nat) (idx : Nat) (era : Nat) (enter : State → State) (hs : Keeps s0
    s) (henter : ∀ v0, Keeps s0 v0 → Keeps s0 (enter v0)) : Keeps s0 (enterHost s f ring idx era enter) := by
  unfold Machine.enterHost
  repeat' first
    | with_reducible assumption | with_reducible apply henter | with_reducible apply keeps_refuseEntry
    | with_reducible apply keeps_queueCount | with_reducible apply keeps_ite

theorem keeps_classifyEntry {s0 : State} (s : State) (ring : Nat) (idx : Nat) (era : Nat) (e : TxEntry) (payload : List Byte) (hs : Keeps
    s0 s) : Keeps s0 (classifyEntry s ring idx era e payload) := by
  unfold Machine.classifyEntry
  repeat' first
    | with_reducible assumption | with_reducible apply keeps_refuseEntry | with_reducible apply keeps_routeCount
    | with_reducible apply keeps_enterHost | with_reducible apply keeps_floodAdd | with_reducible apply keeps_passAddr
    | with_reducible apply keeps_touchHit | with_reducible apply keeps_relinkPending | with_reducible apply keeps_park
    | with_reducible apply keeps_ite | intro _ | split | dsimp only

theorem keeps_compactionOp {s0 : State} (s : State) (q : Nat) (hs : Keeps s0 s) : Keeps s0 (compactionOp s q) := by
  unfold Machine.compactionOp
  repeat' first
    | with_reducible assumption | with_reducible apply keeps_accessDoms | with_reducible apply keeps_queueCount
    | with_reducible apply keeps_modShape | with_reducible apply keeps_ite

theorem keeps_setCore {s0 : State} (s : State) (n : Nat) (c : CoreState) (hs : Keeps s0 s) : Keeps s0 (setCore s n c) := by
  unfold Machine.setCore
  repeat' first
    | with_reducible assumption | with_reducible apply keeps_modQueue

theorem keeps_takeWork {s0 s s' : State} {w : WorkRec} (e : takeWork s = some (w, s')) (h : Keeps s0 s) : Keeps s0 s' := by
  unfold takeWork at e
  split at e
  · cases e
  · dsimp only at e
    split at e
    · cases e
    · obtain ⟨rfl, rfl⟩ := Prod.mk.inj (Option.some.inj e)
      with_reducible apply keeps_ite
      · exact keeps_setFlow _ _ _ (keeps_modReady _ _ _ h)
      · exact keeps_modReady _ _ _ h

theorem keeps_fillCore {s0 : State} (s : State) (n : Nat) (hs : Keeps s0 s) : Keeps s0 (fillCore s n) := by
  unfold Machine.fillCore
  repeat' first
    | with_reducible assumption | with_reducible apply keeps_setCore
    | (with_reducible refine keeps_takeWork (by with_reducible assumption) ?_) | with_reducible apply keeps_ite | split

theorem keeps_enterWork {s0 : State} (s : State) (item : WorkItem) (hs : Keeps s0 s) : Keeps s0 (enterWork s item) := by
  unfold Machine.enterWork
  repeat' first
    | with_reducible assumption | with_reducible apply keeps_queueCount | with_reducible apply keeps_setFlow
    | with_reducible apply keeps_modReady | with_reducible apply keeps_ite

theorem keeps_loseItem {s0 : State} (s : State) (w : WorkRec) (hs : Keeps s0 s) : Keeps s0 (loseItem s w) := by
  unfold Machine.loseItem
  repeat' first
    | with_reducible assumption | with_reducible apply keeps_modClk | with_reducible apply keeps_respond
    | with_reducible apply keeps_modNodes | with_reducible apply keeps_repeatBlock | with_reducible apply keeps_modQueue
    | with_reducible apply keeps_modTest | with_reducible apply keeps_ite | split | dsimp only
    | (with_reducible refine keeps_mk ?_ rfl rfl)

theorem keeps_submitWork {s0 : State} (s : State) (item : WorkItem) (hs : Keeps s0 s) : Keeps s0 (submitWork s item) := by
  unfold Machine.submitWork
  repeat' first
    | with_reducible assumption | with_reducible apply keeps_modQueue | with_reducible apply keeps_loseItem
    | with_reducible apply keeps_queueCount | with_reducible apply keeps_enterWork | with_reducible apply keeps_ite

theorem keeps_resumeProducers {s0 : State} (s : State) (hs : Keeps s0 s) : Keeps s0 (resumeProducers s) := by
  unfold Machine.resumeProducers
  repeat' first
    | with_reducible assumption | with_reducible apply keeps_submitWork | with_reducible apply keeps_modQueue
    | with_reducible apply keeps_ite | with_reducible refine keeps_foldl ?_ fun _ _ _ => ?_

theorem keeps_dispatchWork {s0 : State} (s : State) (hs : Keeps s0 s) : Keeps s0 (dispatchWork s) := by
  unfold Machine.dispatchWork
  repeat' first
    | with_reducible assumption | with_reducible apply keeps_resumeProducers | with_reducible apply keeps_fillCore
    | with_reducible apply keeps_wakeCores | with_reducible apply keeps_ite | with_reducible refine keeps_foldl ?_ fun _ _ _ => ?_

theorem keeps_releaseFlow {s0 : State} (s : State) (i : Nat) (hs : Keeps s0 s) : Keeps s0 (releaseFlow s i) := by
  unfold Machine.releaseFlow
  repeat' first
    | with_reducible assumption | with_reducible apply keeps_setFlow | with_reducible apply keeps_modReady | split | dsimp only

theorem keeps_coreCompleteOp {s0 : State} (s : State) (n : Nat) (hs : Keeps s0 s) : Keeps s0 (coreCompleteOp s n) := by
  unfold Machine.coreCompleteOp
  repeat' first
    | with_reducible assumption | with_reducible apply keeps_setCore | with_reducible apply keeps_dispatchWork
    | with_reducible apply keeps_commitDeletes | with_reducible apply keeps_releaseFlow | with_reducible apply keeps_ite | split

theorem keeps_coreRestart {s0 : State} (s : State) (n : Nat) (hs : Keeps s0 s) : Keeps s0 (coreRestart s n) := by
  unfold Machine.coreRestart
  repeat' first
    | with_reducible assumption | with_reducible apply keeps_setCore | with_reducible apply keeps_modReady
    | with_reducible apply keeps_setFlow | with_reducible apply keeps_loseItem | with_reducible apply keeps_releaseFlow
    | with_reducible apply keeps_dispatchWork | with_reducible apply keeps_ite | split

theorem keeps_lifetimeOp {s0 : State} (s : State) (record : Nat) (hs : Keeps s0 s) : Keeps s0 (lifetimeOp s record) := by
  unfold Machine.lifetimeOp
  repeat' first
    | with_reducible assumption | with_reducible apply keeps_accessDoms | with_reducible apply keeps_modRecord
    | with_reducible apply keeps_queueCount | with_reducible apply keeps_completeFrame | with_reducible apply keeps_ite | split

theorem keeps_queueSampleOp {s0 : State} (s : State) (hs : Keeps s0 s) : Keeps s0 (queueSampleOp s) := by
  unfold Machine.queueSampleOp
  repeat' first
    | with_reducible assumption | with_reducible apply keeps_modQueue | with_reducible apply keeps_queueCount
    | with_reducible apply keeps_ite

theorem keeps_reportReset {s0 : State} (s : State) (fifo : Nat) (lost : Nat) (ptr : Nat) (hs : Keeps s0 s) : Keeps s0 (reportReset s fifo
    lost ptr) := by
  unfold Machine.reportReset
  repeat' first
    | with_reducible assumption | with_reducible apply keeps_queueCount | with_reducible apply keeps_raiseEvent

theorem keeps_resetFifo {s0 : State} (s : State) (f : FifoId) (ptr : Nat) (hs : Keeps s0 s) : Keeps s0 (resetFifo s f ptr) := by
  unfold Machine.resetFifo
  repeat' first
    | with_reducible assumption | with_reducible apply keeps_bulkFresh | with_reducible apply keeps_modShape
    | with_reducible apply keeps_reportReset | with_reducible apply keeps_flushFrame | with_reducible apply keeps_loseItem
    | with_reducible apply keeps_modReady | with_reducible apply keeps_releaseFlow | with_reducible apply keeps_dispatchWork
    | with_reducible apply keeps_setFlow | with_reducible apply keeps_ite | with_reducible refine keeps_foldl ?_ fun _ _ _ => ?_ | split

theorem keeps_refillTail {s0 : State} (s : State) (f : FifoId) (hs : Keeps s0 s) : Keeps s0 (refillTail s f) := by
  unfold Machine.refillTail
  repeat' first
    | with_reducible assumption | with_reducible apply keeps_resetFifo | with_reducible apply keeps_bulkLose
    | with_reducible apply keeps_trimHead | with_reducible apply keeps_modShape | with_reducible apply keeps_modReady
    | with_reducible apply keeps_setFlow | with_reducible apply keeps_ite | split

theorem keeps_spillTail {s0 : State} (s : State) (f : FifoId) (hs : Keeps s0 s) : Keeps s0 (spillTail s f) := by
  unfold Machine.spillTail
  repeat' first
    | with_reducible assumption | with_reducible apply keeps_resetFifo | with_reducible apply keeps_modShape
    | with_reducible apply keeps_modReady | with_reducible apply keeps_setFlow | split

theorem keeps_tailRefillOp {s0 : State} (s : State) (f : FifoId) (hs : Keeps s0 s) : Keeps s0 (tailRefillOp s f) := by
  unfold Machine.tailRefillOp
  repeat' first
    | with_reducible assumption | with_reducible apply keeps_worksOn | with_reducible apply keeps_resumeProducers
    | with_reducible apply keeps_refillTail | intro _

theorem keeps_tailSpillOp {s0 : State} (s : State) (f : FifoId) (hs : Keeps s0 s) : Keeps s0 (tailSpillOp s f) := by
  unfold Machine.tailSpillOp
  repeat' first
    | with_reducible assumption | with_reducible apply keeps_worksOn | with_reducible apply keeps_spillTail | intro _

theorem keeps_txFetchOp {s0 : State} (s : State) (ring : Nat) (e : TxEntry) (payload : List Byte) (hs : Keeps s0 s) : Keeps s0 (txFetchOp
    s ring e payload) := by
  unfold Machine.txFetchOp
  repeat' first
    | with_reducible assumption | with_reducible apply keeps_accessDoms | with_reducible apply keeps_classifyEntry
    | with_reducible apply keeps_ite | dsimp only | (with_reducible refine keeps_mk ?_ rfl rfl)

theorem keeps_workSubmitOp {s0 : State} (s : State) (item : WorkItem) (hs : Keeps s0 s) : Keeps s0 (workSubmitOp s item) := by
  unfold Machine.workSubmitOp
  repeat' first
    | with_reducible assumption | with_reducible apply keeps_dispatchWork | with_reducible apply keeps_submitWork
    | with_reducible apply keeps_ite

theorem keeps_foldl_snd {α β : Type} {s0 : State} {f : β × State → α → β × State} {l : List α} {p : β × State} (h : Keeps s0 p.2)
    (hf : ∀ t x, Keeps s0 t.2 → Keeps s0 (f t x).2) : Keeps s0 (l.foldl f p).2 := by
  induction l generalizing p with
  | nil => exact h
  | cons x l ih => exact ih (hf p x h)

theorem keeps_modRun {s0 : State} (s : State) (r : Nat) (f : TestRun → TestRun) (hs : Keeps s0 s) : Keeps s0 (modRun s r f) := by
  unfold Machine.modRun
  repeat' first
    | with_reducible assumption | with_reducible apply keeps_modTest

theorem keeps_accrueLanes {s0 : State} (s : State) (r : Nat) (hs : Keeps s0 s) : Keeps s0 (accrueLanes s r) := by
  unfold accrueLanes
  split
  · exact hs
  · with_reducible apply keeps_ite
    · exact hs
    · split
      rename_i e
      refine keeps_modRun _ _ _ (keeps_snd e (keeps_foldl_snd hs fun p l h => ?_))
      dsimp only
      split
      · exact h
      · exact keeps_drawBelow _ ((drawNat p.2).1 + 1) (keeps_drawNat _ h)

theorem keeps_checkLane {s0 : State} (s : State) (link : Nat) (lane : Nat) (p : LaneCheck → Bool) (f : LaneCheck → LaneCheck) (hs : Keeps
    s0 s) : Keeps s0 (checkLane s link lane p f) := by
  unfold Machine.checkLane
  repeat' first
    | with_reducible assumption | with_reducible apply keeps_modRun | with_reducible apply keeps_ite | split

theorem keeps_checkerLockedOp {s0 : State} (s : State) (link : Nat) (lane : Nat) (hs : Keeps s0 s) : Keeps s0 (checkerLockedOp s link
    lane) := by
  unfold Machine.checkerLockedOp
  repeat' first
    | with_reducible assumption | with_reducible apply keeps_checkLane

theorem keeps_checkerLossOp {s0 : State} (s : State) (link : Nat) (lane : Nat) (bits : Nat) (hs : Keeps s0 s) : Keeps s0 (checkerLossOp s
    link lane bits) := by
  unfold Machine.checkerLossOp
  repeat' first
    | with_reducible assumption | with_reducible apply keeps_drawBelow | with_reducible apply keeps_checkLane

theorem keeps_stopTest {s0 : State} (s : State) (r : Nat) (cause : Nat) (hs : Keeps s0 s) : Keeps s0 (stopTest s r cause) := by
  unfold Machine.stopTest
  repeat' first
    | with_reducible assumption | with_reducible apply keeps_modRun | with_reducible apply keeps_accrueLanes
    | with_reducible apply keeps_modTx | with_reducible apply keeps_setCtx | with_reducible apply keeps_ite
    | with_reducible refine keeps_foldl ?_ fun _ _ _ => ?_ | dsimp only | (with_reducible refine keeps_mk ?_ rfl rfl)

theorem keeps_stopGatedTests {s0 : State} (s : State) (hs : Keeps s0 s) : Keeps s0 (stopGatedTests s) := by
  unfold Machine.stopGatedTests
  repeat' first
    | with_reducible assumption | with_reducible apply keeps_stopTest | with_reducible apply keeps_ite
    | with_reducible refine keeps_foldl ?_ fun _ _ _ => ?_

theorem keeps_testCount {s0 : State} (s : State) (r : Nat) (i : Nat) (n : Nat) (hs : Keeps s0 s) : Keeps s0 (testCount s r i n) := by
  unfold Machine.testCount
  repeat' first
    | with_reducible assumption | with_reducible apply keeps_modRun

theorem keeps_paceOp {s0 : State} (s : State) (pace : Nat) (vcoreMv : Nat) (hs : Keeps s0 s) : Keeps s0 (paceOp s pace vcoreMv) := by
  unfold Machine.paceOp
  repeat' first
    | with_reducible assumption | with_reducible apply keeps_modTest | with_reducible apply keeps_raiseEvent
    | with_reducible apply keeps_ite

theorem keeps_testReceive {s0 : State} (s : State) (b : Band) (psdu : List Byte) (hs : Keeps s0 s) : Keeps s0 (testReceive s b psdu) := by
  unfold Machine.testReceive
  repeat' first
    | with_reducible assumption | with_reducible apply keeps_testCount | with_reducible apply keeps_modRun | split | dsimp only

theorem keeps_setRun {s0 : State} (s : State) (r : Nat) (t : TestRun) (hs : Keeps s0 s) : Keeps s0 (setRun s r t) := by
  unfold Machine.setRun
  repeat' first
    | with_reducible assumption | with_reducible apply keeps_modTest

theorem keeps_telemetryOp {s0 : State} (s : State) (r : Readings) (hs : Keeps s0 s) : Keeps s0 (telemetryOp s r) := by
  unfold Machine.telemetryOp
  repeat' first
    | with_reducible assumption | with_reducible apply keeps_modTest | with_reducible apply keeps_accessDoms
    | with_reducible apply keeps_ite

theorem keeps_testDurationOp {s0 : State} (s : State) (r : Nat) (hs : Keeps s0 s) : Keeps s0 (testDurationOp s r) := by
  unfold Machine.testDurationOp
  repeat' first
    | with_reducible assumption | with_reducible apply keeps_stopTest | with_reducible apply keeps_ite | split

theorem keeps_testFrameOp {s0 : State} (s : State) (b : Band) (hs : Keeps s0 s) : Keeps s0 (testFrameOp s b) := by
  unfold Machine.testFrameOp
  repeat' first
    | with_reducible assumption | with_reducible apply keeps_testCount | with_reducible apply keeps_modRun
    | with_reducible apply keeps_ite | split | dsimp only | (with_reducible refine keeps_mk ?_ rfl rfl)

theorem keeps_setLaunch {s0 : State} (s : State) (l : Launch) (hs : Keeps s0 s) : Keeps s0 (setLaunch s l) := by
  unfold Machine.setLaunch
  repeat' first
    | with_reducible assumption | with_reducible apply keeps_modTx

theorem keeps_fillAck {s0 : State} (s : State) (id : Nat) (kind : LaunchKind) (payload : List Byte) (hs : Keeps s0 s) : Keeps s0 (fillAck
    s id kind payload) := by
  unfold Machine.fillAck
  repeat' first
    | with_reducible assumption | with_reducible apply keeps_setLaunch | split

theorem keeps_tellFollow {s0 : State} (s : State) (a : W32) (hs : Keeps s0 s) : Keeps s0 (tellFollow s a) := by
  unfold Machine.tellFollow
  repeat' first
    | with_reducible assumption | with_reducible apply keeps_modOrbit

theorem keeps_ackUplink {s0 : State} (s : State) (u : Uplink) (id : Nat) (hs : Keeps s0 s) : Keeps s0 (ackUplink s u id) := by
  unfold Machine.ackUplink
  repeat' first
    | with_reducible assumption | with_reducible apply keeps_fillAck | with_reducible apply keeps_tellFollow
    | with_reducible apply keeps_ite

theorem keeps_sealLaunch {s0 : State} (s : State) (l : Launch) (hs : Keeps s0 s) : Keeps s0 (sealLaunch s l).1 := by
  unfold Machine.sealLaunch
  repeat' first
    | with_reducible assumption | with_reducible apply keeps_resolveKey | with_reducible apply keeps_takeCounter
    | with_reducible apply keeps_frameLane | (with_reducible refine keeps_fst (by with_reducible assumption) ?_) | split

theorem keeps_decideAck {s0 : State} (s : State) (id : Nat) (hs : Keeps s0 s) : Keeps s0 (decideAck s id) := by
  unfold Machine.decideAck
  repeat' first
    | with_reducible assumption | with_reducible apply keeps_sealLaunch | with_reducible apply keeps_setLaunch
    | (with_reducible refine keeps_fst (by with_reducible assumption) ?_) | split

theorem keeps_queueAck {s0 : State} (s : State) (kind : LaunchKind) (b : Band) (ch : Nat) (profile : Nat) (addr : W32) (t0 : Nat) (hs :
    Keeps s0 s) : Keeps s0 (queueAck s kind b ch profile addr t0).1 := by
  unfold Machine.queueAck
  repeat' first
    | with_reducible assumption | with_reducible apply keeps_calStarts | with_reducible apply keeps_txCount
    | with_reducible apply keeps_dwellDeny | with_reducible apply keeps_enqueueLaunch | with_reducible apply keeps_takeLaunchId
    | with_reducible apply keeps_ite_fst | split | dsimp only

theorem keeps_challengeUplink {s0 : State} (s : State) (u : Uplink) (id : Nat) (hs : Keeps s0 s) : Keeps s0 (challengeUplink s u id) := by
  unfold Machine.challengeUplink
  repeat' first
    | with_reducible assumption | with_reducible apply keeps_fillAck

theorem keeps_agcAttackOp {s0 : State} (s : State) (b : Band) (clip : Bool) (hs : Keeps s0 s) : Keeps s0 (agcAttackOp s b clip) := by
  unfold Machine.agcAttackOp
  repeat' first
    | with_reducible assumption | with_reducible apply keeps_rxCount | with_reducible apply keeps_modRx | with_reducible apply keeps_ite

theorem keeps_agcReleaseOp {s0 : State} (s : State) (b : Band) (hs : Keeps s0 s) : Keeps s0 (agcReleaseOp s b) := by
  unfold Machine.agcReleaseOp
  repeat' first
    | with_reducible assumption | with_reducible apply keeps_modRx | with_reducible apply keeps_ite

theorem keeps_diagEntry {s0 : State} (s : State) (i : Nat) (r : Reception) (status : Byte) (counter : Option Nat) (lqi : Option Nat)
    (data : List Byte) (hs : Keeps s0 s) : Keeps s0 (diagEntry s i r status counter lqi data) := by
  unfold Machine.diagEntry
  repeat' first
    | with_reducible assumption | with_reducible apply keeps_drawNat | with_reducible apply keeps_rxWrite | with_reducible apply keeps_ite

theorem keeps_capturePost {s0 : State} (s : State) (i : Nat) (r : Reception) (d : Detection) (p : AirProfile) (strong : Bool) (bytes :
    List Byte) (hs : Keeps s0 s) : Keeps s0 (capturePost s i r d p strong bytes) := by
  unfold Machine.capturePost
  repeat' first
    | with_reducible assumption | with_reducible apply keeps_rxCount | with_reducible apply keeps_setCtx
    | with_reducible apply keeps_diagEntry | with_reducible apply keeps_ite

theorem keeps_capturePre {s0 : State} (s : State) (i : Nat) (r : Reception) (d : Detection) (strong : Bool) (hs : Keeps s0 s) : Keeps s0
    (capturePre s i r d strong) := by
  unfold Machine.capturePre
  repeat' first
    | with_reducible assumption | with_reducible apply keeps_rxCount | with_reducible apply keeps_setCtx | with_reducible apply keeps_ite

theorem keeps_fcsFails {s0 : State} (s : State) (i : Nat) (r : Reception) (lqi : Option Nat) (bytes : List Byte) (hs : Keeps s0 s) :
    Keeps s0 (fcsFails s i r lqi bytes) := by
  unfold Machine.fcsFails
  repeat' first
    | with_reducible assumption | with_reducible apply keeps_poisonCut | with_reducible apply keeps_diagEntry
    | with_reducible apply keeps_rxCount

theorem keeps_carrierDropOp {s0 : State} (s : State) (i : Nat) (bytes : List Byte) (rssiQ : Int) (hs : Keeps s0 s) : Keeps s0
    (carrierDropOp s i bytes rssiQ) := by
  unfold Machine.carrierDropOp
  repeat' first
    | with_reducible assumption | with_reducible apply keeps_fcsFails | with_reducible apply keeps_rxCount
    | with_reducible apply keeps_setCtx | with_reducible apply keeps_ctxRest | with_reducible apply keeps_ite | split | dsimp only

theorem keeps_ctKey {s0 : State} (s : State) (h2 : MacHdr) (n : NodeEntry) (hs : Keeps s0 s) : Keeps s0 (ctKey s h2 n).1 := by
  unfold Machine.ctKey
  repeat' first
    | with_reducible assumption | with_reducible apply keeps_resolveKey | with_reducible apply keeps_ite_fst
    | (with_reducible refine keeps_fst (by with_reducible assumption) ?_) | split

theorem keeps_ctBegin {s0 : State} (s : State) (i : Nat) (c : Ctx) (r : Reception) (p : AirProfile) (head : List Byte) (hs : Keeps s0 s)
    : Keeps s0 (ctBegin s i c r p head) := by
  unfold Machine.ctBegin
  repeat' first
    | with_reducible assumption | with_reducible apply keeps_passAddr | with_reducible apply keeps_touchHit
    | with_reducible apply keeps_ctKey | with_reducible apply keeps_cryptCount | with_reducible apply keeps_setCtx
    | with_reducible apply keeps_ite | (with_reducible refine keeps_fst (by with_reducible assumption) ?_) | split | dsimp only
    | (with_reducible refine keeps_mk ?_ rfl rfl)

theorem keeps_ctPiece {s0 : State} (s : State) (i : Nat) (bytes : List Byte) (hs : Keeps s0 s) : Keeps s0 (ctPiece s i bytes) := by
  unfold Machine.ctPiece
  repeat' first
    | with_reducible assumption | with_reducible apply keeps_ctKey | with_reducible apply keeps_setCtx
    | with_reducible apply keeps_frameLane | with_reducible apply keeps_rxWrite | with_reducible apply keeps_ite
    | (with_reducible refine keeps_fst (by with_reducible assumption) ?_) | split | dsimp only

theorem keeps_ctPieces {s0 : State} (s : State) (i : Nat) (bytes : List Byte) (fin : Bool) (hs : Keeps s0 s) : Keeps s0 (ctPieces s i
    bytes fin) := by
  unfold Machine.ctPieces
  repeat' first
    | with_reducible assumption | with_reducible apply keeps_ctBegin | with_reducible apply keeps_setCtx
    | with_reducible apply keeps_ctPiece | with_reducible apply keeps_ite | with_reducible refine keeps_foldl ?_ fun _ _ _ => ?_ | split
    | dsimp only

theorem keeps_cutPieceOp {s0 : State} (s : State) (i : Nat) (bytes : List Byte) (hs : Keeps s0 s) : Keeps s0 (cutPieceOp s i bytes) := by
  unfold Machine.cutPieceOp
  repeat' first
    | with_reducible assumption | with_reducible apply keeps_setCtx | with_reducible apply keeps_ctPieces | with_reducible apply keeps_ite
    | split | dsimp only

theorem keeps_wakeEvent {s0 : State} (s : State) (x : Nat × Nat) (hs : Keeps s0 s) : Keeps s0 (wakeEvent s x) := by
  unfold Machine.wakeEvent
  repeat' first
    | with_reducible assumption | with_reducible apply keeps_raiseEvent

theorem keeps_flushWake {s0 : State} (s : State) (hs : Keeps s0 s) : Keeps s0 (flushWake s) := by
  unfold Machine.flushWake
  repeat' first
    | with_reducible assumption | with_reducible apply keeps_wakeEvent | with_reducible apply keeps_modRadio
    | with_reducible refine keeps_foldl ?_ fun _ _ _ => ?_

theorem keeps_headerFails {s0 : State} (s : State) (i : Nat) (r : Reception) (h4 : Nat) (hs : Keeps s0 s) : Keeps s0 (headerFails s i r
    h4) := by
  unfold Machine.headerFails
  repeat' first
    | with_reducible assumption | with_reducible apply keeps_diagEntry | with_reducible apply keeps_rxCount
    | with_reducible apply keeps_testCount | with_reducible apply keeps_setCtx | with_reducible apply keeps_ctxRest
    | with_reducible apply keeps_ite | split

theorem keeps_headerDecideOp {s0 : State} (s : State) (i : Nat) (hdr : BitVec 26) (soft : List Int) (hs : Keeps s0 s) : Keeps s0
    (headerDecideOp s i hdr soft) := by
  unfold Machine.headerDecideOp
  repeat' first
    | with_reducible assumption | with_reducible apply keeps_drawNat | with_reducible apply keeps_headerFails
    | with_reducible apply keeps_airCount | with_reducible apply keeps_rxCount | with_reducible apply keeps_setCtx
    | with_reducible apply keeps_ite | split | dsimp only

theorem keeps_listenEndOp {s0 : State} (s : State) (i : Nat) (hs : Keeps s0 s) : Keeps s0 (listenEndOp s i) := by
  unfold Machine.listenEndOp
  repeat' first
    | with_reducible assumption | with_reducible apply keeps_ctxIdle | with_reducible apply keeps_ite

theorem keeps_lockCtx {s0 : State} (s : State) (i : Nat) (d : Detection) (hs : Keeps s0 s) : Keeps s0 (lockCtx s i d) := by
  unfold Machine.lockCtx
  repeat' first
    | with_reducible assumption | with_reducible apply keeps_rxCount | with_reducible apply keeps_setCtx | with_reducible apply keeps_ite

theorem keeps_ofdmDetectOp {s0 : State} (s : State) (i : Nat) (autocorr : Nat) (rssiQ : Int) (hs : Keeps s0 s) : Keeps s0 (ofdmDetectOp s
    i autocorr rssiQ) := by
  unfold Machine.ofdmDetectOp
  repeat' first
    | with_reducible assumption | with_reducible apply keeps_lockCtx | with_reducible apply keeps_ite | split | dsimp only

theorem keeps_secondaryDetectOp {s0 : State} (s : State) (i : Nat) (rssiQ : Int) (bytes : List Byte) (hs : Keeps s0 s) : Keeps s0
    (secondaryDetectOp s i rssiQ bytes) := by
  unfold Machine.secondaryDetectOp
  repeat' first
    | with_reducible assumption | with_reducible apply keeps_rxCount | with_reducible apply keeps_capturePre
    | with_reducible apply keeps_poisonCut | with_reducible apply keeps_capturePost | with_reducible apply keeps_ite | split | dsimp only

theorem keeps_syncDetectOp {s0 : State} (s : State) (i : Nat) (bitErrors : Nat) (preambleBits : Nat) (rssiQ : Int) (hs : Keeps s0 s) :
    Keeps s0 (syncDetectOp s i bitErrors preambleBits rssiQ) := by
  unfold Machine.syncDetectOp
  repeat' first
    | with_reducible assumption | with_reducible apply keeps_lockCtx | with_reducible apply keeps_ite | split | dsimp only

theorem keeps_wakeMatchOp {s0 : State} (s : State) (window : W32) (hs : Keeps s0 s) : Keeps s0 (wakeMatchOp s window) := by
  unfold Machine.wakeMatchOp
  repeat' first
    | with_reducible assumption | with_reducible apply keeps_drawBelow | with_reducible apply keeps_rxCount
    | with_reducible apply keeps_modRadio | with_reducible apply keeps_wakeEvent | with_reducible apply keeps_wakeMask
    | with_reducible apply keeps_ite

theorem keeps_forwardUplink {s0 : State} (s : State) (u : Uplink) (dup : Bool) (hs : Keeps s0 s) : Keeps s0 (forwardUplink s u dup) := by
  unfold Machine.forwardUplink
  repeat' first
    | with_reducible assumption | with_reducible apply keeps_ite | dsimp only | (with_reducible refine keeps_mk ?_ rfl rfl)

theorem keeps_releaseUplink {s0 : State} (s : State) (u : Uplink) (hs : Keeps s0 s) : Keeps s0 (releaseUplink s u) := by
  unfold Machine.releaseUplink
  repeat' first
    | with_reducible assumption | with_reducible apply keeps_forwardUplink | with_reducible apply keeps_decideAck | split

theorem keeps_commitUplink {s0 : State} (s : State) (u : Uplink) (hs : Keeps s0 s) : Keeps s0 (commitUplink s u) := by
  unfold Machine.commitUplink
  repeat' first
    | with_reducible assumption | with_reducible apply keeps_linkHold | with_reducible apply keeps_pairCount
    | with_reducible apply keeps_linkSend | with_reducible apply keeps_releaseUplink | with_reducible apply keeps_deltaAdd
    | with_reducible apply keeps_ite

theorem keeps_nodeClock {s0 : State} (s : State) (x : Heard) (i : Nat) (n : NodeEntry) (e : Option Int) (acked : Bool) (dup : Bool) (hs :
    Keeps s0 s) : Keeps s0 (nodeClock s x i n e acked dup) := by
  unfold Machine.nodeClock
  repeat' first
    | with_reducible assumption | with_reducible apply keeps_adriftReturn | with_reducible apply keeps_clockMeasure
    | with_reducible apply keeps_sendContact | with_reducible apply keeps_ite | split

theorem keeps_takeGeneration {s0 : State} (s : State) (i : Nat) (g : Byte) (c : GenCase) (hs : Keeps s0 s) : Keeps s0 (takeGeneration s i
    g c) := by
  unfold Machine.takeGeneration
  repeat' first
    | with_reducible assumption | with_reducible apply keeps_cryptCount | with_reducible apply keeps_modNode | split

theorem keeps_acceptUplink {s0 : State} (s : State) (x : Heard) (i : Nat) (n : NodeEntry) (payload : List Byte) (c : GenCase) (ackNow :
    Bool) (hs : Keeps s0 s) : Keeps s0 (acceptUplink s x i n payload c ackNow) := by
  unfold Machine.acceptUplink
  repeat' first
    | with_reducible assumption | with_reducible apply keeps_takeGeneration | with_reducible apply keeps_modNode
    | with_reducible apply keeps_orbitCount | with_reducible apply keeps_ackUplink | with_reducible apply keeps_noteBlink
    | with_reducible apply keeps_nodeClock | with_reducible apply keeps_setCtx | with_reducible apply keeps_commitUplink
    | with_reducible apply keeps_ite | split

theorem keeps_ackBegin {s0 : State} (s : State) (x : Heard) (hs : Keeps s0 s) : Keeps s0 (ackBegin s x).1 := by
  unfold Machine.ackBegin
  repeat' first
    | with_reducible assumption | with_reducible apply keeps_queueAck | with_reducible apply keeps_ite_fst

theorem keeps_awaitEnds {s0 : State} (s : State) (l : Launch) (hs : Keeps s0 s) : Keeps s0 (awaitEnds s l) := by
  unfold Machine.awaitEnds
  repeat' first
    | with_reducible assumption | with_reducible apply keeps_modTx | with_reducible apply keeps_dropAckListens

theorem keeps_takeThread {s0 s s' : State} {t : Nat} {u : Uplink} (e : takeThread s t = some (u, s')) (h : Keeps s0 s) : Keeps s0 s' := by
  unfold takeThread at e
  rw [Option.map_eq_some_iff] at e
  obtain ⟨v, -, e⟩ := e
  cases e
  exact keeps_mk h rfl rfl

theorem keeps_ackOp {s0 : State} (s : State) (hs : Keeps s0 s) : Keeps s0 (ackOp s) := by
  unfold Machine.ackOp
  repeat' first
    | with_reducible assumption | (with_reducible refine keeps_takeThread (by with_reducible assumption) ?_)
    | with_reducible apply keeps_orbitCount | with_reducible apply keeps_awaitEnds | with_reducible apply keeps_adriftReturn
    | with_reducible apply keeps_clockMeasure | with_reducible apply keeps_sendContact | with_reducible apply keeps_completeFrame
    | with_reducible apply keeps_campaignAcked | with_reducible apply keeps_schedAcked | with_reducible apply keeps_mapAcked
    | with_reducible apply keeps_ite | split | dsimp only

theorem keeps_ackWindowEndOp {s0 : State} (s : State) (id : Nat) (hs : Keeps s0 s) : Keeps s0 (ackWindowEndOp s id) := by
  unfold Machine.ackWindowEndOp
  repeat' first
    | with_reducible assumption | with_reducible apply keeps_awaitEnds | with_reducible apply keeps_completeFrame
    | with_reducible apply keeps_returnFrame | with_reducible apply keeps_ite | split | dsimp only

theorem keeps_beaconMeasure {s0 : State} (s : State) (u : Uplink) (cand : Nat) (off : Int) (hs : Keeps s0 s) : Keeps s0 (beaconMeasure s
    u cand off) := by
  unfold Machine.beaconMeasure
  repeat' first
    | with_reducible assumption | with_reducible apply keeps_measure

theorem keeps_followBeacon {s0 : State} (s : State) (u : Uplink) (cand : Nat) (asn : Nat) (depth : Nat) (off : Int) (hs : Keeps s0 s) :
    Keeps s0 (followBeacon s u cand asn depth off) := by
  unfold Machine.followBeacon
  repeat' first
    | with_reducible assumption | with_reducible apply keeps_parentMissedOp | with_reducible apply keeps_orbitCount
    | with_reducible apply keeps_modOrbit | with_reducible apply keeps_beaconMeasure | with_reducible apply keeps_ite

theorem keeps_reAnchor {s0 : State} (s : State) (cand : Nat) (asn : Nat) (depth : Nat) (t0 : Int) (hs : Keeps s0 s) : Keeps s0 (reAnchor
    s cand asn depth t0) := by
  unfold Machine.reAnchor
  repeat' first
    | with_reducible assumption | with_reducible apply keeps_unplanLaunch | with_reducible apply keeps_modOrbit
    | with_reducible apply keeps_refileAll | with_reducible apply keeps_orbitCount | with_reducible refine keeps_foldl ?_ fun _ _ _ => ?_

theorem keeps_beaconOp {s0 : State} (s : State) (hs : Keeps s0 s) : Keeps s0 (beaconOp s) := by
  unfold Machine.beaconOp
  repeat' first
    | with_reducible assumption | (with_reducible refine keeps_takeThread (by with_reducible assumption) ?_)
    | with_reducible apply keeps_reAnchor | with_reducible apply keeps_followBeacon | split | dsimp only

theorem keeps_contactMet {s0 : State} (s : State) (a : W32) (stamp : Nat) (hs : Keeps s0 s) : Keeps s0 (contactMet s a stamp) := by
  unfold Machine.contactMet
  repeat' first
    | with_reducible assumption | with_reducible apply keeps_modOrbit

theorem keeps_settleOffer {s0 : State} (s : State) (i : Nat) (addr : W32) (stamp : Nat) (hs : Keeps s0 s) : Keeps s0 (settleOffer s i
    addr stamp) := by
  unfold Machine.settleOffer
  repeat' first
    | with_reducible assumption | with_reducible apply keeps_applySched | with_reducible apply keeps_ite | split | dsimp only
    | (with_reducible refine keeps_mk ?_ rfl rfl)

theorem keeps_nodeHeard {s0 : State} (s : State) (x : Heard) (i : Nat) (n : NodeEntry) (hs : Keeps s0 s) : Keeps s0 (nodeHeard s x i n)
    := by
  unfold Machine.nodeHeard
  repeat' first
    | with_reducible assumption | with_reducible apply keeps_settleOffer | with_reducible apply keeps_contactMet
    | with_reducible apply keeps_mapUsed | with_reducible apply keeps_modNode

theorem keeps_challengedUplink {s0 : State} (s : State) (x : Heard) (i : Nat) (n : NodeEntry) (payload : List Byte) (c : GenCase) (hs :
    Keeps s0 s) : Keeps s0 (challengedUplink s x i n payload c) := by
  unfold Machine.challengedUplink
  repeat' first
    | with_reducible assumption | with_reducible apply keeps_ackBegin | with_reducible apply keeps_nodeHeard
    | with_reducible apply keeps_cryptCount | with_reducible apply keeps_modNode | with_reducible apply keeps_acceptUplink
    | with_reducible apply keeps_takeGeneration | with_reducible apply keeps_decideAck | with_reducible apply keeps_challengeUplink
    | with_reducible apply keeps_nodeClock | with_reducible apply keeps_ite | with_reducible apply keeps_ite_fst | split

theorem keeps_cutFails {s0 : State} (s : State) (x : Heard) (hs : Keeps s0 s) : Keeps s0 (cutFails s x) := by
  unfold Machine.cutFails
  repeat' first
    | with_reducible assumption | with_reducible apply keeps_endCut

theorem keeps_reportNode {s0 : State} (s : State) (x : Heard) (i : Nat) (n : NodeEntry) (status : Byte) (payload : List Byte) (hs : Keeps
    s0 s) : Keeps s0 (reportNode s x i n status payload) := by
  unfold Machine.reportNode
  repeat' first
    | with_reducible assumption | with_reducible apply keeps_hostDeliver | with_reducible apply keeps_ite

theorem keeps_duplicateUplink {s0 : State} (s : State) (x : Heard) (i : Nat) (n : NodeEntry) (payload : List Byte) (ackNow : Bool) (hs :
    Keeps s0 s) : Keeps s0 (duplicateUplink s x i n payload ackNow) := by
  unfold Machine.duplicateUplink
  repeat' first
    | with_reducible assumption | with_reducible apply keeps_reportNode | with_reducible apply keeps_orbitCount
    | with_reducible apply keeps_forwardUplink | with_reducible apply keeps_decideAck | with_reducible apply keeps_ackUplink
    | with_reducible apply keeps_cutFails | with_reducible apply keeps_nodeClock | with_reducible apply keeps_ite | split

theorem keeps_markSounder {s0 : State} (s : State) (x : Heard) (payload : List Byte) (hs : Keeps s0 s) : Keeps s0 (markSounder s x
    payload) := by
  unfold Machine.markSounder
  repeat' first
    | with_reducible assumption | with_reducible apply keeps_setCtx | with_reducible apply keeps_ite

theorem keeps_classifyUplink {s0 : State} (s : State) (x : Heard) (i : Nat) (n : NodeEntry) (payload : List Byte) (c : GenCase) (hs :
    Keeps s0 s) : Keeps s0 (classifyUplink s x i n payload c) := by
  unfold Machine.classifyUplink
  repeat' first
    | with_reducible assumption | with_reducible apply keeps_cutFails | with_reducible apply keeps_reportNode
    | with_reducible apply keeps_orbitCount | with_reducible apply keeps_markSounder | with_reducible apply keeps_nodeHeard
    | with_reducible apply keeps_duplicateUplink | with_reducible apply keeps_acceptUplink | with_reducible apply keeps_ite

theorem keeps_takeToneMap {s0 : State} (s : State) (u : Uplink) (id : Nat) (m : Nat) (hs : Keeps s0 s) : Keeps s0 (takeToneMap s u id m)
    := by
  unfold Machine.takeToneMap
  repeat' first
    | with_reducible assumption | with_reducible apply keeps_useTxMap | with_reducible apply keeps_modTones
    | with_reducible apply keeps_ite

theorem keeps_controlOp {s0 : State} (s : State) (hs : Keeps s0 s) : Keeps s0 (controlOp s) := by
  unfold Machine.controlOp
  repeat' first
    | with_reducible assumption | (with_reducible refine keeps_takeThread (by with_reducible assumption) ?_)
    | with_reducible apply keeps_takeToneMap | with_reducible apply keeps_parkFirmware | with_reducible apply keeps_airCount
    | with_reducible apply keeps_ite | split | dsimp only

theorem keeps_ctxDone {s0 : State} (s : State) (x : Heard) (hs : Keeps s0 s) : Keeps s0 (ctxDone s x) := by
  unfold Machine.ctxDone
  repeat' first
    | with_reducible assumption | with_reducible apply keeps_cutFails | with_reducible apply keeps_setCtx
    | with_reducible apply keeps_ctxRest | split | dsimp only

theorem keeps_reportHidden {s0 : State} (s : State) (x : Heard) (i : Nat) (n : NodeEntry) (status : Byte) (hs : Keeps s0 s) : Keeps s0
    (reportHidden s x i n status) := by
  unfold Machine.reportHidden
  repeat' first
    | with_reducible assumption | with_reducible apply keeps_reportNode

theorem keeps_tagFails {s0 : State} (s : State) (x : Heard) (node : Option (Nat × NodeEntry)) (hs : Keeps s0 s) : Keeps s0 (tagFails s x
    node) := by
  unfold Machine.tagFails
  repeat' first
    | with_reducible assumption | with_reducible apply keeps_cryptCount | with_reducible apply keeps_cutFails
    | with_reducible apply keeps_reportHidden | split

theorem keeps_verifyNode {s0 : State} (s : State) (x : Heard) (i : Nat) (n : NodeEntry) (join : Bool) (go : State → List Byte → GenCase →
    State) (hs : Keeps s0 s) (hgo : ∀ v0 v1 v2, Keeps s0 v0 → Keeps s0 (go v0 v1 v2)) : Keeps s0 (verifyNode s x i n join go) := by
  unfold Machine.verifyNode
  repeat' first
    | with_reducible assumption | with_reducible apply hgo | with_reducible apply keeps_cutFails | with_reducible apply keeps_reportHidden
    | with_reducible apply keeps_keyCount | with_reducible apply keeps_resolveKey | with_reducible apply keeps_cryptCount
    | with_reducible apply keeps_frameLane | with_reducible apply keeps_tagFails | with_reducible apply keeps_ite
    | (with_reducible refine keeps_fst (by with_reducible assumption) ?_) | split | dsimp only

theorem keeps_walkJoin {s0 : State} (s : State) (x : Heard) (shadow : List Byte) (hs : Keeps s0 s) : Keeps s0 (walkJoin s x shadow) := by
  unfold Machine.walkJoin
  repeat' first
    | with_reducible assumption | with_reducible apply keeps_passEui | with_reducible apply keeps_touchHit
    | with_reducible apply keeps_repairEntry | with_reducible apply keeps_nodeCount | with_reducible apply keeps_verifyNode
    | with_reducible apply keeps_cryptCount | with_reducible apply keeps_nodeHeard | with_reducible apply keeps_classifyUplink
    | with_reducible apply keeps_keyCount | with_reducible apply keeps_resolveKey | with_reducible apply keeps_forwardUplink
    | with_reducible apply keeps_frameLane | with_reducible apply keeps_tagFails | with_reducible apply keeps_ite
    | (with_reducible refine keeps_fst (by with_reducible assumption) ?_) | intro _ | split | dsimp only

theorem keeps_walkNode {s0 : State} (s : State) (x : Heard) (shadow : List Byte) (hs : Keeps s0 s) : Keeps s0 (walkNode s x shadow) := by
  unfold Machine.walkNode
  repeat' first
    | with_reducible assumption | with_reducible apply keeps_passAddr | with_reducible apply keeps_nodeCount
    | with_reducible apply keeps_touchHit | with_reducible apply keeps_repairEntry | with_reducible apply keeps_verifyNode
    | with_reducible apply keeps_challengedUplink | with_reducible apply keeps_classifyUplink | with_reducible apply keeps_ite | intro _
    | split | dsimp only

theorem keeps_walkFrame {s0 : State} (s : State) (x : Heard) (shadow : List Byte) (hs : Keeps s0 s) : Keeps s0 (walkFrame s x shadow) := by
  unfold Machine.walkFrame
  repeat' first
    | with_reducible assumption | with_reducible apply keeps_cutFails | with_reducible apply keeps_airCount
    | with_reducible apply keeps_walkJoin | with_reducible apply keeps_ackBegin | with_reducible apply keeps_walkNode
    | with_reducible apply keeps_ite | with_reducible apply keeps_ite_fst | split

theorem keeps_walkPsdu {s0 : State} (s : State) (i : Nat) (c : Ctx) (r : Reception) (p : AirProfile) (bytes : List Byte) (snrQ : Int)
    (shadow : List Byte) (hs : Keeps s0 s) : Keeps s0 (walkPsdu s i c r p bytes snrQ shadow) := by
  unfold Machine.walkPsdu
  repeat' first
    | with_reducible assumption | with_reducible apply keeps_ctPieces | with_reducible apply keeps_ctxDone
    | with_reducible apply keeps_walkFrame | with_reducible apply keeps_ite

theorem keeps_resumeWalks {s0 : State} (s : State) (hs : Keeps s0 s) : Keeps s0 (resumeWalks s) := by
  unfold Machine.resumeWalks
  repeat' first
    | with_reducible assumption | with_reducible apply keeps_walkPsdu | with_reducible apply keeps_setCtx
    | with_reducible refine keeps_foldl ?_ fun _ _ _ => ?_ | split | dsimp only

theorem keeps_entropyDoneOp {s0 : State} (s : State) (hs : Keeps s0 s) : Keeps s0 (entropyDoneOp s) := by
  unfold Machine.entropyDoneOp
  repeat' first
    | with_reducible assumption | with_reducible apply keeps_resumeWalks | with_reducible apply keeps_entropyRestartOp

theorem keeps_queueJoinRsp {s0 : State} (s : State) (u : Uplink) (eui : W64) (addr : W32) (band : Nat) (period : Nat) (offset : Nat)
    (result : Byte) (keyGen : Byte) (hs : Keeps s0 s) : Keeps s0 (queueJoinRsp s u eui addr band period offset result keyGen) := by
  unfold Machine.queueJoinRsp
  repeat' first
    | with_reducible assumption | with_reducible apply keeps_routeCount | with_reducible apply keeps_parkFirmware
    | with_reducible apply keeps_modOrbit | with_reducible apply keeps_ite

theorem keeps_learnNode {s0 : State} (s : State) (u : Uplink) (c : TagClass) (hs : Keeps s0 s) : Keeps s0 (learnNode s u c) := by
  unfold Machine.learnNode
  repeat' first
    | with_reducible assumption | with_reducible apply keeps_queueJoinRsp | with_reducible apply keeps_insertFailed
    | with_reducible apply keeps_returnToken | with_reducible apply keeps_drawBelow | with_reducible apply keeps_insertEntry
    | with_reducible apply keeps_holdJoin | with_reducible apply keeps_journalAdd | with_reducible apply keeps_nodeCount
    | (with_reducible refine keeps_fst (by with_reducible assumption) ?_)
    | (with_reducible refine keeps_snd (by with_reducible assumption) ?_) | split | dsimp only

theorem keeps_rejoin {s0 : State} (s : State) (u : Uplink) (i : Nat) (n : NodeEntry) (hs : Keeps s0 s) : Keeps s0 (rejoin s u i n) := by
  unfold Machine.rejoin
  repeat' first
    | with_reducible assumption | with_reducible apply keeps_holdJoin | with_reducible apply keeps_journalAdd
    | with_reducible apply keeps_modNode | with_reducible apply keeps_queueJoinRsp | with_reducible apply keeps_ite

theorem keeps_joinReqOp {s0 : State} (s : State) (hs : Keeps s0 s) : Keeps s0 (joinReqOp s) := by
  unfold Machine.joinReqOp
  repeat' first
    | with_reducible assumption | (with_reducible refine keeps_takeThread (by with_reducible assumption) ?_)
    | with_reducible apply keeps_nodeCount | with_reducible apply keeps_rejoin | with_reducible apply keeps_touchHit
    | with_reducible apply keeps_chargePort | with_reducible apply keeps_learnNode | with_reducible apply keeps_learnRefused
    | with_reducible apply keeps_hostDeliver | with_reducible apply keeps_ite
    | (with_reducible refine keeps_fst (by with_reducible assumption) ?_) | split

theorem keeps_rxPsduEndOp {s0 : State} (s : State) (i : Nat) (psdu : List Byte) (snrQ : Int) (shadow : List Byte) (hs : Keeps s0 s) :
    Keeps s0 (rxPsduEndOp s i psdu snrQ shadow) := by
  unfold Machine.rxPsduEndOp
  repeat' first
    | with_reducible assumption | with_reducible apply keeps_rxCount | with_reducible apply keeps_setCtx
    | with_reducible apply keeps_testReceive | with_reducible apply keeps_ctxRest | with_reducible apply keeps_poisonCut
    | with_reducible apply keeps_ctPieces | with_reducible apply keeps_fcsFails | with_reducible apply keeps_cryptCount
    | with_reducible apply keeps_walkPsdu | with_reducible apply keeps_ite | split | dsimp only

theorem keeps_soundingEndOp {s0 : State} (s : State) (i : Nat) (snrDb : List Int) (hs : Keeps s0 s) : Keeps s0 (soundingEndOp s i snrDb)
    := by
  unfold Machine.soundingEndOp
  repeat' first
    | with_reducible assumption | with_reducible apply keeps_modTones | with_reducible apply keeps_ctxRest
    | with_reducible apply keeps_offerMap | with_reducible apply keeps_ite | split | dsimp only

theorem keeps_uplinkDeliverOp {s0 : State} (s : State) (hs : Keeps s0 s) : Keeps s0 (uplinkDeliverOp s) := by
  unfold Machine.uplinkDeliverOp
  repeat' first
    | with_reducible assumption | with_reducible apply keeps_rxWrite | with_reducible apply keeps_routeData
    | with_reducible apply keeps_hostDeliver | with_reducible apply keeps_ite | split | dsimp only
    | (with_reducible refine keeps_mk ?_ rfl rfl)

theorem keeps_ackUnsent {s0 : State} (s : State) (l : Launch) (hs : Keeps s0 s) : Keeps s0 (ackUnsent s l) := by
  unfold Machine.ackUnsent
  repeat' first
    | with_reducible assumption | with_reducible apply keeps_sendContact | with_reducible apply keeps_modNode
    | with_reducible apply keeps_ite | split

theorem keeps_modCarrier {s0 : State} (s : State) (b : Band) (id : Nat) (f : Launch → Launch) (hs : Keeps s0 s) : Keeps s0 (modCarrier s
    b id f) := by
  unfold Machine.modCarrier
  repeat' first
    | with_reducible assumption | with_reducible apply keeps_modTx

theorem keeps_abandonAck {s0 : State} (s : State) (b : Band) (l : Launch) (c : Nat) (hs : Keeps s0 s) : Keeps s0 (abandonAck s b l c) := by
  unfold Machine.abandonAck
  repeat' first
    | with_reducible assumption | with_reducible apply keeps_ackUnsent | with_reducible apply keeps_modCarrier
    | with_reducible apply keeps_txCount

theorem keeps_goOnAir {s0 : State} (s : State) (b : Band) (l : Launch) (hs : Keeps s0 s) : Keeps s0 (goOnAir s b l) := by
  unfold Machine.goOnAir
  repeat' first
    | with_reducible assumption | with_reducible apply keeps_modCarrier | with_reducible apply keeps_txCount | dsimp only
    | (with_reducible refine keeps_mk ?_ rfl rfl)

theorem keeps_commitAck {s0 : State} (s : State) (b : Band) (l : Launch) (hs : Keeps s0 s) : Keeps s0 (commitAck s b l) := by
  unfold Machine.commitAck
  repeat' first
    | with_reducible assumption | with_reducible apply keeps_abandonAck | with_reducible apply keeps_cryptCount
    | with_reducible apply keeps_goOnAir | with_reducible apply keeps_ackSent | with_reducible apply keeps_ite

theorem keeps_noteLate {s0 : State} (s : State) (b : Band) (late : Nat) (hs : Keeps s0 s) : Keeps s0 (noteLate s b late) := by
  unfold Machine.noteLate
  repeat' first
    | with_reducible assumption | with_reducible apply keeps_txCount | with_reducible apply keeps_modTx

theorem keeps_floodLaunched {s0 : State} (s : State) (b : Band) (r : Nat) (hs : Keeps s0 s) : Keeps s0 (floodLaunched s b r) := by
  unfold Machine.floodLaunched
  repeat' first
    | with_reducible assumption | with_reducible apply keeps_modRoute | with_reducible apply keeps_routeCount
    | with_reducible apply keeps_modRecord | with_reducible apply keeps_completeFrame | with_reducible apply keeps_ite

theorem keeps_joinLaunched {s0 : State} (s : State) (l : Launch) (r : Nat) (tA : Nat) (hs : Keeps s0 s) : Keeps s0 (joinLaunched s l r
    tA) := by
  unfold Machine.joinLaunched
  repeat' first
    | with_reducible assumption | with_reducible apply keeps_routeCount | with_reducible apply keeps_modNode
    | with_reducible apply keeps_sendContact | with_reducible apply keeps_fileFrom | with_reducible apply keeps_holdJoin
    | with_reducible apply keeps_ite | split

theorem keeps_recordLaunched {s0 : State} (s : State) (b : Band) (l : Launch) (r : Nat) (tA : Nat) (late : Bool) (hs : Keeps s0 s) :
    Keeps s0 (recordLaunched s b l r tA late) := by
  unfold Machine.recordLaunched
  repeat' first
    | with_reducible assumption | with_reducible apply keeps_modRecord | with_reducible apply keeps_tsPush
    | with_reducible apply keeps_tellFollow | with_reducible apply keeps_campaignSent | with_reducible apply keeps_completeFrame
    | with_reducible apply keeps_joinLaunched | with_reducible apply keeps_floodLaunched | with_reducible apply keeps_orbitCount
    | with_reducible apply keeps_modTx | with_reducible apply keeps_modOrbit | with_reducible apply keeps_ite | split

theorem keeps_launchNow {s0 : State} (s : State) (b : Band) (l : Launch) (hs : Keeps s0 s) : Keeps s0 (launchNow s b l) := by
  unfold Machine.launchNow
  repeat' first
    | with_reducible assumption | with_reducible apply keeps_goOnAir | with_reducible apply keeps_noteLate
    | with_reducible apply keeps_recordLaunched | with_reducible apply keeps_orbitCount | with_reducible apply keeps_campaignSent
    | with_reducible apply keeps_ite | split

theorem keeps_carriersDue {s0 : State} (s : State) (b : Band) (hs : Keeps s0 s) : Keeps s0 (carriersDue s b) := by
  unfold Machine.carriersDue
  repeat' first
    | with_reducible assumption | with_reducible apply keeps_commitAck | with_reducible apply keeps_launchNow
    | with_reducible apply keeps_ite | with_reducible refine keeps_foldl ?_ fun _ _ _ => ?_

theorem keeps_carrierOver {s0 : State} (s : State) (b : Band) (l : Launch) (hs : Keeps s0 s) : Keeps s0 (carrierOver s b l) := by
  unfold Machine.carrierOver
  repeat' first
    | with_reducible assumption | with_reducible apply keeps_modCarrier | with_reducible apply keeps_completeFrame
    | with_reducible apply keeps_awaitEnds | with_reducible apply keeps_modRecord | with_reducible apply keeps_answerDirect
    | with_reducible apply keeps_ite | split

theorem keeps_carriersEnd {s0 : State} (s : State) (b : Band) (hs : Keeps s0 s) : Keeps s0 (carriersEnd s b) := by
  unfold Machine.carriersEnd
  repeat' first
    | with_reducible assumption | with_reducible apply keeps_carrierOver | with_reducible apply keeps_modTx
    | with_reducible apply keeps_chargeBurst | with_reducible apply keeps_ite | with_reducible refine keeps_foldl ?_ fun _ _ _ => ?_

theorem keeps_blankContexts {s0 : State} (s : State) (b : Band) (hs : Keeps s0 s) : Keeps s0 (blankContexts s b) := by
  unfold Machine.blankContexts
  repeat' first
    | with_reducible assumption | with_reducible apply keeps_poisonCut | with_reducible apply keeps_rxCount
    | with_reducible apply keeps_setCtx | with_reducible apply keeps_ctxIdle | with_reducible apply keeps_ite
    | with_reducible refine keeps_foldl ?_ fun _ _ _ => ?_

theorem keeps_blankBand {s0 : State} (s : State) (b : Band) (hs : Keeps s0 s) : Keeps s0 (blankBand s b) := by
  unfold Machine.blankBand
  repeat' first
    | with_reducible assumption | with_reducible apply keeps_snapBlanked | with_reducible apply keeps_modTx
    | with_reducible apply keeps_blankContexts | with_reducible apply keeps_ite

theorem keeps_requestLines {s0 : State} (s : State) (b : Band) (l : Launch) (hs : Keeps s0 s) : Keeps s0 (requestLines s b l) := by
  unfold Machine.requestLines
  repeat' first
    | with_reducible assumption | with_reducible apply keeps_modTx | with_reducible apply keeps_ite

theorem keeps_transmitLines {s0 : State} (s : State) (b : Band) (hs : Keeps s0 s) : Keeps s0 (transmitLines s b) := by
  unfold Machine.transmitLines
  repeat' first
    | with_reducible assumption | with_reducible apply keeps_modTx | with_reducible apply keeps_ite

theorem keeps_linesDue {s0 : State} (s : State) (b : Band) (hs : Keeps s0 s) : Keeps s0 (linesDue s b) := by
  unfold Machine.linesDue
  repeat' first
    | with_reducible assumption | with_reducible apply keeps_requestLines | with_reducible apply keeps_transmitLines
    | with_reducible apply keeps_blankBand | with_reducible apply keeps_modTx | with_reducible apply keeps_ite | split | dsimp only

theorem keeps_dropAck {s0 : State} (s : State) (b : Band) (l : Launch) (hs : Keeps s0 s) : Keeps s0 (dropAck s b l) := by
  unfold Machine.dropAck
  repeat' first
    | with_reducible assumption | with_reducible apply keeps_txCount | with_reducible apply keeps_unqueue
    | with_reducible apply keeps_ackUnsent | with_reducible apply keeps_releaseFrom | with_reducible apply keeps_ite

theorem keeps_rampUp {s0 : State} (s : State) (b : Band) (l : Launch) (tA : Nat) (hs : Keeps s0 s) : Keeps s0 (rampUp s b l tA) := by
  unfold Machine.rampUp
  repeat' first
    | with_reducible assumption | with_reducible apply keeps_blankBand | with_reducible apply keeps_transmitLines
    | with_reducible apply keeps_requestLines | with_reducible apply keeps_unqueue | with_reducible apply keeps_modTx

theorem keeps_rampAck {s0 : State} (s : State) (b : Band) (hs : Keeps s0 s) : Keeps s0 (rampAck s b) := by
  unfold Machine.rampAck
  repeat' first
    | with_reducible assumption | with_reducible apply keeps_dropAck | with_reducible apply keeps_rampUp | with_reducible apply keeps_ite
    | split

theorem keeps_resumeContexts {s0 : State} (s : State) (b : Band) (hs : Keeps s0 s) : Keeps s0 (resumeContexts s b) := by
  unfold Machine.resumeContexts
  repeat' first
    | with_reducible assumption | with_reducible apply keeps_snapBlanked | with_reducible apply keeps_modTx
    | with_reducible apply keeps_setCtx | with_reducible apply keeps_ctxRest | with_reducible apply keeps_ite
    | with_reducible refine keeps_foldl ?_ fun _ _ _ => ?_

theorem keeps_releaseLines {s0 : State} (s : State) (b : Band) (hs : Keeps s0 s) : Keeps s0 (releaseLines s b) := by
  unfold Machine.releaseLines
  repeat' first
    | with_reducible assumption | with_reducible apply keeps_modTx | with_reducible apply keeps_resumeContexts
    | with_reducible apply keeps_ite

theorem keeps_chainActs {s0 : State} (s : State) (b : Band) (hs : Keeps s0 s) : Keeps s0 (chainActs s b) := by
  unfold Machine.chainActs
  repeat' first
    | with_reducible assumption | with_reducible apply keeps_carriersEnd | with_reducible apply keeps_carriersDue
    | with_reducible apply keeps_releaseLines | with_reducible apply keeps_rampAck | with_reducible apply keeps_linesDue
    | with_reducible apply keeps_calStarts | with_reducible apply keeps_ite

theorem keeps_ackLaunchOp {s0 : State} (s : State) (b : Band) (hs : Keeps s0 s) : Keeps s0 (ackLaunchOp s b) := by
  unfold Machine.ackLaunchOp
  repeat' first
    | with_reducible assumption | with_reducible apply keeps_chainActs

theorem keeps_burstEndOp {s0 : State} (s : State) (b : Band) (hs : Keeps s0 s) : Keeps s0 (burstEndOp s b) := by
  unfold Machine.burstEndOp
  repeat' first
    | with_reducible assumption | with_reducible apply keeps_carriersEnd | with_reducible apply keeps_carriersDue
    | with_reducible apply keeps_releaseLines | with_reducible apply keeps_ite

theorem keeps_burstStartOp {s0 : State} (s : State) (b : Band) (hs : Keeps s0 s) : Keeps s0 (burstStartOp s b) := by
  unfold Machine.burstStartOp
  repeat' first
    | with_reducible assumption | with_reducible apply keeps_chainActs

theorem keeps_closeGate {s0 : State} (s : State) (hs : Keeps s0 s) : Keeps s0 (closeGate s) := by
  unfold Machine.closeGate
  repeat' first
    | with_reducible assumption | with_reducible apply keeps_burstEndOp | with_reducible apply keeps_cutBurst
    | with_reducible apply keeps_stopGatedTests | with_reducible apply keeps_ite | with_reducible refine keeps_foldl ?_ fun _ _ _ => ?_
    | dsimp only | (with_reducible refine keeps_mk ?_ rfl rfl)

theorem keeps_judgeLaunch {s0 : State} (s : State) (b : Band) (l : Launch) (hs : Keeps s0 s) : Keeps s0 (judgeLaunch s b l) := by
  unfold Machine.judgeLaunch
  repeat' first
    | with_reducible assumption | with_reducible apply keeps_returnFrame | with_reducible apply keeps_dropAckListens
    | with_reducible apply keeps_unqueue | with_reducible apply keeps_cancelLaunch | with_reducible apply keeps_carriersEnd
    | with_reducible apply keeps_carriersDue | with_reducible apply keeps_rampUp | with_reducible apply keeps_txCount
    | with_reducible apply keeps_ite | split

theorem keeps_launchOp {s0 : State} (s : State) (b : Band) (hs : Keeps s0 s) : Keeps s0 (launchOp s b) := by
  unfold Machine.launchOp
  repeat' first
    | with_reducible assumption | with_reducible apply keeps_chainActs | with_reducible apply keeps_judgeLaunch | split | dsimp only

theorem keeps_coexGrantOp {s0 : State} (s : State) (b : Band) (hs : Keeps s0 s) : Keeps s0 (coexGrantOp s b) := by
  unfold Machine.coexGrantOp
  repeat' first
    | with_reducible assumption | with_reducible apply keeps_modTx | with_reducible apply keeps_launchOp | with_reducible apply keeps_ite

theorem keeps_coexWithdrawOp {s0 : State} (s : State) (b : Band) (hs : Keeps s0 s) : Keeps s0 (coexWithdrawOp s b) := by
  unfold Machine.coexWithdrawOp
  repeat' first
    | with_reducible assumption | with_reducible apply keeps_launchOp | with_reducible apply keeps_modTx
    | with_reducible apply keeps_cutBurst | with_reducible apply keeps_ite

theorem keeps_encryptNow {s0 : State} (s : State) (l : Launch) (hs : Keeps s0 s) : Keeps s0 (encryptNow s l) := by
  unfold Machine.encryptNow
  repeat' first
    | with_reducible assumption | with_reducible apply keeps_sealLaunch | with_reducible apply keeps_cryptCount
    | with_reducible apply keeps_setLaunch | with_reducible apply keeps_completeFrame | with_reducible apply keeps_ite
    | (with_reducible refine keeps_fst (by with_reducible assumption) ?_) | split

theorem keeps_flushHeld {s0 : State} (s : State) (port : Nat) (hs : Keeps s0 s) : Keeps s0 (flushHeld s port) := by
  unfold Machine.flushHeld
  repeat' first
    | with_reducible assumption | with_reducible apply keeps_ethSend | with_reducible apply keeps_modEth

theorem keeps_openGate {s0 : State} (s : State) (hs : Keeps s0 s) : Keeps s0 (openGate s) := by
  unfold Machine.openGate
  repeat' first
    | with_reducible assumption | with_reducible apply keeps_flushHeld | with_reducible apply keeps_modTx | with_reducible apply keeps_ite
    | with_reducible refine keeps_foldl ?_ fun _ _ _ => ?_ | dsimp only | (with_reducible refine keeps_mk ?_ rfl rfl)

theorem keeps_launchEncryptOp {s0 : State} (s : State) (b : Band) (hs : Keeps s0 s) : Keeps s0 (launchEncryptOp s b) := by
  unfold Machine.launchEncryptOp
  repeat' first
    | with_reducible assumption | with_reducible apply keeps_completeFrame | with_reducible apply keeps_bulkLose
    | with_reducible apply keeps_routeCount | with_reducible apply keeps_encryptNow | with_reducible apply keeps_ite | split | dsimp only

end Sys2Proof.Laws
end

