-- ==== Sys2Proof/Laws/KeepsPart.lean ====
section
/-! SUPPORT. The queue and the canonical form of the addressed memories are kept by update, pair, boot and the part itself. -/

namespace Sys2Proof.Laws

open Sys2Proof.Machine

theorem keeps_modFw {s0 : State} (s : State) (f : Firmware → Firmware) (hf : Memory.wf 0xFF s.fw.flash = true → Memory.wf 0xFF (f
    s.fw).flash = true)
    (hs : Keeps s0 s) : Keeps s0 (modFw s f) := ⟨hs.1, fun k => ⟨hf (hs.2 k).1, (hs.2 k).2⟩⟩

theorem keeps_programRecord {s0 : State} (s : State) (f : Records → Records) (hs : Keeps s0 s) : Keeps s0 (programRecord s f) := by
  unfold Machine.programRecord
  repeat' first
    | with_reducible assumption
    | (with_reducible refine keeps_modFw _ _ (fun k => by first | exact k | exact wf_memWriteBytes _ _ _ _ k | exact wf_memClear _ _ _ _ k) ?_)

theorem keeps_stageEvent {s0 : State} (s : State) (stage : Nat) (hs : Keeps s0 s) : Keeps s0 (stageEvent s stage) := by
  unfold Machine.stageEvent
  repeat' first
    | with_reducible assumption | with_reducible apply keeps_raiseEvent

theorem keeps_flashErase {s0 : State} (s : State) (a : Nat) (n : Nat) (hs : Keeps s0 s) : Keeps s0 (flashErase s a n) := by
  unfold Machine.flashErase
  repeat' first
    | with_reducible assumption
    | (with_reducible refine keeps_modFw _ _ (fun k => by first | exact k | exact wf_memWriteBytes _ _ _ _ k | exact wf_memClear _ _ _ _ k) ?_)

theorem keeps_flashProgram {s0 : State} (s : State) (a : Nat) (bs : List Byte) (hs : Keeps s0 s) : Keeps s0 (flashProgram s a bs) := by
  unfold Machine.flashProgram
  repeat' first
    | with_reducible assumption
    | (with_reducible refine keeps_modFw _ _ (fun k => by first | exact k | exact wf_memWriteBytes _ _ _ _ k | exact wf_memClear _ _ _ _ k) ?_)

theorem keeps_countFailure {s0 : State} (s : State) (hs : Keeps s0 s) : Keeps s0 (countFailure s) := by
  unfold Machine.countFailure
  repeat' first
    | with_reducible assumption | with_reducible apply keeps_programRecord

theorem keeps_campaignReset {s0 : State} (s : State) (hs : Keeps s0 s) : Keeps s0 (campaignReset s) := by
  unfold Machine.campaignReset
  repeat' first
    | with_reducible assumption | with_reducible apply keeps_modCmp | with_reducible apply keeps_openRound
    | with_reducible apply keeps_ite | split

theorem keeps_closeCollection {s0 : State} (s : State) (hs : Keeps s0 s) : Keeps s0 (closeCollection s) := by
  unfold Machine.closeCollection
  repeat' first
    | with_reducible assumption | with_reducible apply keeps_modCmp | with_reducible apply keeps_ite

theorem keeps_collectionOp {s0 : State} (s : State) (hs : Keeps s0 s) : Keeps s0 (collectionOp s) := by
  unfold Machine.collectionOp
  repeat' first
    | with_reducible assumption | with_reducible apply keeps_endIfDone | with_reducible apply keeps_modCmp
    | with_reducible apply keeps_ite | split

theorem keeps_confirmImage {s0 : State} (s : State) (hs : Keeps s0 s) : Keeps s0 (confirmImage s) := by
  unfold Machine.confirmImage
  repeat' first
    | with_reducible assumption | with_reducible apply keeps_modKey | with_reducible apply keeps_programRecord
    | with_reducible apply keeps_stageEvent
    | (with_reducible refine keeps_modFw _ _ (fun k => by first | exact k | exact wf_memWriteBytes _ _ _ _ k | exact wf_memClear _ _ _ _ k) ?_)

theorem keeps_handBack {s0 : State} (s : State) (hs : Keeps s0 s) : Keeps s0 (handBack s) := by
  unfold Machine.handBack
  repeat' first
    | with_reducible assumption
    | (with_reducible refine keeps_modFw _ _ (fun k => by first | exact k | exact wf_memWriteBytes _ _ _ _ k | exact wf_memClear _ _ _ _ k) ?_)
    | with_reducible apply keeps_coreRestart | with_reducible apply keeps_endCommands
    | with_reducible refine keeps_foldl ?_ fun _ _ _ => ?_ | split | (with_reducible refine keeps_mk ?_ rfl rfl)

theorem keeps_failBack {s0 : State} (s : State) (hs : Keeps s0 s) : Keeps s0 (failBack s) := by
  unfold Machine.failBack
  repeat' first
    | with_reducible assumption | with_reducible apply keeps_stageEvent | with_reducible apply keeps_countFailure
    | with_reducible apply keeps_handBack

theorem keeps_flashRecordOp {s0 : State} (s : State) (hs : Keeps s0 s) : Keeps s0 (flashRecordOp s) := by
  unfold Machine.flashRecordOp
  repeat' first
    | with_reducible assumption | with_reducible apply keeps_programRecord | with_reducible apply keeps_replicateEpoch
    | with_reducible apply keeps_modCrypt | split

theorem keeps_flashRewrite {s0 : State} (s : State) (a : Nat) (bs : List Byte) (hs : Keeps s0 s) : Keeps s0 (flashRewrite s a bs) := by
  unfold Machine.flashRewrite
  repeat' first
    | with_reducible assumption
    | (with_reducible refine keeps_modFw _ _ (fun k => by first | exact k | exact wf_memWriteBytes _ _ _ _ k | exact wf_memClear _ _ _ _ k) ?_)

theorem keeps_handoverOp {s0 : State} (s : State) (hs : Keeps s0 s) : Keeps s0 (handoverOp s) := by
  unfold Machine.handoverOp
  repeat' first
    | with_reducible assumption
    | (with_reducible refine keeps_modFw _ _ (fun k => by first | exact k | exact wf_memWriteBytes _ _ _ _ k | exact wf_memClear _ _ _ _ k) ?_)
    | with_reducible apply keeps_stageEvent | with_reducible apply keeps_finishWhere | split

theorem keeps_roundStartOp {s0 : State} (s : State) (hs : Keeps s0 s) : Keeps s0 (roundStartOp s) := by
  unfold Machine.roundStartOp
  repeat' first
    | with_reducible assumption | with_reducible apply keeps_closeCollection | with_reducible apply keeps_endCampaign
    | with_reducible apply keeps_modCmp | with_reducible apply keeps_openRound | with_reducible apply keeps_announceTo
    | with_reducible apply keeps_ite | split

theorem keeps_sectorEraseOp {s0 : State} (s : State) (hs : Keeps s0 s) : Keeps s0 (sectorEraseOp s) := by
  unfold Machine.sectorEraseOp
  repeat' first
    | with_reducible assumption
    | (with_reducible refine keeps_modFw _ _ (fun k => by first | exact k | exact wf_memWriteBytes _ _ _ _ k | exact wf_memClear _ _ _ _ k) ?_)

theorem keeps_targetStatus {s0 : State} (s : State) (addr : W32) (b : List Byte) (hs : Keeps s0 s) : Keeps s0 (targetStatus s addr b) := by
  unfold Machine.targetStatus
  repeat' first
    | with_reducible assumption | with_reducible apply keeps_modTarget | with_reducible apply keeps_bulkLose
    | with_reducible apply keeps_queueCampaign | with_reducible apply keeps_modCmp | with_reducible apply keeps_announceTo
    | with_reducible apply keeps_endIfDone | with_reducible apply keeps_ite | with_reducible refine keeps_foldl ?_ fun _ _ _ => ?_

theorem keeps_statusRxOp {s0 : State} (s : State) (hs : Keeps s0 s) : Keeps s0 (statusRxOp s) := by
  unfold Machine.statusRxOp
  repeat' first
    | with_reducible assumption | (with_reducible refine keeps_takeThread (by with_reducible assumption) ?_)
    | with_reducible apply keeps_targetStatus | with_reducible apply keeps_modCmp | with_reducible apply keeps_ite | split | dsimp only

theorem keeps_writeBlock {s0 : State} (s : State) (off : Nat) (data : List Byte) (hs : Keeps s0 s) : Keeps s0 (writeBlock s off data).1
    := by
  unfold Machine.writeBlock
  repeat' first
    | with_reducible assumption | with_reducible apply keeps_flashProgram | with_reducible apply keeps_ite_fst

theorem keeps_dropEntry {s0 : State} (s : State) (i : Nat) (hs : Keeps s0 s) : Keeps s0 (dropEntry s i) := by
  unfold Machine.dropEntry
  repeat' first
    | with_reducible assumption | with_reducible apply keeps_modNodes | with_reducible apply keeps_unlinkNode | split

theorem keeps_beginCopy {s0 : State} (s : State) (hs : Keeps s0 s) : Keeps s0 (beginCopy s) := by
  unfold Machine.beginCopy
  repeat' first
    | with_reducible assumption | with_reducible apply keeps_dropEntry | with_reducible apply keeps_modPair
    | with_reducible apply keeps_ite | with_reducible refine keeps_foldl ?_ fun _ _ _ => ?_

theorem keeps_againCopy {s0 : State} (s : State) (l : List (Nat × BitVec 512)) (hs : Keeps s0 s) : Keeps s0 (againCopy s l) := by
  unfold Machine.againCopy
  repeat' first
    | with_reducible assumption | with_reducible apply keeps_beginCopy | with_reducible apply keeps_modPair
    | with_reducible apply keeps_ite | split

theorem keeps_announcePorts {s0 : State} (s : State) (hs : Keeps s0 s) : Keeps s0 (announcePorts s) := by
  unfold Machine.announcePorts
  repeat' first
    | with_reducible assumption | with_reducible apply keeps_ethSendOne | with_reducible apply keeps_ite
    | with_reducible refine keeps_foldl ?_ fun _ _ _ => ?_

theorem keeps_applyCommit {s0 : State} (s : State) (r : CommitRec) (hs : Keeps s0 s) : Keeps s0 (applyCommit s r) := by
  unfold Machine.applyCommit
  repeat' first
    | with_reducible assumption | with_reducible apply keeps_modNode | with_reducible apply keeps_adriftReturn
    | with_reducible apply keeps_clockMeasure | with_reducible apply keeps_ite | split

theorem keeps_offerAccepted {s0 : State} (s : State) (i : Nat) (hs : Keeps s0 s) : Keeps s0 (offerAccepted s i) := by
  unfold Machine.offerAccepted
  repeat' first
    | with_reducible assumption | with_reducible apply keeps_modPair | with_reducible apply keeps_modTones
    | with_reducible apply keeps_activateMap | with_reducible apply keeps_modOrbit | with_reducible apply keeps_applySched
    | with_reducible apply keeps_ite | split

theorem keeps_applyConfig {s0 : State} (run : CmdEntry → State → State) (s : State) (m : ConfigMsg) (hrun : ∀ v0 v1, Keeps s0 v1 → Keeps
    s0 (run v0 v1)) (hs : Keeps s0 s) : Keeps s0 (applyConfig run s m) := by
  unfold Machine.applyConfig
  repeat' first
    | with_reducible assumption | with_reducible apply hrun | with_reducible apply keeps_modPair
    | with_reducible apply keeps_offerAccepted | split | dsimp only | (with_reducible refine keeps_mk ?_ rfl rfl)

theorem keeps_fileAsIs {s0 : State} (s : State) (i : Nat) (hs : Keeps s0 s) : Keeps s0 (fileAsIs s i) := by
  unfold Machine.fileAsIs
  repeat' first
    | with_reducible assumption | with_reducible apply keeps_refile | with_reducible apply keeps_unfile | with_reducible apply keeps_ite
    | split

theorem keeps_placeEntry {s0 : State} (s : State) (i : Nat) (entry : BitVec 512) (hs : Keeps s0 s) : Keeps s0 (placeEntry s i entry) := by
  unfold Machine.placeEntry
  repeat' first
    | with_reducible assumption | with_reducible apply keeps_fileAsIs | with_reducible apply keeps_writeEntry

theorem keeps_applyJournal {s0 : State} (s : State) (r : JournalMsg) (hs : Keeps s0 s) : Keeps s0 (applyJournal s r) := by
  unfold Machine.applyJournal
  repeat' first
    | with_reducible assumption | with_reducible apply keeps_modNodes | with_reducible apply keeps_dropEntry
    | with_reducible apply keeps_placeEntry | with_reducible apply keeps_unfile | split

theorem keeps_copyStep {s0 : State} (s : State) (copied : Nat) (replayed : Nat) (phase : Nat) (hs : Keeps s0 s) : Keeps s0 (copyStep s
    copied replayed phase) := by
  unfold Machine.copyStep
  repeat' first
    | with_reducible assumption | with_reducible apply keeps_modPair

theorem keeps_syncDone {s0 : State} (s : State) (x : SyncRun) (hs : Keeps s0 s) : Keeps s0 (syncDone s x) := by
  unfold Machine.syncDone
  repeat' first
    | with_reducible assumption | with_reducible apply keeps_modPair | with_reducible apply keeps_pairCount
    | with_reducible apply keeps_raiseEvent

theorem keeps_applySync {s0 : State} (run : CmdEntry → State → State) (s : State) (p : SyncPiece) (hrun : ∀ v0 v1, Keeps s0 v1 → Keeps s0
    (run v0 v1)) (hs : Keeps s0 s) : Keeps s0 (applySync run s p) := by
  unfold Machine.applySync
  repeat' first
    | with_reducible assumption | with_reducible apply hrun | with_reducible apply keeps_copyStep | with_reducible apply keeps_placeEntry
    | with_reducible apply keeps_beginCopy | with_reducible apply keeps_againCopy | with_reducible apply keeps_modPair
    | with_reducible apply keeps_applyJournal | with_reducible apply keeps_applyCommit | with_reducible apply keeps_syncDone
    | with_reducible apply keeps_ite | with_reducible refine keeps_foldl ?_ fun _ _ _ => ?_ | split

theorem keeps_radioLetsGo {s0 : State} (s : State) (hs : Keeps s0 s) : Keeps s0 (radioLetsGo s) := by
  unfold Machine.radioLetsGo
  repeat' first
    | with_reducible assumption | with_reducible apply keeps_poisonCut | with_reducible refine keeps_foldl ?_ fun _ _ _ => ?_ | dsimp only
    | (with_reducible refine keeps_mk ?_ rfl rfl)

theorem keeps_becomeStandby {s0 : State} (s : State) (r : Replica) (hs : Keeps s0 s) : Keeps s0 (becomeStandby s r) := by
  unfold Machine.becomeStandby
  repeat' first
    | with_reducible assumption | with_reducible apply keeps_modPair | with_reducible apply keeps_radioLetsGo
    | with_reducible apply keeps_useTwin | with_reducible apply keeps_holdOn | (with_reducible refine keeps_mk ?_ rfl rfl)

theorem keeps_sendHello {s0 : State} (s : State) (asked : Bool) (hs : Keeps s0 s) : Keeps s0 (sendHello s asked) := by
  unfold Machine.sendHello
  repeat' first
    | with_reducible assumption | with_reducible apply keeps_chargeUse | with_reducible apply keeps_linkSend
    | with_reducible apply keeps_modPair | with_reducible refine keeps_foldl ?_ fun _ _ _ => ?_

theorem keeps_mapChanged {s0 : State} (s : State) (hs : Keeps s0 s) : Keeps s0 (mapChanged s) := by
  unfold Machine.mapChanged
  repeat' first
    | with_reducible assumption | with_reducible apply keeps_sendHello | with_reducible apply keeps_ite

theorem keeps_failoverEvent {s0 : State} (s : State) (replica : Replica) (cause : Nat) (hs : Keeps s0 s) : Keeps s0 (failoverEvent s
    replica cause) := by
  unfold Machine.failoverEvent
  repeat' first
    | with_reducible assumption | with_reducible apply keeps_raiseEvent

theorem keeps_releaseHold {s0 : State} (s : State) (h2 : Hold) (hs : Keeps s0 s) : Keeps s0 (releaseHold s h2) := by
  unfold Machine.releaseHold
  repeat' first
    | with_reducible assumption | with_reducible apply keeps_releaseUplink | with_reducible apply keeps_respond | split

theorem keeps_releaseWaits {s0 : State} (s : State) (p : Waiting → Bool) (hs : Keeps s0 s) : Keeps s0 (releaseWaits s p) := by
  unfold Machine.releaseWaits
  repeat' first
    | with_reducible assumption | with_reducible apply keeps_modPair | with_reducible apply keeps_releaseHold
    | with_reducible refine keeps_foldl ?_ fun _ _ _ => ?_

theorem keeps_goSolo {s0 : State} (s : State) (cause : Nat) (hs : Keeps s0 s) : Keeps s0 (goSolo s cause) := by
  unfold Machine.goSolo
  repeat' first
    | with_reducible assumption | with_reducible apply keeps_modPair | with_reducible apply keeps_failoverEvent
    | with_reducible apply keeps_releaseWaits | with_reducible apply keeps_ite

theorem keeps_replicaStale {s0 : State} (s : State) (hs : Keeps s0 s) : Keeps s0 (replicaStale s) := by
  unfold Machine.replicaStale
  repeat' first
    | with_reducible assumption | with_reducible apply keeps_modPair | with_reducible apply keeps_ite

theorem keeps_linkLost {s0 : State} (s : State) (hs : Keeps s0 s) : Keeps s0 (linkLost s) := by
  unfold Machine.linkLost
  repeat' first
    | with_reducible assumption | with_reducible apply keeps_pairCount | with_reducible apply keeps_modPair
    | with_reducible apply keeps_goSolo | with_reducible apply keeps_replicaStale | with_reducible apply keeps_invalidate
    | with_reducible apply keeps_ite

theorem keeps_linkTake {s0 : State} (s : State) (h2 : LinkHdr) (hs : Keeps s0 s) : Keeps s0 (linkTake s h2).1 := by
  unfold Machine.linkTake
  repeat' first
    | with_reducible assumption | with_reducible apply keeps_pairCount | with_reducible apply keeps_modPair
    | with_reducible apply keeps_linkUse | with_reducible apply keeps_linkLost | with_reducible apply keeps_replicaStale
    | with_reducible apply keeps_ite | with_reducible apply keeps_ite_fst

theorem keeps_sendSync {s0 : State} (s : State) (body : List Byte) (hs : Keeps s0 s) : Keeps s0 (sendSync s body) := by
  unfold Machine.sendSync
  repeat' first
    | with_reducible assumption | with_reducible apply keeps_linkSend

theorem keeps_nextSync {s0 : State} (s : State) (hs : Keeps s0 s) : Keeps s0 (nextSync s) := by
  unfold Machine.nextSync
  repeat' first
    | with_reducible assumption | with_reducible apply keeps_sendSync | with_reducible apply keeps_modPair
    | with_reducible apply keeps_syncDone | with_reducible apply keeps_ite | split | dsimp only

theorem keeps_commitAckOp {s0 : State} (s : State) (h2 : LinkHdr) (first : W32) (last : W32) (hs : Keeps s0 s) : Keeps s0 (commitAckOp s
    h2 first last) := by
  unfold Machine.commitAckOp
  repeat' first
    | with_reducible assumption | with_reducible apply keeps_linkTake | with_reducible apply keeps_releaseWaits
    | with_reducible apply keeps_nextSync | with_reducible apply keeps_ite
    | (with_reducible refine keeps_fst (by with_reducible assumption) ?_) | split

theorem keeps_sendAck {s0 : State} (s : State) (h2 : LinkHdr) (hs : Keeps s0 s) : Keeps s0 (sendAck s h2) := by
  unfold Machine.sendAck
  repeat' first
    | with_reducible assumption | with_reducible apply keeps_linkSend

theorem keeps_commitOp {s0 : State} (s : State) (h2 : LinkHdr) (recs : List CommitRec) (hs : Keeps s0 s) : Keeps s0 (commitOp s h2 recs)
    := by
  unfold Machine.commitOp
  repeat' first
    | with_reducible assumption | with_reducible apply keeps_linkTake | with_reducible apply keeps_sendAck
    | with_reducible apply keeps_applyCommit | with_reducible apply keeps_accessDoms | with_reducible apply keeps_ite
    | with_reducible refine keeps_foldl ?_ fun _ _ _ => ?_ | (with_reducible refine keeps_fst (by with_reducible assumption) ?_) | split

theorem keeps_configOp {s0 : State} (run : CmdEntry → State → State) (s : State) (h3 : LinkHdr) (m : ConfigMsg) (hrun : ∀ v0 v1, Keeps s0
    v1 → Keeps s0 (run v0 v1)) (hs : Keeps s0 s) : Keeps s0 (configOp run s h3 m) := by
  unfold Machine.configOp
  repeat' first
    | with_reducible assumption | with_reducible apply keeps_linkTake | with_reducible apply keeps_sendAck
    | with_reducible apply keeps_applyConfig | with_reducible apply keeps_ite
    | (with_reducible refine keeps_fst (by with_reducible assumption) ?_) | split

theorem keeps_contactOp {s0 : State} (s : State) (h2 : LinkHdr) (i : Nat) (entry : BitVec 512) (hs : Keeps s0 s) : Keeps s0 (contactOp s
    h2 i entry) := by
  unfold Machine.contactOp
  repeat' first
    | with_reducible assumption | with_reducible apply keeps_linkTake | with_reducible apply keeps_fileAsIs
    | with_reducible apply keeps_writeEntry | with_reducible apply keeps_accessDoms | with_reducible apply keeps_ite
    | (with_reducible refine keeps_fst (by with_reducible assumption) ?_) | split

theorem keeps_dropPending {s0 : State} (s : State) (hs : Keeps s0 s) : Keeps s0 (dropPending s) := by
  unfold Machine.dropPending
  repeat' first
    | with_reducible assumption | with_reducible apply keeps_freeRecord | with_reducible apply keeps_modQueue
    | with_reducible apply keeps_pairCount | with_reducible refine keeps_foldl ?_ fun _ _ _ => ?_ | dsimp only
    | (with_reducible refine keeps_mk ?_ rfl rfl)

theorem keeps_demote {s0 : State} (s : State) (hs : Keeps s0 s) : Keeps s0 (demote s) := by
  unfold Machine.demote
  repeat' first
    | with_reducible assumption | with_reducible apply keeps_modPair | with_reducible apply keeps_closeGate
    | with_reducible apply keeps_respond | with_reducible apply keeps_failoverEvent | with_reducible apply keeps_endCommands
    | with_reducible apply keeps_dropPending | with_reducible apply keeps_becomeStandby
    | with_reducible refine keeps_foldl ?_ fun _ _ _ => ?_

theorem keeps_epochOp {s0 : State} (s : State) (h2 : LinkHdr) (r : EpochRec) (hs : Keeps s0 s) : Keeps s0 (epochOp s h2 r) := by
  unfold Machine.epochOp
  repeat' first
    | with_reducible assumption | with_reducible apply keeps_linkTake | with_reducible apply keeps_programRecord
    | with_reducible apply keeps_sendAck | with_reducible apply keeps_modCrypt | with_reducible apply keeps_ite
    | (with_reducible refine keeps_fst (by with_reducible assumption) ?_) | split

theorem keeps_pairReset {s0 : State} (s : State) (hs : Keeps s0 s) : Keeps s0 (pairReset s) := by
  unfold Machine.pairReset
  repeat' first
    | with_reducible assumption | with_reducible apply keeps_linkLost | with_reducible apply keeps_modPair

theorem keeps_gateCloseOp {s0 : State} (s : State) (hs : Keeps s0 s) : Keeps s0 (gateCloseOp s) := by
  unfold Machine.gateCloseOp
  repeat' first
    | with_reducible assumption | with_reducible apply keeps_closeGate | with_reducible apply keeps_ite

theorem keeps_gateOpenOp {s0 : State} (s : State) (hs : Keeps s0 s) : Keeps s0 (gateOpenOp s) := by
  unfold Machine.gateOpenOp
  repeat' first
    | with_reducible assumption | with_reducible apply keeps_openGate | with_reducible apply keeps_ite

theorem keeps_startSync {s0 : State} (s : State) (hs : Keeps s0 s) : Keeps s0 (startSync s) := by
  unfold Machine.startSync
  repeat' first
    | with_reducible assumption | with_reducible apply keeps_modPair

theorem keeps_maybeSync {s0 : State} (s : State) (hs : Keeps s0 s) : Keeps s0 (maybeSync s) := by
  unfold Machine.maybeSync
  repeat' first
    | with_reducible assumption | with_reducible apply keeps_nextSync | with_reducible apply keeps_startSync
    | with_reducible apply keeps_ite

theorem keeps_hearTwin {s0 : State} (s : State) (w : W64) (hs : Keeps s0 s) : Keeps s0 (hearTwin s w) := by
  unfold Machine.hearTwin
  repeat' first
    | with_reducible assumption | with_reducible apply keeps_modPair | with_reducible apply keeps_demote
    | with_reducible apply keeps_maybeSync | with_reducible apply keeps_becomeStandby | with_reducible apply keeps_closeGate
    | with_reducible apply keeps_replicaStale | with_reducible apply keeps_finishWhere | with_reducible apply keeps_ite | split
    | dsimp only

theorem keeps_heartbeatOp {s0 : State} (s : State) (h2 : LinkHdr) (w : W64) (hs : Keeps s0 s) : Keeps s0 (heartbeatOp s h2 w) := by
  unfold Machine.heartbeatOp
  repeat' first
    | with_reducible assumption | with_reducible apply keeps_linkTake | with_reducible apply keeps_hearTwin
    | with_reducible apply keeps_pairCount | with_reducible apply keeps_ite
    | (with_reducible refine keeps_fst (by with_reducible assumption) ?_) | split

theorem keeps_heartbeatSendOp {s0 : State} (s : State) (hs : Keeps s0 s) : Keeps s0 (heartbeatSendOp s) := by
  unfold Machine.heartbeatSendOp
  repeat' first
    | with_reducible assumption | with_reducible apply keeps_modPair | with_reducible apply keeps_gateOpenOp
    | with_reducible apply keeps_linkSend | with_reducible apply keeps_ite

theorem keeps_helloOp {s0 : State} (s : State) (h2 : LinkHdr) (m : HelloMsg) (hs : Keeps s0 s) : Keeps s0 (helloOp s h2 m) := by
  unfold Machine.helloOp
  repeat' first
    | with_reducible assumption | with_reducible apply keeps_linkTake | with_reducible apply keeps_modPair
    | with_reducible apply keeps_sendHello | with_reducible apply keeps_pairCount | with_reducible apply keeps_maybeSync
    | with_reducible apply keeps_nextSync | with_reducible apply keeps_ite
    | (with_reducible refine keeps_fst (by with_reducible assumption) ?_) | split

theorem keeps_isolationOp {s0 : State} (s : State) (hs : Keeps s0 s) : Keeps s0 (isolationOp s) := by
  unfold Machine.isolationOp
  repeat' first
    | with_reducible assumption | with_reducible apply keeps_becomeStandby | with_reducible apply keeps_releaseWaits
    | with_reducible apply keeps_modPair | with_reducible apply keeps_closeGate | with_reducible apply keeps_ite

theorem keeps_journalOp {s0 : State} (s : State) (h2 : LinkHdr) (recs : List JournalMsg) (hs : Keeps s0 s) : Keeps s0 (journalOp s h2
    recs) := by
  unfold Machine.journalOp
  repeat' first
    | with_reducible assumption | with_reducible apply keeps_linkTake | with_reducible apply keeps_sendAck
    | with_reducible apply keeps_applyJournal | with_reducible apply keeps_accessDoms | with_reducible apply keeps_ite
    | with_reducible refine keeps_foldl ?_ fun _ _ _ => ?_ | (with_reducible refine keeps_fst (by with_reducible assumption) ?_) | split

theorem keeps_leaseExpiryOp {s0 : State} (s : State) (hs : Keeps s0 s) : Keeps s0 (leaseExpiryOp s) := by
  unfold Machine.leaseExpiryOp
  repeat' first
    | with_reducible assumption | with_reducible apply keeps_closeGate | with_reducible apply keeps_modPair
    | with_reducible apply keeps_ite | split

theorem keeps_lineHeartbeatOp {s0 : State} (s : State) (w : W64) (hs : Keeps s0 s) : Keeps s0 (lineHeartbeatOp s w) := by
  unfold Machine.lineHeartbeatOp
  repeat' first
    | with_reducible assumption | with_reducible apply keeps_pairCount | with_reducible apply keeps_hearTwin
    | with_reducible apply keeps_modPair | with_reducible apply keeps_ite

theorem keeps_linkDownOp {s0 : State} (s : State) (hs : Keeps s0 s) : Keeps s0 (linkDownOp s) := by
  unfold Machine.linkDownOp
  repeat' first
    | with_reducible assumption | with_reducible apply keeps_linkLost

theorem keeps_linkUpOp {s0 : State} (s : State) (hs : Keeps s0 s) : Keeps s0 (linkUpOp s) := by
  unfold Machine.linkUpOp
  repeat' first
    | with_reducible assumption | with_reducible apply keeps_sendHello | with_reducible apply keeps_modPair
    | with_reducible apply keeps_ite

theorem keeps_replTimeoutOp {s0 : State} (s : State) (hs : Keeps s0 s) : Keeps s0 (replTimeoutOp s) := by
  unfold Machine.replTimeoutOp
  repeat' first
    | with_reducible assumption | with_reducible apply keeps_goSolo | with_reducible apply keeps_pairCount
    | with_reducible apply keeps_ite | split

theorem keeps_takeEpochs {s0 : State} (s : State) (hs : Keeps s0 s) : Keeps s0 (takeEpochs s) := by
  unfold Machine.takeEpochs
  repeat' first
    | with_reducible assumption | with_reducible apply keeps_modCrypt | with_reducible apply keeps_modNodes

theorem keeps_takeOver {s0 : State} (s : State) (cause : Nat) (hs : Keeps s0 s) : Keeps s0 (takeOver s cause) := by
  unfold Machine.takeOver
  repeat' first
    | with_reducible assumption | with_reducible apply keeps_takeEpochs | with_reducible apply keeps_discardStages
    | with_reducible apply keeps_challengeNode | with_reducible apply keeps_dropEntry | with_reducible apply keeps_holdOn
    | with_reducible apply keeps_modPair | with_reducible apply keeps_failoverEvent | with_reducible apply keeps_pairCount
    | with_reducible apply keeps_openGate | with_reducible apply keeps_campaignTakeover | with_reducible apply keeps_announcePorts
    | with_reducible refine keeps_foldl ?_ fun _ _ _ => ?_ | split | dsimp only | (with_reducible refine keeps_mk ?_ rfl rfl)

theorem keeps_startupOp {s0 : State} (s : State) (hs : Keeps s0 s) : Keeps s0 (startupOp s) := by
  unfold Machine.startupOp
  repeat' first
    | with_reducible assumption | with_reducible apply keeps_takeOver | with_reducible apply keeps_ite | split

theorem keeps_syncOp {s0 : State} (run : CmdEntry → State → State) (s : State) (h3 : LinkHdr) (p : SyncPiece) (hrun : ∀ v0 v1, Keeps s0
    v1 → Keeps s0 (run v0 v1)) (hs : Keeps s0 s) : Keeps s0 (syncOp run s h3 p) := by
  unfold Machine.syncOp
  repeat' first
    | with_reducible assumption | with_reducible apply keeps_linkTake | with_reducible apply keeps_sendAck
    | with_reducible apply keeps_applySync | with_reducible apply keeps_accessDoms | with_reducible apply keeps_ite
    | (with_reducible refine keeps_fst (by with_reducible assumption) ?_) | split

theorem keeps_takeoverOp {s0 : State} (s : State) (hs : Keeps s0 s) : Keeps s0 (takeoverOp s) := by
  unfold Machine.takeoverOp
  repeat' first
    | with_reducible assumption | with_reducible apply keeps_takeOver | with_reducible apply keeps_ite | split

theorem keeps_timeOp {s0 : State} (s : State) (h2 : LinkHdr) (t1 : W64) (t2 : W64) (t3 : W64) (t4 : W64) (hs : Keeps s0 s) : Keeps s0
    (timeOp s h2 t1 t2 t3 t4) := by
  unfold Machine.timeOp
  repeat' first
    | with_reducible assumption | with_reducible apply keeps_linkTake | with_reducible apply keeps_measure
    | with_reducible apply keeps_linkSend | with_reducible apply keeps_ite
    | (with_reducible refine keeps_fst (by with_reducible assumption) ?_) | split

theorem keeps_advanceEpochs {s0 : State} (s : State) (hs : Keeps s0 s) : Keeps s0 (advanceEpochs s) := by
  unfold Machine.advanceEpochs
  repeat' first
    | with_reducible assumption | with_reducible apply keeps_programRecord | with_reducible apply keeps_modCrypt

theorem keeps_resetState {s0 : State} (s : State) (cause : Nat) (hs : Keeps s0 s) : Keeps s0 (resetState s cause) :=
  ⟨hs.1, fun k => ⟨(hs.2 k).1, rfl⟩⟩

theorem keeps_resetAssertOp {s0 : State} (s : State) (hs : Keeps s0 s) : Keeps s0 (resetAssertOp s) := by
  unfold Machine.resetAssertOp
  repeat' first
    | with_reducible assumption | with_reducible apply keeps_resetState | (with_reducible refine keeps_mk ?_ rfl rfl)

theorem keeps_powerLossOp {s0 : State} (s : State) (hs : Keeps s0 s) : Keeps s0 (powerLossOp s) := by
  unfold Machine.powerLossOp
  repeat' first
    | with_reducible assumption | with_reducible apply keeps_resetAssertOp | with_reducible apply keeps_modTest

theorem keeps_aonPowerOnOp {s0 : State} (s : State) (hs : Keeps s0 s) : Keeps s0 (aonPowerOnOp s) := by
  unfold Machine.aonPowerOnOp
  repeat' first
    | with_reducible assumption | with_reducible apply keeps_modKey | with_reducible apply keeps_powerLossOp

theorem keeps_bandReset {s0 : State} (s : State) (b : Band) (hs : Keeps s0 s) : Keeps s0 (bandReset s b) := by
  unfold Machine.bandReset
  repeat' first
    | with_reducible assumption | with_reducible apply keeps_loseReceptions | with_reducible apply keeps_cancelAll
    | with_reducible apply keeps_idleContexts

theorem keeps_bootImage {s0 : State} (s : State) (h2 : List Byte) (hs : Keeps s0 s) : Keeps s0 (bootImage s h2) := by
  unfold Machine.bootImage
  repeat' first
    | with_reducible assumption
    | (with_reducible refine keeps_modFw _ _ (fun k => by first | exact k | exact wf_memWriteBytes _ _ _ _ k | exact wf_memClear _ _ _ _ k) ?_)
    | dsimp only | (with_reducible refine keeps_mk ?_ rfl rfl)

theorem keeps_enterLoader {s0 : State} (s : State) (stage : Nat) (hs : Keeps s0 s) : Keeps s0 (enterLoader s stage) := by
  unfold Machine.enterLoader
  repeat' first
    | with_reducible assumption | with_reducible apply keeps_stageEvent | (with_reducible refine keeps_mk ?_ rfl rfl)

theorem keeps_bootDecision {s0 : State} (s : State) (hs : Keeps s0 s) : Keeps s0 (bootDecision s) := by
  unfold Machine.bootDecision
  repeat' first
    | with_reducible assumption | with_reducible apply keeps_enterLoader | with_reducible apply keeps_bootImage
    | with_reducible apply keeps_flashErase | with_reducible apply keeps_flashProgram | with_reducible apply keeps_programRecord
    | with_reducible apply keeps_ite | split

theorem keeps_countWatchdog {s0 : State} (s : State) (hs : Keeps s0 s) : Keeps s0 (countWatchdog s) := by
  unfold Machine.countWatchdog
  repeat' first
    | with_reducible assumption | with_reducible apply keeps_countFailure | with_reducible apply keeps_ite | split

theorem keeps_loadKeys {s0 : State} (s : State) (hs : Keeps s0 s) : Keeps s0 (loadKeys s) := by
  unfold Machine.loadKeys
  repeat' first
    | with_reducible assumption | with_reducible apply keeps_loadRoot | with_reducible apply keeps_drawChal
    | with_reducible apply keeps_loadIdentity | with_reducible apply keeps_ite

theorem keeps_reportFailed {s0 : State} (s : State) (hs : Keeps s0 s) : Keeps s0 (reportFailed s) := by
  unfold Machine.reportFailed
  repeat' first
    | with_reducible assumption | with_reducible apply keeps_stageEvent | with_reducible apply keeps_ite

theorem keeps_sampleTamper {s0 : State} (s : State) (alarms : Byte) (hs : Keeps s0 s) : Keeps s0 (sampleTamper s alarms) := by
  unfold Machine.sampleTamper
  repeat' first
    | with_reducible assumption | with_reducible apply keeps_modKey | with_reducible apply keeps_tamperAlarmOp
    | with_reducible apply keeps_ite

theorem keeps_boot {s0 : State} (s : State) (alarms : Byte) (hs : Keeps s0 s) : Keeps s0 (boot s alarms) := by
  unfold Machine.boot
  repeat' first
    | with_reducible assumption | with_reducible apply keeps_sampleTamper | with_reducible apply keeps_advanceEpochs
    | with_reducible apply keeps_reportFailed | with_reducible apply keeps_bootDecision | with_reducible apply keeps_countWatchdog
    | with_reducible apply keeps_loadKeys | with_reducible apply keeps_ite | dsimp only | (with_reducible refine keeps_mk ?_ rfl rfl)

theorem keeps_coldStart {s0 : State} (s : State) (cause : Nat) (hs : Keeps s0 s) : Keeps s0 (coldStart s cause) := by
  unfold Machine.coldStart
  repeat' first
    | with_reducible assumption | with_reducible apply keeps_boot | with_reducible apply keeps_resetState

theorem keeps_dropDirect {s0 : State} (s : State) (hs : Keeps s0 s) : Keeps s0 (dropDirect s) := by
  unfold Machine.dropDirect
  repeat' first
    | with_reducible assumption | with_reducible apply keeps_cancelLaunch | with_reducible refine keeps_foldl ?_ fun _ _ _ => ?_

theorem keeps_dropInLanes {s0 : State} (s : State) (hs : Keeps s0 s) : Keeps s0 (dropInLanes s) := by
  unfold Machine.dropInLanes
  repeat' first
    | with_reducible assumption | with_reducible apply keeps_ctxRest | with_reducible refine keeps_foldl ?_ fun _ _ _ => ?_

theorem keeps_ethReset {s0 : State} (s : State) (hs : Keeps s0 s) : Keeps s0 (ethReset s) := by
  unfold Machine.ethReset
  repeat' first
    | with_reducible assumption | with_reducible apply keeps_ethLinkOp | with_reducible apply keeps_dropPortFrames
    | with_reducible refine keeps_foldl ?_ fun _ _ _ => ?_

theorem keeps_nodeReset {s0 : State} (s : State) (hs : Keeps s0 s) : Keeps s0 (nodeReset s) := by
  unfold Machine.nodeReset
  repeat' first
    | with_reducible assumption | with_reducible apply keeps_modNodes

theorem keeps_orbitReset {s0 : State} (s : State) (hs : Keeps s0 s) : Keeps s0 (orbitReset s) := by
  unfold Machine.orbitReset
  repeat' first
    | with_reducible assumption | with_reducible apply keeps_unplanLaunch | with_reducible refine keeps_foldl ?_ fun _ _ _ => ?_
    | dsimp only | (with_reducible refine keeps_mk ?_ rfl rfl)

theorem keeps_pwrReset {s0 : State} (s : State) (hs : Keeps s0 s) : Keeps s0 (pwrReset s) := by
  unfold Machine.pwrReset
  repeat' first
    | with_reducible assumption | dsimp only | (with_reducible refine keeps_mk ?_ rfl rfl)

theorem keeps_queueReset {s0 : State} (s : State) (hs : Keeps s0 s) : Keeps s0 (queueReset s) := by
  unfold Machine.queueReset
  repeat' first
    | with_reducible assumption | with_reducible apply keeps_modQueue

theorem keeps_radioReset {s0 : State} (s : State) (hs : Keeps s0 s) : Keeps s0 (radioReset s) := by
  unfold Machine.radioReset
  repeat' first
    | with_reducible assumption | with_reducible apply keeps_dropDirect | with_reducible apply keeps_modRadio
    | with_reducible apply keeps_idleContexts | with_reducible apply keeps_armReserved | with_reducible apply keeps_ite
    | with_reducible refine keeps_foldl ?_ fun _ _ _ => ?_

theorem keeps_routeReset {s0 : State} (s : State) (hs : Keeps s0 s) : Keeps s0 (routeReset s) := by
  unfold Machine.routeReset
  repeat' first
    | with_reducible assumption | dsimp only | (with_reducible refine keeps_mk ?_ rfl rfl)

theorem keeps_testReset {s0 : State} (s : State) (hs : Keeps s0 s) : Keeps s0 (testReset s) := by
  unfold Machine.testReset
  repeat' first
    | with_reducible assumption | with_reducible apply keeps_stopTest | with_reducible refine keeps_foldl ?_ fun _ _ _ => ?_

theorem keeps_functionDiscards {s0 : State} (s : State) (fn : Nat) (hs : Keeps s0 s) : Keeps s0 (functionDiscards s fn) := by
  unfold Machine.functionDiscards
  repeat' first
    | with_reducible assumption | with_reducible apply keeps_pwrReset | with_reducible apply keeps_radioReset
    | with_reducible apply keeps_orbitReset | with_reducible apply keeps_nodeReset | with_reducible apply keeps_routeReset
    | with_reducible apply keeps_keyReset | with_reducible apply keeps_queueReset | with_reducible apply keeps_timeReset
    | with_reducible apply keeps_pairReset | with_reducible apply keeps_testReset | with_reducible apply keeps_ethReset
    | with_reducible apply keeps_campaignReset | split

theorem keeps_functionReset {s0 : State} (s : State) (fn : Nat) (hs : Keeps s0 s) : Keeps s0 (functionReset s fn) := by
  unfold Machine.functionReset
  repeat' first
    | with_reducible assumption | with_reducible apply keeps_endCommands | with_reducible apply keeps_functionDiscards
    | with_reducible apply keeps_discardStages

theorem keeps_ownerReset {s0 : State} (s : State) (owner : Nat) (hs : Keeps s0 s) : Keeps s0 (ownerReset s owner) := by
  unfold Machine.ownerReset
  repeat' first
    | with_reducible assumption | with_reducible apply keeps_coreRestart | with_reducible apply keeps_bandReset
    | with_reducible apply keeps_functionReset | with_reducible apply keeps_clearLanes | with_reducible apply keeps_dropInLanes
    | with_reducible apply keeps_ite | split

theorem keeps_fabricWatchdogOp {s0 : State} (s : State) (owner : Nat) (bank : Nat) (hs : Keeps s0 s) : Keeps s0 (fabricWatchdogOp s owner
    bank) := by
  unfold Machine.fabricWatchdogOp
  repeat' first
    | with_reducible assumption | with_reducible apply keeps_modQueue | with_reducible apply keeps_queueCount
    | with_reducible apply keeps_ownerReset | with_reducible apply keeps_raiseEvent | with_reducible apply keeps_ite

theorem keeps_setTap {s0 : State} (s : State) (ir : Byte) (dr : W32) (hs : Keeps s0 s) : Keeps s0 (setTap s ir dr) := by
  unfold Machine.setTap
  repeat' first
    | with_reducible assumption | with_reducible apply keeps_modTest

theorem keeps_holdOp {s0 : State} (s : State) (ir : Byte) (hs : Keeps s0 s) : Keeps s0 (holdOp s ir) := by
  unfold Machine.holdOp
  repeat' first
    | with_reducible assumption | with_reducible apply keeps_zeroizeKeys | with_reducible apply keeps_closeGate
    | with_reducible apply keeps_modKey | with_reducible apply keeps_resetState | with_reducible apply keeps_modTest
    | with_reducible apply keeps_setTap

theorem keeps_watchdogStart {s0 : State} (s : State) (hs : Keeps s0 s) : Keeps s0 (watchdogStart s) := by
  unfold Machine.watchdogStart
  repeat' first
    | with_reducible assumption | with_reducible apply keeps_coldStart | with_reducible apply keeps_modTest

theorem keeps_probationFails {s0 : State} (s : State) (hs : Keeps s0 s) : Keeps s0 (probationFails s) := by
  unfold Machine.probationFails
  repeat' first
    | with_reducible assumption | with_reducible apply keeps_failBack | with_reducible apply keeps_watchdogStart
    | with_reducible apply keeps_ite

theorem keeps_kernelWatchdogOp {s0 : State} (s : State) (core : Nat) (hs : Keeps s0 s) : Keeps s0 (kernelWatchdogOp s core) := by
  unfold Machine.kernelWatchdogOp
  repeat' first
    | with_reducible assumption | with_reducible apply keeps_probationFails | with_reducible apply keeps_watchdogStart
    | with_reducible apply keeps_raiseEvent | with_reducible apply keeps_ite

theorem keeps_partResetOp {s0 : State} (s : State) (straps : Straps) (alarms : Byte) (hs : Keeps s0 s) : Keeps s0 (partResetOp s straps
    alarms) := by
  unfold Machine.partResetOp
  repeat' first
    | with_reducible assumption | with_reducible apply keeps_boot | with_reducible apply keeps_resetState | with_reducible apply keeps_ite
    | dsimp only | (with_reducible refine keeps_mk ?_ rfl rfl)

theorem keeps_perstReleaseOp {s0 : State} (s : State) (hs : Keeps s0 s) : Keeps s0 (perstReleaseOp s) := by
  unfold Machine.perstReleaseOp
  repeat' first
    | with_reducible assumption | with_reducible apply keeps_ite | dsimp only | (with_reducible refine keeps_mk ?_ rfl rfl)

theorem keeps_probationFailureOp {s0 : State} (s : State) (hs : Keeps s0 s) : Keeps s0 (probationFailureOp s) := by
  unfold Machine.probationFailureOp
  repeat' first
    | with_reducible assumption | with_reducible apply keeps_probationFails | with_reducible apply keeps_ite

theorem keeps_tamperOp {s0 : State} (s : State) (sources : Byte) (hs : Keeps s0 s) : Keeps s0 (tamperOp s sources) := by
  unfold Machine.tamperOp
  repeat' first
    | with_reducible assumption | with_reducible apply keeps_modKey | with_reducible apply keeps_tamperAlarmOp
    | with_reducible apply keeps_poisonCut | with_reducible apply keeps_ite | with_reducible refine keeps_foldl ?_ fun _ _ _ => ?_

theorem keeps_trstLowOp {s0 : State} (s : State) (hs : Keeps s0 s) : Keeps s0 (trstLowOp s) := by
  unfold Machine.trstLowOp
  repeat' first
    | with_reducible assumption | with_reducible apply keeps_setTap | with_reducible apply keeps_coldStart
    | with_reducible apply keeps_ite

theorem keeps_eraseMarker {s0 : State} (s : State) (hs : Keeps s0 s) : Keeps s0 (eraseMarker s) := by
  unfold Machine.eraseMarker
  repeat' first
    | with_reducible assumption | with_reducible apply keeps_programRecord

theorem keeps_applyRestore {s0 : State} (s : State) (b : List Byte) (n : Nat) (hs : Keeps s0 s) : Keeps s0 (applyRestore s b n).1 := by
  unfold Machine.applyRestore
  repeat' first
    | with_reducible assumption | with_reducible apply keeps_modNodes | with_reducible apply keeps_eraseMarker | dsimp only
    | (with_reducible refine keeps_mk ?_ rfl rfl)

theorem keeps_enterQuiesced {s0 : State} (s : State) (hs : Keeps s0 s) : Keeps s0 (enterQuiesced s) := by
  unfold Machine.enterQuiesced
  repeat' first
    | with_reducible assumption | with_reducible apply keeps_modNodes | with_reducible apply keeps_programRecord | dsimp only
    | (with_reducible refine keeps_mk ?_ rfl rfl)

theorem keeps_restoreFails {s0 : State} (s : State) (st : Nat) (hs : Keeps s0 s) : Keeps s0 (restoreFails s st).1 := by
  unfold Machine.restoreFails
  repeat' first
    | with_reducible assumption | with_reducible apply keeps_modNodes

theorem keeps_takePiece {s0 : State} (s : State) (e : CmdEntry) (hs : Keeps s0 s) : Keeps s0 (takePiece s e).1 := by
  unfold Machine.takePiece
  repeat' first
    | with_reducible assumption | with_reducible apply keeps_modNodes | with_reducible apply keeps_restoreFails
    | with_reducible apply keeps_applyRestore | with_reducible apply keeps_ite_fst | split

end Sys2Proof.Laws
end

