-- ==== Sys2Proof/Laws/KeepsCommand.lean ====
section
/-! SUPPORT. The queue and the canonical form of the addressed memories are kept by the commands. -/

namespace Sys2Proof.Laws

open Sys2Proof.Machine

def KeepsOpt (s0 : State) (o : Option (State × Reply)) : Prop := ∀ p ∈ o, Keeps s0 p.1
theorem keepsOpt_none (s0 : State) : KeepsOpt s0 none := fun _ h => nomatch h
theorem keepsOpt_some {s0 : State} {p : State × Reply} (h : Keeps s0 p.1) : KeepsOpt s0 (some p) := fun _ e => by cases e; exact h
theorem keepsOpt_ite {s0 : State} {a b : Option (State × Reply)} {c : Prop} [Decidable c] (ha : KeepsOpt s0 a) (hb : KeepsOpt s0 b) :
    KeepsOpt s0 (if c then a else b) := by split <;> assumption
theorem keepsOpt_onceMasked {s0 s : State} {f : CmdEntry → State → State × Reply} {e : CmdEntry} (hf : ∀ e t, Keeps s0 t → Keeps s0 (f e
    t).1)
    (hs : Keeps s0 s) : KeepsOpt s0 (onceMasked f e s) := by
  unfold onceMasked
  split
  · exact keepsOpt_none _
  · exact keepsOpt_some (hf e s hs)
structure CmdKeeps (c : Cmd) : Prop where
  apply : ∀ w e s0 s, Keeps s0 s → Keeps s0 (c.apply w e s).1
  finish : ∀ op s0 s, Keeps s0 s → KeepsOpt s0 (c.finish op s)
  after : ∀ e s0 s, Keeps s0 s → Keeps s0 (c.after e s)

theorem cmd_airCounters : CmdKeeps Machine.airCounters := by
  refine ⟨fun w e s0 s hs => ?_, fun op s0 s hs => ?_, fun e s0 s hs => ?_⟩ <;> unfold Machine.airCounters <;> dsimp only
  all_goals repeat' first
    | with_reducible assumption | with_reducible apply keeps_modAir | with_reducible exact keepsOpt_none _
    | with_reducible apply keeps_ite

theorem cmd_airProfileBind : CmdKeeps Machine.airProfileBind := by
  refine ⟨fun w e s0 s hs => ?_, fun op s0 s hs => ?_, fun e s0 s hs => ?_⟩ <;> unfold Machine.airProfileBind <;> dsimp only
  all_goals repeat' first
    | with_reducible assumption | with_reducible apply keeps_modAir | (with_reducible refine keeps_setter _ _ _ _ (fun _ _ _ => ?_) ?_)
    | with_reducible exact keepsOpt_none _

theorem cmd_airProfileLoad : CmdKeeps Machine.airProfileLoad := by
  refine ⟨fun w e s0 s hs => ?_, fun op s0 s hs => ?_, fun e s0 s hs => ?_⟩ <;> unfold Machine.airProfileLoad <;> dsimp only
  all_goals repeat' first
    | with_reducible assumption | (with_reducible refine keeps_setter _ _ _ _ (fun _ _ _ => ?_) ?_)
    | with_reducible apply keeps_profileLoad | with_reducible exact keepsOpt_none _

theorem cmd_airProfileLoadRaw : CmdKeeps Machine.airProfileLoadRaw := by
  refine ⟨fun w e s0 s hs => ?_, fun op s0 s hs => ?_, fun e s0 s hs => ?_⟩ <;> unfold Machine.airProfileLoadRaw <;> dsimp only
  all_goals repeat' first
    | with_reducible assumption | (with_reducible refine keeps_setter _ _ _ _ (fun _ _ _ => ?_) ?_)
    | with_reducible apply keeps_profileLoad | with_reducible exact keepsOpt_none _

theorem cmd_airProfileQuery : CmdKeeps Machine.airProfileQuery := by
  refine ⟨fun w e s0 s hs => ?_, fun op s0 s hs => ?_, fun e s0 s hs => ?_⟩ <;> unfold Machine.airProfileQuery <;> dsimp only
  all_goals repeat' first
    | with_reducible assumption | with_reducible apply keeps_getter | with_reducible exact keepsOpt_none _

theorem cmd_airProfileRemove : CmdKeeps Machine.airProfileRemove := by
  refine ⟨fun w e s0 s hs => ?_, fun op s0 s hs => ?_, fun e s0 s hs => ?_⟩ <;> unfold Machine.airProfileRemove <;> dsimp only
  all_goals repeat' first
    | with_reducible assumption | (with_reducible refine keeps_setter _ _ _ _ (fun _ _ _ => ?_) ?_) | with_reducible apply keeps_modAir
    | with_reducible exact keepsOpt_none _

theorem cmd_airSetRouterAddress : CmdKeeps Machine.airSetRouterAddress := by
  refine ⟨fun w e s0 s hs => ?_, fun op s0 s hs => ?_, fun e s0 s hs => ?_⟩ <;> unfold Machine.airSetRouterAddress <;> dsimp only
  all_goals repeat' first
    | with_reducible assumption | (with_reducible refine keeps_setter _ _ _ _ (fun _ _ _ => ?_) ?_) | with_reducible apply keeps_modAir
    | with_reducible exact keepsOpt_none _

theorem cmd_airSound : CmdKeeps Machine.airSound := by
  refine ⟨fun w e s0 s hs => ?_, fun op s0 s hs => ?_, fun e s0 s hs => ?_⟩ <;> unfold Machine.airSound <;> dsimp only
  all_goals repeat' first
    | with_reducible assumption | with_reducible apply keeps_modTones | with_reducible apply keeps_requestSounding
    | with_reducible exact keepsOpt_none _

theorem cmd_airToneMapRead : CmdKeeps Machine.airToneMapRead := by
  refine ⟨fun w e s0 s hs => ?_, fun op s0 s hs => ?_, fun e s0 s hs => ?_⟩ <;> unfold Machine.airToneMapRead <;> dsimp only
  all_goals repeat' first
    | with_reducible assumption | with_reducible apply keeps_getter | with_reducible exact keepsOpt_none _

theorem cmd_airToneMapWrite : CmdKeeps Machine.airToneMapWrite := by
  refine ⟨fun w e s0 s hs => ?_, fun op s0 s hs => ?_, fun e s0 s hs => ?_⟩ <;> unfold Machine.airToneMapWrite <;> dsimp only
  all_goals repeat' first
    | with_reducible assumption | (with_reducible refine keeps_setter _ _ _ _ (fun _ _ _ => ?_) ?_) | with_reducible apply keeps_offerMap
    | with_reducible apply keeps_modTones | with_reducible exact keepsOpt_none _ | with_reducible apply keeps_ite

theorem cmd_campaignActivate : CmdKeeps Machine.campaignActivate := by
  refine ⟨fun w e s0 s hs => ?_, fun op s0 s hs => ?_, fun e s0 s hs => ?_⟩ <;> unfold Machine.campaignActivate <;> dsimp only
  all_goals repeat' first
    | with_reducible assumption | (with_reducible refine keeps_setter _ _ _ _ (fun _ _ _ => ?_) ?_) | with_reducible apply keeps_modCmp
    | with_reducible apply keeps_announceTo | with_reducible exact keepsOpt_none _ | with_reducible apply keeps_ite

theorem cmd_campaignDefine : CmdKeeps Machine.campaignDefine := by
  refine ⟨fun w e s0 s hs => ?_, fun op s0 s hs => ?_, fun e s0 s hs => ?_⟩ <;> unfold Machine.campaignDefine <;> dsimp only
  all_goals repeat' first
    | with_reducible assumption | (with_reducible refine keeps_setter _ _ _ _ (fun _ _ _ => ?_) ?_)
    | with_reducible apply keeps_flushCampaign | with_reducible exact keepsOpt_none _ | (with_reducible refine keeps_mk ?_ rfl rfl)

theorem cmd_campaignLoad : CmdKeeps Machine.campaignLoad := by
  refine ⟨fun w e s0 s hs => ?_, fun op s0 s hs => ?_, fun e s0 s hs => ?_⟩ <;> unfold Machine.campaignLoad <;> dsimp only
  all_goals repeat' first
    | with_reducible assumption | (with_reducible refine keeps_setter _ _ _ _ (fun _ _ _ => ?_) ?_) | with_reducible apply keeps_bulkFresh
    | with_reducible apply keeps_modCmp | with_reducible exact keepsOpt_none _ | with_reducible refine keeps_foldl ?_ fun _ _ _ => ?_

theorem cmd_campaignStart : CmdKeeps Machine.campaignStart := by
  refine ⟨fun w e s0 s hs => ?_, fun op s0 s hs => ?_, fun e s0 s hs => ?_⟩ <;> unfold Machine.campaignStart <;> dsimp only
  all_goals repeat' first
    | with_reducible assumption | with_reducible apply keeps_longStart | with_reducible apply keeps_modCmp
    | with_reducible apply keeps_announceTo | with_reducible apply keepsOpt_some | with_reducible apply keepsOpt_ite

theorem cmd_campaignStatus : CmdKeeps Machine.campaignStatus := by
  refine ⟨fun w e s0 s hs => ?_, fun op s0 s hs => ?_, fun e s0 s hs => ?_⟩ <;> unfold Machine.campaignStatus <;> dsimp only
  all_goals repeat' first
    | with_reducible assumption | with_reducible apply keeps_getter | with_reducible exact keepsOpt_none _

theorem cmd_campaignStop : CmdKeeps Machine.campaignStop := by
  refine ⟨fun w e s0 s hs => ?_, fun op s0 s hs => ?_, fun e s0 s hs => ?_⟩ <;> unfold Machine.campaignStop <;> dsimp only
  all_goals repeat' first
    | with_reducible assumption | (with_reducible refine keeps_setter _ _ _ _ (fun _ _ _ => ?_) ?_)
    | with_reducible apply keeps_flushCampaign | with_reducible apply keeps_endCampaign | with_reducible exact keepsOpt_none _
    | with_reducible apply keeps_ite

theorem cmd_campaignTargetRead : CmdKeeps Machine.campaignTargetRead := by
  refine ⟨fun w e s0 s hs => ?_, fun op s0 s hs => ?_, fun e s0 s hs => ?_⟩ <;> unfold Machine.campaignTargetRead <;> dsimp only
  all_goals repeat' first
    | with_reducible assumption | with_reducible apply keeps_getter | with_reducible exact keepsOpt_none _

theorem cmd_campaignTargets : CmdKeeps Machine.campaignTargets := by
  refine ⟨fun w e s0 s hs => ?_, fun op s0 s hs => ?_, fun e s0 s hs => ?_⟩ <;> unfold Machine.campaignTargets <;> dsimp only
  all_goals repeat' first
    | with_reducible assumption | with_reducible apply keeps_modCmp | with_reducible exact keepsOpt_none _

theorem cmd_campaignTune : CmdKeeps Machine.campaignTune := by
  refine ⟨fun w e s0 s hs => ?_, fun op s0 s hs => ?_, fun e s0 s hs => ?_⟩ <;> unfold Machine.campaignTune <;> dsimp only
  all_goals repeat' first
    | with_reducible assumption | (with_reducible refine keeps_setter _ _ _ _ (fun _ _ _ => ?_) ?_) | with_reducible apply keeps_modCmp
    | with_reducible exact keepsOpt_none _

theorem cmd_cryptCcmVector : CmdKeeps Machine.cryptCcmVector := by
  refine ⟨fun w e s0 s hs => ?_, fun op s0 s hs => ?_, fun e s0 s hs => ?_⟩ <;> unfold Machine.cryptCcmVector <;> dsimp only
  all_goals repeat' first
    | with_reducible assumption | (with_reducible refine keepsOpt_onceMasked (fun _ _ _ => ?_) ?_) | with_reducible apply keeps_cryptCount
    | with_reducible apply keeps_ccmVector | with_reducible apply keeps_ite_fst

theorem cmd_cryptCounters : CmdKeeps Machine.cryptCounters := by
  refine ⟨fun w e s0 s hs => ?_, fun op s0 s hs => ?_, fun e s0 s hs => ?_⟩ <;> unfold Machine.cryptCounters <;> dsimp only
  all_goals repeat' first
    | with_reducible assumption | with_reducible apply keeps_modCrypt | with_reducible exact keepsOpt_none _
    | with_reducible apply keeps_ite

theorem cmd_cryptCutThroughSet : CmdKeeps Machine.cryptCutThroughSet := by
  refine ⟨fun w e s0 s hs => ?_, fun op s0 s hs => ?_, fun e s0 s hs => ?_⟩ <;> unfold Machine.cryptCutThroughSet <;> dsimp only
  all_goals repeat' first
    | with_reducible assumption | (with_reducible refine keeps_setter _ _ _ _ (fun _ _ _ => ?_) ?_) | with_reducible apply keeps_modCrypt
    | with_reducible exact keepsOpt_none _

theorem cmd_cryptLaneAssign : CmdKeeps Machine.cryptLaneAssign := by
  refine ⟨fun w e s0 s hs => ?_, fun op s0 s hs => ?_, fun e s0 s hs => ?_⟩ <;> unfold Machine.cryptLaneAssign <;> dsimp only
  all_goals repeat' first
    | with_reducible assumption | (with_reducible refine keeps_setter _ _ _ _ (fun _ _ _ => ?_) ?_) | with_reducible apply keeps_modCrypt
    | with_reducible exact keepsOpt_none _

theorem cmd_cryptNodeChallenge : CmdKeeps Machine.cryptNodeChallenge := by
  refine ⟨fun w e s0 s hs => ?_, fun op s0 s hs => ?_, fun e s0 s hs => ?_⟩ <;> unfold Machine.cryptNodeChallenge <;> dsimp only
  all_goals repeat' first
    | with_reducible assumption | (with_reducible refine keeps_setter _ _ _ _ (fun _ _ _ => ?_) ?_)
    | with_reducible apply keeps_challengeNode | with_reducible exact keepsOpt_none _

theorem cmd_cryptRawBlock : CmdKeeps Machine.cryptRawBlock := by
  refine ⟨fun w e s0 s hs => ?_, fun op s0 s hs => ?_, fun e s0 s hs => ?_⟩ <;> unfold Machine.cryptRawBlock <;> dsimp only
  all_goals repeat' first
    | with_reducible assumption | (with_reducible refine keepsOpt_onceMasked (fun _ _ _ => ?_) ?_) | with_reducible apply keeps_cryptCount
    | with_reducible apply keeps_rawBlocks | with_reducible apply keeps_ite_fst

theorem cmd_cryptRouterEuiSet : CmdKeeps Machine.cryptRouterEuiSet := by
  refine ⟨fun w e s0 s hs => ?_, fun op s0 s hs => ?_, fun e s0 s hs => ?_⟩ <;> unfold Machine.cryptRouterEuiSet <;> dsimp only
  all_goals repeat' first
    | with_reducible assumption | (with_reducible refine keeps_setter _ _ _ _ (fun _ _ _ => ?_) ?_) | with_reducible apply keeps_modCrypt
    | with_reducible exact keepsOpt_none _

theorem cmd_cryptStatus : CmdKeeps Machine.cryptStatus := by
  refine ⟨fun w e s0 s hs => ?_, fun op s0 s hs => ?_, fun e s0 s hs => ?_⟩ <;> unfold Machine.cryptStatus <;> dsimp only
  all_goals repeat' first
    | with_reducible assumption | with_reducible apply keeps_getter | with_reducible exact keepsOpt_none _

theorem cmd_ethAddrSet : CmdKeeps Machine.ethAddrSet := by
  refine ⟨fun w e s0 s hs => ?_, fun op s0 s hs => ?_, fun e s0 s hs => ?_⟩ <;> unfold Machine.ethAddrSet <;> dsimp only
  all_goals repeat' first
    | with_reducible assumption | (with_reducible refine keeps_setter _ _ _ _ (fun _ _ _ => ?_) ?_) | with_reducible apply keeps_modEth
    | with_reducible exact keepsOpt_none _

theorem cmd_ethCounters : CmdKeeps Machine.ethCounters := by
  refine ⟨fun w e s0 s hs => ?_, fun op s0 s hs => ?_, fun e s0 s hs => ?_⟩ <;> unfold Machine.ethCounters <;> dsimp only
  all_goals repeat' first
    | with_reducible assumption | with_reducible apply keeps_modEth | with_reducible exact keepsOpt_none _
    | with_reducible apply keeps_ite

theorem cmd_ethHostSet : CmdKeeps Machine.ethHostSet := by
  refine ⟨fun w e s0 s hs => ?_, fun op s0 s hs => ?_, fun e s0 s hs => ?_⟩ <;> unfold Machine.ethHostSet <;> dsimp only
  all_goals repeat' first
    | with_reducible assumption | (with_reducible refine keeps_setter _ _ _ _ (fun _ _ _ => ?_) ?_) | with_reducible apply keeps_modEth
    | with_reducible exact keepsOpt_none _

theorem cmd_ethMacTune : CmdKeeps Machine.ethMacTune := by
  refine ⟨fun w e s0 s hs => ?_, fun op s0 s hs => ?_, fun e s0 s hs => ?_⟩ <;> unfold Machine.ethMacTune <;> dsimp only
  all_goals repeat' first
    | with_reducible assumption | (with_reducible refine keeps_setter _ _ _ _ (fun _ _ _ => ?_) ?_) | with_reducible apply keeps_modEth
    | with_reducible exact keepsOpt_none _

theorem cmd_ethNeighbourSet : CmdKeeps Machine.ethNeighbourSet := by
  refine ⟨fun w e s0 s hs => ?_, fun op s0 s hs => ?_, fun e s0 s hs => ?_⟩ <;> unfold Machine.ethNeighbourSet <;> dsimp only
  all_goals repeat' first
    | with_reducible assumption | (with_reducible refine keeps_setter _ _ _ _ (fun _ _ _ => ?_) ?_) | with_reducible apply keeps_modRoute
    | with_reducible exact keepsOpt_none _

theorem cmd_ethPortConfig : CmdKeeps Machine.ethPortConfig := by
  refine ⟨fun w e s0 s hs => ?_, fun op s0 s hs => ?_, fun e s0 s hs => ?_⟩ <;> unfold Machine.ethPortConfig <;> dsimp only
  all_goals repeat' first
    | with_reducible assumption | with_reducible apply keeps_holdOn | with_reducible apply keeps_modEth
    | with_reducible apply keeps_dropPortFrames | with_reducible apply keepsOpt_some

theorem cmd_ethPortStatus : CmdKeeps Machine.ethPortStatus := by
  refine ⟨fun w e s0 s hs => ?_, fun op s0 s hs => ?_, fun e s0 s hs => ?_⟩ <;> unfold Machine.ethPortStatus <;> dsimp only
  all_goals repeat' first
    | with_reducible assumption | with_reducible apply keeps_getter | with_reducible exact keepsOpt_none _

theorem cmd_keyAttest : CmdKeeps Machine.keyAttest := by
  refine ⟨fun w e s0 s hs => ?_, fun op s0 s hs => ?_, fun e s0 s hs => ?_⟩ <;> unfold Machine.keyAttest <;> dsimp only
  all_goals repeat' first
    | with_reducible assumption | with_reducible apply keeps_readSlot | with_reducible apply keeps_signWith
    | with_reducible exact keepsOpt_none _ | (with_reducible refine keeps_fst (by with_reducible assumption) ?_) | split

theorem cmd_keyBlobExport : CmdKeeps Machine.keyBlobExport := by
  refine ⟨fun w e s0 s hs => ?_, fun op s0 s hs => ?_, fun e s0 s hs => ?_⟩ <;> unfold Machine.keyBlobExport <;> dsimp only
  all_goals repeat' first
    | with_reducible assumption | with_reducible apply keeps_readSlot | with_reducible exact keepsOpt_none _
    | (with_reducible refine keeps_fst (by with_reducible assumption) ?_) | split

theorem cmd_keyBlobLoad : CmdKeeps Machine.keyBlobLoad := by
  refine ⟨fun w e s0 s hs => ?_, fun op s0 s hs => ?_, fun e s0 s hs => ?_⟩ <;> unfold Machine.keyBlobLoad <;> dsimp only
  all_goals repeat' first
    | with_reducible assumption | (with_reducible refine keepsOpt_onceMasked (fun _ _ _ => ?_) ?_)
    | (with_reducible refine keeps_whenMasked _ _ _ (fun _ _ _ => ?_) ?_) | with_reducible apply keeps_blobLoad

theorem cmd_keyBlobWrapOut : CmdKeeps Machine.keyBlobWrapOut := by
  refine ⟨fun w e s0 s hs => ?_, fun op s0 s hs => ?_, fun e s0 s hs => ?_⟩ <;> unfold Machine.keyBlobWrapOut <;> dsimp only
  all_goals repeat' first
    | with_reducible assumption | with_reducible apply keeps_readSlot | with_reducible apply keeps_chargeUse
    | with_reducible exact keepsOpt_none _ | (with_reducible refine keeps_fst (by with_reducible assumption) ?_) | split

theorem cmd_keyCounters : CmdKeeps Machine.keyCounters := by
  refine ⟨fun w e s0 s hs => ?_, fun op s0 s hs => ?_, fun e s0 s hs => ?_⟩ <;> unfold Machine.keyCounters <;> dsimp only
  all_goals repeat' first
    | with_reducible assumption | with_reducible apply keeps_modKey | with_reducible exact keepsOpt_none _
    | with_reducible apply keeps_ite

theorem cmd_keyDebugAuthSet : CmdKeeps Machine.keyDebugAuthSet := by
  refine ⟨fun w e s0 s hs => ?_, fun op s0 s hs => ?_, fun e s0 s hs => ?_⟩ <;> unfold Machine.keyDebugAuthSet <;> dsimp only
  all_goals repeat' first
    | with_reducible assumption | (with_reducible refine keeps_setter _ _ _ _ (fun _ _ _ => ?_) ?_) | with_reducible apply keeps_modKey
    | with_reducible exact keepsOpt_none _

theorem cmd_keyDebugChallenge : CmdKeeps Machine.keyDebugChallenge := by
  refine ⟨fun w e s0 s hs => ?_, fun op s0 s hs => ?_, fun e s0 s hs => ?_⟩ <;> unfold Machine.keyDebugChallenge <;> dsimp only
  all_goals repeat' first
    | with_reducible assumption | with_reducible apply keeps_drawEntropy | with_reducible apply keeps_modKey
    | with_reducible exact keepsOpt_none _

theorem cmd_keyDebugUnlock : CmdKeeps Machine.keyDebugUnlock := by
  refine ⟨fun w e s0 s hs => ?_, fun op s0 s hs => ?_, fun e s0 s hs => ?_⟩ <;> unfold Machine.keyDebugUnlock <;> dsimp only
  all_goals repeat' first
    | with_reducible assumption | with_reducible apply keeps_debugUnlock | with_reducible exact keepsOpt_none _

theorem cmd_keyGenMap : CmdKeeps Machine.keyGenMap := by
  refine ⟨fun w e s0 s hs => ?_, fun op s0 s hs => ?_, fun e s0 s hs => ?_⟩ <;> unfold Machine.keyGenMap <;> dsimp only
  all_goals repeat' first
    | with_reducible assumption | (with_reducible refine keeps_setter _ _ _ _ (fun _ _ _ => ?_) ?_) | with_reducible apply keeps_modKey
    | with_reducible exact keepsOpt_none _

theorem cmd_keyGenQuery : CmdKeeps Machine.keyGenQuery := by
  refine ⟨fun w e s0 s hs => ?_, fun op s0 s hs => ?_, fun e s0 s hs => ?_⟩ <;> unfold Machine.keyGenQuery <;> dsimp only
  all_goals repeat' first
    | with_reducible assumption | with_reducible apply keeps_getter | with_reducible exact keepsOpt_none _

theorem cmd_keyGenerate : CmdKeeps Machine.keyGenerate := by
  refine ⟨fun w e s0 s hs => ?_, fun op s0 s hs => ?_, fun e s0 s hs => ?_⟩ <;> unfold Machine.keyGenerate <;> dsimp only
  all_goals repeat' first
    | with_reducible assumption | (with_reducible refine keeps_setter _ _ _ _ (fun _ _ _ => ?_) ?_)
    | with_reducible apply keeps_drawEntropy | with_reducible apply keeps_writeSlot | with_reducible exact keepsOpt_none _

theorem cmd_keyIdentityGenerate : CmdKeeps Machine.keyIdentityGenerate := by
  refine ⟨fun w e s0 s hs => ?_, fun op s0 s hs => ?_, fun e s0 s hs => ?_⟩ <;> unfold Machine.keyIdentityGenerate <;> dsimp only
  all_goals repeat' first
    | with_reducible assumption | with_reducible apply keeps_longStart | with_reducible apply keeps_drawEntropy
    | with_reducible apply keeps_loadIdentity | with_reducible apply keeps_modKey | with_reducible apply keepsOpt_some

theorem cmd_keyIdentityRead : CmdKeeps Machine.keyIdentityRead := by
  refine ⟨fun w e s0 s hs => ?_, fun op s0 s hs => ?_, fun e s0 s hs => ?_⟩ <;> unfold Machine.keyIdentityRead <;> dsimp only
  all_goals repeat' first
    | with_reducible assumption | with_reducible apply keeps_identityPublic | with_reducible exact keepsOpt_none _
    | (with_reducible refine keeps_fst (by with_reducible assumption) ?_) | split

theorem cmd_keyImportRaw : CmdKeeps Machine.keyImportRaw := by
  refine ⟨fun w e s0 s hs => ?_, fun op s0 s hs => ?_, fun e s0 s hs => ?_⟩ <;> unfold Machine.keyImportRaw <;> dsimp only
  all_goals repeat' first
    | with_reducible assumption | (with_reducible refine keepsOpt_onceMasked (fun _ _ _ => ?_) ?_)
    | (with_reducible refine keeps_whenMasked _ _ _ (fun _ _ _ => ?_) ?_) | with_reducible apply keeps_importKey

theorem cmd_keyImportWrapped : CmdKeeps Machine.keyImportWrapped := by
  refine ⟨fun w e s0 s hs => ?_, fun op s0 s hs => ?_, fun e s0 s hs => ?_⟩ <;> unfold Machine.keyImportWrapped <;> dsimp only
  all_goals repeat' first
    | with_reducible assumption | (with_reducible refine keepsOpt_onceMasked (fun _ _ _ => ?_) ?_)
    | (with_reducible refine keeps_whenMasked _ _ _ (fun _ _ _ => ?_) ?_) | with_reducible apply keeps_importWrapped

theorem cmd_keyKdfVector : CmdKeeps Machine.keyKdfVector := by
  refine ⟨fun w e s0 s hs => ?_, fun op s0 s hs => ?_, fun e s0 s hs => ?_⟩ <;> unfold Machine.keyKdfVector <;> dsimp only
  all_goals repeat' first
    | with_reducible assumption | with_reducible apply keeps_getter | with_reducible exact keepsOpt_none _

theorem cmd_keyLifecycleAdvance : CmdKeeps Machine.keyLifecycleAdvance := by
  refine ⟨fun w e s0 s hs => ?_, fun op s0 s hs => ?_, fun e s0 s hs => ?_⟩ <;> unfold Machine.keyLifecycleAdvance <;> dsimp only
  all_goals repeat' first
    | with_reducible assumption | with_reducible apply keeps_longStart | with_reducible apply keeps_zeroizeKeys
    | with_reducible apply keeps_modKey | with_reducible apply keepsOpt_some | split | dsimp only
    | (with_reducible refine keeps_mk ?_ rfl rfl)

theorem cmd_keyRevoke : CmdKeeps Machine.keyRevoke := by
  refine ⟨fun w e s0 s hs => ?_, fun op s0 s hs => ?_, fun e s0 s hs => ?_⟩ <;> unfold Machine.keyRevoke <;> dsimp only
  all_goals repeat' first
    | with_reducible assumption | with_reducible apply keeps_revokeSlot | with_reducible exact keepsOpt_none _ | split

theorem cmd_keySign : CmdKeeps Machine.keySign := by
  refine ⟨fun w e s0 s hs => ?_, fun op s0 s hs => ?_, fun e s0 s hs => ?_⟩ <;> unfold Machine.keySign <;> dsimp only
  all_goals repeat' first
    | with_reducible assumption | with_reducible apply keeps_readSlot | with_reducible apply keeps_signWith
    | with_reducible apply keeps_chargeUse | with_reducible exact keepsOpt_none _
    | (with_reducible refine keeps_fst (by with_reducible assumption) ?_) | split

theorem cmd_keySlotQuery : CmdKeeps Machine.keySlotQuery := by
  refine ⟨fun w e s0 s hs => ?_, fun op s0 s hs => ?_, fun e s0 s hs => ?_⟩ <;> unfold Machine.keySlotQuery <;> dsimp only
  all_goals repeat' first
    | with_reducible assumption | with_reducible apply keeps_getter | with_reducible exact keepsOpt_none _

theorem cmd_keyTamperConfig : CmdKeeps Machine.keyTamperConfig := by
  refine ⟨fun w e s0 s hs => ?_, fun op s0 s hs => ?_, fun e s0 s hs => ?_⟩ <;> unfold Machine.keyTamperConfig <;> dsimp only
  all_goals repeat' first
    | with_reducible assumption | (with_reducible refine keeps_setter _ _ _ _ (fun _ _ _ => ?_) ?_) | with_reducible apply keeps_modKey
    | with_reducible exact keepsOpt_none _

theorem cmd_keyTamperStatus : CmdKeeps Machine.keyTamperStatus := by
  refine ⟨fun w e s0 s hs => ?_, fun op s0 s hs => ?_, fun e s0 s hs => ?_⟩ <;> unfold Machine.keyTamperStatus <;> dsimp only
  all_goals repeat' first
    | with_reducible assumption | with_reducible apply keeps_getter | with_reducible exact keepsOpt_none _

theorem cmd_noCommand : CmdKeeps Machine.noCommand := by
  refine ⟨fun w e s0 s hs => ?_, fun op s0 s hs => ?_, fun e s0 s hs => ?_⟩ <;> unfold Machine.noCommand <;> dsimp only
  all_goals repeat' first
    | with_reducible assumption | with_reducible apply keeps_getter | with_reducible exact keepsOpt_none _

theorem cmd_nodeAdd : CmdKeeps Machine.nodeAdd := by
  refine ⟨fun w e s0 s hs => ?_, fun op s0 s hs => ?_, fun e s0 s hs => ?_⟩ <;> unfold Machine.nodeAdd <;> dsimp only
  all_goals repeat' first
    | with_reducible assumption | with_reducible apply keeps_insertFailed | with_reducible apply keeps_insertEntry
    | with_reducible apply keeps_fileFrom | with_reducible apply keeps_journalAdd | with_reducible exact keepsOpt_none _
    | (with_reducible refine keeps_fst (by with_reducible assumption) ?_) | split

theorem cmd_nodeAgeSet : CmdKeeps Machine.nodeAgeSet := by
  refine ⟨fun w e s0 s hs => ?_, fun op s0 s hs => ?_, fun e s0 s hs => ?_⟩ <;> unfold Machine.nodeAgeSet <;> dsimp only
  all_goals repeat' first
    | with_reducible assumption | (with_reducible refine keeps_setter _ _ _ _ (fun _ _ _ => ?_) ?_) | with_reducible apply keeps_modNodes
    | with_reducible exact keepsOpt_none _

theorem cmd_nodeColdChallenge : CmdKeeps Machine.nodeColdChallenge := by
  refine ⟨fun w e s0 s hs => ?_, fun op s0 s hs => ?_, fun e s0 s hs => ?_⟩ <;> unfold Machine.nodeColdChallenge <;> dsimp only
  all_goals repeat' first
    | with_reducible assumption | with_reducible apply keeps_longStart | with_reducible apply keeps_challengeNode
    | with_reducible apply keepsOpt_some | with_reducible apply keepsOpt_ite | with_reducible refine keeps_foldl ?_ fun _ _ _ => ?_
    | dsimp only | (with_reducible refine keeps_mk ?_ rfl rfl)

theorem cmd_nodeCounterRestore : CmdKeeps Machine.nodeCounterRestore := by
  refine ⟨fun w e s0 s hs => ?_, fun op s0 s hs => ?_, fun e s0 s hs => ?_⟩ <;> unfold Machine.nodeCounterRestore <;> dsimp only
  all_goals repeat' first
    | with_reducible assumption | with_reducible apply keeps_takePiece | with_reducible apply keepsOpt_some
    | with_reducible apply keeps_ite_fst

theorem cmd_nodeCounterSnapshot : CmdKeeps Machine.nodeCounterSnapshot := by
  refine ⟨fun w e s0 s hs => ?_, fun op s0 s hs => ?_, fun e s0 s hs => ?_⟩ <;> unfold Machine.nodeCounterSnapshot <;> dsimp only
  all_goals repeat' first
    | with_reducible assumption | with_reducible apply keeps_longStart | with_reducible apply keepsOpt_some

theorem cmd_nodeCounters : CmdKeeps Machine.nodeCounters := by
  refine ⟨fun w e s0 s hs => ?_, fun op s0 s hs => ?_, fun e s0 s hs => ?_⟩ <;> unfold Machine.nodeCounters <;> dsimp only
  all_goals repeat' first
    | with_reducible assumption | with_reducible apply keeps_modNodes | with_reducible exact keepsOpt_none _
    | with_reducible apply keeps_ite

theorem cmd_nodeHashSeed : CmdKeeps Machine.nodeHashSeed := by
  refine ⟨fun w e s0 s hs => ?_, fun op s0 s hs => ?_, fun e s0 s hs => ?_⟩ <;> unfold Machine.nodeHashSeed <;> dsimp only
  all_goals repeat' first
    | with_reducible assumption | (with_reducible refine keeps_setter _ _ _ _ (fun _ _ _ => ?_) ?_) | with_reducible apply keeps_modNodes
    | with_reducible exact keepsOpt_none _

theorem cmd_nodeJournalRead : CmdKeeps Machine.nodeJournalRead := by
  refine ⟨fun w e s0 s hs => ?_, fun op s0 s hs => ?_, fun e s0 s hs => ?_⟩ <;> unfold Machine.nodeJournalRead <;> dsimp only
  all_goals repeat' first
    | with_reducible assumption | with_reducible apply keeps_modNodes | with_reducible exact keepsOpt_none _

theorem cmd_nodeLearnSet : CmdKeeps Machine.nodeLearnSet := by
  refine ⟨fun w e s0 s hs => ?_, fun op s0 s hs => ?_, fun e s0 s hs => ?_⟩ <;> unfold Machine.nodeLearnSet <;> dsimp only
  all_goals repeat' first
    | with_reducible assumption | (with_reducible refine keeps_setter _ _ _ _ (fun _ _ _ => ?_) ?_) | with_reducible apply keeps_modPort
    | with_reducible apply keeps_refillPort | with_reducible exact keepsOpt_none _

theorem cmd_nodeRead : CmdKeeps Machine.nodeRead := by
  refine ⟨fun w e s0 s hs => ?_, fun op s0 s hs => ?_, fun e s0 s hs => ?_⟩ <;> unfold Machine.nodeRead <;> dsimp only
  all_goals repeat' first
    | with_reducible assumption | with_reducible apply keeps_keyPass | with_reducible apply keeps_readEntryWords
    | with_reducible exact keepsOpt_none _ | with_reducible refine keeps_foldl ?_ fun _ _ _ => ?_ | split

theorem cmd_nodeRemove : CmdKeeps Machine.nodeRemove := by
  refine ⟨fun w e s0 s hs => ?_, fun op s0 s hs => ?_, fun e s0 s hs => ?_⟩ <;> unfold Machine.nodeRemove <;> dsimp only
  all_goals repeat' first
    | with_reducible assumption | (with_reducible refine keeps_setter _ _ _ _ (fun _ _ _ => ?_) ?_) | with_reducible apply keeps_keyPass
    | with_reducible apply keeps_deleteNode | with_reducible apply keeps_flushNode | with_reducible exact keepsOpt_none _ | split

theorem cmd_nodeScrubSet : CmdKeeps Machine.nodeScrubSet := by
  refine ⟨fun w e s0 s hs => ?_, fun op s0 s hs => ?_, fun e s0 s hs => ?_⟩ <;> unfold Machine.nodeScrubSet <;> dsimp only
  all_goals repeat' first
    | with_reducible assumption | (with_reducible refine keeps_setter _ _ _ _ (fun _ _ _ => ?_) ?_) | with_reducible apply keeps_modNodes
    | with_reducible exact keepsOpt_none _

theorem cmd_nodeSet : CmdKeeps Machine.nodeSet := by
  refine ⟨fun w e s0 s hs => ?_, fun op s0 s hs => ?_, fun e s0 s hs => ?_⟩ <;> unfold Machine.nodeSet <;> dsimp only
  all_goals repeat' first
    | with_reducible assumption | (with_reducible refine keeps_setter _ _ _ _ (fun _ _ _ => ?_) ?_)
    | with_reducible apply keeps_journalAdd | with_reducible apply keeps_writeEntry | with_reducible exact keepsOpt_none _
    | with_reducible apply keeps_ite | split

theorem cmd_nodeShadowSet : CmdKeeps Machine.nodeShadowSet := by
  refine ⟨fun w e s0 s hs => ?_, fun op s0 s hs => ?_, fun e s0 s hs => ?_⟩ <;> unfold Machine.nodeShadowSet <;> dsimp only
  all_goals repeat' first
    | with_reducible assumption | (with_reducible refine keeps_setter _ _ _ _ (fun _ _ _ => ?_) ?_) | with_reducible apply keeps_modNodes
    | with_reducible exact keepsOpt_none _

theorem cmd_nodeTableLoad : CmdKeeps Machine.nodeTableLoad := by
  refine ⟨fun w e s0 s hs => ?_, fun op s0 s hs => ?_, fun e s0 s hs => ?_⟩ <;> unfold Machine.nodeTableLoad <;> dsimp only
  all_goals repeat' first
    | with_reducible assumption | with_reducible apply keeps_longStart | with_reducible apply keeps_unfile
    | with_reducible apply keeps_modNodes | with_reducible apply keeps_fileFrom | with_reducible apply keeps_journalAdd
    | with_reducible apply keepsOpt_some | with_reducible apply keeps_ite | with_reducible refine keeps_foldl ?_ fun _ _ _ => ?_

theorem cmd_nodeTableStatus : CmdKeeps Machine.nodeTableStatus := by
  refine ⟨fun w e s0 s hs => ?_, fun op s0 s hs => ?_, fun e s0 s hs => ?_⟩ <;> unfold Machine.nodeTableStatus <;> dsimp only
  all_goals repeat' first
    | with_reducible assumption | with_reducible apply keeps_refillPort | with_reducible exact keepsOpt_none _
    | with_reducible refine keeps_foldl ?_ fun _ _ _ => ?_

theorem cmd_nodeWriteRaw : CmdKeeps Machine.nodeWriteRaw := by
  refine ⟨fun w e s0 s hs => ?_, fun op s0 s hs => ?_, fun e s0 s hs => ?_⟩ <;> unfold Machine.nodeWriteRaw <;> dsimp only
  all_goals repeat' first
    | with_reducible assumption | (with_reducible refine keeps_setter _ _ _ _ (fun _ _ _ => ?_) ?_) | with_reducible apply keeps_modNodes
    | with_reducible apply keeps_retireStream | with_reducible apply keeps_writeEntry | with_reducible apply keeps_unfile
    | with_reducible apply keeps_journalAdd | with_reducible exact keepsOpt_none _ | with_reducible apply keeps_ite | split

theorem cmd_orbitClassLoad : CmdKeeps Machine.orbitClassLoad := by
  refine ⟨fun w e s0 s hs => ?_, fun op s0 s hs => ?_, fun e s0 s hs => ?_⟩ <;> unfold Machine.orbitClassLoad <;> dsimp only
  all_goals repeat' first
    | with_reducible assumption | with_reducible apply keeps_changedSchedule | with_reducible apply keeps_setClass
    | with_reducible exact keepsOpt_none _

theorem cmd_orbitClassLoadRaw : CmdKeeps Machine.orbitClassLoadRaw := by
  refine ⟨fun w e s0 s hs => ?_, fun op s0 s hs => ?_, fun e s0 s hs => ?_⟩ <;> unfold Machine.orbitClassLoadRaw <;> dsimp only
  all_goals repeat' first
    | with_reducible assumption | with_reducible apply keeps_changedSchedule | with_reducible apply keeps_setClass
    | with_reducible exact keepsOpt_none _

theorem cmd_orbitClassRemove : CmdKeeps Machine.orbitClassRemove := by
  refine ⟨fun w e s0 s hs => ?_, fun op s0 s hs => ?_, fun e s0 s hs => ?_⟩ <;> unfold Machine.orbitClassRemove <;> dsimp only
  all_goals repeat' first
    | with_reducible assumption | with_reducible apply keeps_changedSchedule | with_reducible apply keeps_modOrbit
    | with_reducible exact keepsOpt_none _

theorem cmd_orbitCounters : CmdKeeps Machine.orbitCounters := by
  refine ⟨fun w e s0 s hs => ?_, fun op s0 s hs => ?_, fun e s0 s hs => ?_⟩ <;> unfold Machine.orbitCounters <;> dsimp only
  all_goals repeat' first
    | with_reducible assumption | with_reducible apply keeps_modOrbit | with_reducible exact keepsOpt_none _
    | with_reducible apply keeps_ite

theorem cmd_orbitDriftSet : CmdKeeps Machine.orbitDriftSet := by
  refine ⟨fun w e s0 s hs => ?_, fun op s0 s hs => ?_, fun e s0 s hs => ?_⟩ <;> unfold Machine.orbitDriftSet <;> dsimp only
  all_goals repeat' first
    | with_reducible assumption | (with_reducible refine keeps_setter _ _ _ _ (fun _ _ _ => ?_) ?_) | with_reducible apply keeps_modNode
    | with_reducible exact keepsOpt_none _

theorem cmd_orbitDwellStatus : CmdKeeps Machine.orbitDwellStatus := by
  refine ⟨fun w e s0 s hs => ?_, fun op s0 s hs => ?_, fun e s0 s hs => ?_⟩ <;> unfold Machine.orbitDwellStatus <;> dsimp only
  all_goals repeat' first
    | with_reducible assumption | with_reducible apply keeps_getter | with_reducible exact keepsOpt_none _

theorem cmd_orbitFrameSet : CmdKeeps Machine.orbitFrameSet := by
  refine ⟨fun w e s0 s hs => ?_, fun op s0 s hs => ?_, fun e s0 s hs => ?_⟩ <;> unfold Machine.orbitFrameSet <;> dsimp only
  all_goals repeat' first
    | with_reducible assumption | with_reducible apply keeps_changedSchedule | with_reducible apply keeps_setFrame
    | with_reducible exact keepsOpt_none _

theorem cmd_orbitHopSet : CmdKeeps Machine.orbitHopSet := by
  refine ⟨fun w e s0 s hs => ?_, fun op s0 s hs => ?_, fun e s0 s hs => ?_⟩ <;> unfold Machine.orbitHopSet <;> dsimp only
  all_goals repeat' first
    | with_reducible assumption | with_reducible apply keeps_setHop | with_reducible apply keeps_changedSchedule
    | with_reducible exact keepsOpt_none _

theorem cmd_orbitNodeSchedule : CmdKeeps Machine.orbitNodeSchedule := by
  refine ⟨fun w e s0 s hs => ?_, fun op s0 s hs => ?_, fun e s0 s hs => ?_⟩ <;> unfold Machine.orbitNodeSchedule <;> dsimp only
  all_goals repeat' first
    | with_reducible assumption | with_reducible apply keeps_modOrbit | with_reducible apply keeps_replicateOffer
    | with_reducible apply keeps_parkFirmware | with_reducible exact keepsOpt_none _ | split

theorem cmd_orbitNodeStatus : CmdKeeps Machine.orbitNodeStatus := by
  refine ⟨fun w e s0 s hs => ?_, fun op s0 s hs => ?_, fun e s0 s hs => ?_⟩ <;> unfold Machine.orbitNodeStatus <;> dsimp only
  all_goals repeat' first
    | with_reducible assumption | with_reducible apply keeps_getter | with_reducible exact keepsOpt_none _

theorem cmd_orbitParentSet : CmdKeeps Machine.orbitParentSet := by
  refine ⟨fun w e s0 s hs => ?_, fun op s0 s hs => ?_, fun e s0 s hs => ?_⟩ <;> unfold Machine.orbitParentSet <;> dsimp only
  all_goals repeat' first
    | with_reducible assumption | (with_reducible refine keeps_setter _ _ _ _ (fun _ _ _ => ?_) ?_) | with_reducible apply keeps_modOrbit
    | with_reducible exact keepsOpt_none _

theorem cmd_orbitPrepLead : CmdKeeps Machine.orbitPrepLead := by
  refine ⟨fun w e s0 s hs => ?_, fun op s0 s hs => ?_, fun e s0 s hs => ?_⟩ <;> unfold Machine.orbitPrepLead <;> dsimp only
  all_goals repeat' first
    | with_reducible assumption | (with_reducible refine keeps_setter _ _ _ _ (fun _ _ _ => ?_) ?_) | with_reducible apply keeps_modOrbit
    | with_reducible exact keepsOpt_none _

theorem cmd_orbitReportSet : CmdKeeps Machine.orbitReportSet := by
  refine ⟨fun w e s0 s hs => ?_, fun op s0 s hs => ?_, fun e s0 s hs => ?_⟩ <;> unfold Machine.orbitReportSet <;> dsimp only
  all_goals repeat' first
    | with_reducible assumption | (with_reducible refine keeps_setter _ _ _ _ (fun _ _ _ => ?_) ?_) | with_reducible apply keeps_modOrbit
    | with_reducible exact keepsOpt_none _

theorem cmd_orbitStageCells : CmdKeeps Machine.orbitStageCells := by
  refine ⟨fun w e s0 s hs => ?_, fun op s0 s hs => ?_, fun e s0 s hs => ?_⟩ <;> unfold Machine.orbitStageCells <;> dsimp only
  all_goals repeat' first
    | with_reducible assumption | with_reducible apply keeps_setCells | with_reducible apply keeps_changedSchedule
    | with_reducible exact keepsOpt_none _

theorem cmd_orbitStart : CmdKeeps Machine.orbitStart := by
  refine ⟨fun w e s0 s hs => ?_, fun op s0 s hs => ?_, fun e s0 s hs => ?_⟩ <;> unfold Machine.orbitStart <;> dsimp only
  all_goals repeat' first
    | with_reducible assumption | (with_reducible refine keeps_setter _ _ _ _ (fun _ _ _ => ?_) ?_) | with_reducible apply keeps_modOrbit
    | with_reducible apply keeps_refileAll | with_reducible exact keepsOpt_none _

theorem cmd_orbitStatus : CmdKeeps Machine.orbitStatus := by
  refine ⟨fun w e s0 s hs => ?_, fun op s0 s hs => ?_, fun e s0 s hs => ?_⟩ <;> unfold Machine.orbitStatus <;> dsimp only
  all_goals repeat' first
    | with_reducible assumption | with_reducible apply keeps_getter | with_reducible exact keepsOpt_none _

theorem cmd_orbitStop : CmdKeeps Machine.orbitStop := by
  refine ⟨fun w e s0 s hs => ?_, fun op s0 s hs => ?_, fun e s0 s hs => ?_⟩ <;> unfold Machine.orbitStop <;> dsimp only
  all_goals repeat' first
    | with_reducible assumption | (with_reducible refine keeps_setter _ _ _ _ (fun _ _ _ => ?_) ?_)
    | with_reducible apply keeps_orbitStopped | with_reducible exact keepsOpt_none _

theorem cmd_orbitTimingSet : CmdKeeps Machine.orbitTimingSet := by
  refine ⟨fun w e s0 s hs => ?_, fun op s0 s hs => ?_, fun e s0 s hs => ?_⟩ <;> unfold Machine.orbitTimingSet <;> dsimp only
  all_goals repeat' first
    | with_reducible assumption | (with_reducible refine keeps_setter _ _ _ _ (fun _ _ _ => ?_) ?_) | with_reducible apply keeps_modOrbit
    | with_reducible exact keepsOpt_none _

theorem cmd_pairConfig : CmdKeeps Machine.pairConfig := by
  refine ⟨fun w e s0 s hs => ?_, fun op s0 s hs => ?_, fun e s0 s hs => ?_⟩ <;> unfold Machine.pairConfig <;> dsimp only
  all_goals repeat' first
    | with_reducible assumption | with_reducible apply keeps_modPair | with_reducible apply keeps_gateOpenOp
    | with_reducible apply keeps_closeGate | with_reducible apply keeps_sendHello | with_reducible exact keepsOpt_none _
    | with_reducible apply keepsOpt_some | with_reducible apply keepsOpt_ite | with_reducible apply keeps_ite
    | with_reducible apply keeps_ite_fst | (with_reducible refine keeps_mk ?_ rfl rfl)

theorem cmd_pairCounters : CmdKeeps Machine.pairCounters := by
  refine ⟨fun w e s0 s hs => ?_, fun op s0 s hs => ?_, fun e s0 s hs => ?_⟩ <;> unfold Machine.pairCounters <;> dsimp only
  all_goals repeat' first
    | with_reducible assumption | with_reducible apply keeps_modPair | with_reducible exact keepsOpt_none _
    | with_reducible apply keeps_ite

theorem cmd_pairForceSolo : CmdKeeps Machine.pairForceSolo := by
  refine ⟨fun w e s0 s hs => ?_, fun op s0 s hs => ?_, fun e s0 s hs => ?_⟩ <;> unfold Machine.pairForceSolo <;> dsimp only
  all_goals repeat' first
    | with_reducible assumption | with_reducible apply keeps_goSolo | with_reducible apply keeps_takeOver
    | with_reducible exact keepsOpt_none _ | with_reducible apply keeps_ite

theorem cmd_pairRelinquish : CmdKeeps Machine.pairRelinquish := by
  refine ⟨fun w e s0 s hs => ?_, fun op s0 s hs => ?_, fun e s0 s hs => ?_⟩ <;> unfold Machine.pairRelinquish <;> dsimp only
  all_goals repeat' first
    | with_reducible assumption | with_reducible apply keeps_modPair | with_reducible apply keeps_closeGate
    | with_reducible apply keeps_becomeStandby | with_reducible exact keepsOpt_none _ | with_reducible apply keepsOpt_some
    | with_reducible apply keepsOpt_ite

theorem cmd_pairStatus : CmdKeeps Machine.pairStatus := by
  refine ⟨fun w e s0 s hs => ?_, fun op s0 s hs => ?_, fun e s0 s hs => ?_⟩ <;> unfold Machine.pairStatus <;> dsimp only
  all_goals repeat' first
    | with_reducible assumption | with_reducible apply keeps_getter | with_reducible exact keepsOpt_none _

theorem cmd_pwrBlockQuery : CmdKeeps Machine.pwrBlockQuery := by
  refine ⟨fun w e s0 s hs => ?_, fun op s0 s hs => ?_, fun e s0 s hs => ?_⟩ <;> unfold Machine.pwrBlockQuery <;> dsimp only
  all_goals repeat' first
    | with_reducible assumption | with_reducible apply keeps_getter | with_reducible exact keepsOpt_none _

theorem cmd_pwrDomainSet : CmdKeeps Machine.pwrDomainSet := by
  refine ⟨fun w e s0 s hs => ?_, fun op s0 s hs => ?_, fun e s0 s hs => ?_⟩ <;> unfold Machine.pwrDomainSet <;> dsimp only
  all_goals repeat' first
    | with_reducible assumption | with_reducible apply keeps_wakeMask | with_reducible apply keeps_domNext
    | with_reducible exact keepsOpt_none _ | with_reducible apply keeps_ite | with_reducible apply keeps_ite_fst | dsimp only
    | (with_reducible refine keeps_mk ?_ rfl rfl)

theorem cmd_pwrPolicySet : CmdKeeps Machine.pwrPolicySet := by
  refine ⟨fun w e s0 s hs => ?_, fun op s0 s hs => ?_, fun e s0 s hs => ?_⟩ <;> unfold Machine.pwrPolicySet <;> dsimp only
  all_goals repeat' first
    | with_reducible assumption | (with_reducible refine keeps_setter _ _ _ _ (fun _ _ _ => ?_) ?_) | with_reducible apply keeps_modDom
    | with_reducible exact keepsOpt_none _

theorem cmd_pwrRefSet : CmdKeeps Machine.pwrRefSet := by
  refine ⟨fun w e s0 s hs => ?_, fun op s0 s hs => ?_, fun e s0 s hs => ?_⟩ <;> unfold Machine.pwrRefSet <;> dsimp only
  all_goals repeat' first
    | with_reducible assumption | (with_reducible refine keeps_setter _ _ _ _ (fun _ _ _ => ?_) ?_) | with_reducible exact keepsOpt_none _
    | (with_reducible refine keeps_mk ?_ rfl rfl)

theorem cmd_pwrStatus : CmdKeeps Machine.pwrStatus := by
  refine ⟨fun w e s0 s hs => ?_, fun op s0 s hs => ?_, fun e s0 s hs => ?_⟩ <;> unfold Machine.pwrStatus <;> dsimp only
  all_goals repeat' first
    | with_reducible assumption | with_reducible apply keeps_getter | with_reducible exact keepsOpt_none _

theorem cmd_queueArbClass : CmdKeeps Machine.queueArbClass := by
  refine ⟨fun w e s0 s hs => ?_, fun op s0 s hs => ?_, fun e s0 s hs => ?_⟩ <;> unfold Machine.queueArbClass <;> dsimp only
  all_goals repeat' first
    | with_reducible assumption | (with_reducible refine keeps_setter _ _ _ _ (fun _ _ _ => ?_) ?_) | with_reducible apply keeps_modQueue
    | with_reducible exact keepsOpt_none _

theorem cmd_queueArbStarve : CmdKeeps Machine.queueArbStarve := by
  refine ⟨fun w e s0 s hs => ?_, fun op s0 s hs => ?_, fun e s0 s hs => ?_⟩ <;> unfold Machine.queueArbStarve <;> dsimp only
  all_goals repeat' first
    | with_reducible assumption | (with_reducible refine keeps_setter _ _ _ _ (fun _ _ _ => ?_) ?_) | with_reducible apply keeps_modQueue
    | with_reducible exact keepsOpt_none _

theorem cmd_queueArbStatus : CmdKeeps Machine.queueArbStatus := by
  refine ⟨fun w e s0 s hs => ?_, fun op s0 s hs => ?_, fun e s0 s hs => ?_⟩ <;> unfold Machine.queueArbStatus <;> dsimp only
  all_goals repeat' first
    | with_reducible assumption | with_reducible apply keeps_modQueue | with_reducible exact keepsOpt_none _

theorem cmd_queueConfig : CmdKeeps Machine.queueConfig := by
  refine ⟨fun w e s0 s hs => ?_, fun op s0 s hs => ?_, fun e s0 s hs => ?_⟩ <;> unfold Machine.queueConfig <;> dsimp only
  all_goals repeat' first
    | with_reducible assumption | (with_reducible refine keeps_setter _ _ _ _ (fun _ _ _ => ?_) ?_) | with_reducible apply keeps_modShape
    | with_reducible exact keepsOpt_none _

theorem cmd_queueCounters : CmdKeeps Machine.queueCounters := by
  refine ⟨fun w e s0 s hs => ?_, fun op s0 s hs => ?_, fun e s0 s hs => ?_⟩ <;> unfold Machine.queueCounters <;> dsimp only
  all_goals repeat' first
    | with_reducible assumption | with_reducible apply keeps_modQueue | with_reducible exact keepsOpt_none _
    | with_reducible apply keeps_ite

theorem cmd_queueFlush : CmdKeeps Machine.queueFlush := by
  refine ⟨fun w e s0 s hs => ?_, fun op s0 s hs => ?_, fun e s0 s hs => ?_⟩ <;> unfold Machine.queueFlush <;> dsimp only
  all_goals repeat' first
    | with_reducible assumption | with_reducible apply keeps_flushFrame | with_reducible apply keeps_queueCount
    | with_reducible exact keepsOpt_none _ | with_reducible refine keeps_foldl ?_ fun _ _ _ => ?_

theorem cmd_queueFwSet : CmdKeeps Machine.queueFwSet := by
  refine ⟨fun w e s0 s hs => ?_, fun op s0 s hs => ?_, fun e s0 s hs => ?_⟩ <;> unfold Machine.queueFwSet <;> dsimp only
  all_goals repeat' first
    | with_reducible assumption | (with_reducible refine keeps_setter _ _ _ _ (fun _ _ _ => ?_) ?_) | with_reducible apply keeps_modQueue
    | with_reducible exact keepsOpt_none _

theorem cmd_queueGateSet : CmdKeeps Machine.queueGateSet := by
  refine ⟨fun w e s0 s hs => ?_, fun op s0 s hs => ?_, fun e s0 s hs => ?_⟩ <;> unfold Machine.queueGateSet <;> dsimp only
  all_goals repeat' first
    | with_reducible assumption | (with_reducible refine keeps_setter _ _ _ _ (fun _ _ _ => ?_) ?_) | with_reducible apply keeps_modQueue
    | with_reducible exact keepsOpt_none _

theorem cmd_queueOverheadSet : CmdKeeps Machine.queueOverheadSet := by
  refine ⟨fun w e s0 s hs => ?_, fun op s0 s hs => ?_, fun e s0 s hs => ?_⟩ <;> unfold Machine.queueOverheadSet <;> dsimp only
  all_goals repeat' first
    | with_reducible assumption | (with_reducible refine keeps_setter _ _ _ _ (fun _ _ _ => ?_) ?_) | with_reducible apply keeps_modQueue
    | with_reducible exact keepsOpt_none _

theorem cmd_queueSampleSet : CmdKeeps Machine.queueSampleSet := by
  refine ⟨fun w e s0 s hs => ?_, fun op s0 s hs => ?_, fun e s0 s hs => ?_⟩ <;> unfold Machine.queueSampleSet <;> dsimp only
  all_goals repeat' first
    | with_reducible assumption | (with_reducible refine keeps_setter _ _ _ _ (fun _ _ _ => ?_) ?_) | with_reducible apply keeps_modQueue
    | with_reducible exact keepsOpt_none _

theorem cmd_queueSamplesRead : CmdKeeps Machine.queueSamplesRead := by
  refine ⟨fun w e s0 s hs => ?_, fun op s0 s hs => ?_, fun e s0 s hs => ?_⟩ <;> unfold Machine.queueSamplesRead <;> dsimp only
  all_goals repeat' first
    | with_reducible assumption | with_reducible apply keeps_getter | with_reducible exact keepsOpt_none _

theorem cmd_queueStatus : CmdKeeps Machine.queueStatus := by
  refine ⟨fun w e s0 s hs => ?_, fun op s0 s hs => ?_, fun e s0 s hs => ?_⟩ <;> unfold Machine.queueStatus <;> dsimp only
  all_goals repeat' first
    | with_reducible assumption | with_reducible apply keeps_getter | with_reducible exact keepsOpt_none _

theorem cmd_queueWatchdogSet : CmdKeeps Machine.queueWatchdogSet := by
  refine ⟨fun w e s0 s hs => ?_, fun op s0 s hs => ?_, fun e s0 s hs => ?_⟩ <;> unfold Machine.queueWatchdogSet <;> dsimp only
  all_goals repeat' first
    | with_reducible assumption | (with_reducible refine keeps_setter _ _ _ _ (fun _ _ _ => ?_) ?_) | with_reducible apply keeps_modQueue
    | with_reducible exact keepsOpt_none _

theorem cmd_queueWorkStatus : CmdKeeps Machine.queueWorkStatus := by
  refine ⟨fun w e s0 s hs => ?_, fun op s0 s hs => ?_, fun e s0 s hs => ?_⟩ <;> unfold Machine.queueWorkStatus <;> dsimp only
  all_goals repeat' first
    | with_reducible assumption | with_reducible apply keeps_getter | with_reducible exact keepsOpt_none _

theorem cmd_radioAgcSet : CmdKeeps Machine.radioAgcSet := by
  refine ⟨fun w e s0 s hs => ?_, fun op s0 s hs => ?_, fun e s0 s hs => ?_⟩ <;> unfold Machine.radioAgcSet <;> dsimp only
  all_goals repeat' first
    | with_reducible assumption | (with_reducible refine keeps_setter _ _ _ _ (fun _ _ _ => ?_) ?_) | with_reducible apply keeps_modRx
    | with_reducible exact keepsOpt_none _

theorem cmd_radioBandDisable : CmdKeeps Machine.radioBandDisable := by
  refine ⟨fun w e s0 s hs => ?_, fun op s0 s hs => ?_, fun e s0 s hs => ?_⟩ <;> unfold Machine.radioBandDisable <;> dsimp only
  all_goals repeat' first
    | with_reducible assumption | with_reducible apply keeps_bandDrains | with_reducible apply keeps_modTx
    | with_reducible apply keeps_bandGoesOff | with_reducible exact keepsOpt_none _ | split

theorem cmd_radioBandEnable : CmdKeeps Machine.radioBandEnable := by
  refine ⟨fun w e s0 s hs => ?_, fun op s0 s hs => ?_, fun e s0 s hs => ?_⟩ <;> unfold Machine.radioBandEnable <;> dsimp only
  all_goals repeat' first
    | with_reducible assumption | with_reducible apply keeps_wakeDomain | with_reducible apply keeps_modTx
    | with_reducible apply keeps_armReserved | with_reducible apply keeps_setBand | with_reducible apply keeps_holdOn
    | with_reducible exact keepsOpt_none _ | split

theorem cmd_radioBandStatus : CmdKeeps Machine.radioBandStatus := by
  refine ⟨fun w e s0 s hs => ?_, fun op s0 s hs => ?_, fun e s0 s hs => ?_⟩ <;> unfold Machine.radioBandStatus <;> dsimp only
  all_goals repeat' first
    | with_reducible assumption | with_reducible apply keeps_getter | with_reducible exact keepsOpt_none _

theorem cmd_radioCaptureSet : CmdKeeps Machine.radioCaptureSet := by
  refine ⟨fun w e s0 s hs => ?_, fun op s0 s hs => ?_, fun e s0 s hs => ?_⟩ <;> unfold Machine.radioCaptureSet <;> dsimp only
  all_goals repeat' first
    | with_reducible assumption | (with_reducible refine keeps_setter _ _ _ _ (fun _ _ _ => ?_) ?_) | with_reducible apply keeps_modRx
    | with_reducible exact keepsOpt_none _

theorem cmd_radioCoexConfig : CmdKeeps Machine.radioCoexConfig := by
  refine ⟨fun w e s0 s hs => ?_, fun op s0 s hs => ?_, fun e s0 s hs => ?_⟩ <;> unfold Machine.radioCoexConfig <;> dsimp only
  all_goals repeat' first
    | with_reducible assumption | (with_reducible refine keeps_setter _ _ _ _ (fun _ _ _ => ?_) ?_) | with_reducible apply keeps_modTx
    | with_reducible exact keepsOpt_none _

theorem cmd_radioContextRelease : CmdKeeps Machine.radioContextRelease := by
  refine ⟨fun w e s0 s hs => ?_, fun op s0 s hs => ?_, fun e s0 s hs => ?_⟩ <;> unfold Machine.radioContextRelease <;> dsimp only
  all_goals repeat' first
    | with_reducible assumption | (with_reducible refine keeps_setter _ _ _ _ (fun _ _ _ => ?_) ?_) | with_reducible apply keeps_modRadio
    | with_reducible apply keeps_ctxIdle | with_reducible exact keepsOpt_none _ | with_reducible apply keeps_ite
    | with_reducible refine keeps_foldl ?_ fun _ _ _ => ?_

theorem cmd_radioContextReserve : CmdKeeps Machine.radioContextReserve := by
  refine ⟨fun w e s0 s hs => ?_, fun op s0 s hs => ?_, fun e s0 s hs => ?_⟩ <;> unfold Machine.radioContextReserve <;> dsimp only
  all_goals repeat' first
    | with_reducible assumption | with_reducible apply keeps_modRadio | with_reducible apply keeps_setCtx
    | with_reducible exact keepsOpt_none _ | with_reducible refine keeps_foldl ?_ fun _ _ _ => ?_

theorem cmd_radioContextStatus : CmdKeeps Machine.radioContextStatus := by
  refine ⟨fun w e s0 s hs => ?_, fun op s0 s hs => ?_, fun e s0 s hs => ?_⟩ <;> unfold Machine.radioContextStatus <;> dsimp only
  all_goals repeat' first
    | with_reducible assumption | with_reducible apply keeps_getter | with_reducible exact keepsOpt_none _

theorem cmd_radioDiagRing : CmdKeeps Machine.radioDiagRing := by
  refine ⟨fun w e s0 s hs => ?_, fun op s0 s hs => ?_, fun e s0 s hs => ?_⟩ <;> unfold Machine.radioDiagRing <;> dsimp only
  all_goals repeat' first
    | with_reducible assumption | (with_reducible refine keeps_setter _ _ _ _ (fun _ _ _ => ?_) ?_) | with_reducible apply keeps_modRx
    | with_reducible exact keepsOpt_none _

theorem cmd_radioFeConfig : CmdKeeps Machine.radioFeConfig := by
  refine ⟨fun w e s0 s hs => ?_, fun op s0 s hs => ?_, fun e s0 s hs => ?_⟩ <;> unfold Machine.radioFeConfig <;> dsimp only
  all_goals repeat' first
    | with_reducible assumption | (with_reducible refine keeps_setter _ _ _ _ (fun _ _ _ => ?_) ?_) | with_reducible apply keeps_modTx
    | with_reducible exact keepsOpt_none _

theorem cmd_radioRegionBind : CmdKeeps Machine.radioRegionBind := by
  refine ⟨fun w e s0 s hs => ?_, fun op s0 s hs => ?_, fun e s0 s hs => ?_⟩ <;> unfold Machine.radioRegionBind <;> dsimp only
  all_goals repeat' first
    | with_reducible assumption | with_reducible apply keeps_bindRegion
    | (with_reducible refine keeps_setter _ _ _ _ (fun _ _ _ => ?_) ?_) | with_reducible exact keepsOpt_none _

theorem cmd_radioRegionLoad : CmdKeeps Machine.radioRegionLoad := by
  refine ⟨fun w e s0 s hs => ?_, fun op s0 s hs => ?_, fun e s0 s hs => ?_⟩ <;> unfold Machine.radioRegionLoad <;> dsimp only
  all_goals repeat' first
    | with_reducible assumption | (with_reducible refine keeps_setter _ _ _ _ (fun _ _ _ => ?_) ?_) | with_reducible apply keeps_modRadio
    | with_reducible exact keepsOpt_none _

theorem cmd_radioRegionQuery : CmdKeeps Machine.radioRegionQuery := by
  refine ⟨fun w e s0 s hs => ?_, fun op s0 s hs => ?_, fun e s0 s hs => ?_⟩ <;> unfold Machine.radioRegionQuery <;> dsimp only
  all_goals repeat' first
    | with_reducible assumption | with_reducible apply keeps_getter | with_reducible exact keepsOpt_none _

theorem cmd_radioRegionRemove : CmdKeeps Machine.radioRegionRemove := by
  refine ⟨fun w e s0 s hs => ?_, fun op s0 s hs => ?_, fun e s0 s hs => ?_⟩ <;> unfold Machine.radioRegionRemove <;> dsimp only
  all_goals repeat' first
    | with_reducible assumption | (with_reducible refine keeps_setter _ _ _ _ (fun _ _ _ => ?_) ?_) | with_reducible apply keeps_modRadio
    | with_reducible exact keepsOpt_none _

theorem cmd_radioRssiCal : CmdKeeps Machine.radioRssiCal := by
  refine ⟨fun w e s0 s hs => ?_, fun op s0 s hs => ?_, fun e s0 s hs => ?_⟩ <;> unfold Machine.radioRssiCal <;> dsimp only
  all_goals repeat' first
    | with_reducible assumption | (with_reducible refine keeps_setter _ _ _ _ (fun _ _ _ => ?_) ?_) | with_reducible apply keeps_modRx
    | with_reducible exact keepsOpt_none _

theorem cmd_radioRxCounters : CmdKeeps Machine.radioRxCounters := by
  refine ⟨fun w e s0 s hs => ?_, fun op s0 s hs => ?_, fun e s0 s hs => ?_⟩ <;> unfold Machine.radioRxCounters <;> dsimp only
  all_goals repeat' first
    | with_reducible assumption | with_reducible apply keeps_modRx | with_reducible exact keepsOpt_none _ | with_reducible apply keeps_ite

theorem cmd_radioRxPathDelay : CmdKeeps Machine.radioRxPathDelay := by
  refine ⟨fun w e s0 s hs => ?_, fun op s0 s hs => ?_, fun e s0 s hs => ?_⟩ <;> unfold Machine.radioRxPathDelay <;> dsimp only
  all_goals repeat' first
    | with_reducible assumption | (with_reducible refine keeps_setter _ _ _ _ (fun _ _ _ => ?_) ?_) | with_reducible apply keeps_modRx
    | with_reducible exact keepsOpt_none _

theorem cmd_radioSnapshotArm : CmdKeeps Machine.radioSnapshotArm := by
  refine ⟨fun w e s0 s hs => ?_, fun op s0 s hs => ?_, fun e s0 s hs => ?_⟩ <;> unfold Machine.radioSnapshotArm <;> dsimp only
  all_goals repeat' first
    | with_reducible assumption | with_reducible apply keeps_holdOn | with_reducible apply keeps_modRadio
    | with_reducible exact keepsOpt_none _

theorem cmd_radioSnapshotRead : CmdKeeps Machine.radioSnapshotRead := by
  refine ⟨fun w e s0 s hs => ?_, fun op s0 s hs => ?_, fun e s0 s hs => ?_⟩ <;> unfold Machine.radioSnapshotRead <;> dsimp only
  all_goals repeat' first
    | with_reducible assumption | with_reducible apply keeps_drawBytes | with_reducible exact keepsOpt_none _
    | with_reducible apply keeps_ite_fst | split

theorem cmd_radioSnapshotRelease : CmdKeeps Machine.radioSnapshotRelease := by
  refine ⟨fun w e s0 s hs => ?_, fun op s0 s hs => ?_, fun e s0 s hs => ?_⟩ <;> unfold Machine.radioSnapshotRelease <;> dsimp only
  all_goals repeat' first
    | with_reducible assumption | (with_reducible refine keeps_setter _ _ _ _ (fun _ _ _ => ?_) ?_)
    | with_reducible apply keeps_releaseSnapshot | with_reducible exact keepsOpt_none _

theorem cmd_radioSyncTune : CmdKeeps Machine.radioSyncTune := by
  refine ⟨fun w e s0 s hs => ?_, fun op s0 s hs => ?_, fun e s0 s hs => ?_⟩ <;> unfold Machine.radioSyncTune <;> dsimp only
  all_goals repeat' first
    | with_reducible assumption | with_reducible apply keeps_modRx | (with_reducible refine keeps_setter _ _ _ _ (fun _ _ _ => ?_) ?_)
    | with_reducible exact keepsOpt_none _

theorem cmd_radioTxAt : CmdKeeps Machine.radioTxAt := by
  refine ⟨fun w e s0 s hs => ?_, fun op s0 s hs => ?_, fun e s0 s hs => ?_⟩ <;> unfold Machine.radioTxAt <;> dsimp only
  all_goals repeat' first
    | with_reducible assumption | with_reducible apply keeps_dwellDeny | with_reducible apply keeps_enqueueLaunch
    | with_reducible apply keeps_takeLaunchId | with_reducible exact keepsOpt_none _ | split

theorem cmd_radioTxCalRun : CmdKeeps Machine.radioTxCalRun := by
  refine ⟨fun w e s0 s hs => ?_, fun op s0 s hs => ?_, fun e s0 s hs => ?_⟩ <;> unfold Machine.radioTxCalRun <;> dsimp only
  all_goals repeat' first
    | with_reducible assumption | with_reducible apply keeps_modTx | with_reducible exact keepsOpt_none _
    | with_reducible apply keeps_ite_fst

theorem cmd_radioTxCounters : CmdKeeps Machine.radioTxCounters := by
  refine ⟨fun w e s0 s hs => ?_, fun op s0 s hs => ?_, fun e s0 s hs => ?_⟩ <;> unfold Machine.radioTxCounters <;> dsimp only
  all_goals repeat' first
    | with_reducible assumption | with_reducible apply keeps_bgOverdue | with_reducible apply keeps_modTx
    | with_reducible exact keepsOpt_none _ | with_reducible apply keeps_ite

theorem cmd_radioTxModeSet : CmdKeeps Machine.radioTxModeSet := by
  refine ⟨fun w e s0 s hs => ?_, fun op s0 s hs => ?_, fun e s0 s hs => ?_⟩ <;> unfold Machine.radioTxModeSet <;> dsimp only
  all_goals repeat' first
    | with_reducible assumption | (with_reducible refine keeps_setter _ _ _ _ (fun _ _ _ => ?_) ?_) | with_reducible apply keeps_modTx
    | with_reducible exact keepsOpt_none _

theorem cmd_radioTxPathDelay : CmdKeeps Machine.radioTxPathDelay := by
  refine ⟨fun w e s0 s hs => ?_, fun op s0 s hs => ?_, fun e s0 s hs => ?_⟩ <;> unfold Machine.radioTxPathDelay <;> dsimp only
  all_goals repeat' first
    | with_reducible assumption | (with_reducible refine keeps_setter _ _ _ _ (fun _ _ _ => ?_) ?_) | with_reducible apply keeps_modTx
    | with_reducible exact keepsOpt_none _

theorem cmd_radioTxPowerSet : CmdKeeps Machine.radioTxPowerSet := by
  refine ⟨fun w e s0 s hs => ?_, fun op s0 s hs => ?_, fun e s0 s hs => ?_⟩ <;> unfold Machine.radioTxPowerSet <;> dsimp only
  all_goals repeat' first
    | with_reducible assumption | (with_reducible refine keeps_setter _ _ _ _ (fun _ _ _ => ?_) ?_) | with_reducible apply keeps_modTx
    | with_reducible exact keepsOpt_none _

theorem cmd_radioTxTiming : CmdKeeps Machine.radioTxTiming := by
  refine ⟨fun w e s0 s hs => ?_, fun op s0 s hs => ?_, fun e s0 s hs => ?_⟩ <;> unfold Machine.radioTxTiming <;> dsimp only
  all_goals repeat' first
    | with_reducible assumption | (with_reducible refine keeps_setter _ _ _ _ (fun _ _ _ => ?_) ?_) | with_reducible apply keeps_modTx
    | with_reducible exact keepsOpt_none _

theorem cmd_radioWakeConfig : CmdKeeps Machine.radioWakeConfig := by
  refine ⟨fun w e s0 s hs => ?_, fun op s0 s hs => ?_, fun e s0 s hs => ?_⟩ <;> unfold Machine.radioWakeConfig <;> dsimp only
  all_goals repeat' first
    | with_reducible assumption | (with_reducible refine keeps_setter _ _ _ _ (fun _ _ _ => ?_) ?_) | with_reducible apply keeps_modRadio
    | with_reducible exact keepsOpt_none _

theorem cmd_radioWakeStatus : CmdKeeps Machine.radioWakeStatus := by
  refine ⟨fun w e s0 s hs => ?_, fun op s0 s hs => ?_, fun e s0 s hs => ?_⟩ <;> unfold Machine.radioWakeStatus <;> dsimp only
  all_goals repeat' first
    | with_reducible assumption | with_reducible apply keeps_getter | with_reducible exact keepsOpt_none _

theorem cmd_radioWindowQuery : CmdKeeps Machine.radioWindowQuery := by
  refine ⟨fun w e s0 s hs => ?_, fun op s0 s hs => ?_, fun e s0 s hs => ?_⟩ <;> unfold Machine.radioWindowQuery <;> dsimp only
  all_goals repeat' first
    | with_reducible assumption | with_reducible apply keeps_getter | with_reducible exact keepsOpt_none _

theorem cmd_radioWindowSet : CmdKeeps Machine.radioWindowSet := by
  refine ⟨fun w e s0 s hs => ?_, fun op s0 s hs => ?_, fun e s0 s hs => ?_⟩ <;> unfold Machine.radioWindowSet <;> dsimp only
  all_goals repeat' first
    | with_reducible assumption | (with_reducible refine keeps_setter _ _ _ _ (fun _ _ _ => ?_) ?_)
    | with_reducible apply keeps_moveWindow | with_reducible exact keepsOpt_none _

theorem cmd_routeAdd : CmdKeeps Machine.routeAdd := by
  refine ⟨fun w e s0 s hs => ?_, fun op s0 s hs => ?_, fun e s0 s hs => ?_⟩ <;> unfold Machine.routeAdd <;> dsimp only
  all_goals repeat' first
    | with_reducible assumption | (with_reducible refine keeps_setter _ _ _ _ (fun _ _ _ => ?_) ?_) | with_reducible apply keeps_setRoutes
    | with_reducible apply keeps_bulkFresh | with_reducible exact keepsOpt_none _

theorem cmd_routeContextSet : CmdKeeps Machine.routeContextSet := by
  refine ⟨fun w e s0 s hs => ?_, fun op s0 s hs => ?_, fun e s0 s hs => ?_⟩ <;> unfold Machine.routeContextSet <;> dsimp only
  all_goals repeat' first
    | with_reducible assumption | (with_reducible refine keeps_setter _ _ _ _ (fun _ _ _ => ?_) ?_) | with_reducible apply keeps_modRoute
    | with_reducible exact keepsOpt_none _

theorem cmd_routeCounters : CmdKeeps Machine.routeCounters := by
  refine ⟨fun w e s0 s hs => ?_, fun op s0 s hs => ?_, fun e s0 s hs => ?_⟩ <;> unfold Machine.routeCounters <;> dsimp only
  all_goals repeat' first
    | with_reducible assumption | with_reducible apply keeps_modRoute | with_reducible exact keepsOpt_none _
    | with_reducible apply keeps_ite

theorem cmd_routeDefaultSet : CmdKeeps Machine.routeDefaultSet := by
  refine ⟨fun w e s0 s hs => ?_, fun op s0 s hs => ?_, fun e s0 s hs => ?_⟩ <;> unfold Machine.routeDefaultSet <;> dsimp only
  all_goals repeat' first
    | with_reducible assumption | (with_reducible refine keeps_setter _ _ _ _ (fun _ _ _ => ?_) ?_) | with_reducible apply keeps_modRoute
    | with_reducible exact keepsOpt_none _

theorem cmd_routeLookup : CmdKeeps Machine.routeLookup := by
  refine ⟨fun w e s0 s hs => ?_, fun op s0 s hs => ?_, fun e s0 s hs => ?_⟩ <;> unfold Machine.routeLookup <;> dsimp only
  all_goals repeat' first
    | with_reducible assumption | with_reducible apply keeps_getter | with_reducible exact keepsOpt_none _

theorem cmd_routeLowpanSet : CmdKeeps Machine.routeLowpanSet := by
  refine ⟨fun w e s0 s hs => ?_, fun op s0 s hs => ?_, fun e s0 s hs => ?_⟩ <;> unfold Machine.routeLowpanSet <;> dsimp only
  all_goals repeat' first
    | with_reducible assumption | (with_reducible refine keeps_setter _ _ _ _ (fun _ _ _ => ?_) ?_) | with_reducible apply keeps_modRoute
    | with_reducible exact keepsOpt_none _

theorem cmd_routeMeshSet : CmdKeeps Machine.routeMeshSet := by
  refine ⟨fun w e s0 s hs => ?_, fun op s0 s hs => ?_, fun e s0 s hs => ?_⟩ <;> unfold Machine.routeMeshSet <;> dsimp only
  all_goals repeat' first
    | with_reducible assumption | (with_reducible refine keeps_setter _ _ _ _ (fun _ _ _ => ?_) ?_) | with_reducible apply keeps_modRoute
    | with_reducible exact keepsOpt_none _

theorem cmd_routeNodeQuery : CmdKeeps Machine.routeNodeQuery := by
  refine ⟨fun w e s0 s hs => ?_, fun op s0 s hs => ?_, fun e s0 s hs => ?_⟩ <;> unfold Machine.routeNodeQuery <;> dsimp only
  all_goals repeat' first
    | with_reducible assumption | with_reducible apply keeps_getter | with_reducible exact keepsOpt_none _

theorem cmd_routeNodeSet : CmdKeeps Machine.routeNodeSet := by
  refine ⟨fun w e s0 s hs => ?_, fun op s0 s hs => ?_, fun e s0 s hs => ?_⟩ <;> unfold Machine.routeNodeSet <;> dsimp only
  all_goals repeat' first
    | with_reducible assumption | with_reducible apply keeps_setNodeRoute | with_reducible exact keepsOpt_none _

theorem cmd_routeRemove : CmdKeeps Machine.routeRemove := by
  refine ⟨fun w e s0 s hs => ?_, fun op s0 s hs => ?_, fun e s0 s hs => ?_⟩ <;> unfold Machine.routeRemove <;> dsimp only
  all_goals repeat' first
    | with_reducible assumption | (with_reducible refine keeps_setter _ _ _ _ (fun _ _ _ => ?_) ?_) | with_reducible apply keeps_setRoutes
    | with_reducible exact keepsOpt_none _

theorem cmd_routeStatus : CmdKeeps Machine.routeStatus := by
  refine ⟨fun w e s0 s hs => ?_, fun op s0 s hs => ?_, fun e s0 s hs => ?_⟩ <;> unfold Machine.routeStatus <;> dsimp only
  all_goals repeat' first
    | with_reducible assumption | with_reducible apply keeps_getter | with_reducible exact keepsOpt_none _

theorem cmd_routeTrieRead : CmdKeeps Machine.routeTrieRead := by
  refine ⟨fun w e s0 s hs => ?_, fun op s0 s hs => ?_, fun e s0 s hs => ?_⟩ <;> unfold Machine.routeTrieRead <;> dsimp only
  all_goals repeat' first
    | with_reducible assumption | with_reducible exact keepsOpt_none _ | (with_reducible refine keeps_mk ?_ rfl rfl)

theorem cmd_sysCounters : CmdKeeps Machine.sysCounters := by
  refine ⟨fun w e s0 s hs => ?_, fun op s0 s hs => ?_, fun e s0 s hs => ?_⟩ <;> unfold Machine.sysCounters <;> dsimp only
  all_goals repeat' first
    | with_reducible assumption | with_reducible exact keepsOpt_none _ | split | (with_reducible refine keeps_mk ?_ rfl rfl)

theorem cmd_sysFunctionReset : CmdKeeps Machine.sysFunctionReset := by
  refine ⟨fun w e s0 s hs => ?_, fun op s0 s hs => ?_, fun e s0 s hs => ?_⟩ <;> unfold Machine.sysFunctionReset <;> dsimp only
  all_goals repeat' first
    | with_reducible assumption | with_reducible apply keeps_longStart | with_reducible apply keeps_functionReset
    | with_reducible apply keepsOpt_some

theorem cmd_sysGetState : CmdKeeps Machine.sysGetState := by
  refine ⟨fun w e s0 s hs => ?_, fun op s0 s hs => ?_, fun e s0 s hs => ?_⟩ <;> unfold Machine.sysGetState <;> dsimp only
  all_goals repeat' first
    | with_reducible assumption | with_reducible apply keeps_getter | with_reducible exact keepsOpt_none _

theorem cmd_sysIdentify : CmdKeeps Machine.sysIdentify := by
  refine ⟨fun w e s0 s hs => ?_, fun op s0 s hs => ?_, fun e s0 s hs => ?_⟩ <;> unfold Machine.sysIdentify <;> dsimp only
  all_goals repeat' first
    | with_reducible assumption | with_reducible apply keeps_getter | with_reducible exact keepsOpt_none _

theorem cmd_sysPin : CmdKeeps Machine.sysPin := by
  refine ⟨fun w e s0 s hs => ?_, fun op s0 s hs => ?_, fun e s0 s hs => ?_⟩ <;> unfold Machine.sysPin <;> dsimp only
  all_goals repeat' first
    | with_reducible assumption | (with_reducible refine keeps_setter _ _ _ _ (fun _ _ _ => ?_) ?_) | with_reducible exact keepsOpt_none _
    | with_reducible apply keeps_ite | (with_reducible refine keeps_mk ?_ rfl rfl)

theorem cmd_sysPinQuery : CmdKeeps Machine.sysPinQuery := by
  refine ⟨fun w e s0 s hs => ?_, fun op s0 s hs => ?_, fun e s0 s hs => ?_⟩ <;> unfold Machine.sysPinQuery <;> dsimp only
  all_goals repeat' first
    | with_reducible assumption | with_reducible apply keeps_getter | with_reducible exact keepsOpt_none _

theorem cmd_sysQuiesce : CmdKeeps Machine.sysQuiesce := by
  refine ⟨fun w e s0 s hs => ?_, fun op s0 s hs => ?_, fun e s0 s hs => ?_⟩ <;> unfold Machine.sysQuiesce <;> dsimp only
  all_goals repeat' first
    | with_reducible assumption | with_reducible apply keeps_longStart | with_reducible apply keeps_enterQuiesced
    | with_reducible apply keeps_radioHalts | with_reducible exact keepsOpt_none _ | with_reducible apply keepsOpt_some
    | with_reducible apply keepsOpt_ite | with_reducible apply keeps_ite

theorem cmd_sysResume : CmdKeeps Machine.sysResume := by
  refine ⟨fun w e s0 s hs => ?_, fun op s0 s hs => ?_, fun e s0 s hs => ?_⟩ <;> unfold Machine.sysResume <;> dsimp only
  all_goals repeat' first
    | with_reducible assumption | with_reducible apply keeps_longStart | with_reducible apply keeps_modNodes
    | with_reducible apply keeps_eraseMarker | with_reducible apply keepsOpt_some | with_reducible apply keepsOpt_ite | dsimp only
    | (with_reducible refine keeps_mk ?_ rfl rfl)

theorem cmd_sysUnpin : CmdKeeps Machine.sysUnpin := by
  refine ⟨fun w e s0 s hs => ?_, fun op s0 s hs => ?_, fun e s0 s hs => ?_⟩ <;> unfold Machine.sysUnpin <;> dsimp only
  all_goals repeat' first
    | with_reducible assumption | (with_reducible refine keeps_setter _ _ _ _ (fun _ _ _ => ?_) ?_) | with_reducible exact keepsOpt_none _
    | (with_reducible refine keeps_mk ?_ rfl rfl)

theorem cmd_testFaultInject : CmdKeeps Machine.testFaultInject := by
  refine ⟨fun w e s0 s hs => ?_, fun op s0 s hs => ?_, fun e s0 s hs => ?_⟩ <;> unfold Machine.testFaultInject <;> dsimp only
  all_goals repeat' first
    | with_reducible assumption | (with_reducible refine keeps_setter _ _ _ _ (fun _ _ _ => ?_) ?_) | with_reducible apply keeps_modNodes
    | with_reducible apply keeps_resetFifo | with_reducible apply keeps_modSlot | with_reducible exact keepsOpt_none _ | split

theorem cmd_testLinkResult : CmdKeeps Machine.testLinkResult := by
  refine ⟨fun w e s0 s hs => ?_, fun op s0 s hs => ?_, fun e s0 s hs => ?_⟩ <;> unfold Machine.testLinkResult <;> dsimp only
  all_goals repeat' first
    | with_reducible assumption | with_reducible apply keeps_accrueLanes | with_reducible apply keeps_modRun
    | with_reducible exact keepsOpt_none _ | with_reducible apply keeps_ite

theorem cmd_testLinkStart : CmdKeeps Machine.testLinkStart := by
  refine ⟨fun w e s0 s hs => ?_, fun op s0 s hs => ?_, fun e s0 s hs => ?_⟩ <;> unfold Machine.testLinkStart <;> dsimp only
  all_goals repeat' first
    | with_reducible assumption | (with_reducible refine keeps_setter _ _ _ _ (fun _ _ _ => ?_) ?_)
    | with_reducible apply keeps_dropPortFrames | with_reducible apply keeps_ethLinkOp | with_reducible apply keeps_losePcie
    | with_reducible apply keeps_setRun | with_reducible exact keepsOpt_none _ | with_reducible apply keeps_ite
    | (with_reducible refine keeps_mk ?_ rfl rfl)

theorem cmd_testRadioResult : CmdKeeps Machine.testRadioResult := by
  refine ⟨fun w e s0 s hs => ?_, fun op s0 s hs => ?_, fun e s0 s hs => ?_⟩ <;> unfold Machine.testRadioResult <;> dsimp only
  all_goals repeat' first
    | with_reducible assumption | with_reducible apply keeps_modRun | with_reducible exact keepsOpt_none _
    | with_reducible apply keeps_ite | split

theorem cmd_testRadioStart : CmdKeeps Machine.testRadioStart := by
  refine ⟨fun w e s0 s hs => ?_, fun op s0 s hs => ?_, fun e s0 s hs => ?_⟩ <;> unfold Machine.testRadioStart <;> dsimp only
  all_goals repeat' first
    | with_reducible assumption | (with_reducible refine keeps_setter _ _ _ _ (fun _ _ _ => ?_) ?_)
    | with_reducible apply keeps_wakeDomain | with_reducible apply keeps_setRun | with_reducible apply keeps_modTx
    | with_reducible apply keeps_setCtx | with_reducible exact keepsOpt_none _ | with_reducible apply keeps_ite
    | with_reducible refine keeps_foldl ?_ fun _ _ _ => ?_ | split

theorem cmd_testStatus : CmdKeeps Machine.testStatus := by
  refine ⟨fun w e s0 s hs => ?_, fun op s0 s hs => ?_, fun e s0 s hs => ?_⟩ <;> unfold Machine.testStatus <;> dsimp only
  all_goals repeat' first
    | with_reducible assumption | with_reducible apply keeps_getter | with_reducible exact keepsOpt_none _

theorem cmd_testStop : CmdKeeps Machine.testStop := by
  refine ⟨fun w e s0 s hs => ?_, fun op s0 s hs => ?_, fun e s0 s hs => ?_⟩ <;> unfold Machine.testStop <;> dsimp only
  all_goals repeat' first
    | with_reducible assumption | with_reducible apply keeps_stopTest | with_reducible exact keepsOpt_none _
    | with_reducible refine keeps_foldl ?_ fun _ _ _ => ?_

theorem cmd_testTelemetryRead : CmdKeeps Machine.testTelemetryRead := by
  refine ⟨fun w e s0 s hs => ?_, fun op s0 s hs => ?_, fun e s0 s hs => ?_⟩ <;> unfold Machine.testTelemetryRead <;> dsimp only
  all_goals repeat' first
    | with_reducible assumption | with_reducible apply keeps_getter | with_reducible exact keepsOpt_none _

theorem cmd_testTelemetrySet : CmdKeeps Machine.testTelemetrySet := by
  refine ⟨fun w e s0 s hs => ?_, fun op s0 s hs => ?_, fun e s0 s hs => ?_⟩ <;> unfold Machine.testTelemetrySet <;> dsimp only
  all_goals repeat' first
    | with_reducible assumption | (with_reducible refine keeps_setter _ _ _ _ (fun _ _ _ => ?_) ?_) | with_reducible apply keeps_modTest
    | with_reducible exact keepsOpt_none _

theorem cmd_testWatchdogSet : CmdKeeps Machine.testWatchdogSet := by
  refine ⟨fun w e s0 s hs => ?_, fun op s0 s hs => ?_, fun e s0 s hs => ?_⟩ <;> unfold Machine.testWatchdogSet <;> dsimp only
  all_goals repeat' first
    | with_reducible assumption | (with_reducible refine keeps_setter _ _ _ _ (fun _ _ _ => ?_) ?_) | with_reducible apply keeps_modTest
    | with_reducible exact keepsOpt_none _

theorem cmd_timeAdjust : CmdKeeps Machine.timeAdjust := by
  refine ⟨fun w e s0 s hs => ?_, fun op s0 s hs => ?_, fun e s0 s hs => ?_⟩ <;> unfold Machine.timeAdjust <;> dsimp only
  all_goals repeat' first
    | with_reducible assumption | (with_reducible refine keeps_setter _ _ _ _ (fun _ _ _ => ?_) ?_)
    | with_reducible apply keeps_hostTimeWrite | with_reducible exact keepsOpt_none _

theorem cmd_timeCaptureRead : CmdKeeps Machine.timeCaptureRead := by
  refine ⟨fun w e s0 s hs => ?_, fun op s0 s hs => ?_, fun e s0 s hs => ?_⟩ <;> unfold Machine.timeCaptureRead <;> dsimp only
  all_goals repeat' first
    | with_reducible assumption | with_reducible apply keeps_modClk | with_reducible exact keepsOpt_none _

theorem cmd_timeCounters : CmdKeeps Machine.timeCounters := by
  refine ⟨fun w e s0 s hs => ?_, fun op s0 s hs => ?_, fun e s0 s hs => ?_⟩ <;> unfold Machine.timeCounters <;> dsimp only
  all_goals repeat' first
    | with_reducible assumption | with_reducible apply keeps_modClk | with_reducible exact keepsOpt_none _
    | with_reducible apply keeps_ite

theorem cmd_timeIncrementSet : CmdKeeps Machine.timeIncrementSet := by
  refine ⟨fun w e s0 s hs => ?_, fun op s0 s hs => ?_, fun e s0 s hs => ?_⟩ <;> unfold Machine.timeIncrementSet <;> dsimp only
  all_goals repeat' first
    | with_reducible assumption | (with_reducible refine keeps_setter _ _ _ _ (fun _ _ _ => ?_) ?_) | with_reducible apply keeps_modClk
    | with_reducible exact keepsOpt_none _

theorem cmd_timeParentDelay : CmdKeeps Machine.timeParentDelay := by
  refine ⟨fun w e s0 s hs => ?_, fun op s0 s hs => ?_, fun e s0 s hs => ?_⟩ <;> unfold Machine.timeParentDelay <;> dsimp only
  all_goals repeat' first
    | with_reducible assumption | (with_reducible refine keeps_setter _ _ _ _ (fun _ _ _ => ?_) ?_) | with_reducible apply keeps_modClk
    | with_reducible exact keepsOpt_none _

theorem cmd_timePinConfig : CmdKeeps Machine.timePinConfig := by
  refine ⟨fun w e s0 s hs => ?_, fun op s0 s hs => ?_, fun e s0 s hs => ?_⟩ <;> unfold Machine.timePinConfig <;> dsimp only
  all_goals repeat' first
    | with_reducible assumption | (with_reducible refine keeps_setter _ _ _ _ (fun _ _ _ => ?_) ?_) | with_reducible apply keeps_modClk
    | with_reducible exact keepsOpt_none _

theorem cmd_timePpsConfig : CmdKeeps Machine.timePpsConfig := by
  refine ⟨fun w e s0 s hs => ?_, fun op s0 s hs => ?_, fun e s0 s hs => ?_⟩ <;> unfold Machine.timePpsConfig <;> dsimp only
  all_goals repeat' first
    | with_reducible assumption | (with_reducible refine keeps_setter _ _ _ _ (fun _ _ _ => ?_) ?_) | with_reducible apply keeps_modClk
    | with_reducible exact keepsOpt_none _

theorem cmd_timePtpPort : CmdKeeps Machine.timePtpPort := by
  refine ⟨fun w e s0 s hs => ?_, fun op s0 s hs => ?_, fun e s0 s hs => ?_⟩ <;> unfold Machine.timePtpPort <;> dsimp only
  all_goals repeat' first
    | with_reducible assumption | (with_reducible refine keeps_setter _ _ _ _ (fun _ _ _ => ?_) ?_) | with_reducible apply keeps_modPtp
    | with_reducible exact keepsOpt_none _

theorem cmd_timeRtcStatus : CmdKeeps Machine.timeRtcStatus := by
  refine ⟨fun w e s0 s hs => ?_, fun op s0 s hs => ?_, fun e s0 s hs => ?_⟩ <;> unfold Machine.timeRtcStatus <;> dsimp only
  all_goals repeat' first
    | with_reducible assumption | with_reducible apply keeps_getter | with_reducible exact keepsOpt_none _

theorem cmd_timeServoSet : CmdKeeps Machine.timeServoSet := by
  refine ⟨fun w e s0 s hs => ?_, fun op s0 s hs => ?_, fun e s0 s hs => ?_⟩ <;> unfold Machine.timeServoSet <;> dsimp only
  all_goals repeat' first
    | with_reducible assumption | (with_reducible refine keeps_setter _ _ _ _ (fun _ _ _ => ?_) ?_) | with_reducible apply keeps_modClk
    | with_reducible exact keepsOpt_none _

theorem cmd_timeSet : CmdKeeps Machine.timeSet := by
  refine ⟨fun w e s0 s hs => ?_, fun op s0 s hs => ?_, fun e s0 s hs => ?_⟩ <;> unfold Machine.timeSet <;> dsimp only
  all_goals repeat' first
    | with_reducible assumption | (with_reducible refine keeps_setter _ _ _ _ (fun _ _ _ => ?_) ?_) | with_reducible apply keeps_modClk
    | with_reducible apply keeps_hostTimeWrite | with_reducible exact keepsOpt_none _

theorem cmd_timeSourceSet : CmdKeeps Machine.timeSourceSet := by
  refine ⟨fun w e s0 s hs => ?_, fun op s0 s hs => ?_, fun e s0 s hs => ?_⟩ <;> unfold Machine.timeSourceSet <;> dsimp only
  all_goals repeat' first
    | with_reducible assumption | (with_reducible refine keeps_setter _ _ _ _ (fun _ _ _ => ?_) ?_)
    | with_reducible apply keeps_installSources | with_reducible exact keepsOpt_none _

theorem cmd_timeStatus : CmdKeeps Machine.timeStatus := by
  refine ⟨fun w e s0 s hs => ?_, fun op s0 s hs => ?_, fun e s0 s hs => ?_⟩ <;> unfold Machine.timeStatus <;> dsimp only
  all_goals repeat' first
    | with_reducible assumption | with_reducible apply keeps_getter | with_reducible exact keepsOpt_none _

theorem cmd_timeTriggerConfig : CmdKeeps Machine.timeTriggerConfig := by
  refine ⟨fun w e s0 s hs => ?_, fun op s0 s hs => ?_, fun e s0 s hs => ?_⟩ <;> unfold Machine.timeTriggerConfig <;> dsimp only
  all_goals repeat' first
    | with_reducible assumption | (with_reducible refine keeps_setter _ _ _ _ (fun _ _ _ => ?_) ?_) | with_reducible apply keeps_modClk
    | with_reducible exact keepsOpt_none _

theorem cmd_timeUncClear : CmdKeeps Machine.timeUncClear := by
  refine ⟨fun w e s0 s hs => ?_, fun op s0 s hs => ?_, fun e s0 s hs => ?_⟩ <;> unfold Machine.timeUncClear <;> dsimp only
  all_goals repeat' first
    | with_reducible assumption | (with_reducible refine keeps_setter _ _ _ _ (fun _ _ _ => ?_) ?_) | with_reducible apply keeps_modClk
    | with_reducible exact keepsOpt_none _

theorem cmd_updateActivate : CmdKeeps Machine.updateActivate := by
  refine ⟨fun w e s0 s hs => ?_, fun op s0 s hs => ?_, fun e s0 s hs => ?_⟩ <;> unfold Machine.updateActivate <;> dsimp only
  all_goals repeat' first
    | with_reducible assumption
    | (with_reducible refine keeps_modFw _ _ (fun k => by first | exact k | exact wf_memWriteBytes _ _ _ _ k | exact wf_memClear _ _ _ _ k) ?_)
    | with_reducible exact keepsOpt_none _ | with_reducible apply keepsOpt_some | with_reducible apply keepsOpt_ite
    | with_reducible apply keeps_ite

theorem cmd_updateBegin : CmdKeeps Machine.updateBegin := by
  refine ⟨fun w e s0 s hs => ?_, fun op s0 s hs => ?_, fun e s0 s hs => ?_⟩ <;> unfold Machine.updateBegin <;> dsimp only
  all_goals repeat' first
    | with_reducible assumption | with_reducible apply keeps_flashProgram | with_reducible apply keeps_flashErase
    | with_reducible apply keeps_flashRewrite | with_reducible apply keeps_stageEvent | with_reducible apply keepsOpt_some
    | with_reducible apply keeps_ite

theorem cmd_updateConfirm : CmdKeeps Machine.updateConfirm := by
  refine ⟨fun w e s0 s hs => ?_, fun op s0 s hs => ?_, fun e s0 s hs => ?_⟩ <;> unfold Machine.updateConfirm <;> dsimp only
  all_goals repeat' first
    | with_reducible assumption | with_reducible apply keeps_longStart | with_reducible apply keeps_confirmImage
    | with_reducible apply keepsOpt_some | with_reducible apply keeps_ite_fst

theorem cmd_updateRevert : CmdKeeps Machine.updateRevert := by
  refine ⟨fun w e s0 s hs => ?_, fun op s0 s hs => ?_, fun e s0 s hs => ?_⟩ <;> unfold Machine.updateRevert <;> dsimp only
  all_goals repeat' first
    | with_reducible assumption | with_reducible apply keeps_longStart | with_reducible apply keeps_stageEvent
    | with_reducible apply keeps_handBack | with_reducible apply keepsOpt_some | with_reducible apply keeps_ite_fst

theorem cmd_updateStatus : CmdKeeps Machine.updateStatus := by
  refine ⟨fun w e s0 s hs => ?_, fun op s0 s hs => ?_, fun e s0 s hs => ?_⟩ <;> unfold Machine.updateStatus <;> dsimp only
  all_goals repeat' first
    | with_reducible assumption | with_reducible apply keeps_getter | with_reducible exact keepsOpt_none _

theorem cmd_updateVerify : CmdKeeps Machine.updateVerify := by
  refine ⟨fun w e s0 s hs => ?_, fun op s0 s hs => ?_, fun e s0 s hs => ?_⟩ <;> unfold Machine.updateVerify <;> dsimp only
  all_goals repeat' first
    | with_reducible assumption | with_reducible apply keeps_longStart | with_reducible apply keeps_programRecord
    | with_reducible apply keeps_flashProgram | with_reducible apply keeps_stageEvent | with_reducible apply keeps_flashErase
    | with_reducible apply keepsOpt_some | with_reducible apply keepsOpt_ite | split

theorem cmd_updateWrite : CmdKeeps Machine.updateWrite := by
  refine ⟨fun w e s0 s hs => ?_, fun op s0 s hs => ?_, fun e s0 s hs => ?_⟩ <;> unfold Machine.updateWrite <;> dsimp only
  all_goals repeat' first
    | with_reducible assumption | with_reducible apply keeps_writeBlock | with_reducible exact keepsOpt_none _
    | with_reducible apply keeps_ite_fst

theorem cmd_cryptGenRoll : CmdKeeps Machine.cryptGenRoll := by
  refine ⟨fun w e s0 s hs => ?_, fun op s0 s hs => ?_, fun e s0 s hs => ?_⟩ <;> unfold Machine.cryptGenRoll <;> dsimp only
  all_goals repeat' first
    | with_reducible assumption | (with_reducible refine keeps_setter _ _ _ _ (fun _ _ _ => ?_) ?_) | with_reducible apply keeps_modCrypt
    | with_reducible apply keeps_rollSwitch | with_reducible exact keepsOpt_none _ | with_reducible apply keeps_ite

theorem cmd_keyGenMapRoll : CmdKeeps Machine.keyGenMapRoll := by
  refine ⟨fun w e s0 s hs => ?_, cmd_keyGenMap.finish, cmd_keyGenMap.after⟩
  unfold Machine.keyGenMapRoll
  have h := cmd_keyGenMap.apply w e s0 s hs
  exact keeps_ite (keeps_rollEnds _ _ h) h

end Sys2Proof.Laws
end

