-- ==== Sys2Proof/Laws/KeepsService.lean ====
section
/-! SUPPORT. The queue and the canonical form of the addressed memories are kept by command service, stages and the SPI target. -/

namespace Sys2Proof.Laws

open Sys2Proof.Machine

theorem keeps_fnImpl (c : CmdId) : CmdKeeps (fnImpl c) := by
  cases c <;> dsimp only [fnImpl]
  · exact cmd_sysIdentify
  · exact cmd_sysGetState
  · exact cmd_sysCounters
  · exact cmd_sysPin
  · exact cmd_sysUnpin
  · exact cmd_sysPinQuery
  · exact cmd_noCommand
  · exact cmd_noCommand
  · exact cmd_noCommand
  · exact cmd_noCommand
  · exact cmd_noCommand
  · exact cmd_sysFunctionReset
  · exact cmd_sysQuiesce
  · exact cmd_sysResume
  · exact cmd_nodeCounterSnapshot
  · exact cmd_nodeCounterRestore
  · exact cmd_nodeColdChallenge
  · exact cmd_airProfileLoad
  · exact cmd_airProfileRemove
  · exact cmd_airProfileBind
  · exact cmd_airProfileQuery
  · exact cmd_airSetRouterAddress
  · exact cmd_airToneMapRead
  · exact cmd_airSound
  · exact cmd_airCounters
  · exact cmd_airProfileLoadRaw
  · exact cmd_airToneMapWrite
  · exact cmd_radioWindowSet
  · exact cmd_radioWindowQuery
  · exact cmd_radioRxCounters
  · exact cmd_radioContextStatus
  · exact cmd_radioDiagRing
  · exact cmd_radioSnapshotArm
  · exact cmd_radioSnapshotRead
  · exact cmd_radioSnapshotRelease
  · exact cmd_radioWakeConfig
  · exact cmd_radioWakeStatus
  · exact cmd_radioSyncTune
  · exact cmd_radioCaptureSet
  · exact cmd_radioAgcSet
  · exact cmd_radioRssiCal
  · exact cmd_radioRxPathDelay
  · exact cmd_radioContextReserve
  · exact cmd_radioContextRelease
  · exact cmd_radioRegionLoad
  · exact cmd_radioRegionRemove
  · exact cmd_radioRegionBind
  · exact cmd_radioRegionQuery
  · exact cmd_radioBandEnable
  · exact cmd_radioBandDisable
  · exact cmd_radioBandStatus
  · exact cmd_radioTxPowerSet
  · exact cmd_radioTxCounters
  · exact cmd_radioCoexConfig
  · exact cmd_radioTxModeSet
  · exact cmd_radioTxTiming
  · exact cmd_radioTxPathDelay
  · exact cmd_radioFeConfig
  · exact cmd_radioTxAt
  · exact cmd_radioTxCalRun
  · exact cmd_orbitStart
  · exact cmd_orbitStop
  · exact cmd_orbitStatus
  · exact cmd_orbitFrameSet
  · exact cmd_orbitStageCells
  · exact cmd_orbitHopSet
  · exact cmd_orbitParentSet
  · exact cmd_orbitClassLoad
  · exact cmd_orbitClassRemove
  · exact cmd_orbitNodeSchedule
  · exact cmd_orbitNodeStatus
  · exact cmd_orbitReportSet
  · exact cmd_orbitDwellStatus
  · exact cmd_orbitCounters
  · exact cmd_orbitClassLoadRaw
  · exact cmd_orbitPrepLead
  · exact cmd_orbitTimingSet
  · exact cmd_orbitDriftSet
  · exact cmd_nodeAdd
  · exact cmd_nodeRemove
  · exact cmd_nodeRead
  · exact cmd_nodeSet
  · exact cmd_nodeTableLoad
  · exact cmd_nodeLearnSet
  · exact cmd_nodeAgeSet
  · exact cmd_nodeShadowSet
  · exact cmd_nodeJournalRead
  · exact cmd_nodeCounters
  · exact cmd_nodeTableStatus
  · exact cmd_nodeHashSeed
  · exact cmd_nodeWriteRaw
  · exact cmd_nodeScrubSet
  · exact cmd_routeAdd
  · exact cmd_routeRemove
  · exact cmd_routeLookup
  · exact cmd_routeDefaultSet
  · exact cmd_routeMeshSet
  · exact cmd_routeContextSet
  · exact cmd_routeNodeSet
  · exact cmd_routeNodeQuery
  · exact cmd_routeStatus
  · exact cmd_routeCounters
  · exact cmd_routeLowpanSet
  · exact cmd_routeTrieRead
  · exact cmd_ethPortConfig
  · exact cmd_ethPortStatus
  · exact cmd_ethAddrSet
  · exact cmd_ethNeighbourSet
  · exact cmd_ethHostSet
  · exact cmd_ethCounters
  · exact cmd_ethMacTune
  · exact cmd_keySlotQuery
  · exact cmd_keyGenerate
  · exact cmd_keyBlobLoad
  · exact cmd_keyBlobExport
  · exact cmd_keyRevoke
  · exact cmd_keyGenMapRoll
  · exact cmd_keyGenQuery
  · exact cmd_keyAttest
  · exact cmd_keyIdentityGenerate
  · exact cmd_keyIdentityRead
  · exact cmd_keyLifecycleAdvance
  · exact cmd_keyTamperStatus
  · exact cmd_keyTamperConfig
  · exact cmd_keyDebugChallenge
  · exact cmd_keyDebugUnlock
  · exact cmd_keyCounters
  · exact cmd_keyImportRaw
  · exact cmd_keyImportWrapped
  · exact cmd_keyBlobWrapOut
  · exact cmd_keyKdfVector
  · exact cmd_keySign
  · exact cmd_keyDebugAuthSet
  · exact cmd_cryptStatus
  · exact cmd_cryptCounters
  · exact cmd_cryptRouterEuiSet
  · exact cmd_cryptGenRoll
  · exact cmd_cryptNodeChallenge
  · exact cmd_cryptRawBlock
  · exact cmd_cryptCutThroughSet
  · exact cmd_cryptLaneAssign
  · exact cmd_cryptCcmVector
  · exact cmd_queueConfig
  · exact cmd_queueFlush
  · exact cmd_queueStatus
  · exact cmd_queueOverheadSet
  · exact cmd_queueGateSet
  · exact cmd_queueSampleSet
  · exact cmd_queueSamplesRead
  · exact cmd_queueCounters
  · exact cmd_queueFwSet
  · exact cmd_queueArbClass
  · exact cmd_queueArbStarve
  · exact cmd_queueWatchdogSet
  · exact cmd_queueArbStatus
  · exact cmd_queueWorkStatus
  · exact cmd_timeStatus
  · exact cmd_timeSet
  · exact cmd_timeAdjust
  · exact cmd_timeSourceSet
  · exact cmd_timePtpPort
  · exact cmd_timePpsConfig
  · exact cmd_timePinConfig
  · exact cmd_timeTriggerConfig
  · exact cmd_timeCaptureRead
  · exact cmd_timeParentDelay
  · exact cmd_timeCounters
  · exact cmd_timeServoSet
  · exact cmd_timeIncrementSet
  · exact cmd_timeUncClear
  · exact cmd_timeRtcStatus
  · exact cmd_pairConfig
  · exact cmd_pairStatus
  · exact cmd_noCommand
  · exact cmd_pairRelinquish
  · exact cmd_pairCounters
  · exact cmd_pairForceSolo
  · exact cmd_pwrPolicySet
  · exact cmd_pwrDomainSet
  · exact cmd_pwrStatus
  · exact cmd_pwrRefSet
  · exact cmd_pwrBlockQuery
  · exact cmd_updateBegin
  · exact cmd_updateWrite
  · exact cmd_updateVerify
  · exact cmd_updateActivate
  · exact cmd_updateConfirm
  · exact cmd_updateRevert
  · exact cmd_updateStatus
  · exact cmd_campaignDefine
  · exact cmd_campaignLoad
  · exact cmd_campaignTargets
  · exact cmd_campaignStart
  · exact cmd_campaignActivate
  · exact cmd_campaignStop
  · exact cmd_campaignStatus
  · exact cmd_campaignTargetRead
  · exact cmd_campaignTune
  · exact cmd_testLinkStart
  · exact cmd_testLinkResult
  · exact cmd_testRadioStart
  · exact cmd_testRadioResult
  · exact cmd_testStop
  · exact cmd_testStatus
  · exact cmd_testTelemetryRead
  · exact cmd_testTelemetrySet
  · exact cmd_testWatchdogSet
  · exact cmd_testFaultInject

theorem keeps_answerSealed {s0 : State} (s : State) (e : CmdEntry) (st : Stage) (r : Reply) (final : Bool) (hs : Keeps s0 s) : Keeps s0
    (answerSealed s e st r final) := by
  unfold Machine.answerSealed
  repeat' first
    | with_reducible assumption | with_reducible apply keeps_linkHold | with_reducible apply keeps_linkSend
    | with_reducible apply keeps_respond | with_reducible apply keeps_ite

theorem keeps_applyOne {s0 : State} (w : When) (s : State) (e : CmdEntry) (hs : Keeps s0 s) : Keeps s0 (applyOne w s e) := by
  unfold applyOne
  split
  · exact (keeps_fnImpl _).apply _ _ _ _ hs
  · exact hs
theorem keeps_keepFetched {s0 : State} (s : State) (e : CmdEntry) (hs : Keeps s0 s) : Keeps s0 (keepFetched s e) := by
  unfold Machine.keepFetched
  repeat' first
    | with_reducible assumption | dsimp only | (with_reducible refine keeps_mk ?_ rfl rfl)

theorem keeps_modStage {s0 : State} (s : State) (id : Nat) (f : Stage → Stage) (hs : Keeps s0 s) : Keeps s0 (modStage s id f) := by
  unfold Machine.modStage
  repeat' first
    | with_reducible assumption | dsimp only | (with_reducible refine keeps_mk ?_ rfl rfl)

theorem keeps_renewLease {s0 : State} (s : State) (st : Stage) (hs : Keeps s0 s) : Keeps s0 (renewLease s st) := by
  unfold Machine.renewLease
  repeat' first
    | with_reducible assumption | with_reducible apply keeps_modStage

theorem keeps_renewNamed {s0 : State} (s : State) (e : CmdEntry) (hs : Keeps s0 s) : Keeps s0 (renewNamed s e) := by
  unfold Machine.renewNamed
  repeat' first
    | with_reducible assumption | with_reducible apply keeps_renewLease | with_reducible apply keeps_ite | split

theorem keeps_finishRun {s0 : State} (c : CmdId) (e : CmdEntry) (old : State) (s : State) (r : Reply) (hold : Keeps s0 old) (hs : Keeps
    s0 s) : Keeps s0 (finishRun c e old s r) := by
  unfold finishRun
  dsimp only
  have hb : ∀ l, Keeps s0 { s with host := { s.host with longOps := l } } := fun l => keeps_mk hs rfl rfl
  with_reducible apply keeps_ite
  · exact keeps_respond _ _ _ _ hold
  · with_reducible apply keeps_ite
    · exact (keeps_fnImpl c).after _ _ _ (keeps_respond _ _ _ _ (hb _))
    · with_reducible apply keeps_ite
      · exact hb _
      · have h1 := keeps_answerFinal (s0 := s0) _ e r
          (keeps_ite (c := ((cmdSpec c).long && r.status = stOk) = true) (keeps_respond s e { status := stAccepted } false hs) hs)
        with_reducible apply keeps_ite
        · exact keeps_mapChanged _ h1
        · exact h1
theorem keeps_runNow {s0 : State} (c : CmdId) (e : CmdEntry) (s : State) (hs : Keeps s0 s) : Keeps s0 (runNow c e s) := by
  unfold runNow
  with_reducible apply keeps_ite
  · exact keeps_respond _ _ _ _ hs
  · split
    · exact keeps_respond _ _ _ _ hs
    · exact keeps_finishRun _ _ _ _ _ hs ((keeps_fnImpl c).apply _ _ _ _ hs)
theorem keeps_runLocal {s0 : State} (e : CmdEntry) (s : State) (hs : Keeps s0 s) : Keeps s0 (runLocal e s) := by
  unfold Machine.runLocal
  repeat' first
    | with_reducible assumption | with_reducible apply keeps_respond | with_reducible apply keeps_runNow | with_reducible apply keeps_ite
    | split | dsimp only

theorem keeps_stageCheck {s0 : State} (e : CmdEntry) (s : State) (st : Stage) (hs : Keeps s0 s) : Keeps s0 (stageCheck e s st) := by
  unfold Machine.stageCheck
  repeat' first
    | with_reducible assumption | with_reducible apply keeps_modStage | with_reducible apply keeps_respond
    | with_reducible apply keeps_ite | split

theorem keeps_commitEffects {s0 : State} (s : State) (cmds : List CmdEntry) (mode : Nat) (point : Nat) (hs : Keeps s0 s) : Keeps s0
    (commitEffects s cmds mode point) := by
  unfold Machine.commitEffects
  repeat' first
    | with_reducible assumption | with_reducible apply keeps_applyOne | with_reducible apply keeps_bumpSchedule
    | with_reducible apply keeps_modRoute | with_reducible apply keeps_mapChanged | with_reducible apply keeps_ite
    | with_reducible refine keeps_foldl ?_ fun _ _ _ => ?_

theorem keeps_dropStage {s0 : State} (s : State) (id : Nat) (hs : Keeps s0 s) : Keeps s0 (dropStage s id) := by
  unfold Machine.dropStage
  repeat' first
    | with_reducible assumption | dsimp only | (with_reducible refine keeps_mk ?_ rfl rfl)

theorem keeps_stageCommit {s0 : State} (e : CmdEntry) (s : State) (st : Stage) (hs : Keeps s0 s) : Keeps s0 (stageCommit e s st) := by
  unfold Machine.stageCommit
  repeat' first
    | with_reducible assumption | with_reducible apply keeps_respond | with_reducible apply keeps_discardStage
    | with_reducible apply keeps_answerSealed | with_reducible apply keeps_dropStage | with_reducible apply keeps_commitEffects
    | with_reducible apply keeps_modStage | with_reducible apply keeps_ite | split | dsimp only
    | (with_reducible refine keeps_mk ?_ rfl rfl)

theorem keeps_stageOpen {s0 : State} (e : CmdEntry) (s : State) (hs : Keeps s0 s) : Keeps s0 (stageOpen e s) := by
  unfold Machine.stageOpen
  repeat' first
    | with_reducible assumption | with_reducible apply keeps_respond | with_reducible apply keeps_ite | split | dsimp only
    | (with_reducible refine keeps_mk ?_ rfl rfl)

theorem keeps_runStageCmd {s0 : State} (c : CmdId) (e : CmdEntry) (s : State) (hs : Keeps s0 s) : Keeps s0 (runStageCmd c e s) := by
  unfold Machine.runStageCmd
  repeat' first
    | with_reducible assumption | with_reducible apply keeps_stageOpen | with_reducible apply keeps_respond
    | with_reducible apply keeps_stageCheck | with_reducible apply keeps_stageCommit | with_reducible apply keeps_discardStage
    | with_reducible apply keeps_ite | split

theorem keeps_runStaged {s0 : State} (c : CmdId) (e : CmdEntry) (s : State) (view : State) (hs : Keeps s0 s) (hview : Keeps s0 view) :
    Keeps s0 (runStaged c e s view) := by
  unfold runStaged
  dsimp only
  split
  · exact keeps_respond _ _ _ _ hs
  · with_reducible apply keeps_ite
    · exact keeps_respond _ _ _ _ hs
    · with_reducible apply keeps_ite
      · split
        · exact keeps_respond _ _ _ _ hs
        · exact keeps_finishRun _ _ _ _ _ hs ((keeps_fnImpl c).apply _ _ _ _ hs)
      · with_reducible apply keeps_ite
        · exact keeps_respond _ _ _ _ hs
        · split
          · exact keeps_respond _ _ _ _ hs
          · with_reducible apply keeps_ite
            · exact keeps_respond _ _ _ _ hs
            · exact keeps_respond _ _ _ _ (keeps_modStage _ _ _ hs)

theorem keeps_stageView {s0 : State} (s : State) (e : CmdEntry) (hs : Keeps s0 s) : Keeps s0 (stageView s e) := by
  unfold Machine.stageView
  repeat' first
    | with_reducible assumption | with_reducible apply keeps_applyOne | with_reducible apply keeps_ite
    | with_reducible refine keeps_foldl ?_ fun _ _ _ => ?_ | split

theorem keeps_runEntry {s0 : State} (e : CmdEntry) (old : State) (hold : Keeps s0 old) : Keeps s0 (runEntry e old) := by
  unfold Machine.runEntry
  repeat' first
    | with_reducible assumption | with_reducible apply keeps_renewNamed | with_reducible apply keeps_respond
    | with_reducible apply keeps_stageView | with_reducible apply keeps_runStageCmd | with_reducible apply keeps_runStaged
    | with_reducible apply keeps_runLocal | with_reducible apply keeps_runNow | with_reducible apply keeps_ite | split | dsimp only

theorem keeps_deliver {s0 : State} (e : CmdEntry) (s : State) (hs : Keeps s0 s) : Keeps s0 (deliver e s) := by
  unfold Machine.deliver
  repeat' first
    | with_reducible assumption | with_reducible apply keeps_keepFetched | with_reducible apply keeps_accessDoms
    | with_reducible apply keeps_runEntry | with_reducible apply keeps_ite

theorem keeps_takeSlot {s0 : State} (s : State) (v : View) (n : Nat) (hs : Keeps s0 s) : Keeps s0 (takeSlot s v n) := by
  unfold Machine.takeSlot
  repeat' first
    | with_reducible assumption | with_reducible apply keeps_modChan

theorem keeps_tookTurn {s0 : State} (s : State) (x : Session) (hs : Keeps s0 s) : Keeps s0 (tookTurn s x) := by
  unfold Machine.tookTurn
  repeat' first
    | with_reducible assumption | dsimp only | (with_reducible refine keeps_mk ?_ rfl rfl)

theorem keeps_fetchChan {s0 : State} (v : View) (n : Nat) (e : CmdEntry) (s : State) (hs : Keeps s0 s) : Keeps s0 (fetchChan v n e s) := by
  unfold Machine.fetchChan
  repeat' first
    | with_reducible assumption | with_reducible apply keeps_modChan | with_reducible apply keeps_takeSlot
    | with_reducible apply keeps_tookTurn | with_reducible apply keeps_respond | with_reducible apply keeps_keepFetched
    | with_reducible apply keeps_ite

theorem keeps_fetchMbox {s0 : State} (v : View) (s : State) (hs : Keeps s0 s) : Keeps s0 (fetchMbox v s) := by
  unfold Machine.fetchMbox
  repeat' first
    | with_reducible assumption | with_reducible apply keeps_tookTurn | with_reducible apply keeps_hostCount
    | with_reducible apply keeps_modView

theorem keeps_fetchSpi {s0 : State} (s : State) (hs : Keeps s0 s) : Keeps s0 (fetchSpi s) := by
  unfold Machine.fetchSpi
  repeat' first
    | with_reducible assumption | with_reducible apply keeps_tookTurn | dsimp only | (with_reducible refine keeps_mk ?_ rfl rfl)

theorem keeps_fetchOp {s0 : State} (e : CmdEntry) (s : State) (hs : Keeps s0 s) : Keeps s0 (fetchOp e s) := by
  unfold Machine.fetchOp
  repeat' first
    | with_reducible assumption | with_reducible apply keeps_fetchChan | with_reducible apply keeps_deliver
    | with_reducible apply keeps_fetchMbox | with_reducible apply keeps_fetchSpi | with_reducible apply keeps_ite | split

theorem keeps_takeSpi {s0 : State} (e : CmdEntry) (s : State) (hs : Keeps s0 s) : Keeps s0 (takeSpi e s) := by
  unfold Machine.takeSpi
  repeat' first
    | with_reducible assumption | with_reducible apply keeps_fetchOp | with_reducible apply keeps_ite | dsimp only
    | (with_reducible refine keeps_mk ?_ rfl rfl)

theorem keeps_startFetched {s0 : State} (e : CmdEntry) (s : State) (hs : Keeps s0 s) : Keeps s0 (startFetched e s) := by
  unfold Machine.startFetched
  repeat' first
    | with_reducible assumption | with_reducible apply keeps_accessDoms | with_reducible apply keeps_runEntry
    | with_reducible apply keeps_ite | dsimp only | (with_reducible refine keeps_mk ?_ rfl rfl)

theorem keeps_resumeStalled {s0 : State} (d : Nat) (s : State) (hs : Keeps s0 s) : Keeps s0 (resumeStalled d s) := by
  unfold Machine.resumeStalled
  repeat' first
    | with_reducible assumption | with_reducible apply keeps_startFetched | with_reducible apply keeps_ite
    | with_reducible refine keeps_foldl ?_ fun _ _ _ => ?_

theorem keeps_domainWokenOp {s0 : State} (d : Nat) (s : State) (hs : Keeps s0 s) : Keeps s0 (domainWokenOp d s) := by
  unfold Machine.domainWokenOp
  repeat' first
    | with_reducible assumption | with_reducible apply keeps_wakeCompleteOp | with_reducible apply keeps_resumeStalled
    | with_reducible apply keeps_dispatchWork | with_reducible apply keeps_ite

theorem keeps_enterChan {s0 : State} (v : View) (n : Nat) (s : State) (hs : Keeps s0 s) : Keeps s0 (enterChan v n s) := by
  unfold Machine.enterChan
  repeat' first
    | with_reducible assumption | with_reducible apply keeps_modChan | with_reducible apply keeps_takeSlot
    | with_reducible apply keeps_tookTurn | with_reducible apply keeps_ite

theorem keeps_mboxWords {s0 : State} (v : View) (e : CmdEntry) (s : State) (hs : Keeps s0 s) : Keeps s0 (mboxWords v e s) := by
  unfold Machine.mboxWords
  repeat' first
    | with_reducible assumption | with_reducible apply keeps_modView

theorem keeps_entered {s0 : State} (e : CmdEntry) (s : State) (hs : Keeps s0 s) : Keeps s0 (entered e s) := by
  unfold Machine.entered
  repeat' first
    | with_reducible assumption | with_reducible apply keeps_enterChan | with_reducible apply keeps_fetchMbox
    | with_reducible apply keeps_mboxWords | with_reducible apply keeps_fetchSpi | split

theorem keeps_ephemerisResumeOp {s0 : State} (s : State) (hs : Keeps s0 s) : Keeps s0 (ephemerisResumeOp s) := by
  unfold Machine.ephemerisResumeOp
  repeat' first
    | with_reducible assumption | with_reducible apply keeps_resumeOp | with_reducible apply keeps_resumeStalled
    | with_reducible apply keeps_flushWake | with_reducible apply keeps_ite

theorem keeps_takeEntry {s0 : State} (e : CmdEntry) (s : State) (hs : Keeps s0 s) : Keeps s0 (takeEntry e s) := by
  unfold Machine.takeEntry
  repeat' first
    | with_reducible assumption | with_reducible apply keeps_takeSpi | with_reducible apply keeps_deliver
    | with_reducible apply keeps_entered | with_reducible apply keeps_ite

theorem keeps_hostCommand {s0 : State} (c : CmdId) (e : CmdEntry) (s : State) (hs : Keeps s0 s) : Keeps s0 (hostCommand c e s) := by
  unfold Machine.hostCommand
  repeat' first
    | with_reducible assumption | with_reducible apply keeps_startFetched | with_reducible apply keeps_takeEntry | split | dsimp only

theorem keeps_judgeFrom {s0 : State} (w : When) (x2 : Nat) (x3 : List CmdEntry) (x4 : State) (hx4 : Keeps s0 x4) : Keeps s0 (judgeFrom w
    x2 x3 x4).1 := by
  induction x3 generalizing x2 x4 with
  | nil => exact hx4
  | cons e l ih =>
    unfold judgeFrom
    split
    · exact hx4
    · exact ih _ _ (keeps_applyOne _ _ _ hx4)
theorem keeps_longCompleteOp {s0 : State} (x : Session) (tag : W16) (s : State) (hs : Keeps s0 s) : Keeps s0 (longCompleteOp x tag s) := by
  unfold longCompleteOp
  split
  · exact hs
  · split
    · exact hs
    · split
      · exact hs
      · rename_i op _ _ c _ _ t r e
        have hk : Keeps s0 { s with host := { s.host with longOps := s.host.longOps.erase op } } := keeps_mk hs rfl rfl
        have ht : Keeps s0 t := (keeps_fnImpl c).finish op s0 _ hk (t, r) e
        dsimp only
        with_reducible apply keeps_ite
        · exact keeps_mapChanged _ (keeps_answerFinal _ _ _ ht)
        · exact keeps_answerFinal _ _ _ ht
theorem keeps_takeMbox {s0 : State} (v : View) (s : State) (hs : Keeps s0 s) : Keeps s0 (takeMbox v s) := by
  unfold Machine.takeMbox
  repeat' first
    | with_reducible assumption | with_reducible apply keeps_fetchOp | with_reducible apply keeps_modView | with_reducible apply keeps_ite

theorem keeps_runReplicated {s0 : State} (e : CmdEntry) (s : State) (hs : Keeps s0 s) : Keeps s0 (runReplicated e s) := by
  unfold runReplicated
  split
  · exact hs
  · rename_i c _
    split
    · exact hs
    · have ha := (keeps_fnImpl c).apply .now e s0 s hs
      dsimp only
      with_reducible apply keeps_ite
      · split
        · rename_i hf
          exact (keeps_fnImpl c).finish _ s0 _ ha _ hf
        · exact ha
      · exact ha
theorem keeps_stageLeaseOp {s0 : State} (id : Nat) (s : State) (hs : Keeps s0 s) : Keeps s0 (stageLeaseOp id s) := by
  unfold Machine.stageLeaseOp
  repeat' first
    | with_reducible assumption | with_reducible apply keeps_discardStage | with_reducible apply keeps_ite | split

theorem keeps_stagePointOp {s0 : State} (id : Nat) (s : State) (hs : Keeps s0 s) : Keeps s0 (stagePointOp id s) := by
  unfold Machine.stagePointOp
  repeat' first
    | with_reducible assumption | with_reducible apply keeps_respond | with_reducible apply keeps_discardStage
    | with_reducible apply keeps_commitEffects | with_reducible apply keeps_modStage | with_reducible apply keeps_ite | split | dsimp only
    | (with_reducible refine keeps_mk ?_ rfl rfl)

theorem keeps_stageRecordOp {s0 : State} (id : Nat) (s : State) (hs : Keeps s0 s) : Keeps s0 (stageRecordOp id s) := by
  unfold Machine.stageRecordOp
  repeat' first
    | with_reducible assumption | with_reducible apply keeps_dropStage | with_reducible apply keeps_ite | split

theorem keeps_stagedView {s0 : State} (n : Nat) (s : State) (hs : Keeps s0 s) : Keeps s0 (stagedView n s) := by
  unfold Machine.stagedView
  repeat' first
    | with_reducible assumption | with_reducible apply keeps_commitEffects | with_reducible apply keeps_ite
    | with_reducible refine keeps_foldl ?_ fun _ _ _ => ?_

theorem keeps_modSpi {s0 : State} (s : State) (f : SpiIf → SpiIf)
    (hf : Memory.wf 0 s.host.spi.window = true → Memory.wf 0 (f s.host.spi).window = true)
    (hs : Keeps s0 s) : Keeps s0 (modSpi s f) := ⟨hs.1, fun k => ⟨(hs.2 k).1, hf (hs.2 k).2⟩⟩
theorem keeps_spiEnd {s0 : State} (s : State) (status : Byte) (b : List Byte) (bad : Bool) (hs : Keeps s0 s) : Keeps s0 (spiEnd s status
    b bad) := by
  unfold Machine.spiEnd
  repeat' first
    | with_reducible assumption
    | (with_reducible refine keeps_modSpi _ _ (fun k => by first | exact k | exact wf_memWriteBytes _ _ _ _ k | exact wf_memClear _ _ _ _ k) ?_)

theorem keeps_spiChecked {s0 : State} (s : State) (opcode : Byte) (payload : List Byte) (crc : W16) (zeros : Nat) (go : State → State ×
    List Byte)
    (hgo : ∀ v0, Keeps s0 v0 → Keeps s0 (go v0).1) (hs : Keeps s0 s) : Keeps s0 (spiChecked s opcode payload crc zeros go) := by
  unfold spiChecked
  with_reducible apply keeps_ite
  · exact keeps_spiEnd _ _ _ _ (hgo _ hs)
  · exact keeps_spiEnd _ _ _ _ (keeps_hostCount _ _ hs)

theorem keeps_cmdWriteOp {s0 : State} (s : State) (payload : List Byte) (crc : W16) (hs : Keeps s0 s) : Keeps s0 (cmdWriteOp s payload
    crc) := by
  unfold Machine.cmdWriteOp
  repeat' first
    | with_reducible assumption | with_reducible apply keeps_spiChecked | with_reducible apply keeps_takeSpi
    | with_reducible apply keeps_ite

theorem keeps_dataReadOp {s0 : State} (s : State) (payload : List Byte) (crc : W16) (hs : Keeps s0 s) : Keeps s0 (dataReadOp s payload
    crc) := by
  unfold Machine.dataReadOp
  repeat' first
    | with_reducible assumption | with_reducible apply keeps_spiChecked | with_reducible apply keeps_ite | intro _

theorem keeps_dataWriteOp {s0 : State} (s : State) (payload : List Byte) (crc : W16) (hs : Keeps s0 s) : Keeps s0 (dataWriteOp s payload
    crc) := by
  unfold Machine.dataWriteOp
  repeat' first
    | with_reducible assumption | with_reducible apply keeps_spiChecked
    | (with_reducible refine keeps_modSpi _ _ (fun k => by first | exact k | exact wf_memWriteBytes _ _ _ _ k | exact wf_memClear _ _ _ _ k) ?_)
    | with_reducible apply keeps_ite | intro _

theorem keeps_evtReadOp {s0 : State} (s : State) (hs : Keeps s0 s) : Keeps s0 (evtReadOp s) := by
  unfold Machine.evtReadOp
  repeat' first
    | with_reducible assumption | with_reducible apply keeps_spiEnd | with_reducible apply keeps_evtAckOp | with_reducible apply keeps_ite
    | split

theorem keeps_mboxGoOp {s0 : State} (v : View) (s : State) (hs : Keeps s0 s) : Keeps s0 (mboxGoOp v s) := by
  unfold Machine.mboxGoOp
  repeat' first
    | with_reducible assumption | with_reducible apply keeps_takeMbox

theorem keeps_regReadOp {s0 : State} (s : State) (payload : List Byte) (crc : W16) (hs : Keeps s0 s) : Keeps s0 (regReadOp s payload crc)
    := by
  unfold Machine.regReadOp
  repeat' first
    | with_reducible assumption | with_reducible apply keeps_spiChecked | with_reducible apply keeps_ite | intro _

theorem keeps_regWriteOp {s0 : State} (s : State) (payload : List Byte) (crc : W16) (hs : Keeps s0 s) : Keeps s0 (regWriteOp s payload
    crc) := by
  unfold Machine.regWriteOp
  repeat' first
    | with_reducible assumption | with_reducible apply keeps_spiChecked | with_reducible apply keeps_writeReg
    | with_reducible apply keeps_mboxGoOp | with_reducible apply keeps_ite | intro _

theorem keeps_rspReadOp {s0 : State} (s : State) (hs : Keeps s0 s) : Keeps s0 (rspReadOp s) := by
  unfold Machine.rspReadOp
  repeat' first
    | with_reducible assumption | with_reducible apply keeps_spiEnd
    | (with_reducible refine keeps_modSpi _ _ (fun k => by first | exact k | exact wf_memWriteBytes _ _ _ _ k | exact wf_memClear _ _ _ _ k) ?_)
    | with_reducible apply keeps_ite | split

theorem keeps_State_withFetchWord {s0 : State} (s : State) (nbits : Nat) (w : Nat) (hs : Keeps s0 s) : Keeps s0 (State.withFetchWord s
    nbits w) := hs

end Sys2Proof.Laws
end

