-- ==== Sys2Proof/Laws/State.lean ====
section
/-! SUPPORT. What each update of one part of the state leaves: one lemma per field of State and update. -/

namespace Sys2Proof.Laws

open Sys2Proof.Machine

/-! `modAir` -/

@[simp] theorem modAir_pending (s : State) (f : Air → Air) : (modAir s f).pending = s.pending := rfl
@[simp] theorem modAir_upNs (s : State) (f : Air → Air) : (modAir s f).upNs = s.upNs := rfl
@[simp] theorem modAir_free (s : State) (f : Air → Air) : (modAir s f).free = s.free := rfl
@[simp] theorem modAir_part (s : State) (f : Air → Air) : (modAir s f).part = s.part := rfl
@[simp] theorem modAir_role (s : State) (f : Air → Air) : (modAir s f).role = s.role := rfl
@[simp] theorem modAir_straps (s : State) (f : Air → Air) : (modAir s f).straps = s.straps := rfl
@[simp] theorem modAir_resetHigh (s : State) (f : Air → Air) : (modAir s f).resetHigh = s.resetHigh := rfl
@[simp] theorem modAir_quiescing (s : State) (f : Air → Air) : (modAir s f).quiescing = s.quiescing := rfl
@[simp] theorem modAir_snapshotSeq (s : State) (f : Air → Air) : (modAir s f).snapshotSeq = s.snapshotSeq := rfl
@[simp] theorem modAir_host (s : State) (f : Air → Air) : (modAir s f).host = s.host := rfl
@[simp] theorem modAir_clk (s : State) (f : Air → Air) : (modAir s f).clk = s.clk := rfl
@[simp] theorem modAir_key (s : State) (f : Air → Air) : (modAir s f).key = s.key := rfl
@[simp] theorem modAir_node (s : State) (f : Air → Air) : (modAir s f).node = s.node := rfl
@[simp] theorem modAir_radio (s : State) (f : Air → Air) : (modAir s f).radio = s.radio := rfl
@[simp] theorem modAir_orbit (s : State) (f : Air → Air) : (modAir s f).orbit = s.orbit := rfl
@[simp] theorem modAir_crypt (s : State) (f : Air → Air) : (modAir s f).crypt = s.crypt := rfl
@[simp] theorem modAir_queue (s : State) (f : Air → Air) : (modAir s f).queue = s.queue := rfl
@[simp] theorem modAir_route (s : State) (f : Air → Air) : (modAir s f).route = s.route := rfl
@[simp] theorem modAir_path (s : State) (f : Air → Air) : (modAir s f).path = s.path := rfl
@[simp] theorem modAir_pair (s : State) (f : Air → Air) : (modAir s f).pair = s.pair := rfl
@[simp] theorem modAir_pwr (s : State) (f : Air → Air) : (modAir s f).pwr = s.pwr := rfl
@[simp] theorem modAir_fw (s : State) (f : Air → Air) : (modAir s f).fw = s.fw := rfl
@[simp] theorem modAir_cmp (s : State) (f : Air → Air) : (modAir s f).cmp = s.cmp := rfl
@[simp] theorem modAir_test (s : State) (f : Air → Air) : (modAir s f).test = s.test := rfl
@[simp] theorem modAir_air (s : State) (f : Air → Air) : (modAir s f).air = f s.air := rfl

/-! `modOrbit` -/

@[simp] theorem modOrbit_pending (s : State) (f : Orbit → Orbit) : (modOrbit s f).pending = s.pending := rfl
@[simp] theorem modOrbit_upNs (s : State) (f : Orbit → Orbit) : (modOrbit s f).upNs = s.upNs := rfl
@[simp] theorem modOrbit_free (s : State) (f : Orbit → Orbit) : (modOrbit s f).free = s.free := rfl
@[simp] theorem modOrbit_part (s : State) (f : Orbit → Orbit) : (modOrbit s f).part = s.part := rfl
@[simp] theorem modOrbit_role (s : State) (f : Orbit → Orbit) : (modOrbit s f).role = s.role := rfl
@[simp] theorem modOrbit_straps (s : State) (f : Orbit → Orbit) : (modOrbit s f).straps = s.straps := rfl
@[simp] theorem modOrbit_resetHigh (s : State) (f : Orbit → Orbit) : (modOrbit s f).resetHigh = s.resetHigh := rfl
@[simp] theorem modOrbit_quiescing (s : State) (f : Orbit → Orbit) : (modOrbit s f).quiescing = s.quiescing := rfl
@[simp] theorem modOrbit_snapshotSeq (s : State) (f : Orbit → Orbit) : (modOrbit s f).snapshotSeq = s.snapshotSeq := rfl
@[simp] theorem modOrbit_host (s : State) (f : Orbit → Orbit) : (modOrbit s f).host = s.host := rfl
@[simp] theorem modOrbit_clk (s : State) (f : Orbit → Orbit) : (modOrbit s f).clk = s.clk := rfl
@[simp] theorem modOrbit_key (s : State) (f : Orbit → Orbit) : (modOrbit s f).key = s.key := rfl
@[simp] theorem modOrbit_air (s : State) (f : Orbit → Orbit) : (modOrbit s f).air = s.air := rfl
@[simp] theorem modOrbit_node (s : State) (f : Orbit → Orbit) : (modOrbit s f).node = s.node := rfl
@[simp] theorem modOrbit_radio (s : State) (f : Orbit → Orbit) : (modOrbit s f).radio = s.radio := rfl
@[simp] theorem modOrbit_crypt (s : State) (f : Orbit → Orbit) : (modOrbit s f).crypt = s.crypt := rfl
@[simp] theorem modOrbit_queue (s : State) (f : Orbit → Orbit) : (modOrbit s f).queue = s.queue := rfl
@[simp] theorem modOrbit_route (s : State) (f : Orbit → Orbit) : (modOrbit s f).route = s.route := rfl
@[simp] theorem modOrbit_path (s : State) (f : Orbit → Orbit) : (modOrbit s f).path = s.path := rfl
@[simp] theorem modOrbit_pair (s : State) (f : Orbit → Orbit) : (modOrbit s f).pair = s.pair := rfl
@[simp] theorem modOrbit_pwr (s : State) (f : Orbit → Orbit) : (modOrbit s f).pwr = s.pwr := rfl
@[simp] theorem modOrbit_fw (s : State) (f : Orbit → Orbit) : (modOrbit s f).fw = s.fw := rfl
@[simp] theorem modOrbit_cmp (s : State) (f : Orbit → Orbit) : (modOrbit s f).cmp = s.cmp := rfl
@[simp] theorem modOrbit_test (s : State) (f : Orbit → Orbit) : (modOrbit s f).test = s.test := rfl
@[simp] theorem modOrbit_orbit (s : State) (f : Orbit → Orbit) : (modOrbit s f).orbit = f s.orbit := rfl

/-! `modNodes` -/

@[simp] theorem modNodes_pending (s : State) (f : NodeDom → NodeDom) : (modNodes s f).pending = s.pending := rfl
@[simp] theorem modNodes_upNs (s : State) (f : NodeDom → NodeDom) : (modNodes s f).upNs = s.upNs := rfl
@[simp] theorem modNodes_free (s : State) (f : NodeDom → NodeDom) : (modNodes s f).free = s.free := rfl
@[simp] theorem modNodes_part (s : State) (f : NodeDom → NodeDom) : (modNodes s f).part = s.part := rfl
@[simp] theorem modNodes_role (s : State) (f : NodeDom → NodeDom) : (modNodes s f).role = s.role := rfl
@[simp] theorem modNodes_straps (s : State) (f : NodeDom → NodeDom) : (modNodes s f).straps = s.straps := rfl
@[simp] theorem modNodes_resetHigh (s : State) (f : NodeDom → NodeDom) : (modNodes s f).resetHigh = s.resetHigh := rfl
@[simp] theorem modNodes_quiescing (s : State) (f : NodeDom → NodeDom) : (modNodes s f).quiescing = s.quiescing := rfl
@[simp] theorem modNodes_snapshotSeq (s : State) (f : NodeDom → NodeDom) : (modNodes s f).snapshotSeq = s.snapshotSeq := rfl
@[simp] theorem modNodes_host (s : State) (f : NodeDom → NodeDom) : (modNodes s f).host = s.host := rfl
@[simp] theorem modNodes_clk (s : State) (f : NodeDom → NodeDom) : (modNodes s f).clk = s.clk := rfl
@[simp] theorem modNodes_key (s : State) (f : NodeDom → NodeDom) : (modNodes s f).key = s.key := rfl
@[simp] theorem modNodes_air (s : State) (f : NodeDom → NodeDom) : (modNodes s f).air = s.air := rfl
@[simp] theorem modNodes_radio (s : State) (f : NodeDom → NodeDom) : (modNodes s f).radio = s.radio := rfl
@[simp] theorem modNodes_orbit (s : State) (f : NodeDom → NodeDom) : (modNodes s f).orbit = s.orbit := rfl
@[simp] theorem modNodes_crypt (s : State) (f : NodeDom → NodeDom) : (modNodes s f).crypt = s.crypt := rfl
@[simp] theorem modNodes_queue (s : State) (f : NodeDom → NodeDom) : (modNodes s f).queue = s.queue := rfl
@[simp] theorem modNodes_route (s : State) (f : NodeDom → NodeDom) : (modNodes s f).route = s.route := rfl
@[simp] theorem modNodes_path (s : State) (f : NodeDom → NodeDom) : (modNodes s f).path = s.path := rfl
@[simp] theorem modNodes_pair (s : State) (f : NodeDom → NodeDom) : (modNodes s f).pair = s.pair := rfl
@[simp] theorem modNodes_pwr (s : State) (f : NodeDom → NodeDom) : (modNodes s f).pwr = s.pwr := rfl
@[simp] theorem modNodes_fw (s : State) (f : NodeDom → NodeDom) : (modNodes s f).fw = s.fw := rfl
@[simp] theorem modNodes_cmp (s : State) (f : NodeDom → NodeDom) : (modNodes s f).cmp = s.cmp := rfl
@[simp] theorem modNodes_test (s : State) (f : NodeDom → NodeDom) : (modNodes s f).test = s.test := rfl
@[simp] theorem modNodes_node (s : State) (f : NodeDom → NodeDom) : (modNodes s f).node = f s.node := rfl

/-! `modCmp` -/

@[simp] theorem modCmp_pending (s : State) (f : Campaign → Campaign) : (modCmp s f).pending = s.pending := rfl
@[simp] theorem modCmp_upNs (s : State) (f : Campaign → Campaign) : (modCmp s f).upNs = s.upNs := rfl
@[simp] theorem modCmp_free (s : State) (f : Campaign → Campaign) : (modCmp s f).free = s.free := rfl
@[simp] theorem modCmp_part (s : State) (f : Campaign → Campaign) : (modCmp s f).part = s.part := rfl
@[simp] theorem modCmp_role (s : State) (f : Campaign → Campaign) : (modCmp s f).role = s.role := rfl
@[simp] theorem modCmp_straps (s : State) (f : Campaign → Campaign) : (modCmp s f).straps = s.straps := rfl
@[simp] theorem modCmp_resetHigh (s : State) (f : Campaign → Campaign) : (modCmp s f).resetHigh = s.resetHigh := rfl
@[simp] theorem modCmp_quiescing (s : State) (f : Campaign → Campaign) : (modCmp s f).quiescing = s.quiescing := rfl
@[simp] theorem modCmp_snapshotSeq (s : State) (f : Campaign → Campaign) : (modCmp s f).snapshotSeq = s.snapshotSeq := rfl
@[simp] theorem modCmp_host (s : State) (f : Campaign → Campaign) : (modCmp s f).host = s.host := rfl
@[simp] theorem modCmp_clk (s : State) (f : Campaign → Campaign) : (modCmp s f).clk = s.clk := rfl
@[simp] theorem modCmp_key (s : State) (f : Campaign → Campaign) : (modCmp s f).key = s.key := rfl
@[simp] theorem modCmp_air (s : State) (f : Campaign → Campaign) : (modCmp s f).air = s.air := rfl
@[simp] theorem modCmp_node (s : State) (f : Campaign → Campaign) : (modCmp s f).node = s.node := rfl
@[simp] theorem modCmp_radio (s : State) (f : Campaign → Campaign) : (modCmp s f).radio = s.radio := rfl
@[simp] theorem modCmp_orbit (s : State) (f : Campaign → Campaign) : (modCmp s f).orbit = s.orbit := rfl
@[simp] theorem modCmp_crypt (s : State) (f : Campaign → Campaign) : (modCmp s f).crypt = s.crypt := rfl
@[simp] theorem modCmp_queue (s : State) (f : Campaign → Campaign) : (modCmp s f).queue = s.queue := rfl
@[simp] theorem modCmp_route (s : State) (f : Campaign → Campaign) : (modCmp s f).route = s.route := rfl
@[simp] theorem modCmp_path (s : State) (f : Campaign → Campaign) : (modCmp s f).path = s.path := rfl
@[simp] theorem modCmp_pair (s : State) (f : Campaign → Campaign) : (modCmp s f).pair = s.pair := rfl
@[simp] theorem modCmp_pwr (s : State) (f : Campaign → Campaign) : (modCmp s f).pwr = s.pwr := rfl
@[simp] theorem modCmp_fw (s : State) (f : Campaign → Campaign) : (modCmp s f).fw = s.fw := rfl
@[simp] theorem modCmp_test (s : State) (f : Campaign → Campaign) : (modCmp s f).test = s.test := rfl
@[simp] theorem modCmp_cmp (s : State) (f : Campaign → Campaign) : (modCmp s f).cmp = f s.cmp := rfl

/-! `modKey` -/

@[simp] theorem modKey_pending (s : State) (f : KeyDom → KeyDom) : (modKey s f).pending = s.pending := rfl
@[simp] theorem modKey_upNs (s : State) (f : KeyDom → KeyDom) : (modKey s f).upNs = s.upNs := rfl
@[simp] theorem modKey_free (s : State) (f : KeyDom → KeyDom) : (modKey s f).free = s.free := rfl
@[simp] theorem modKey_part (s : State) (f : KeyDom → KeyDom) : (modKey s f).part = s.part := rfl
@[simp] theorem modKey_role (s : State) (f : KeyDom → KeyDom) : (modKey s f).role = s.role := rfl
@[simp] theorem modKey_straps (s : State) (f : KeyDom → KeyDom) : (modKey s f).straps = s.straps := rfl
@[simp] theorem modKey_resetHigh (s : State) (f : KeyDom → KeyDom) : (modKey s f).resetHigh = s.resetHigh := rfl
@[simp] theorem modKey_quiescing (s : State) (f : KeyDom → KeyDom) : (modKey s f).quiescing = s.quiescing := rfl
@[simp] theorem modKey_snapshotSeq (s : State) (f : KeyDom → KeyDom) : (modKey s f).snapshotSeq = s.snapshotSeq := rfl
@[simp] theorem modKey_host (s : State) (f : KeyDom → KeyDom) : (modKey s f).host = s.host := rfl
@[simp] theorem modKey_clk (s : State) (f : KeyDom → KeyDom) : (modKey s f).clk = s.clk := rfl
@[simp] theorem modKey_air (s : State) (f : KeyDom → KeyDom) : (modKey s f).air = s.air := rfl
@[simp] theorem modKey_node (s : State) (f : KeyDom → KeyDom) : (modKey s f).node = s.node := rfl
@[simp] theorem modKey_radio (s : State) (f : KeyDom → KeyDom) : (modKey s f).radio = s.radio := rfl
@[simp] theorem modKey_orbit (s : State) (f : KeyDom → KeyDom) : (modKey s f).orbit = s.orbit := rfl
@[simp] theorem modKey_crypt (s : State) (f : KeyDom → KeyDom) : (modKey s f).crypt = s.crypt := rfl
@[simp] theorem modKey_queue (s : State) (f : KeyDom → KeyDom) : (modKey s f).queue = s.queue := rfl
@[simp] theorem modKey_route (s : State) (f : KeyDom → KeyDom) : (modKey s f).route = s.route := rfl
@[simp] theorem modKey_path (s : State) (f : KeyDom → KeyDom) : (modKey s f).path = s.path := rfl
@[simp] theorem modKey_pair (s : State) (f : KeyDom → KeyDom) : (modKey s f).pair = s.pair := rfl
@[simp] theorem modKey_pwr (s : State) (f : KeyDom → KeyDom) : (modKey s f).pwr = s.pwr := rfl
@[simp] theorem modKey_fw (s : State) (f : KeyDom → KeyDom) : (modKey s f).fw = s.fw := rfl
@[simp] theorem modKey_cmp (s : State) (f : KeyDom → KeyDom) : (modKey s f).cmp = s.cmp := rfl
@[simp] theorem modKey_test (s : State) (f : KeyDom → KeyDom) : (modKey s f).test = s.test := rfl
@[simp] theorem modKey_key (s : State) (f : KeyDom → KeyDom) : (modKey s f).key = f s.key := rfl

/-! `modCrypt` -/

@[simp] theorem modCrypt_pending (s : State) (f : Crypt → Crypt) : (modCrypt s f).pending = s.pending := rfl
@[simp] theorem modCrypt_upNs (s : State) (f : Crypt → Crypt) : (modCrypt s f).upNs = s.upNs := rfl
@[simp] theorem modCrypt_free (s : State) (f : Crypt → Crypt) : (modCrypt s f).free = s.free := rfl
@[simp] theorem modCrypt_part (s : State) (f : Crypt → Crypt) : (modCrypt s f).part = s.part := rfl
@[simp] theorem modCrypt_role (s : State) (f : Crypt → Crypt) : (modCrypt s f).role = s.role := rfl
@[simp] theorem modCrypt_straps (s : State) (f : Crypt → Crypt) : (modCrypt s f).straps = s.straps := rfl
@[simp] theorem modCrypt_resetHigh (s : State) (f : Crypt → Crypt) : (modCrypt s f).resetHigh = s.resetHigh := rfl
@[simp] theorem modCrypt_quiescing (s : State) (f : Crypt → Crypt) : (modCrypt s f).quiescing = s.quiescing := rfl
@[simp] theorem modCrypt_snapshotSeq (s : State) (f : Crypt → Crypt) : (modCrypt s f).snapshotSeq = s.snapshotSeq := rfl
@[simp] theorem modCrypt_host (s : State) (f : Crypt → Crypt) : (modCrypt s f).host = s.host := rfl
@[simp] theorem modCrypt_clk (s : State) (f : Crypt → Crypt) : (modCrypt s f).clk = s.clk := rfl
@[simp] theorem modCrypt_key (s : State) (f : Crypt → Crypt) : (modCrypt s f).key = s.key := rfl
@[simp] theorem modCrypt_air (s : State) (f : Crypt → Crypt) : (modCrypt s f).air = s.air := rfl
@[simp] theorem modCrypt_node (s : State) (f : Crypt → Crypt) : (modCrypt s f).node = s.node := rfl
@[simp] theorem modCrypt_radio (s : State) (f : Crypt → Crypt) : (modCrypt s f).radio = s.radio := rfl
@[simp] theorem modCrypt_orbit (s : State) (f : Crypt → Crypt) : (modCrypt s f).orbit = s.orbit := rfl
@[simp] theorem modCrypt_queue (s : State) (f : Crypt → Crypt) : (modCrypt s f).queue = s.queue := rfl
@[simp] theorem modCrypt_route (s : State) (f : Crypt → Crypt) : (modCrypt s f).route = s.route := rfl
@[simp] theorem modCrypt_path (s : State) (f : Crypt → Crypt) : (modCrypt s f).path = s.path := rfl
@[simp] theorem modCrypt_pair (s : State) (f : Crypt → Crypt) : (modCrypt s f).pair = s.pair := rfl
@[simp] theorem modCrypt_pwr (s : State) (f : Crypt → Crypt) : (modCrypt s f).pwr = s.pwr := rfl
@[simp] theorem modCrypt_fw (s : State) (f : Crypt → Crypt) : (modCrypt s f).fw = s.fw := rfl
@[simp] theorem modCrypt_cmp (s : State) (f : Crypt → Crypt) : (modCrypt s f).cmp = s.cmp := rfl
@[simp] theorem modCrypt_test (s : State) (f : Crypt → Crypt) : (modCrypt s f).test = s.test := rfl
@[simp] theorem modCrypt_crypt (s : State) (f : Crypt → Crypt) : (modCrypt s f).crypt = f s.crypt := rfl

/-! `modPair` -/

@[simp] theorem modPair_pending (s : State) (f : Pair → Pair) : (modPair s f).pending = s.pending := rfl
@[simp] theorem modPair_upNs (s : State) (f : Pair → Pair) : (modPair s f).upNs = s.upNs := rfl
@[simp] theorem modPair_free (s : State) (f : Pair → Pair) : (modPair s f).free = s.free := rfl
@[simp] theorem modPair_part (s : State) (f : Pair → Pair) : (modPair s f).part = s.part := rfl
@[simp] theorem modPair_role (s : State) (f : Pair → Pair) : (modPair s f).role = s.role := rfl
@[simp] theorem modPair_straps (s : State) (f : Pair → Pair) : (modPair s f).straps = s.straps := rfl
@[simp] theorem modPair_resetHigh (s : State) (f : Pair → Pair) : (modPair s f).resetHigh = s.resetHigh := rfl
@[simp] theorem modPair_quiescing (s : State) (f : Pair → Pair) : (modPair s f).quiescing = s.quiescing := rfl
@[simp] theorem modPair_snapshotSeq (s : State) (f : Pair → Pair) : (modPair s f).snapshotSeq = s.snapshotSeq := rfl
@[simp] theorem modPair_host (s : State) (f : Pair → Pair) : (modPair s f).host = s.host := rfl
@[simp] theorem modPair_clk (s : State) (f : Pair → Pair) : (modPair s f).clk = s.clk := rfl
@[simp] theorem modPair_key (s : State) (f : Pair → Pair) : (modPair s f).key = s.key := rfl
@[simp] theorem modPair_air (s : State) (f : Pair → Pair) : (modPair s f).air = s.air := rfl
@[simp] theorem modPair_node (s : State) (f : Pair → Pair) : (modPair s f).node = s.node := rfl
@[simp] theorem modPair_radio (s : State) (f : Pair → Pair) : (modPair s f).radio = s.radio := rfl
@[simp] theorem modPair_orbit (s : State) (f : Pair → Pair) : (modPair s f).orbit = s.orbit := rfl
@[simp] theorem modPair_crypt (s : State) (f : Pair → Pair) : (modPair s f).crypt = s.crypt := rfl
@[simp] theorem modPair_queue (s : State) (f : Pair → Pair) : (modPair s f).queue = s.queue := rfl
@[simp] theorem modPair_route (s : State) (f : Pair → Pair) : (modPair s f).route = s.route := rfl
@[simp] theorem modPair_path (s : State) (f : Pair → Pair) : (modPair s f).path = s.path := rfl
@[simp] theorem modPair_pwr (s : State) (f : Pair → Pair) : (modPair s f).pwr = s.pwr := rfl
@[simp] theorem modPair_fw (s : State) (f : Pair → Pair) : (modPair s f).fw = s.fw := rfl
@[simp] theorem modPair_cmp (s : State) (f : Pair → Pair) : (modPair s f).cmp = s.cmp := rfl
@[simp] theorem modPair_test (s : State) (f : Pair → Pair) : (modPair s f).test = s.test := rfl
@[simp] theorem modPair_pair (s : State) (f : Pair → Pair) : (modPair s f).pair = f s.pair := rfl

/-! `modQueue` -/

@[simp] theorem modQueue_pending (s : State) (f : QueueDom → QueueDom) : (modQueue s f).pending = s.pending := rfl
@[simp] theorem modQueue_upNs (s : State) (f : QueueDom → QueueDom) : (modQueue s f).upNs = s.upNs := rfl
@[simp] theorem modQueue_free (s : State) (f : QueueDom → QueueDom) : (modQueue s f).free = s.free := rfl
@[simp] theorem modQueue_part (s : State) (f : QueueDom → QueueDom) : (modQueue s f).part = s.part := rfl
@[simp] theorem modQueue_role (s : State) (f : QueueDom → QueueDom) : (modQueue s f).role = s.role := rfl
@[simp] theorem modQueue_straps (s : State) (f : QueueDom → QueueDom) : (modQueue s f).straps = s.straps := rfl
@[simp] theorem modQueue_resetHigh (s : State) (f : QueueDom → QueueDom) : (modQueue s f).resetHigh = s.resetHigh := rfl
@[simp] theorem modQueue_quiescing (s : State) (f : QueueDom → QueueDom) : (modQueue s f).quiescing = s.quiescing := rfl
@[simp] theorem modQueue_snapshotSeq (s : State) (f : QueueDom → QueueDom) : (modQueue s f).snapshotSeq = s.snapshotSeq := rfl
@[simp] theorem modQueue_host (s : State) (f : QueueDom → QueueDom) : (modQueue s f).host = s.host := rfl
@[simp] theorem modQueue_clk (s : State) (f : QueueDom → QueueDom) : (modQueue s f).clk = s.clk := rfl
@[simp] theorem modQueue_key (s : State) (f : QueueDom → QueueDom) : (modQueue s f).key = s.key := rfl
@[simp] theorem modQueue_air (s : State) (f : QueueDom → QueueDom) : (modQueue s f).air = s.air := rfl
@[simp] theorem modQueue_node (s : State) (f : QueueDom → QueueDom) : (modQueue s f).node = s.node := rfl
@[simp] theorem modQueue_radio (s : State) (f : QueueDom → QueueDom) : (modQueue s f).radio = s.radio := rfl
@[simp] theorem modQueue_orbit (s : State) (f : QueueDom → QueueDom) : (modQueue s f).orbit = s.orbit := rfl
@[simp] theorem modQueue_crypt (s : State) (f : QueueDom → QueueDom) : (modQueue s f).crypt = s.crypt := rfl
@[simp] theorem modQueue_route (s : State) (f : QueueDom → QueueDom) : (modQueue s f).route = s.route := rfl
@[simp] theorem modQueue_path (s : State) (f : QueueDom → QueueDom) : (modQueue s f).path = s.path := rfl
@[simp] theorem modQueue_pair (s : State) (f : QueueDom → QueueDom) : (modQueue s f).pair = s.pair := rfl
@[simp] theorem modQueue_pwr (s : State) (f : QueueDom → QueueDom) : (modQueue s f).pwr = s.pwr := rfl
@[simp] theorem modQueue_fw (s : State) (f : QueueDom → QueueDom) : (modQueue s f).fw = s.fw := rfl
@[simp] theorem modQueue_cmp (s : State) (f : QueueDom → QueueDom) : (modQueue s f).cmp = s.cmp := rfl
@[simp] theorem modQueue_test (s : State) (f : QueueDom → QueueDom) : (modQueue s f).test = s.test := rfl
@[simp] theorem modQueue_queue (s : State) (f : QueueDom → QueueDom) : (modQueue s f).queue = f s.queue := rfl

/-! `modRadio` -/

@[simp] theorem modRadio_pending (s : State) (f : Radio → Radio) : (modRadio s f).pending = s.pending := rfl
@[simp] theorem modRadio_upNs (s : State) (f : Radio → Radio) : (modRadio s f).upNs = s.upNs := rfl
@[simp] theorem modRadio_free (s : State) (f : Radio → Radio) : (modRadio s f).free = s.free := rfl
@[simp] theorem modRadio_part (s : State) (f : Radio → Radio) : (modRadio s f).part = s.part := rfl
@[simp] theorem modRadio_role (s : State) (f : Radio → Radio) : (modRadio s f).role = s.role := rfl
@[simp] theorem modRadio_straps (s : State) (f : Radio → Radio) : (modRadio s f).straps = s.straps := rfl
@[simp] theorem modRadio_resetHigh (s : State) (f : Radio → Radio) : (modRadio s f).resetHigh = s.resetHigh := rfl
@[simp] theorem modRadio_quiescing (s : State) (f : Radio → Radio) : (modRadio s f).quiescing = s.quiescing := rfl
@[simp] theorem modRadio_snapshotSeq (s : State) (f : Radio → Radio) : (modRadio s f).snapshotSeq = s.snapshotSeq := rfl
@[simp] theorem modRadio_host (s : State) (f : Radio → Radio) : (modRadio s f).host = s.host := rfl
@[simp] theorem modRadio_clk (s : State) (f : Radio → Radio) : (modRadio s f).clk = s.clk := rfl
@[simp] theorem modRadio_key (s : State) (f : Radio → Radio) : (modRadio s f).key = s.key := rfl
@[simp] theorem modRadio_air (s : State) (f : Radio → Radio) : (modRadio s f).air = s.air := rfl
@[simp] theorem modRadio_node (s : State) (f : Radio → Radio) : (modRadio s f).node = s.node := rfl
@[simp] theorem modRadio_orbit (s : State) (f : Radio → Radio) : (modRadio s f).orbit = s.orbit := rfl
@[simp] theorem modRadio_crypt (s : State) (f : Radio → Radio) : (modRadio s f).crypt = s.crypt := rfl
@[simp] theorem modRadio_queue (s : State) (f : Radio → Radio) : (modRadio s f).queue = s.queue := rfl
@[simp] theorem modRadio_route (s : State) (f : Radio → Radio) : (modRadio s f).route = s.route := rfl
@[simp] theorem modRadio_path (s : State) (f : Radio → Radio) : (modRadio s f).path = s.path := rfl
@[simp] theorem modRadio_pair (s : State) (f : Radio → Radio) : (modRadio s f).pair = s.pair := rfl
@[simp] theorem modRadio_pwr (s : State) (f : Radio → Radio) : (modRadio s f).pwr = s.pwr := rfl
@[simp] theorem modRadio_fw (s : State) (f : Radio → Radio) : (modRadio s f).fw = s.fw := rfl
@[simp] theorem modRadio_cmp (s : State) (f : Radio → Radio) : (modRadio s f).cmp = s.cmp := rfl
@[simp] theorem modRadio_test (s : State) (f : Radio → Radio) : (modRadio s f).test = s.test := rfl
@[simp] theorem modRadio_radio (s : State) (f : Radio → Radio) : (modRadio s f).radio = f s.radio := rfl

/-! `modRoute` -/

@[simp] theorem modRoute_pending (s : State) (f : Routing → Routing) : (modRoute s f).pending = s.pending := rfl
@[simp] theorem modRoute_upNs (s : State) (f : Routing → Routing) : (modRoute s f).upNs = s.upNs := rfl
@[simp] theorem modRoute_free (s : State) (f : Routing → Routing) : (modRoute s f).free = s.free := rfl
@[simp] theorem modRoute_part (s : State) (f : Routing → Routing) : (modRoute s f).part = s.part := rfl
@[simp] theorem modRoute_role (s : State) (f : Routing → Routing) : (modRoute s f).role = s.role := rfl
@[simp] theorem modRoute_straps (s : State) (f : Routing → Routing) : (modRoute s f).straps = s.straps := rfl
@[simp] theorem modRoute_resetHigh (s : State) (f : Routing → Routing) : (modRoute s f).resetHigh = s.resetHigh := rfl
@[simp] theorem modRoute_quiescing (s : State) (f : Routing → Routing) : (modRoute s f).quiescing = s.quiescing := rfl
@[simp] theorem modRoute_snapshotSeq (s : State) (f : Routing → Routing) : (modRoute s f).snapshotSeq = s.snapshotSeq := rfl
@[simp] theorem modRoute_host (s : State) (f : Routing → Routing) : (modRoute s f).host = s.host := rfl
@[simp] theorem modRoute_clk (s : State) (f : Routing → Routing) : (modRoute s f).clk = s.clk := rfl
@[simp] theorem modRoute_key (s : State) (f : Routing → Routing) : (modRoute s f).key = s.key := rfl
@[simp] theorem modRoute_air (s : State) (f : Routing → Routing) : (modRoute s f).air = s.air := rfl
@[simp] theorem modRoute_node (s : State) (f : Routing → Routing) : (modRoute s f).node = s.node := rfl
@[simp] theorem modRoute_radio (s : State) (f : Routing → Routing) : (modRoute s f).radio = s.radio := rfl
@[simp] theorem modRoute_orbit (s : State) (f : Routing → Routing) : (modRoute s f).orbit = s.orbit := rfl
@[simp] theorem modRoute_crypt (s : State) (f : Routing → Routing) : (modRoute s f).crypt = s.crypt := rfl
@[simp] theorem modRoute_queue (s : State) (f : Routing → Routing) : (modRoute s f).queue = s.queue := rfl
@[simp] theorem modRoute_path (s : State) (f : Routing → Routing) : (modRoute s f).path = s.path := rfl
@[simp] theorem modRoute_pair (s : State) (f : Routing → Routing) : (modRoute s f).pair = s.pair := rfl
@[simp] theorem modRoute_pwr (s : State) (f : Routing → Routing) : (modRoute s f).pwr = s.pwr := rfl
@[simp] theorem modRoute_fw (s : State) (f : Routing → Routing) : (modRoute s f).fw = s.fw := rfl
@[simp] theorem modRoute_cmp (s : State) (f : Routing → Routing) : (modRoute s f).cmp = s.cmp := rfl
@[simp] theorem modRoute_test (s : State) (f : Routing → Routing) : (modRoute s f).test = s.test := rfl
@[simp] theorem modRoute_route (s : State) (f : Routing → Routing) : (modRoute s f).route = f s.route := rfl

/-! `modSpi` -/

@[simp] theorem modSpi_pending (s : State) (f : SpiIf → SpiIf) : (modSpi s f).pending = s.pending := rfl
@[simp] theorem modSpi_upNs (s : State) (f : SpiIf → SpiIf) : (modSpi s f).upNs = s.upNs := rfl
@[simp] theorem modSpi_free (s : State) (f : SpiIf → SpiIf) : (modSpi s f).free = s.free := rfl
@[simp] theorem modSpi_part (s : State) (f : SpiIf → SpiIf) : (modSpi s f).part = s.part := rfl
@[simp] theorem modSpi_role (s : State) (f : SpiIf → SpiIf) : (modSpi s f).role = s.role := rfl
@[simp] theorem modSpi_straps (s : State) (f : SpiIf → SpiIf) : (modSpi s f).straps = s.straps := rfl
@[simp] theorem modSpi_resetHigh (s : State) (f : SpiIf → SpiIf) : (modSpi s f).resetHigh = s.resetHigh := rfl
@[simp] theorem modSpi_quiescing (s : State) (f : SpiIf → SpiIf) : (modSpi s f).quiescing = s.quiescing := rfl
@[simp] theorem modSpi_snapshotSeq (s : State) (f : SpiIf → SpiIf) : (modSpi s f).snapshotSeq = s.snapshotSeq := rfl
@[simp] theorem modSpi_clk (s : State) (f : SpiIf → SpiIf) : (modSpi s f).clk = s.clk := rfl
@[simp] theorem modSpi_key (s : State) (f : SpiIf → SpiIf) : (modSpi s f).key = s.key := rfl
@[simp] theorem modSpi_air (s : State) (f : SpiIf → SpiIf) : (modSpi s f).air = s.air := rfl
@[simp] theorem modSpi_node (s : State) (f : SpiIf → SpiIf) : (modSpi s f).node = s.node := rfl
@[simp] theorem modSpi_radio (s : State) (f : SpiIf → SpiIf) : (modSpi s f).radio = s.radio := rfl
@[simp] theorem modSpi_orbit (s : State) (f : SpiIf → SpiIf) : (modSpi s f).orbit = s.orbit := rfl
@[simp] theorem modSpi_crypt (s : State) (f : SpiIf → SpiIf) : (modSpi s f).crypt = s.crypt := rfl
@[simp] theorem modSpi_queue (s : State) (f : SpiIf → SpiIf) : (modSpi s f).queue = s.queue := rfl
@[simp] theorem modSpi_route (s : State) (f : SpiIf → SpiIf) : (modSpi s f).route = s.route := rfl
@[simp] theorem modSpi_path (s : State) (f : SpiIf → SpiIf) : (modSpi s f).path = s.path := rfl
@[simp] theorem modSpi_pair (s : State) (f : SpiIf → SpiIf) : (modSpi s f).pair = s.pair := rfl
@[simp] theorem modSpi_pwr (s : State) (f : SpiIf → SpiIf) : (modSpi s f).pwr = s.pwr := rfl
@[simp] theorem modSpi_fw (s : State) (f : SpiIf → SpiIf) : (modSpi s f).fw = s.fw := rfl
@[simp] theorem modSpi_cmp (s : State) (f : SpiIf → SpiIf) : (modSpi s f).cmp = s.cmp := rfl
@[simp] theorem modSpi_test (s : State) (f : SpiIf → SpiIf) : (modSpi s f).test = s.test := rfl

/-! `modTest` -/

@[simp] theorem modTest_pending (s : State) (f : TestDom → TestDom) : (modTest s f).pending = s.pending := rfl
@[simp] theorem modTest_upNs (s : State) (f : TestDom → TestDom) : (modTest s f).upNs = s.upNs := rfl
@[simp] theorem modTest_free (s : State) (f : TestDom → TestDom) : (modTest s f).free = s.free := rfl
@[simp] theorem modTest_part (s : State) (f : TestDom → TestDom) : (modTest s f).part = s.part := rfl
@[simp] theorem modTest_role (s : State) (f : TestDom → TestDom) : (modTest s f).role = s.role := rfl
@[simp] theorem modTest_straps (s : State) (f : TestDom → TestDom) : (modTest s f).straps = s.straps := rfl
@[simp] theorem modTest_resetHigh (s : State) (f : TestDom → TestDom) : (modTest s f).resetHigh = s.resetHigh := rfl
@[simp] theorem modTest_quiescing (s : State) (f : TestDom → TestDom) : (modTest s f).quiescing = s.quiescing := rfl
@[simp] theorem modTest_snapshotSeq (s : State) (f : TestDom → TestDom) : (modTest s f).snapshotSeq = s.snapshotSeq := rfl
@[simp] theorem modTest_host (s : State) (f : TestDom → TestDom) : (modTest s f).host = s.host := rfl
@[simp] theorem modTest_clk (s : State) (f : TestDom → TestDom) : (modTest s f).clk = s.clk := rfl
@[simp] theorem modTest_key (s : State) (f : TestDom → TestDom) : (modTest s f).key = s.key := rfl
@[simp] theorem modTest_air (s : State) (f : TestDom → TestDom) : (modTest s f).air = s.air := rfl
@[simp] theorem modTest_node (s : State) (f : TestDom → TestDom) : (modTest s f).node = s.node := rfl
@[simp] theorem modTest_radio (s : State) (f : TestDom → TestDom) : (modTest s f).radio = s.radio := rfl
@[simp] theorem modTest_orbit (s : State) (f : TestDom → TestDom) : (modTest s f).orbit = s.orbit := rfl
@[simp] theorem modTest_crypt (s : State) (f : TestDom → TestDom) : (modTest s f).crypt = s.crypt := rfl
@[simp] theorem modTest_queue (s : State) (f : TestDom → TestDom) : (modTest s f).queue = s.queue := rfl
@[simp] theorem modTest_route (s : State) (f : TestDom → TestDom) : (modTest s f).route = s.route := rfl
@[simp] theorem modTest_path (s : State) (f : TestDom → TestDom) : (modTest s f).path = s.path := rfl
@[simp] theorem modTest_pair (s : State) (f : TestDom → TestDom) : (modTest s f).pair = s.pair := rfl
@[simp] theorem modTest_pwr (s : State) (f : TestDom → TestDom) : (modTest s f).pwr = s.pwr := rfl
@[simp] theorem modTest_fw (s : State) (f : TestDom → TestDom) : (modTest s f).fw = s.fw := rfl
@[simp] theorem modTest_cmp (s : State) (f : TestDom → TestDom) : (modTest s f).cmp = s.cmp := rfl
@[simp] theorem modTest_test (s : State) (f : TestDom → TestDom) : (modTest s f).test = f s.test := rfl

/-! `modClk` -/

@[simp] theorem modClk_pending (s : State) (f : Clk → Clk) : (modClk s f).pending = s.pending := rfl
@[simp] theorem modClk_upNs (s : State) (f : Clk → Clk) : (modClk s f).upNs = s.upNs := rfl
@[simp] theorem modClk_free (s : State) (f : Clk → Clk) : (modClk s f).free = s.free := rfl
@[simp] theorem modClk_part (s : State) (f : Clk → Clk) : (modClk s f).part = s.part := rfl
@[simp] theorem modClk_role (s : State) (f : Clk → Clk) : (modClk s f).role = s.role := rfl
@[simp] theorem modClk_straps (s : State) (f : Clk → Clk) : (modClk s f).straps = s.straps := rfl
@[simp] theorem modClk_resetHigh (s : State) (f : Clk → Clk) : (modClk s f).resetHigh = s.resetHigh := rfl
@[simp] theorem modClk_quiescing (s : State) (f : Clk → Clk) : (modClk s f).quiescing = s.quiescing := rfl
@[simp] theorem modClk_snapshotSeq (s : State) (f : Clk → Clk) : (modClk s f).snapshotSeq = s.snapshotSeq := rfl
@[simp] theorem modClk_host (s : State) (f : Clk → Clk) : (modClk s f).host = s.host := rfl
@[simp] theorem modClk_key (s : State) (f : Clk → Clk) : (modClk s f).key = s.key := rfl
@[simp] theorem modClk_air (s : State) (f : Clk → Clk) : (modClk s f).air = s.air := rfl
@[simp] theorem modClk_node (s : State) (f : Clk → Clk) : (modClk s f).node = s.node := rfl
@[simp] theorem modClk_radio (s : State) (f : Clk → Clk) : (modClk s f).radio = s.radio := rfl
@[simp] theorem modClk_orbit (s : State) (f : Clk → Clk) : (modClk s f).orbit = s.orbit := rfl
@[simp] theorem modClk_crypt (s : State) (f : Clk → Clk) : (modClk s f).crypt = s.crypt := rfl
@[simp] theorem modClk_queue (s : State) (f : Clk → Clk) : (modClk s f).queue = s.queue := rfl
@[simp] theorem modClk_route (s : State) (f : Clk → Clk) : (modClk s f).route = s.route := rfl
@[simp] theorem modClk_path (s : State) (f : Clk → Clk) : (modClk s f).path = s.path := rfl
@[simp] theorem modClk_pair (s : State) (f : Clk → Clk) : (modClk s f).pair = s.pair := rfl
@[simp] theorem modClk_pwr (s : State) (f : Clk → Clk) : (modClk s f).pwr = s.pwr := rfl
@[simp] theorem modClk_fw (s : State) (f : Clk → Clk) : (modClk s f).fw = s.fw := rfl
@[simp] theorem modClk_cmp (s : State) (f : Clk → Clk) : (modClk s f).cmp = s.cmp := rfl
@[simp] theorem modClk_test (s : State) (f : Clk → Clk) : (modClk s f).test = s.test := rfl
@[simp] theorem modClk_clk (s : State) (f : Clk → Clk) : (modClk s f).clk = f s.clk := rfl

/-! `modFw` -/

@[simp] theorem modFw_pending (s : State) (f : Firmware → Firmware) : (modFw s f).pending = s.pending := rfl
@[simp] theorem modFw_upNs (s : State) (f : Firmware → Firmware) : (modFw s f).upNs = s.upNs := rfl
@[simp] theorem modFw_free (s : State) (f : Firmware → Firmware) : (modFw s f).free = s.free := rfl
@[simp] theorem modFw_part (s : State) (f : Firmware → Firmware) : (modFw s f).part = s.part := rfl
@[simp] theorem modFw_role (s : State) (f : Firmware → Firmware) : (modFw s f).role = s.role := rfl
@[simp] theorem modFw_straps (s : State) (f : Firmware → Firmware) : (modFw s f).straps = s.straps := rfl
@[simp] theorem modFw_resetHigh (s : State) (f : Firmware → Firmware) : (modFw s f).resetHigh = s.resetHigh := rfl
@[simp] theorem modFw_quiescing (s : State) (f : Firmware → Firmware) : (modFw s f).quiescing = s.quiescing := rfl
@[simp] theorem modFw_snapshotSeq (s : State) (f : Firmware → Firmware) : (modFw s f).snapshotSeq = s.snapshotSeq := rfl
@[simp] theorem modFw_host (s : State) (f : Firmware → Firmware) : (modFw s f).host = s.host := rfl
@[simp] theorem modFw_clk (s : State) (f : Firmware → Firmware) : (modFw s f).clk = s.clk := rfl
@[simp] theorem modFw_key (s : State) (f : Firmware → Firmware) : (modFw s f).key = s.key := rfl
@[simp] theorem modFw_air (s : State) (f : Firmware → Firmware) : (modFw s f).air = s.air := rfl
@[simp] theorem modFw_node (s : State) (f : Firmware → Firmware) : (modFw s f).node = s.node := rfl
@[simp] theorem modFw_radio (s : State) (f : Firmware → Firmware) : (modFw s f).radio = s.radio := rfl
@[simp] theorem modFw_orbit (s : State) (f : Firmware → Firmware) : (modFw s f).orbit = s.orbit := rfl
@[simp] theorem modFw_crypt (s : State) (f : Firmware → Firmware) : (modFw s f).crypt = s.crypt := rfl
@[simp] theorem modFw_queue (s : State) (f : Firmware → Firmware) : (modFw s f).queue = s.queue := rfl
@[simp] theorem modFw_route (s : State) (f : Firmware → Firmware) : (modFw s f).route = s.route := rfl
@[simp] theorem modFw_path (s : State) (f : Firmware → Firmware) : (modFw s f).path = s.path := rfl
@[simp] theorem modFw_pair (s : State) (f : Firmware → Firmware) : (modFw s f).pair = s.pair := rfl
@[simp] theorem modFw_pwr (s : State) (f : Firmware → Firmware) : (modFw s f).pwr = s.pwr := rfl
@[simp] theorem modFw_cmp (s : State) (f : Firmware → Firmware) : (modFw s f).cmp = s.cmp := rfl
@[simp] theorem modFw_test (s : State) (f : Firmware → Firmware) : (modFw s f).test = s.test := rfl
@[simp] theorem modFw_fw (s : State) (f : Firmware → Firmware) : (modFw s f).fw = f s.fw := rfl

/-! `modTx` -/

@[simp] theorem modTx_pending (s : State) (b : Band) (f : TxBand → TxBand) : (modTx s b f).pending = s.pending := rfl
@[simp] theorem modTx_upNs (s : State) (b : Band) (f : TxBand → TxBand) : (modTx s b f).upNs = s.upNs := rfl
@[simp] theorem modTx_free (s : State) (b : Band) (f : TxBand → TxBand) : (modTx s b f).free = s.free := rfl
@[simp] theorem modTx_part (s : State) (b : Band) (f : TxBand → TxBand) : (modTx s b f).part = s.part := rfl
@[simp] theorem modTx_role (s : State) (b : Band) (f : TxBand → TxBand) : (modTx s b f).role = s.role := rfl
@[simp] theorem modTx_straps (s : State) (b : Band) (f : TxBand → TxBand) : (modTx s b f).straps = s.straps := rfl
@[simp] theorem modTx_resetHigh (s : State) (b : Band) (f : TxBand → TxBand) : (modTx s b f).resetHigh = s.resetHigh := rfl
@[simp] theorem modTx_quiescing (s : State) (b : Band) (f : TxBand → TxBand) : (modTx s b f).quiescing = s.quiescing := rfl
@[simp] theorem modTx_snapshotSeq (s : State) (b : Band) (f : TxBand → TxBand) : (modTx s b f).snapshotSeq = s.snapshotSeq := rfl
@[simp] theorem modTx_host (s : State) (b : Band) (f : TxBand → TxBand) : (modTx s b f).host = s.host := rfl
@[simp] theorem modTx_clk (s : State) (b : Band) (f : TxBand → TxBand) : (modTx s b f).clk = s.clk := rfl
@[simp] theorem modTx_key (s : State) (b : Band) (f : TxBand → TxBand) : (modTx s b f).key = s.key := rfl
@[simp] theorem modTx_air (s : State) (b : Band) (f : TxBand → TxBand) : (modTx s b f).air = s.air := rfl
@[simp] theorem modTx_node (s : State) (b : Band) (f : TxBand → TxBand) : (modTx s b f).node = s.node := rfl
@[simp] theorem modTx_orbit (s : State) (b : Band) (f : TxBand → TxBand) : (modTx s b f).orbit = s.orbit := rfl
@[simp] theorem modTx_crypt (s : State) (b : Band) (f : TxBand → TxBand) : (modTx s b f).crypt = s.crypt := rfl
@[simp] theorem modTx_queue (s : State) (b : Band) (f : TxBand → TxBand) : (modTx s b f).queue = s.queue := rfl
@[simp] theorem modTx_route (s : State) (b : Band) (f : TxBand → TxBand) : (modTx s b f).route = s.route := rfl
@[simp] theorem modTx_path (s : State) (b : Band) (f : TxBand → TxBand) : (modTx s b f).path = s.path := rfl
@[simp] theorem modTx_pair (s : State) (b : Band) (f : TxBand → TxBand) : (modTx s b f).pair = s.pair := rfl
@[simp] theorem modTx_pwr (s : State) (b : Band) (f : TxBand → TxBand) : (modTx s b f).pwr = s.pwr := rfl
@[simp] theorem modTx_fw (s : State) (b : Band) (f : TxBand → TxBand) : (modTx s b f).fw = s.fw := rfl
@[simp] theorem modTx_cmp (s : State) (b : Band) (f : TxBand → TxBand) : (modTx s b f).cmp = s.cmp := rfl
@[simp] theorem modTx_test (s : State) (b : Band) (f : TxBand → TxBand) : (modTx s b f).test = s.test := rfl

/-! `modRx` -/

@[simp] theorem modRx_pending (s : State) (b : Band) (f : RxBand → RxBand) : (modRx s b f).pending = s.pending := rfl
@[simp] theorem modRx_upNs (s : State) (b : Band) (f : RxBand → RxBand) : (modRx s b f).upNs = s.upNs := rfl
@[simp] theorem modRx_free (s : State) (b : Band) (f : RxBand → RxBand) : (modRx s b f).free = s.free := rfl
@[simp] theorem modRx_part (s : State) (b : Band) (f : RxBand → RxBand) : (modRx s b f).part = s.part := rfl
@[simp] theorem modRx_role (s : State) (b : Band) (f : RxBand → RxBand) : (modRx s b f).role = s.role := rfl
@[simp] theorem modRx_straps (s : State) (b : Band) (f : RxBand → RxBand) : (modRx s b f).straps = s.straps := rfl
@[simp] theorem modRx_resetHigh (s : State) (b : Band) (f : RxBand → RxBand) : (modRx s b f).resetHigh = s.resetHigh := rfl
@[simp] theorem modRx_quiescing (s : State) (b : Band) (f : RxBand → RxBand) : (modRx s b f).quiescing = s.quiescing := rfl
@[simp] theorem modRx_snapshotSeq (s : State) (b : Band) (f : RxBand → RxBand) : (modRx s b f).snapshotSeq = s.snapshotSeq := rfl
@[simp] theorem modRx_host (s : State) (b : Band) (f : RxBand → RxBand) : (modRx s b f).host = s.host := rfl
@[simp] theorem modRx_clk (s : State) (b : Band) (f : RxBand → RxBand) : (modRx s b f).clk = s.clk := rfl
@[simp] theorem modRx_key (s : State) (b : Band) (f : RxBand → RxBand) : (modRx s b f).key = s.key := rfl
@[simp] theorem modRx_air (s : State) (b : Band) (f : RxBand → RxBand) : (modRx s b f).air = s.air := rfl
@[simp] theorem modRx_node (s : State) (b : Band) (f : RxBand → RxBand) : (modRx s b f).node = s.node := rfl
@[simp] theorem modRx_orbit (s : State) (b : Band) (f : RxBand → RxBand) : (modRx s b f).orbit = s.orbit := rfl
@[simp] theorem modRx_crypt (s : State) (b : Band) (f : RxBand → RxBand) : (modRx s b f).crypt = s.crypt := rfl
@[simp] theorem modRx_queue (s : State) (b : Band) (f : RxBand → RxBand) : (modRx s b f).queue = s.queue := rfl
@[simp] theorem modRx_route (s : State) (b : Band) (f : RxBand → RxBand) : (modRx s b f).route = s.route := rfl
@[simp] theorem modRx_path (s : State) (b : Band) (f : RxBand → RxBand) : (modRx s b f).path = s.path := rfl
@[simp] theorem modRx_pair (s : State) (b : Band) (f : RxBand → RxBand) : (modRx s b f).pair = s.pair := rfl
@[simp] theorem modRx_pwr (s : State) (b : Band) (f : RxBand → RxBand) : (modRx s b f).pwr = s.pwr := rfl
@[simp] theorem modRx_fw (s : State) (b : Band) (f : RxBand → RxBand) : (modRx s b f).fw = s.fw := rfl
@[simp] theorem modRx_cmp (s : State) (b : Band) (f : RxBand → RxBand) : (modRx s b f).cmp = s.cmp := rfl
@[simp] theorem modRx_test (s : State) (b : Band) (f : RxBand → RxBand) : (modRx s b f).test = s.test := rfl

/-! `modNode` -/

@[simp] theorem modNode_pending (s : State) (i : Nat) (f : NodeEntry → NodeEntry) : (modNode s i f).pending = s.pending := rfl
@[simp] theorem modNode_upNs (s : State) (i : Nat) (f : NodeEntry → NodeEntry) : (modNode s i f).upNs = s.upNs := rfl
@[simp] theorem modNode_free (s : State) (i : Nat) (f : NodeEntry → NodeEntry) : (modNode s i f).free = s.free := rfl
@[simp] theorem modNode_part (s : State) (i : Nat) (f : NodeEntry → NodeEntry) : (modNode s i f).part = s.part := rfl
@[simp] theorem modNode_role (s : State) (i : Nat) (f : NodeEntry → NodeEntry) : (modNode s i f).role = s.role := rfl
@[simp] theorem modNode_straps (s : State) (i : Nat) (f : NodeEntry → NodeEntry) : (modNode s i f).straps = s.straps := rfl
@[simp] theorem modNode_resetHigh (s : State) (i : Nat) (f : NodeEntry → NodeEntry) : (modNode s i f).resetHigh = s.resetHigh := rfl
@[simp] theorem modNode_quiescing (s : State) (i : Nat) (f : NodeEntry → NodeEntry) : (modNode s i f).quiescing = s.quiescing := rfl
@[simp] theorem modNode_snapshotSeq (s : State) (i : Nat) (f : NodeEntry → NodeEntry) : (modNode s i f).snapshotSeq = s.snapshotSeq := rfl
@[simp] theorem modNode_host (s : State) (i : Nat) (f : NodeEntry → NodeEntry) : (modNode s i f).host = s.host := rfl
@[simp] theorem modNode_clk (s : State) (i : Nat) (f : NodeEntry → NodeEntry) : (modNode s i f).clk = s.clk := rfl
@[simp] theorem modNode_key (s : State) (i : Nat) (f : NodeEntry → NodeEntry) : (modNode s i f).key = s.key := rfl
@[simp] theorem modNode_air (s : State) (i : Nat) (f : NodeEntry → NodeEntry) : (modNode s i f).air = s.air := rfl
@[simp] theorem modNode_radio (s : State) (i : Nat) (f : NodeEntry → NodeEntry) : (modNode s i f).radio = s.radio := rfl
@[simp] theorem modNode_orbit (s : State) (i : Nat) (f : NodeEntry → NodeEntry) : (modNode s i f).orbit = s.orbit := rfl
@[simp] theorem modNode_crypt (s : State) (i : Nat) (f : NodeEntry → NodeEntry) : (modNode s i f).crypt = s.crypt := rfl
@[simp] theorem modNode_queue (s : State) (i : Nat) (f : NodeEntry → NodeEntry) : (modNode s i f).queue = s.queue := rfl
@[simp] theorem modNode_route (s : State) (i : Nat) (f : NodeEntry → NodeEntry) : (modNode s i f).route = s.route := rfl
@[simp] theorem modNode_path (s : State) (i : Nat) (f : NodeEntry → NodeEntry) : (modNode s i f).path = s.path := rfl
@[simp] theorem modNode_pair (s : State) (i : Nat) (f : NodeEntry → NodeEntry) : (modNode s i f).pair = s.pair := rfl
@[simp] theorem modNode_pwr (s : State) (i : Nat) (f : NodeEntry → NodeEntry) : (modNode s i f).pwr = s.pwr := rfl
@[simp] theorem modNode_fw (s : State) (i : Nat) (f : NodeEntry → NodeEntry) : (modNode s i f).fw = s.fw := rfl
@[simp] theorem modNode_cmp (s : State) (i : Nat) (f : NodeEntry → NodeEntry) : (modNode s i f).cmp = s.cmp := rfl
@[simp] theorem modNode_test (s : State) (i : Nat) (f : NodeEntry → NodeEntry) : (modNode s i f).test = s.test := rfl

/-! `modDom` -/

@[simp] theorem modDom_pending (s : State) (d : Nat) (f : Domain → Domain) : (modDom s d f).pending = s.pending := rfl
@[simp] theorem modDom_upNs (s : State) (d : Nat) (f : Domain → Domain) : (modDom s d f).upNs = s.upNs := rfl
@[simp] theorem modDom_free (s : State) (d : Nat) (f : Domain → Domain) : (modDom s d f).free = s.free := rfl
@[simp] theorem modDom_part (s : State) (d : Nat) (f : Domain → Domain) : (modDom s d f).part = s.part := rfl
@[simp] theorem modDom_role (s : State) (d : Nat) (f : Domain → Domain) : (modDom s d f).role = s.role := rfl
@[simp] theorem modDom_straps (s : State) (d : Nat) (f : Domain → Domain) : (modDom s d f).straps = s.straps := rfl
@[simp] theorem modDom_resetHigh (s : State) (d : Nat) (f : Domain → Domain) : (modDom s d f).resetHigh = s.resetHigh := rfl
@[simp] theorem modDom_quiescing (s : State) (d : Nat) (f : Domain → Domain) : (modDom s d f).quiescing = s.quiescing := rfl
@[simp] theorem modDom_snapshotSeq (s : State) (d : Nat) (f : Domain → Domain) : (modDom s d f).snapshotSeq = s.snapshotSeq := rfl
@[simp] theorem modDom_host (s : State) (d : Nat) (f : Domain → Domain) : (modDom s d f).host = s.host := rfl
@[simp] theorem modDom_clk (s : State) (d : Nat) (f : Domain → Domain) : (modDom s d f).clk = s.clk := rfl
@[simp] theorem modDom_key (s : State) (d : Nat) (f : Domain → Domain) : (modDom s d f).key = s.key := rfl
@[simp] theorem modDom_air (s : State) (d : Nat) (f : Domain → Domain) : (modDom s d f).air = s.air := rfl
@[simp] theorem modDom_node (s : State) (d : Nat) (f : Domain → Domain) : (modDom s d f).node = s.node := rfl
@[simp] theorem modDom_radio (s : State) (d : Nat) (f : Domain → Domain) : (modDom s d f).radio = s.radio := rfl
@[simp] theorem modDom_orbit (s : State) (d : Nat) (f : Domain → Domain) : (modDom s d f).orbit = s.orbit := rfl
@[simp] theorem modDom_crypt (s : State) (d : Nat) (f : Domain → Domain) : (modDom s d f).crypt = s.crypt := rfl
@[simp] theorem modDom_queue (s : State) (d : Nat) (f : Domain → Domain) : (modDom s d f).queue = s.queue := rfl
@[simp] theorem modDom_route (s : State) (d : Nat) (f : Domain → Domain) : (modDom s d f).route = s.route := rfl
@[simp] theorem modDom_path (s : State) (d : Nat) (f : Domain → Domain) : (modDom s d f).path = s.path := rfl
@[simp] theorem modDom_pair (s : State) (d : Nat) (f : Domain → Domain) : (modDom s d f).pair = s.pair := rfl
@[simp] theorem modDom_fw (s : State) (d : Nat) (f : Domain → Domain) : (modDom s d f).fw = s.fw := rfl
@[simp] theorem modDom_cmp (s : State) (d : Nat) (f : Domain → Domain) : (modDom s d f).cmp = s.cmp := rfl
@[simp] theorem modDom_test (s : State) (d : Nat) (f : Domain → Domain) : (modDom s d f).test = s.test := rfl

/-! `modView` -/

@[simp] theorem modView_pending (s : State) (v : View) (f : ViewIf → ViewIf) : (modView s v f).pending = s.pending := by cases v <;> rfl
@[simp] theorem modView_upNs (s : State) (v : View) (f : ViewIf → ViewIf) : (modView s v f).upNs = s.upNs := by cases v <;> rfl
@[simp] theorem modView_free (s : State) (v : View) (f : ViewIf → ViewIf) : (modView s v f).free = s.free := by cases v <;> rfl
@[simp] theorem modView_part (s : State) (v : View) (f : ViewIf → ViewIf) : (modView s v f).part = s.part := by cases v <;> rfl
@[simp] theorem modView_role (s : State) (v : View) (f : ViewIf → ViewIf) : (modView s v f).role = s.role := by cases v <;> rfl
@[simp] theorem modView_straps (s : State) (v : View) (f : ViewIf → ViewIf) : (modView s v f).straps = s.straps := by cases v <;> rfl
@[simp] theorem modView_resetHigh (s : State) (v : View) (f : ViewIf → ViewIf) : (modView s v f).resetHigh = s.resetHigh := by cases v <;> rfl
@[simp] theorem modView_quiescing (s : State) (v : View) (f : ViewIf → ViewIf) : (modView s v f).quiescing = s.quiescing := by cases v <;> rfl
@[simp] theorem modView_snapshotSeq (s : State) (v : View) (f : ViewIf → ViewIf) : (modView s v f).snapshotSeq = s.snapshotSeq := by cases v <;> rfl
@[simp] theorem modView_clk (s : State) (v : View) (f : ViewIf → ViewIf) : (modView s v f).clk = s.clk := by cases v <;> rfl
@[simp] theorem modView_key (s : State) (v : View) (f : ViewIf → ViewIf) : (modView s v f).key = s.key := by cases v <;> rfl
@[simp] theorem modView_air (s : State) (v : View) (f : ViewIf → ViewIf) : (modView s v f).air = s.air := by cases v <;> rfl
@[simp] theorem modView_node (s : State) (v : View) (f : ViewIf → ViewIf) : (modView s v f).node = s.node := by cases v <;> rfl
@[simp] theorem modView_radio (s : State) (v : View) (f : ViewIf → ViewIf) : (modView s v f).radio = s.radio := by cases v <;> rfl
@[simp] theorem modView_orbit (s : State) (v : View) (f : ViewIf → ViewIf) : (modView s v f).orbit = s.orbit := by cases v <;> rfl
@[simp] theorem modView_crypt (s : State) (v : View) (f : ViewIf → ViewIf) : (modView s v f).crypt = s.crypt := by cases v <;> rfl
@[simp] theorem modView_queue (s : State) (v : View) (f : ViewIf → ViewIf) : (modView s v f).queue = s.queue := by cases v <;> rfl
@[simp] theorem modView_route (s : State) (v : View) (f : ViewIf → ViewIf) : (modView s v f).route = s.route := by cases v <;> rfl
@[simp] theorem modView_path (s : State) (v : View) (f : ViewIf → ViewIf) : (modView s v f).path = s.path := by cases v <;> rfl
@[simp] theorem modView_pair (s : State) (v : View) (f : ViewIf → ViewIf) : (modView s v f).pair = s.pair := by cases v <;> rfl
@[simp] theorem modView_pwr (s : State) (v : View) (f : ViewIf → ViewIf) : (modView s v f).pwr = s.pwr := by cases v <;> rfl
@[simp] theorem modView_fw (s : State) (v : View) (f : ViewIf → ViewIf) : (modView s v f).fw = s.fw := by cases v <;> rfl
@[simp] theorem modView_cmp (s : State) (v : View) (f : ViewIf → ViewIf) : (modView s v f).cmp = s.cmp := by cases v <;> rfl
@[simp] theorem modView_test (s : State) (v : View) (f : ViewIf → ViewIf) : (modView s v f).test = s.test := by cases v <;> rfl

/-! `modChan` -/

@[simp] theorem modChan_pending (s : State) (v : View) (n : Nat) (f : CmdChan → CmdChan) : (modChan s v n f).pending = s.pending := by cases v <;> rfl
@[simp] theorem modChan_upNs (s : State) (v : View) (n : Nat) (f : CmdChan → CmdChan) : (modChan s v n f).upNs = s.upNs := by cases v <;> rfl
@[simp] theorem modChan_free (s : State) (v : View) (n : Nat) (f : CmdChan → CmdChan) : (modChan s v n f).free = s.free := by cases v <;> rfl
@[simp] theorem modChan_part (s : State) (v : View) (n : Nat) (f : CmdChan → CmdChan) : (modChan s v n f).part = s.part := by cases v <;> rfl
@[simp] theorem modChan_role (s : State) (v : View) (n : Nat) (f : CmdChan → CmdChan) : (modChan s v n f).role = s.role := by cases v <;> rfl
@[simp] theorem modChan_straps (s : State) (v : View) (n : Nat) (f : CmdChan → CmdChan) : (modChan s v n f).straps = s.straps := by cases v <;> rfl
@[simp] theorem modChan_resetHigh (s : State) (v : View) (n : Nat) (f : CmdChan → CmdChan) : (modChan s v n f).resetHigh = s.resetHigh := by cases v <;> rfl
@[simp] theorem modChan_quiescing (s : State) (v : View) (n : Nat) (f : CmdChan → CmdChan) : (modChan s v n f).quiescing = s.quiescing := by cases v <;> rfl
@[simp] theorem modChan_snapshotSeq (s : State) (v : View) (n : Nat) (f : CmdChan → CmdChan) : (modChan s v n f).snapshotSeq = s.snapshotSeq := by cases v <;> rfl
@[simp] theorem modChan_clk (s : State) (v : View) (n : Nat) (f : CmdChan → CmdChan) : (modChan s v n f).clk = s.clk := by cases v <;> rfl
@[simp] theorem modChan_key (s : State) (v : View) (n : Nat) (f : CmdChan → CmdChan) : (modChan s v n f).key = s.key := by cases v <;> rfl
@[simp] theorem modChan_air (s : State) (v : View) (n : Nat) (f : CmdChan → CmdChan) : (modChan s v n f).air = s.air := by cases v <;> rfl
@[simp] theorem modChan_node (s : State) (v : View) (n : Nat) (f : CmdChan → CmdChan) : (modChan s v n f).node = s.node := by cases v <;> rfl
@[simp] theorem modChan_radio (s : State) (v : View) (n : Nat) (f : CmdChan → CmdChan) : (modChan s v n f).radio = s.radio := by cases v <;> rfl
@[simp] theorem modChan_orbit (s : State) (v : View) (n : Nat) (f : CmdChan → CmdChan) : (modChan s v n f).orbit = s.orbit := by cases v <;> rfl
@[simp] theorem modChan_crypt (s : State) (v : View) (n : Nat) (f : CmdChan → CmdChan) : (modChan s v n f).crypt = s.crypt := by cases v <;> rfl
@[simp] theorem modChan_queue (s : State) (v : View) (n : Nat) (f : CmdChan → CmdChan) : (modChan s v n f).queue = s.queue := by cases v <;> rfl
@[simp] theorem modChan_route (s : State) (v : View) (n : Nat) (f : CmdChan → CmdChan) : (modChan s v n f).route = s.route := by cases v <;> rfl
@[simp] theorem modChan_path (s : State) (v : View) (n : Nat) (f : CmdChan → CmdChan) : (modChan s v n f).path = s.path := by cases v <;> rfl
@[simp] theorem modChan_pair (s : State) (v : View) (n : Nat) (f : CmdChan → CmdChan) : (modChan s v n f).pair = s.pair := by cases v <;> rfl
@[simp] theorem modChan_pwr (s : State) (v : View) (n : Nat) (f : CmdChan → CmdChan) : (modChan s v n f).pwr = s.pwr := by cases v <;> rfl
@[simp] theorem modChan_fw (s : State) (v : View) (n : Nat) (f : CmdChan → CmdChan) : (modChan s v n f).fw = s.fw := by cases v <;> rfl
@[simp] theorem modChan_cmp (s : State) (v : View) (n : Nat) (f : CmdChan → CmdChan) : (modChan s v n f).cmp = s.cmp := by cases v <;> rfl
@[simp] theorem modChan_test (s : State) (v : View) (n : Nat) (f : CmdChan → CmdChan) : (modChan s v n f).test = s.test := by cases v <;> rfl

/-! `modEth` -/

@[simp] theorem modEth_pending (s : State) (port : Nat) (f : EthPort → EthPort) : (modEth s port f).pending = s.pending := rfl
@[simp] theorem modEth_upNs (s : State) (port : Nat) (f : EthPort → EthPort) : (modEth s port f).upNs = s.upNs := rfl
@[simp] theorem modEth_free (s : State) (port : Nat) (f : EthPort → EthPort) : (modEth s port f).free = s.free := rfl
@[simp] theorem modEth_part (s : State) (port : Nat) (f : EthPort → EthPort) : (modEth s port f).part = s.part := rfl
@[simp] theorem modEth_role (s : State) (port : Nat) (f : EthPort → EthPort) : (modEth s port f).role = s.role := rfl
@[simp] theorem modEth_straps (s : State) (port : Nat) (f : EthPort → EthPort) : (modEth s port f).straps = s.straps := rfl
@[simp] theorem modEth_resetHigh (s : State) (port : Nat) (f : EthPort → EthPort) : (modEth s port f).resetHigh = s.resetHigh := rfl
@[simp] theorem modEth_quiescing (s : State) (port : Nat) (f : EthPort → EthPort) : (modEth s port f).quiescing = s.quiescing := rfl
@[simp] theorem modEth_snapshotSeq (s : State) (port : Nat) (f : EthPort → EthPort) : (modEth s port f).snapshotSeq = s.snapshotSeq := rfl
@[simp] theorem modEth_host (s : State) (port : Nat) (f : EthPort → EthPort) : (modEth s port f).host = s.host := rfl
@[simp] theorem modEth_clk (s : State) (port : Nat) (f : EthPort → EthPort) : (modEth s port f).clk = s.clk := rfl
@[simp] theorem modEth_key (s : State) (port : Nat) (f : EthPort → EthPort) : (modEth s port f).key = s.key := rfl
@[simp] theorem modEth_air (s : State) (port : Nat) (f : EthPort → EthPort) : (modEth s port f).air = s.air := rfl
@[simp] theorem modEth_node (s : State) (port : Nat) (f : EthPort → EthPort) : (modEth s port f).node = s.node := rfl
@[simp] theorem modEth_radio (s : State) (port : Nat) (f : EthPort → EthPort) : (modEth s port f).radio = s.radio := rfl
@[simp] theorem modEth_orbit (s : State) (port : Nat) (f : EthPort → EthPort) : (modEth s port f).orbit = s.orbit := rfl
@[simp] theorem modEth_crypt (s : State) (port : Nat) (f : EthPort → EthPort) : (modEth s port f).crypt = s.crypt := rfl
@[simp] theorem modEth_queue (s : State) (port : Nat) (f : EthPort → EthPort) : (modEth s port f).queue = s.queue := rfl
@[simp] theorem modEth_path (s : State) (port : Nat) (f : EthPort → EthPort) : (modEth s port f).path = s.path := rfl
@[simp] theorem modEth_pair (s : State) (port : Nat) (f : EthPort → EthPort) : (modEth s port f).pair = s.pair := rfl
@[simp] theorem modEth_pwr (s : State) (port : Nat) (f : EthPort → EthPort) : (modEth s port f).pwr = s.pwr := rfl
@[simp] theorem modEth_fw (s : State) (port : Nat) (f : EthPort → EthPort) : (modEth s port f).fw = s.fw := rfl
@[simp] theorem modEth_cmp (s : State) (port : Nat) (f : EthPort → EthPort) : (modEth s port f).cmp = s.cmp := rfl
@[simp] theorem modEth_test (s : State) (port : Nat) (f : EthPort → EthPort) : (modEth s port f).test = s.test := rfl

/-! `modPtp` -/

@[simp] theorem modPtp_pending (s : State) (port : Nat) (f : PtpPort → PtpPort) : (modPtp s port f).pending = s.pending := rfl
@[simp] theorem modPtp_upNs (s : State) (port : Nat) (f : PtpPort → PtpPort) : (modPtp s port f).upNs = s.upNs := rfl
@[simp] theorem modPtp_free (s : State) (port : Nat) (f : PtpPort → PtpPort) : (modPtp s port f).free = s.free := rfl
@[simp] theorem modPtp_part (s : State) (port : Nat) (f : PtpPort → PtpPort) : (modPtp s port f).part = s.part := rfl
@[simp] theorem modPtp_role (s : State) (port : Nat) (f : PtpPort → PtpPort) : (modPtp s port f).role = s.role := rfl
@[simp] theorem modPtp_straps (s : State) (port : Nat) (f : PtpPort → PtpPort) : (modPtp s port f).straps = s.straps := rfl
@[simp] theorem modPtp_resetHigh (s : State) (port : Nat) (f : PtpPort → PtpPort) : (modPtp s port f).resetHigh = s.resetHigh := rfl
@[simp] theorem modPtp_quiescing (s : State) (port : Nat) (f : PtpPort → PtpPort) : (modPtp s port f).quiescing = s.quiescing := rfl
@[simp] theorem modPtp_snapshotSeq (s : State) (port : Nat) (f : PtpPort → PtpPort) : (modPtp s port f).snapshotSeq = s.snapshotSeq := rfl
@[simp] theorem modPtp_host (s : State) (port : Nat) (f : PtpPort → PtpPort) : (modPtp s port f).host = s.host := rfl
@[simp] theorem modPtp_key (s : State) (port : Nat) (f : PtpPort → PtpPort) : (modPtp s port f).key = s.key := rfl
@[simp] theorem modPtp_air (s : State) (port : Nat) (f : PtpPort → PtpPort) : (modPtp s port f).air = s.air := rfl
@[simp] theorem modPtp_node (s : State) (port : Nat) (f : PtpPort → PtpPort) : (modPtp s port f).node = s.node := rfl
@[simp] theorem modPtp_radio (s : State) (port : Nat) (f : PtpPort → PtpPort) : (modPtp s port f).radio = s.radio := rfl
@[simp] theorem modPtp_orbit (s : State) (port : Nat) (f : PtpPort → PtpPort) : (modPtp s port f).orbit = s.orbit := rfl
@[simp] theorem modPtp_crypt (s : State) (port : Nat) (f : PtpPort → PtpPort) : (modPtp s port f).crypt = s.crypt := rfl
@[simp] theorem modPtp_queue (s : State) (port : Nat) (f : PtpPort → PtpPort) : (modPtp s port f).queue = s.queue := rfl
@[simp] theorem modPtp_route (s : State) (port : Nat) (f : PtpPort → PtpPort) : (modPtp s port f).route = s.route := rfl
@[simp] theorem modPtp_path (s : State) (port : Nat) (f : PtpPort → PtpPort) : (modPtp s port f).path = s.path := rfl
@[simp] theorem modPtp_pair (s : State) (port : Nat) (f : PtpPort → PtpPort) : (modPtp s port f).pair = s.pair := rfl
@[simp] theorem modPtp_pwr (s : State) (port : Nat) (f : PtpPort → PtpPort) : (modPtp s port f).pwr = s.pwr := rfl
@[simp] theorem modPtp_fw (s : State) (port : Nat) (f : PtpPort → PtpPort) : (modPtp s port f).fw = s.fw := rfl
@[simp] theorem modPtp_cmp (s : State) (port : Nat) (f : PtpPort → PtpPort) : (modPtp s port f).cmp = s.cmp := rfl
@[simp] theorem modPtp_test (s : State) (port : Nat) (f : PtpPort → PtpPort) : (modPtp s port f).test = s.test := rfl

/-! `modStage` -/

@[simp] theorem modStage_pending (s : State) (id : Nat) (f : Stage → Stage) : (modStage s id f).pending = s.pending := rfl
@[simp] theorem modStage_upNs (s : State) (id : Nat) (f : Stage → Stage) : (modStage s id f).upNs = s.upNs := rfl
@[simp] theorem modStage_free (s : State) (id : Nat) (f : Stage → Stage) : (modStage s id f).free = s.free := rfl
@[simp] theorem modStage_part (s : State) (id : Nat) (f : Stage → Stage) : (modStage s id f).part = s.part := rfl
@[simp] theorem modStage_role (s : State) (id : Nat) (f : Stage → Stage) : (modStage s id f).role = s.role := rfl
@[simp] theorem modStage_straps (s : State) (id : Nat) (f : Stage → Stage) : (modStage s id f).straps = s.straps := rfl
@[simp] theorem modStage_resetHigh (s : State) (id : Nat) (f : Stage → Stage) : (modStage s id f).resetHigh = s.resetHigh := rfl
@[simp] theorem modStage_quiescing (s : State) (id : Nat) (f : Stage → Stage) : (modStage s id f).quiescing = s.quiescing := rfl
@[simp] theorem modStage_snapshotSeq (s : State) (id : Nat) (f : Stage → Stage) : (modStage s id f).snapshotSeq = s.snapshotSeq := rfl
@[simp] theorem modStage_clk (s : State) (id : Nat) (f : Stage → Stage) : (modStage s id f).clk = s.clk := rfl
@[simp] theorem modStage_key (s : State) (id : Nat) (f : Stage → Stage) : (modStage s id f).key = s.key := rfl
@[simp] theorem modStage_air (s : State) (id : Nat) (f : Stage → Stage) : (modStage s id f).air = s.air := rfl
@[simp] theorem modStage_node (s : State) (id : Nat) (f : Stage → Stage) : (modStage s id f).node = s.node := rfl
@[simp] theorem modStage_radio (s : State) (id : Nat) (f : Stage → Stage) : (modStage s id f).radio = s.radio := rfl
@[simp] theorem modStage_orbit (s : State) (id : Nat) (f : Stage → Stage) : (modStage s id f).orbit = s.orbit := rfl
@[simp] theorem modStage_crypt (s : State) (id : Nat) (f : Stage → Stage) : (modStage s id f).crypt = s.crypt := rfl
@[simp] theorem modStage_queue (s : State) (id : Nat) (f : Stage → Stage) : (modStage s id f).queue = s.queue := rfl
@[simp] theorem modStage_route (s : State) (id : Nat) (f : Stage → Stage) : (modStage s id f).route = s.route := rfl
@[simp] theorem modStage_path (s : State) (id : Nat) (f : Stage → Stage) : (modStage s id f).path = s.path := rfl
@[simp] theorem modStage_pair (s : State) (id : Nat) (f : Stage → Stage) : (modStage s id f).pair = s.pair := rfl
@[simp] theorem modStage_pwr (s : State) (id : Nat) (f : Stage → Stage) : (modStage s id f).pwr = s.pwr := rfl
@[simp] theorem modStage_fw (s : State) (id : Nat) (f : Stage → Stage) : (modStage s id f).fw = s.fw := rfl
@[simp] theorem modStage_cmp (s : State) (id : Nat) (f : Stage → Stage) : (modStage s id f).cmp = s.cmp := rfl
@[simp] theorem modStage_test (s : State) (id : Nat) (f : Stage → Stage) : (modStage s id f).test = s.test := rfl

/-! `modShape` -/

@[simp] theorem modShape_pending (s : State) (q : Nat) (f : ShapeQueue → ShapeQueue) : (modShape s q f).pending = s.pending := rfl
@[simp] theorem modShape_upNs (s : State) (q : Nat) (f : ShapeQueue → ShapeQueue) : (modShape s q f).upNs = s.upNs := rfl
@[simp] theorem modShape_free (s : State) (q : Nat) (f : ShapeQueue → ShapeQueue) : (modShape s q f).free = s.free := rfl
@[simp] theorem modShape_part (s : State) (q : Nat) (f : ShapeQueue → ShapeQueue) : (modShape s q f).part = s.part := rfl
@[simp] theorem modShape_role (s : State) (q : Nat) (f : ShapeQueue → ShapeQueue) : (modShape s q f).role = s.role := rfl
@[simp] theorem modShape_straps (s : State) (q : Nat) (f : ShapeQueue → ShapeQueue) : (modShape s q f).straps = s.straps := rfl
@[simp] theorem modShape_resetHigh (s : State) (q : Nat) (f : ShapeQueue → ShapeQueue) : (modShape s q f).resetHigh = s.resetHigh := rfl
@[simp] theorem modShape_quiescing (s : State) (q : Nat) (f : ShapeQueue → ShapeQueue) : (modShape s q f).quiescing = s.quiescing := rfl
@[simp] theorem modShape_snapshotSeq (s : State) (q : Nat) (f : ShapeQueue → ShapeQueue) : (modShape s q f).snapshotSeq = s.snapshotSeq := rfl
@[simp] theorem modShape_host (s : State) (q : Nat) (f : ShapeQueue → ShapeQueue) : (modShape s q f).host = s.host := rfl
@[simp] theorem modShape_clk (s : State) (q : Nat) (f : ShapeQueue → ShapeQueue) : (modShape s q f).clk = s.clk := rfl
@[simp] theorem modShape_key (s : State) (q : Nat) (f : ShapeQueue → ShapeQueue) : (modShape s q f).key = s.key := rfl
@[simp] theorem modShape_air (s : State) (q : Nat) (f : ShapeQueue → ShapeQueue) : (modShape s q f).air = s.air := rfl
@[simp] theorem modShape_node (s : State) (q : Nat) (f : ShapeQueue → ShapeQueue) : (modShape s q f).node = s.node := rfl
@[simp] theorem modShape_radio (s : State) (q : Nat) (f : ShapeQueue → ShapeQueue) : (modShape s q f).radio = s.radio := rfl
@[simp] theorem modShape_orbit (s : State) (q : Nat) (f : ShapeQueue → ShapeQueue) : (modShape s q f).orbit = s.orbit := rfl
@[simp] theorem modShape_crypt (s : State) (q : Nat) (f : ShapeQueue → ShapeQueue) : (modShape s q f).crypt = s.crypt := rfl
@[simp] theorem modShape_route (s : State) (q : Nat) (f : ShapeQueue → ShapeQueue) : (modShape s q f).route = s.route := rfl
@[simp] theorem modShape_path (s : State) (q : Nat) (f : ShapeQueue → ShapeQueue) : (modShape s q f).path = s.path := rfl
@[simp] theorem modShape_pair (s : State) (q : Nat) (f : ShapeQueue → ShapeQueue) : (modShape s q f).pair = s.pair := rfl
@[simp] theorem modShape_pwr (s : State) (q : Nat) (f : ShapeQueue → ShapeQueue) : (modShape s q f).pwr = s.pwr := rfl
@[simp] theorem modShape_fw (s : State) (q : Nat) (f : ShapeQueue → ShapeQueue) : (modShape s q f).fw = s.fw := rfl
@[simp] theorem modShape_cmp (s : State) (q : Nat) (f : ShapeQueue → ShapeQueue) : (modShape s q f).cmp = s.cmp := rfl
@[simp] theorem modShape_test (s : State) (q : Nat) (f : ShapeQueue → ShapeQueue) : (modShape s q f).test = s.test := rfl

/-! `modRecord` -/

@[simp] theorem modRecord_pending (s : State) (r : Nat) (f : Frame → Frame) : (modRecord s r f).pending = s.pending := rfl
@[simp] theorem modRecord_upNs (s : State) (r : Nat) (f : Frame → Frame) : (modRecord s r f).upNs = s.upNs := rfl
@[simp] theorem modRecord_free (s : State) (r : Nat) (f : Frame → Frame) : (modRecord s r f).free = s.free := rfl
@[simp] theorem modRecord_part (s : State) (r : Nat) (f : Frame → Frame) : (modRecord s r f).part = s.part := rfl
@[simp] theorem modRecord_role (s : State) (r : Nat) (f : Frame → Frame) : (modRecord s r f).role = s.role := rfl
@[simp] theorem modRecord_straps (s : State) (r : Nat) (f : Frame → Frame) : (modRecord s r f).straps = s.straps := rfl
@[simp] theorem modRecord_resetHigh (s : State) (r : Nat) (f : Frame → Frame) : (modRecord s r f).resetHigh = s.resetHigh := rfl
@[simp] theorem modRecord_quiescing (s : State) (r : Nat) (f : Frame → Frame) : (modRecord s r f).quiescing = s.quiescing := rfl
@[simp] theorem modRecord_snapshotSeq (s : State) (r : Nat) (f : Frame → Frame) : (modRecord s r f).snapshotSeq = s.snapshotSeq := rfl
@[simp] theorem modRecord_host (s : State) (r : Nat) (f : Frame → Frame) : (modRecord s r f).host = s.host := rfl
@[simp] theorem modRecord_clk (s : State) (r : Nat) (f : Frame → Frame) : (modRecord s r f).clk = s.clk := rfl
@[simp] theorem modRecord_key (s : State) (r : Nat) (f : Frame → Frame) : (modRecord s r f).key = s.key := rfl
@[simp] theorem modRecord_air (s : State) (r : Nat) (f : Frame → Frame) : (modRecord s r f).air = s.air := rfl
@[simp] theorem modRecord_node (s : State) (r : Nat) (f : Frame → Frame) : (modRecord s r f).node = s.node := rfl
@[simp] theorem modRecord_radio (s : State) (r : Nat) (f : Frame → Frame) : (modRecord s r f).radio = s.radio := rfl
@[simp] theorem modRecord_orbit (s : State) (r : Nat) (f : Frame → Frame) : (modRecord s r f).orbit = s.orbit := rfl
@[simp] theorem modRecord_crypt (s : State) (r : Nat) (f : Frame → Frame) : (modRecord s r f).crypt = s.crypt := rfl
@[simp] theorem modRecord_route (s : State) (r : Nat) (f : Frame → Frame) : (modRecord s r f).route = s.route := rfl
@[simp] theorem modRecord_path (s : State) (r : Nat) (f : Frame → Frame) : (modRecord s r f).path = s.path := rfl
@[simp] theorem modRecord_pair (s : State) (r : Nat) (f : Frame → Frame) : (modRecord s r f).pair = s.pair := rfl
@[simp] theorem modRecord_pwr (s : State) (r : Nat) (f : Frame → Frame) : (modRecord s r f).pwr = s.pwr := rfl
@[simp] theorem modRecord_fw (s : State) (r : Nat) (f : Frame → Frame) : (modRecord s r f).fw = s.fw := rfl
@[simp] theorem modRecord_cmp (s : State) (r : Nat) (f : Frame → Frame) : (modRecord s r f).cmp = s.cmp := rfl
@[simp] theorem modRecord_test (s : State) (r : Nat) (f : Frame → Frame) : (modRecord s r f).test = s.test := rfl

/-! `modSlot` -/

@[simp] theorem modSlot_pending (s : State) (n : Nat) (f : KeySlot → KeySlot) : (modSlot s n f).pending = s.pending := rfl
@[simp] theorem modSlot_upNs (s : State) (n : Nat) (f : KeySlot → KeySlot) : (modSlot s n f).upNs = s.upNs := rfl
@[simp] theorem modSlot_free (s : State) (n : Nat) (f : KeySlot → KeySlot) : (modSlot s n f).free = s.free := rfl
@[simp] theorem modSlot_part (s : State) (n : Nat) (f : KeySlot → KeySlot) : (modSlot s n f).part = s.part := rfl
@[simp] theorem modSlot_role (s : State) (n : Nat) (f : KeySlot → KeySlot) : (modSlot s n f).role = s.role := rfl
@[simp] theorem modSlot_straps (s : State) (n : Nat) (f : KeySlot → KeySlot) : (modSlot s n f).straps = s.straps := rfl
@[simp] theorem modSlot_resetHigh (s : State) (n : Nat) (f : KeySlot → KeySlot) : (modSlot s n f).resetHigh = s.resetHigh := rfl
@[simp] theorem modSlot_quiescing (s : State) (n : Nat) (f : KeySlot → KeySlot) : (modSlot s n f).quiescing = s.quiescing := rfl
@[simp] theorem modSlot_snapshotSeq (s : State) (n : Nat) (f : KeySlot → KeySlot) : (modSlot s n f).snapshotSeq = s.snapshotSeq := rfl
@[simp] theorem modSlot_host (s : State) (n : Nat) (f : KeySlot → KeySlot) : (modSlot s n f).host = s.host := rfl
@[simp] theorem modSlot_clk (s : State) (n : Nat) (f : KeySlot → KeySlot) : (modSlot s n f).clk = s.clk := rfl
@[simp] theorem modSlot_air (s : State) (n : Nat) (f : KeySlot → KeySlot) : (modSlot s n f).air = s.air := rfl
@[simp] theorem modSlot_node (s : State) (n : Nat) (f : KeySlot → KeySlot) : (modSlot s n f).node = s.node := rfl
@[simp] theorem modSlot_radio (s : State) (n : Nat) (f : KeySlot → KeySlot) : (modSlot s n f).radio = s.radio := rfl
@[simp] theorem modSlot_orbit (s : State) (n : Nat) (f : KeySlot → KeySlot) : (modSlot s n f).orbit = s.orbit := rfl
@[simp] theorem modSlot_crypt (s : State) (n : Nat) (f : KeySlot → KeySlot) : (modSlot s n f).crypt = s.crypt := rfl
@[simp] theorem modSlot_queue (s : State) (n : Nat) (f : KeySlot → KeySlot) : (modSlot s n f).queue = s.queue := rfl
@[simp] theorem modSlot_route (s : State) (n : Nat) (f : KeySlot → KeySlot) : (modSlot s n f).route = s.route := rfl
@[simp] theorem modSlot_path (s : State) (n : Nat) (f : KeySlot → KeySlot) : (modSlot s n f).path = s.path := rfl
@[simp] theorem modSlot_pair (s : State) (n : Nat) (f : KeySlot → KeySlot) : (modSlot s n f).pair = s.pair := rfl
@[simp] theorem modSlot_pwr (s : State) (n : Nat) (f : KeySlot → KeySlot) : (modSlot s n f).pwr = s.pwr := rfl
@[simp] theorem modSlot_fw (s : State) (n : Nat) (f : KeySlot → KeySlot) : (modSlot s n f).fw = s.fw := rfl
@[simp] theorem modSlot_cmp (s : State) (n : Nat) (f : KeySlot → KeySlot) : (modSlot s n f).cmp = s.cmp := rfl
@[simp] theorem modSlot_test (s : State) (n : Nat) (f : KeySlot → KeySlot) : (modSlot s n f).test = s.test := rfl

/-! `modPort` -/

@[simp] theorem modPort_pending (s : State) (p : Nat) (f : LearnPort → LearnPort) : (modPort s p f).pending = s.pending := rfl
@[simp] theorem modPort_upNs (s : State) (p : Nat) (f : LearnPort → LearnPort) : (modPort s p f).upNs = s.upNs := rfl
@[simp] theorem modPort_free (s : State) (p : Nat) (f : LearnPort → LearnPort) : (modPort s p f).free = s.free := rfl
@[simp] theorem modPort_part (s : State) (p : Nat) (f : LearnPort → LearnPort) : (modPort s p f).part = s.part := rfl
@[simp] theorem modPort_role (s : State) (p : Nat) (f : LearnPort → LearnPort) : (modPort s p f).role = s.role := rfl
@[simp] theorem modPort_straps (s : State) (p : Nat) (f : LearnPort → LearnPort) : (modPort s p f).straps = s.straps := rfl
@[simp] theorem modPort_resetHigh (s : State) (p : Nat) (f : LearnPort → LearnPort) : (modPort s p f).resetHigh = s.resetHigh := rfl
@[simp] theorem modPort_quiescing (s : State) (p : Nat) (f : LearnPort → LearnPort) : (modPort s p f).quiescing = s.quiescing := rfl
@[simp] theorem modPort_snapshotSeq (s : State) (p : Nat) (f : LearnPort → LearnPort) : (modPort s p f).snapshotSeq = s.snapshotSeq := rfl
@[simp] theorem modPort_host (s : State) (p : Nat) (f : LearnPort → LearnPort) : (modPort s p f).host = s.host := rfl
@[simp] theorem modPort_clk (s : State) (p : Nat) (f : LearnPort → LearnPort) : (modPort s p f).clk = s.clk := rfl
@[simp] theorem modPort_key (s : State) (p : Nat) (f : LearnPort → LearnPort) : (modPort s p f).key = s.key := rfl
@[simp] theorem modPort_air (s : State) (p : Nat) (f : LearnPort → LearnPort) : (modPort s p f).air = s.air := rfl
@[simp] theorem modPort_radio (s : State) (p : Nat) (f : LearnPort → LearnPort) : (modPort s p f).radio = s.radio := rfl
@[simp] theorem modPort_orbit (s : State) (p : Nat) (f : LearnPort → LearnPort) : (modPort s p f).orbit = s.orbit := rfl
@[simp] theorem modPort_crypt (s : State) (p : Nat) (f : LearnPort → LearnPort) : (modPort s p f).crypt = s.crypt := rfl
@[simp] theorem modPort_queue (s : State) (p : Nat) (f : LearnPort → LearnPort) : (modPort s p f).queue = s.queue := rfl
@[simp] theorem modPort_route (s : State) (p : Nat) (f : LearnPort → LearnPort) : (modPort s p f).route = s.route := rfl
@[simp] theorem modPort_path (s : State) (p : Nat) (f : LearnPort → LearnPort) : (modPort s p f).path = s.path := rfl
@[simp] theorem modPort_pair (s : State) (p : Nat) (f : LearnPort → LearnPort) : (modPort s p f).pair = s.pair := rfl
@[simp] theorem modPort_pwr (s : State) (p : Nat) (f : LearnPort → LearnPort) : (modPort s p f).pwr = s.pwr := rfl
@[simp] theorem modPort_fw (s : State) (p : Nat) (f : LearnPort → LearnPort) : (modPort s p f).fw = s.fw := rfl
@[simp] theorem modPort_cmp (s : State) (p : Nat) (f : LearnPort → LearnPort) : (modPort s p f).cmp = s.cmp := rfl
@[simp] theorem modPort_test (s : State) (p : Nat) (f : LearnPort → LearnPort) : (modPort s p f).test = s.test := rfl

/-! `modTarget` -/

@[simp] theorem modTarget_pending (s : State) (addr : W32) (f : Target → Target) : (modTarget s addr f).pending = s.pending := rfl
@[simp] theorem modTarget_upNs (s : State) (addr : W32) (f : Target → Target) : (modTarget s addr f).upNs = s.upNs := rfl
@[simp] theorem modTarget_free (s : State) (addr : W32) (f : Target → Target) : (modTarget s addr f).free = s.free := rfl
@[simp] theorem modTarget_part (s : State) (addr : W32) (f : Target → Target) : (modTarget s addr f).part = s.part := rfl
@[simp] theorem modTarget_role (s : State) (addr : W32) (f : Target → Target) : (modTarget s addr f).role = s.role := rfl
@[simp] theorem modTarget_straps (s : State) (addr : W32) (f : Target → Target) : (modTarget s addr f).straps = s.straps := rfl
@[simp] theorem modTarget_resetHigh (s : State) (addr : W32) (f : Target → Target) : (modTarget s addr f).resetHigh = s.resetHigh := rfl
@[simp] theorem modTarget_quiescing (s : State) (addr : W32) (f : Target → Target) : (modTarget s addr f).quiescing = s.quiescing := rfl
@[simp] theorem modTarget_snapshotSeq (s : State) (addr : W32) (f : Target → Target) : (modTarget s addr f).snapshotSeq = s.snapshotSeq := rfl
@[simp] theorem modTarget_host (s : State) (addr : W32) (f : Target → Target) : (modTarget s addr f).host = s.host := rfl
@[simp] theorem modTarget_clk (s : State) (addr : W32) (f : Target → Target) : (modTarget s addr f).clk = s.clk := rfl
@[simp] theorem modTarget_key (s : State) (addr : W32) (f : Target → Target) : (modTarget s addr f).key = s.key := rfl
@[simp] theorem modTarget_air (s : State) (addr : W32) (f : Target → Target) : (modTarget s addr f).air = s.air := rfl
@[simp] theorem modTarget_node (s : State) (addr : W32) (f : Target → Target) : (modTarget s addr f).node = s.node := rfl
@[simp] theorem modTarget_radio (s : State) (addr : W32) (f : Target → Target) : (modTarget s addr f).radio = s.radio := rfl
@[simp] theorem modTarget_orbit (s : State) (addr : W32) (f : Target → Target) : (modTarget s addr f).orbit = s.orbit := rfl
@[simp] theorem modTarget_crypt (s : State) (addr : W32) (f : Target → Target) : (modTarget s addr f).crypt = s.crypt := rfl
@[simp] theorem modTarget_queue (s : State) (addr : W32) (f : Target → Target) : (modTarget s addr f).queue = s.queue := rfl
@[simp] theorem modTarget_route (s : State) (addr : W32) (f : Target → Target) : (modTarget s addr f).route = s.route := rfl
@[simp] theorem modTarget_path (s : State) (addr : W32) (f : Target → Target) : (modTarget s addr f).path = s.path := rfl
@[simp] theorem modTarget_pair (s : State) (addr : W32) (f : Target → Target) : (modTarget s addr f).pair = s.pair := rfl
@[simp] theorem modTarget_pwr (s : State) (addr : W32) (f : Target → Target) : (modTarget s addr f).pwr = s.pwr := rfl
@[simp] theorem modTarget_fw (s : State) (addr : W32) (f : Target → Target) : (modTarget s addr f).fw = s.fw := rfl
@[simp] theorem modTarget_test (s : State) (addr : W32) (f : Target → Target) : (modTarget s addr f).test = s.test := rfl

/-! `modLane` -/

@[simp] theorem modLane_pending (s : State) (i : Nat) (f : Lane → Lane) : (modLane s i f).pending = s.pending := rfl
@[simp] theorem modLane_upNs (s : State) (i : Nat) (f : Lane → Lane) : (modLane s i f).upNs = s.upNs := rfl
@[simp] theorem modLane_free (s : State) (i : Nat) (f : Lane → Lane) : (modLane s i f).free = s.free := rfl
@[simp] theorem modLane_part (s : State) (i : Nat) (f : Lane → Lane) : (modLane s i f).part = s.part := rfl
@[simp] theorem modLane_role (s : State) (i : Nat) (f : Lane → Lane) : (modLane s i f).role = s.role := rfl
@[simp] theorem modLane_straps (s : State) (i : Nat) (f : Lane → Lane) : (modLane s i f).straps = s.straps := rfl
@[simp] theorem modLane_resetHigh (s : State) (i : Nat) (f : Lane → Lane) : (modLane s i f).resetHigh = s.resetHigh := rfl
@[simp] theorem modLane_quiescing (s : State) (i : Nat) (f : Lane → Lane) : (modLane s i f).quiescing = s.quiescing := rfl
@[simp] theorem modLane_snapshotSeq (s : State) (i : Nat) (f : Lane → Lane) : (modLane s i f).snapshotSeq = s.snapshotSeq := rfl
@[simp] theorem modLane_host (s : State) (i : Nat) (f : Lane → Lane) : (modLane s i f).host = s.host := rfl
@[simp] theorem modLane_clk (s : State) (i : Nat) (f : Lane → Lane) : (modLane s i f).clk = s.clk := rfl
@[simp] theorem modLane_key (s : State) (i : Nat) (f : Lane → Lane) : (modLane s i f).key = s.key := rfl
@[simp] theorem modLane_air (s : State) (i : Nat) (f : Lane → Lane) : (modLane s i f).air = s.air := rfl
@[simp] theorem modLane_node (s : State) (i : Nat) (f : Lane → Lane) : (modLane s i f).node = s.node := rfl
@[simp] theorem modLane_radio (s : State) (i : Nat) (f : Lane → Lane) : (modLane s i f).radio = s.radio := rfl
@[simp] theorem modLane_orbit (s : State) (i : Nat) (f : Lane → Lane) : (modLane s i f).orbit = s.orbit := rfl
@[simp] theorem modLane_queue (s : State) (i : Nat) (f : Lane → Lane) : (modLane s i f).queue = s.queue := rfl
@[simp] theorem modLane_route (s : State) (i : Nat) (f : Lane → Lane) : (modLane s i f).route = s.route := rfl
@[simp] theorem modLane_path (s : State) (i : Nat) (f : Lane → Lane) : (modLane s i f).path = s.path := rfl
@[simp] theorem modLane_pair (s : State) (i : Nat) (f : Lane → Lane) : (modLane s i f).pair = s.pair := rfl
@[simp] theorem modLane_pwr (s : State) (i : Nat) (f : Lane → Lane) : (modLane s i f).pwr = s.pwr := rfl
@[simp] theorem modLane_fw (s : State) (i : Nat) (f : Lane → Lane) : (modLane s i f).fw = s.fw := rfl
@[simp] theorem modLane_cmp (s : State) (i : Nat) (f : Lane → Lane) : (modLane s i f).cmp = s.cmp := rfl
@[simp] theorem modLane_test (s : State) (i : Nat) (f : Lane → Lane) : (modLane s i f).test = s.test := rfl

/-! `setCtx` -/

@[simp] theorem setCtx_pending (s : State) (i : Nat) (c : Ctx) : (setCtx s i c).pending = s.pending := rfl
@[simp] theorem setCtx_upNs (s : State) (i : Nat) (c : Ctx) : (setCtx s i c).upNs = s.upNs := rfl
@[simp] theorem setCtx_free (s : State) (i : Nat) (c : Ctx) : (setCtx s i c).free = s.free := rfl
@[simp] theorem setCtx_part (s : State) (i : Nat) (c : Ctx) : (setCtx s i c).part = s.part := rfl
@[simp] theorem setCtx_role (s : State) (i : Nat) (c : Ctx) : (setCtx s i c).role = s.role := rfl
@[simp] theorem setCtx_straps (s : State) (i : Nat) (c : Ctx) : (setCtx s i c).straps = s.straps := rfl
@[simp] theorem setCtx_resetHigh (s : State) (i : Nat) (c : Ctx) : (setCtx s i c).resetHigh = s.resetHigh := rfl
@[simp] theorem setCtx_quiescing (s : State) (i : Nat) (c : Ctx) : (setCtx s i c).quiescing = s.quiescing := rfl
@[simp] theorem setCtx_snapshotSeq (s : State) (i : Nat) (c : Ctx) : (setCtx s i c).snapshotSeq = s.snapshotSeq := rfl
@[simp] theorem setCtx_host (s : State) (i : Nat) (c : Ctx) : (setCtx s i c).host = s.host := rfl
@[simp] theorem setCtx_clk (s : State) (i : Nat) (c : Ctx) : (setCtx s i c).clk = s.clk := rfl
@[simp] theorem setCtx_key (s : State) (i : Nat) (c : Ctx) : (setCtx s i c).key = s.key := rfl
@[simp] theorem setCtx_air (s : State) (i : Nat) (c : Ctx) : (setCtx s i c).air = s.air := rfl
@[simp] theorem setCtx_node (s : State) (i : Nat) (c : Ctx) : (setCtx s i c).node = s.node := rfl
@[simp] theorem setCtx_orbit (s : State) (i : Nat) (c : Ctx) : (setCtx s i c).orbit = s.orbit := rfl
@[simp] theorem setCtx_crypt (s : State) (i : Nat) (c : Ctx) : (setCtx s i c).crypt = s.crypt := rfl
@[simp] theorem setCtx_queue (s : State) (i : Nat) (c : Ctx) : (setCtx s i c).queue = s.queue := rfl
@[simp] theorem setCtx_route (s : State) (i : Nat) (c : Ctx) : (setCtx s i c).route = s.route := rfl
@[simp] theorem setCtx_path (s : State) (i : Nat) (c : Ctx) : (setCtx s i c).path = s.path := rfl
@[simp] theorem setCtx_pair (s : State) (i : Nat) (c : Ctx) : (setCtx s i c).pair = s.pair := rfl
@[simp] theorem setCtx_pwr (s : State) (i : Nat) (c : Ctx) : (setCtx s i c).pwr = s.pwr := rfl
@[simp] theorem setCtx_fw (s : State) (i : Nat) (c : Ctx) : (setCtx s i c).fw = s.fw := rfl
@[simp] theorem setCtx_cmp (s : State) (i : Nat) (c : Ctx) : (setCtx s i c).cmp = s.cmp := rfl
@[simp] theorem setCtx_test (s : State) (i : Nat) (c : Ctx) : (setCtx s i c).test = s.test := rfl

/-! `setFlow` -/

@[simp] theorem setFlow_pending (s : State) (i : Nat) (f : FlowEntry) : (setFlow s i f).pending = s.pending := rfl
@[simp] theorem setFlow_upNs (s : State) (i : Nat) (f : FlowEntry) : (setFlow s i f).upNs = s.upNs := rfl
@[simp] theorem setFlow_free (s : State) (i : Nat) (f : FlowEntry) : (setFlow s i f).free = s.free := rfl
@[simp] theorem setFlow_part (s : State) (i : Nat) (f : FlowEntry) : (setFlow s i f).part = s.part := rfl
@[simp] theorem setFlow_role (s : State) (i : Nat) (f : FlowEntry) : (setFlow s i f).role = s.role := rfl
@[simp] theorem setFlow_straps (s : State) (i : Nat) (f : FlowEntry) : (setFlow s i f).straps = s.straps := rfl
@[simp] theorem setFlow_resetHigh (s : State) (i : Nat) (f : FlowEntry) : (setFlow s i f).resetHigh = s.resetHigh := rfl
@[simp] theorem setFlow_quiescing (s : State) (i : Nat) (f : FlowEntry) : (setFlow s i f).quiescing = s.quiescing := rfl
@[simp] theorem setFlow_snapshotSeq (s : State) (i : Nat) (f : FlowEntry) : (setFlow s i f).snapshotSeq = s.snapshotSeq := rfl
@[simp] theorem setFlow_host (s : State) (i : Nat) (f : FlowEntry) : (setFlow s i f).host = s.host := rfl
@[simp] theorem setFlow_clk (s : State) (i : Nat) (f : FlowEntry) : (setFlow s i f).clk = s.clk := rfl
@[simp] theorem setFlow_key (s : State) (i : Nat) (f : FlowEntry) : (setFlow s i f).key = s.key := rfl
@[simp] theorem setFlow_air (s : State) (i : Nat) (f : FlowEntry) : (setFlow s i f).air = s.air := rfl
@[simp] theorem setFlow_node (s : State) (i : Nat) (f : FlowEntry) : (setFlow s i f).node = s.node := rfl
@[simp] theorem setFlow_radio (s : State) (i : Nat) (f : FlowEntry) : (setFlow s i f).radio = s.radio := rfl
@[simp] theorem setFlow_orbit (s : State) (i : Nat) (f : FlowEntry) : (setFlow s i f).orbit = s.orbit := rfl
@[simp] theorem setFlow_crypt (s : State) (i : Nat) (f : FlowEntry) : (setFlow s i f).crypt = s.crypt := rfl
@[simp] theorem setFlow_route (s : State) (i : Nat) (f : FlowEntry) : (setFlow s i f).route = s.route := rfl
@[simp] theorem setFlow_path (s : State) (i : Nat) (f : FlowEntry) : (setFlow s i f).path = s.path := rfl
@[simp] theorem setFlow_pair (s : State) (i : Nat) (f : FlowEntry) : (setFlow s i f).pair = s.pair := rfl
@[simp] theorem setFlow_pwr (s : State) (i : Nat) (f : FlowEntry) : (setFlow s i f).pwr = s.pwr := rfl
@[simp] theorem setFlow_fw (s : State) (i : Nat) (f : FlowEntry) : (setFlow s i f).fw = s.fw := rfl
@[simp] theorem setFlow_cmp (s : State) (i : Nat) (f : FlowEntry) : (setFlow s i f).cmp = s.cmp := rfl
@[simp] theorem setFlow_test (s : State) (i : Nat) (f : FlowEntry) : (setFlow s i f).test = s.test := rfl

/-! `setCore` -/

@[simp] theorem setCore_pending (s : State) (n : Nat) (c : CoreState) : (setCore s n c).pending = s.pending := rfl
@[simp] theorem setCore_upNs (s : State) (n : Nat) (c : CoreState) : (setCore s n c).upNs = s.upNs := rfl
@[simp] theorem setCore_free (s : State) (n : Nat) (c : CoreState) : (setCore s n c).free = s.free := rfl
@[simp] theorem setCore_part (s : State) (n : Nat) (c : CoreState) : (setCore s n c).part = s.part := rfl
@[simp] theorem setCore_role (s : State) (n : Nat) (c : CoreState) : (setCore s n c).role = s.role := rfl
@[simp] theorem setCore_straps (s : State) (n : Nat) (c : CoreState) : (setCore s n c).straps = s.straps := rfl
@[simp] theorem setCore_resetHigh (s : State) (n : Nat) (c : CoreState) : (setCore s n c).resetHigh = s.resetHigh := rfl
@[simp] theorem setCore_quiescing (s : State) (n : Nat) (c : CoreState) : (setCore s n c).quiescing = s.quiescing := rfl
@[simp] theorem setCore_snapshotSeq (s : State) (n : Nat) (c : CoreState) : (setCore s n c).snapshotSeq = s.snapshotSeq := rfl
@[simp] theorem setCore_host (s : State) (n : Nat) (c : CoreState) : (setCore s n c).host = s.host := rfl
@[simp] theorem setCore_clk (s : State) (n : Nat) (c : CoreState) : (setCore s n c).clk = s.clk := rfl
@[simp] theorem setCore_key (s : State) (n : Nat) (c : CoreState) : (setCore s n c).key = s.key := rfl
@[simp] theorem setCore_air (s : State) (n : Nat) (c : CoreState) : (setCore s n c).air = s.air := rfl
@[simp] theorem setCore_node (s : State) (n : Nat) (c : CoreState) : (setCore s n c).node = s.node := rfl
@[simp] theorem setCore_radio (s : State) (n : Nat) (c : CoreState) : (setCore s n c).radio = s.radio := rfl
@[simp] theorem setCore_orbit (s : State) (n : Nat) (c : CoreState) : (setCore s n c).orbit = s.orbit := rfl
@[simp] theorem setCore_crypt (s : State) (n : Nat) (c : CoreState) : (setCore s n c).crypt = s.crypt := rfl
@[simp] theorem setCore_route (s : State) (n : Nat) (c : CoreState) : (setCore s n c).route = s.route := rfl
@[simp] theorem setCore_path (s : State) (n : Nat) (c : CoreState) : (setCore s n c).path = s.path := rfl
@[simp] theorem setCore_pair (s : State) (n : Nat) (c : CoreState) : (setCore s n c).pair = s.pair := rfl
@[simp] theorem setCore_pwr (s : State) (n : Nat) (c : CoreState) : (setCore s n c).pwr = s.pwr := rfl
@[simp] theorem setCore_fw (s : State) (n : Nat) (c : CoreState) : (setCore s n c).fw = s.fw := rfl
@[simp] theorem setCore_cmp (s : State) (n : Nat) (c : CoreState) : (setCore s n c).cmp = s.cmp := rfl
@[simp] theorem setCore_test (s : State) (n : Nat) (c : CoreState) : (setCore s n c).test = s.test := rfl

/-! `hostCount` -/

@[simp] theorem hostCount_pending (s : State) (i : Nat) : (hostCount s i).pending = s.pending := rfl
@[simp] theorem hostCount_upNs (s : State) (i : Nat) : (hostCount s i).upNs = s.upNs := rfl
@[simp] theorem hostCount_free (s : State) (i : Nat) : (hostCount s i).free = s.free := rfl
@[simp] theorem hostCount_part (s : State) (i : Nat) : (hostCount s i).part = s.part := rfl
@[simp] theorem hostCount_role (s : State) (i : Nat) : (hostCount s i).role = s.role := rfl
@[simp] theorem hostCount_straps (s : State) (i : Nat) : (hostCount s i).straps = s.straps := rfl
@[simp] theorem hostCount_resetHigh (s : State) (i : Nat) : (hostCount s i).resetHigh = s.resetHigh := rfl
@[simp] theorem hostCount_quiescing (s : State) (i : Nat) : (hostCount s i).quiescing = s.quiescing := rfl
@[simp] theorem hostCount_snapshotSeq (s : State) (i : Nat) : (hostCount s i).snapshotSeq = s.snapshotSeq := rfl
@[simp] theorem hostCount_clk (s : State) (i : Nat) : (hostCount s i).clk = s.clk := rfl
@[simp] theorem hostCount_key (s : State) (i : Nat) : (hostCount s i).key = s.key := rfl
@[simp] theorem hostCount_air (s : State) (i : Nat) : (hostCount s i).air = s.air := rfl
@[simp] theorem hostCount_node (s : State) (i : Nat) : (hostCount s i).node = s.node := rfl
@[simp] theorem hostCount_radio (s : State) (i : Nat) : (hostCount s i).radio = s.radio := rfl
@[simp] theorem hostCount_orbit (s : State) (i : Nat) : (hostCount s i).orbit = s.orbit := rfl
@[simp] theorem hostCount_crypt (s : State) (i : Nat) : (hostCount s i).crypt = s.crypt := rfl
@[simp] theorem hostCount_queue (s : State) (i : Nat) : (hostCount s i).queue = s.queue := rfl
@[simp] theorem hostCount_route (s : State) (i : Nat) : (hostCount s i).route = s.route := rfl
@[simp] theorem hostCount_path (s : State) (i : Nat) : (hostCount s i).path = s.path := rfl
@[simp] theorem hostCount_pair (s : State) (i : Nat) : (hostCount s i).pair = s.pair := rfl
@[simp] theorem hostCount_pwr (s : State) (i : Nat) : (hostCount s i).pwr = s.pwr := rfl
@[simp] theorem hostCount_fw (s : State) (i : Nat) : (hostCount s i).fw = s.fw := rfl
@[simp] theorem hostCount_cmp (s : State) (i : Nat) : (hostCount s i).cmp = s.cmp := rfl
@[simp] theorem hostCount_test (s : State) (i : Nat) : (hostCount s i).test = s.test := rfl

/-! `timeCount` -/

@[simp] theorem timeCount_pending (s : State) (i : Nat) : (timeCount s i).pending = s.pending := rfl
@[simp] theorem timeCount_upNs (s : State) (i : Nat) : (timeCount s i).upNs = s.upNs := rfl
@[simp] theorem timeCount_free (s : State) (i : Nat) : (timeCount s i).free = s.free := rfl
@[simp] theorem timeCount_part (s : State) (i : Nat) : (timeCount s i).part = s.part := rfl
@[simp] theorem timeCount_role (s : State) (i : Nat) : (timeCount s i).role = s.role := rfl
@[simp] theorem timeCount_straps (s : State) (i : Nat) : (timeCount s i).straps = s.straps := rfl
@[simp] theorem timeCount_resetHigh (s : State) (i : Nat) : (timeCount s i).resetHigh = s.resetHigh := rfl
@[simp] theorem timeCount_quiescing (s : State) (i : Nat) : (timeCount s i).quiescing = s.quiescing := rfl
@[simp] theorem timeCount_snapshotSeq (s : State) (i : Nat) : (timeCount s i).snapshotSeq = s.snapshotSeq := rfl
@[simp] theorem timeCount_host (s : State) (i : Nat) : (timeCount s i).host = s.host := rfl
@[simp] theorem timeCount_key (s : State) (i : Nat) : (timeCount s i).key = s.key := rfl
@[simp] theorem timeCount_air (s : State) (i : Nat) : (timeCount s i).air = s.air := rfl
@[simp] theorem timeCount_node (s : State) (i : Nat) : (timeCount s i).node = s.node := rfl
@[simp] theorem timeCount_radio (s : State) (i : Nat) : (timeCount s i).radio = s.radio := rfl
@[simp] theorem timeCount_orbit (s : State) (i : Nat) : (timeCount s i).orbit = s.orbit := rfl
@[simp] theorem timeCount_crypt (s : State) (i : Nat) : (timeCount s i).crypt = s.crypt := rfl
@[simp] theorem timeCount_queue (s : State) (i : Nat) : (timeCount s i).queue = s.queue := rfl
@[simp] theorem timeCount_route (s : State) (i : Nat) : (timeCount s i).route = s.route := rfl
@[simp] theorem timeCount_path (s : State) (i : Nat) : (timeCount s i).path = s.path := rfl
@[simp] theorem timeCount_pair (s : State) (i : Nat) : (timeCount s i).pair = s.pair := rfl
@[simp] theorem timeCount_pwr (s : State) (i : Nat) : (timeCount s i).pwr = s.pwr := rfl
@[simp] theorem timeCount_fw (s : State) (i : Nat) : (timeCount s i).fw = s.fw := rfl
@[simp] theorem timeCount_cmp (s : State) (i : Nat) : (timeCount s i).cmp = s.cmp := rfl
@[simp] theorem timeCount_test (s : State) (i : Nat) : (timeCount s i).test = s.test := rfl

/-! `setBand` -/

@[simp] theorem setBand_pending (s : State) (b : Band) (st : BandState) : (setBand s b st).pending = s.pending := rfl
@[simp] theorem setBand_upNs (s : State) (b : Band) (st : BandState) : (setBand s b st).upNs = s.upNs := rfl
@[simp] theorem setBand_free (s : State) (b : Band) (st : BandState) : (setBand s b st).free = s.free := rfl
@[simp] theorem setBand_part (s : State) (b : Band) (st : BandState) : (setBand s b st).part = s.part := rfl
@[simp] theorem setBand_role (s : State) (b : Band) (st : BandState) : (setBand s b st).role = s.role := rfl
@[simp] theorem setBand_straps (s : State) (b : Band) (st : BandState) : (setBand s b st).straps = s.straps := rfl
@[simp] theorem setBand_resetHigh (s : State) (b : Band) (st : BandState) : (setBand s b st).resetHigh = s.resetHigh := rfl
@[simp] theorem setBand_quiescing (s : State) (b : Band) (st : BandState) : (setBand s b st).quiescing = s.quiescing := rfl
@[simp] theorem setBand_snapshotSeq (s : State) (b : Band) (st : BandState) : (setBand s b st).snapshotSeq = s.snapshotSeq := rfl
@[simp] theorem setBand_host (s : State) (b : Band) (st : BandState) : (setBand s b st).host = s.host := rfl
@[simp] theorem setBand_clk (s : State) (b : Band) (st : BandState) : (setBand s b st).clk = s.clk := rfl
@[simp] theorem setBand_key (s : State) (b : Band) (st : BandState) : (setBand s b st).key = s.key := rfl
@[simp] theorem setBand_air (s : State) (b : Band) (st : BandState) : (setBand s b st).air = s.air := rfl
@[simp] theorem setBand_node (s : State) (b : Band) (st : BandState) : (setBand s b st).node = s.node := rfl
@[simp] theorem setBand_orbit (s : State) (b : Band) (st : BandState) : (setBand s b st).orbit = s.orbit := rfl
@[simp] theorem setBand_crypt (s : State) (b : Band) (st : BandState) : (setBand s b st).crypt = s.crypt := rfl
@[simp] theorem setBand_queue (s : State) (b : Band) (st : BandState) : (setBand s b st).queue = s.queue := rfl
@[simp] theorem setBand_route (s : State) (b : Band) (st : BandState) : (setBand s b st).route = s.route := rfl
@[simp] theorem setBand_path (s : State) (b : Band) (st : BandState) : (setBand s b st).path = s.path := rfl
@[simp] theorem setBand_pair (s : State) (b : Band) (st : BandState) : (setBand s b st).pair = s.pair := rfl
@[simp] theorem setBand_pwr (s : State) (b : Band) (st : BandState) : (setBand s b st).pwr = s.pwr := rfl
@[simp] theorem setBand_fw (s : State) (b : Band) (st : BandState) : (setBand s b st).fw = s.fw := rfl
@[simp] theorem setBand_cmp (s : State) (b : Band) (st : BandState) : (setBand s b st).cmp = s.cmp := rfl
@[simp] theorem setBand_test (s : State) (b : Band) (st : BandState) : (setBand s b st).test = s.test := rfl

/-! `modRelay` -/

@[simp] theorem modRelay_pending (s : State) (k : Nat) (f : RelaySlot → RelaySlot) : (modRelay s k f).pending = s.pending := rfl
@[simp] theorem modRelay_upNs (s : State) (k : Nat) (f : RelaySlot → RelaySlot) : (modRelay s k f).upNs = s.upNs := rfl
@[simp] theorem modRelay_free (s : State) (k : Nat) (f : RelaySlot → RelaySlot) : (modRelay s k f).free = s.free := rfl
@[simp] theorem modRelay_part (s : State) (k : Nat) (f : RelaySlot → RelaySlot) : (modRelay s k f).part = s.part := rfl
@[simp] theorem modRelay_role (s : State) (k : Nat) (f : RelaySlot → RelaySlot) : (modRelay s k f).role = s.role := rfl
@[simp] theorem modRelay_straps (s : State) (k : Nat) (f : RelaySlot → RelaySlot) : (modRelay s k f).straps = s.straps := rfl
@[simp] theorem modRelay_resetHigh (s : State) (k : Nat) (f : RelaySlot → RelaySlot) : (modRelay s k f).resetHigh = s.resetHigh := rfl
@[simp] theorem modRelay_quiescing (s : State) (k : Nat) (f : RelaySlot → RelaySlot) : (modRelay s k f).quiescing = s.quiescing := rfl
@[simp] theorem modRelay_snapshotSeq (s : State) (k : Nat) (f : RelaySlot → RelaySlot) : (modRelay s k f).snapshotSeq = s.snapshotSeq := rfl
@[simp] theorem modRelay_host (s : State) (k : Nat) (f : RelaySlot → RelaySlot) : (modRelay s k f).host = s.host := rfl
@[simp] theorem modRelay_clk (s : State) (k : Nat) (f : RelaySlot → RelaySlot) : (modRelay s k f).clk = s.clk := rfl
@[simp] theorem modRelay_key (s : State) (k : Nat) (f : RelaySlot → RelaySlot) : (modRelay s k f).key = s.key := rfl
@[simp] theorem modRelay_air (s : State) (k : Nat) (f : RelaySlot → RelaySlot) : (modRelay s k f).air = s.air := rfl
@[simp] theorem modRelay_node (s : State) (k : Nat) (f : RelaySlot → RelaySlot) : (modRelay s k f).node = s.node := rfl
@[simp] theorem modRelay_radio (s : State) (k : Nat) (f : RelaySlot → RelaySlot) : (modRelay s k f).radio = s.radio := rfl
@[simp] theorem modRelay_orbit (s : State) (k : Nat) (f : RelaySlot → RelaySlot) : (modRelay s k f).orbit = s.orbit := rfl
@[simp] theorem modRelay_crypt (s : State) (k : Nat) (f : RelaySlot → RelaySlot) : (modRelay s k f).crypt = s.crypt := rfl
@[simp] theorem modRelay_queue (s : State) (k : Nat) (f : RelaySlot → RelaySlot) : (modRelay s k f).queue = s.queue := rfl
@[simp] theorem modRelay_path (s : State) (k : Nat) (f : RelaySlot → RelaySlot) : (modRelay s k f).path = s.path := rfl
@[simp] theorem modRelay_pair (s : State) (k : Nat) (f : RelaySlot → RelaySlot) : (modRelay s k f).pair = s.pair := rfl
@[simp] theorem modRelay_pwr (s : State) (k : Nat) (f : RelaySlot → RelaySlot) : (modRelay s k f).pwr = s.pwr := rfl
@[simp] theorem modRelay_fw (s : State) (k : Nat) (f : RelaySlot → RelaySlot) : (modRelay s k f).fw = s.fw := rfl
@[simp] theorem modRelay_cmp (s : State) (k : Nat) (f : RelaySlot → RelaySlot) : (modRelay s k f).cmp = s.cmp := rfl
@[simp] theorem modRelay_test (s : State) (k : Nat) (f : RelaySlot → RelaySlot) : (modRelay s k f).test = s.test := rfl

/-! `modReady` -/

@[simp] theorem modReady_pending (s : State) (p : Nat) (f : Fifo WorkRec → Fifo WorkRec) : (modReady s p f).pending = s.pending := rfl
@[simp] theorem modReady_upNs (s : State) (p : Nat) (f : Fifo WorkRec → Fifo WorkRec) : (modReady s p f).upNs = s.upNs := rfl
@[simp] theorem modReady_free (s : State) (p : Nat) (f : Fifo WorkRec → Fifo WorkRec) : (modReady s p f).free = s.free := rfl
@[simp] theorem modReady_part (s : State) (p : Nat) (f : Fifo WorkRec → Fifo WorkRec) : (modReady s p f).part = s.part := rfl
@[simp] theorem modReady_role (s : State) (p : Nat) (f : Fifo WorkRec → Fifo WorkRec) : (modReady s p f).role = s.role := rfl
@[simp] theorem modReady_straps (s : State) (p : Nat) (f : Fifo WorkRec → Fifo WorkRec) : (modReady s p f).straps = s.straps := rfl
@[simp] theorem modReady_resetHigh (s : State) (p : Nat) (f : Fifo WorkRec → Fifo WorkRec) : (modReady s p f).resetHigh = s.resetHigh := rfl
@[simp] theorem modReady_quiescing (s : State) (p : Nat) (f : Fifo WorkRec → Fifo WorkRec) : (modReady s p f).quiescing = s.quiescing := rfl
@[simp] theorem modReady_snapshotSeq (s : State) (p : Nat) (f : Fifo WorkRec → Fifo WorkRec) : (modReady s p f).snapshotSeq = s.snapshotSeq := rfl
@[simp] theorem modReady_host (s : State) (p : Nat) (f : Fifo WorkRec → Fifo WorkRec) : (modReady s p f).host = s.host := rfl
@[simp] theorem modReady_clk (s : State) (p : Nat) (f : Fifo WorkRec → Fifo WorkRec) : (modReady s p f).clk = s.clk := rfl
@[simp] theorem modReady_key (s : State) (p : Nat) (f : Fifo WorkRec → Fifo WorkRec) : (modReady s p f).key = s.key := rfl
@[simp] theorem modReady_air (s : State) (p : Nat) (f : Fifo WorkRec → Fifo WorkRec) : (modReady s p f).air = s.air := rfl
@[simp] theorem modReady_node (s : State) (p : Nat) (f : Fifo WorkRec → Fifo WorkRec) : (modReady s p f).node = s.node := rfl
@[simp] theorem modReady_radio (s : State) (p : Nat) (f : Fifo WorkRec → Fifo WorkRec) : (modReady s p f).radio = s.radio := rfl
@[simp] theorem modReady_orbit (s : State) (p : Nat) (f : Fifo WorkRec → Fifo WorkRec) : (modReady s p f).orbit = s.orbit := rfl
@[simp] theorem modReady_crypt (s : State) (p : Nat) (f : Fifo WorkRec → Fifo WorkRec) : (modReady s p f).crypt = s.crypt := rfl
@[simp] theorem modReady_route (s : State) (p : Nat) (f : Fifo WorkRec → Fifo WorkRec) : (modReady s p f).route = s.route := rfl
@[simp] theorem modReady_path (s : State) (p : Nat) (f : Fifo WorkRec → Fifo WorkRec) : (modReady s p f).path = s.path := rfl
@[simp] theorem modReady_pair (s : State) (p : Nat) (f : Fifo WorkRec → Fifo WorkRec) : (modReady s p f).pair = s.pair := rfl
@[simp] theorem modReady_pwr (s : State) (p : Nat) (f : Fifo WorkRec → Fifo WorkRec) : (modReady s p f).pwr = s.pwr := rfl
@[simp] theorem modReady_fw (s : State) (p : Nat) (f : Fifo WorkRec → Fifo WorkRec) : (modReady s p f).fw = s.fw := rfl
@[simp] theorem modReady_cmp (s : State) (p : Nat) (f : Fifo WorkRec → Fifo WorkRec) : (modReady s p f).cmp = s.cmp := rfl
@[simp] theorem modReady_test (s : State) (p : Nat) (f : Fifo WorkRec → Fifo WorkRec) : (modReady s p f).test = s.test := rfl

/-! `modCommand` -/

@[simp] theorem modCommand_pending (s : State) (f : DomCommand → DomCommand) : (modCommand s f).pending = s.pending := rfl
@[simp] theorem modCommand_upNs (s : State) (f : DomCommand → DomCommand) : (modCommand s f).upNs = s.upNs := rfl
@[simp] theorem modCommand_free (s : State) (f : DomCommand → DomCommand) : (modCommand s f).free = s.free := rfl
@[simp] theorem modCommand_part (s : State) (f : DomCommand → DomCommand) : (modCommand s f).part = s.part := rfl
@[simp] theorem modCommand_role (s : State) (f : DomCommand → DomCommand) : (modCommand s f).role = s.role := rfl
@[simp] theorem modCommand_straps (s : State) (f : DomCommand → DomCommand) : (modCommand s f).straps = s.straps := rfl
@[simp] theorem modCommand_resetHigh (s : State) (f : DomCommand → DomCommand) : (modCommand s f).resetHigh = s.resetHigh := rfl
@[simp] theorem modCommand_quiescing (s : State) (f : DomCommand → DomCommand) : (modCommand s f).quiescing = s.quiescing := rfl
@[simp] theorem modCommand_snapshotSeq (s : State) (f : DomCommand → DomCommand) : (modCommand s f).snapshotSeq = s.snapshotSeq := rfl
@[simp] theorem modCommand_host (s : State) (f : DomCommand → DomCommand) : (modCommand s f).host = s.host := rfl
@[simp] theorem modCommand_clk (s : State) (f : DomCommand → DomCommand) : (modCommand s f).clk = s.clk := rfl
@[simp] theorem modCommand_key (s : State) (f : DomCommand → DomCommand) : (modCommand s f).key = s.key := rfl
@[simp] theorem modCommand_air (s : State) (f : DomCommand → DomCommand) : (modCommand s f).air = s.air := rfl
@[simp] theorem modCommand_node (s : State) (f : DomCommand → DomCommand) : (modCommand s f).node = s.node := rfl
@[simp] theorem modCommand_radio (s : State) (f : DomCommand → DomCommand) : (modCommand s f).radio = s.radio := rfl
@[simp] theorem modCommand_orbit (s : State) (f : DomCommand → DomCommand) : (modCommand s f).orbit = s.orbit := rfl
@[simp] theorem modCommand_crypt (s : State) (f : DomCommand → DomCommand) : (modCommand s f).crypt = s.crypt := rfl
@[simp] theorem modCommand_queue (s : State) (f : DomCommand → DomCommand) : (modCommand s f).queue = s.queue := rfl
@[simp] theorem modCommand_route (s : State) (f : DomCommand → DomCommand) : (modCommand s f).route = s.route := rfl
@[simp] theorem modCommand_path (s : State) (f : DomCommand → DomCommand) : (modCommand s f).path = s.path := rfl
@[simp] theorem modCommand_pair (s : State) (f : DomCommand → DomCommand) : (modCommand s f).pair = s.pair := rfl
@[simp] theorem modCommand_fw (s : State) (f : DomCommand → DomCommand) : (modCommand s f).fw = s.fw := rfl
@[simp] theorem modCommand_cmp (s : State) (f : DomCommand → DomCommand) : (modCommand s f).cmp = s.cmp := rfl
@[simp] theorem modCommand_test (s : State) (f : DomCommand → DomCommand) : (modCommand s f).test = s.test := rfl

/-! `modRing` -/

@[simp] theorem modRing_pending (s : State) (v : View) (r : RingId) (f : RingRegs → RingRegs) : (modRing s v r f).pending = s.pending := by cases r <;> cases v <;> rfl
@[simp] theorem modRing_upNs (s : State) (v : View) (r : RingId) (f : RingRegs → RingRegs) : (modRing s v r f).upNs = s.upNs := by cases r <;> cases v <;> rfl
@[simp] theorem modRing_free (s : State) (v : View) (r : RingId) (f : RingRegs → RingRegs) : (modRing s v r f).free = s.free := by cases r <;> cases v <;> rfl
@[simp] theorem modRing_part (s : State) (v : View) (r : RingId) (f : RingRegs → RingRegs) : (modRing s v r f).part = s.part := by cases r <;> cases v <;> rfl
@[simp] theorem modRing_role (s : State) (v : View) (r : RingId) (f : RingRegs → RingRegs) : (modRing s v r f).role = s.role := by cases r <;> cases v <;> rfl
@[simp] theorem modRing_straps (s : State) (v : View) (r : RingId) (f : RingRegs → RingRegs) : (modRing s v r f).straps = s.straps := by cases r <;> cases v <;> rfl
@[simp] theorem modRing_resetHigh (s : State) (v : View) (r : RingId) (f : RingRegs → RingRegs) : (modRing s v r f).resetHigh = s.resetHigh := by cases r <;> cases v <;> rfl
@[simp] theorem modRing_quiescing (s : State) (v : View) (r : RingId) (f : RingRegs → RingRegs) : (modRing s v r f).quiescing = s.quiescing := by cases r <;> cases v <;> rfl
@[simp] theorem modRing_snapshotSeq (s : State) (v : View) (r : RingId) (f : RingRegs → RingRegs) : (modRing s v r f).snapshotSeq = s.snapshotSeq := by cases r <;> cases v <;> rfl
@[simp] theorem modRing_clk (s : State) (v : View) (r : RingId) (f : RingRegs → RingRegs) : (modRing s v r f).clk = s.clk := by cases r <;> cases v <;> rfl
@[simp] theorem modRing_key (s : State) (v : View) (r : RingId) (f : RingRegs → RingRegs) : (modRing s v r f).key = s.key := by cases r <;> cases v <;> rfl
@[simp] theorem modRing_air (s : State) (v : View) (r : RingId) (f : RingRegs → RingRegs) : (modRing s v r f).air = s.air := by cases r <;> cases v <;> rfl
@[simp] theorem modRing_node (s : State) (v : View) (r : RingId) (f : RingRegs → RingRegs) : (modRing s v r f).node = s.node := by cases r <;> cases v <;> rfl
@[simp] theorem modRing_radio (s : State) (v : View) (r : RingId) (f : RingRegs → RingRegs) : (modRing s v r f).radio = s.radio := by cases r <;> cases v <;> rfl
@[simp] theorem modRing_orbit (s : State) (v : View) (r : RingId) (f : RingRegs → RingRegs) : (modRing s v r f).orbit = s.orbit := by cases r <;> cases v <;> rfl
@[simp] theorem modRing_crypt (s : State) (v : View) (r : RingId) (f : RingRegs → RingRegs) : (modRing s v r f).crypt = s.crypt := by cases r <;> cases v <;> rfl
@[simp] theorem modRing_queue (s : State) (v : View) (r : RingId) (f : RingRegs → RingRegs) : (modRing s v r f).queue = s.queue := by cases r <;> cases v <;> rfl
@[simp] theorem modRing_route (s : State) (v : View) (r : RingId) (f : RingRegs → RingRegs) : (modRing s v r f).route = s.route := by cases r <;> cases v <;> rfl
@[simp] theorem modRing_path (s : State) (v : View) (r : RingId) (f : RingRegs → RingRegs) : (modRing s v r f).path = s.path := by cases r <;> cases v <;> rfl
@[simp] theorem modRing_pair (s : State) (v : View) (r : RingId) (f : RingRegs → RingRegs) : (modRing s v r f).pair = s.pair := by cases r <;> cases v <;> rfl
@[simp] theorem modRing_pwr (s : State) (v : View) (r : RingId) (f : RingRegs → RingRegs) : (modRing s v r f).pwr = s.pwr := by cases r <;> cases v <;> rfl
@[simp] theorem modRing_fw (s : State) (v : View) (r : RingId) (f : RingRegs → RingRegs) : (modRing s v r f).fw = s.fw := by cases r <;> cases v <;> rfl
@[simp] theorem modRing_cmp (s : State) (v : View) (r : RingId) (f : RingRegs → RingRegs) : (modRing s v r f).cmp = s.cmp := by cases r <;> cases v <;> rfl
@[simp] theorem modRing_test (s : State) (v : View) (r : RingId) (f : RingRegs → RingRegs) : (modRing s v r f).test = s.test := by cases r <;> cases v <;> rfl

/-! `modTones` -/

@[simp] theorem modTones_pending (s : State) (addr : Nat) (f : ToneMaps → ToneMaps) : (modTones s addr f).pending = s.pending := rfl
@[simp] theorem modTones_upNs (s : State) (addr : Nat) (f : ToneMaps → ToneMaps) : (modTones s addr f).upNs = s.upNs := rfl
@[simp] theorem modTones_free (s : State) (addr : Nat) (f : ToneMaps → ToneMaps) : (modTones s addr f).free = s.free := rfl
@[simp] theorem modTones_part (s : State) (addr : Nat) (f : ToneMaps → ToneMaps) : (modTones s addr f).part = s.part := rfl
@[simp] theorem modTones_role (s : State) (addr : Nat) (f : ToneMaps → ToneMaps) : (modTones s addr f).role = s.role := rfl
@[simp] theorem modTones_straps (s : State) (addr : Nat) (f : ToneMaps → ToneMaps) : (modTones s addr f).straps = s.straps := rfl
@[simp] theorem modTones_resetHigh (s : State) (addr : Nat) (f : ToneMaps → ToneMaps) : (modTones s addr f).resetHigh = s.resetHigh := rfl
@[simp] theorem modTones_quiescing (s : State) (addr : Nat) (f : ToneMaps → ToneMaps) : (modTones s addr f).quiescing = s.quiescing := rfl
@[simp] theorem modTones_snapshotSeq (s : State) (addr : Nat) (f : ToneMaps → ToneMaps) : (modTones s addr f).snapshotSeq = s.snapshotSeq := rfl
@[simp] theorem modTones_host (s : State) (addr : Nat) (f : ToneMaps → ToneMaps) : (modTones s addr f).host = s.host := rfl
@[simp] theorem modTones_clk (s : State) (addr : Nat) (f : ToneMaps → ToneMaps) : (modTones s addr f).clk = s.clk := rfl
@[simp] theorem modTones_key (s : State) (addr : Nat) (f : ToneMaps → ToneMaps) : (modTones s addr f).key = s.key := rfl
@[simp] theorem modTones_node (s : State) (addr : Nat) (f : ToneMaps → ToneMaps) : (modTones s addr f).node = s.node := rfl
@[simp] theorem modTones_radio (s : State) (addr : Nat) (f : ToneMaps → ToneMaps) : (modTones s addr f).radio = s.radio := rfl
@[simp] theorem modTones_orbit (s : State) (addr : Nat) (f : ToneMaps → ToneMaps) : (modTones s addr f).orbit = s.orbit := rfl
@[simp] theorem modTones_crypt (s : State) (addr : Nat) (f : ToneMaps → ToneMaps) : (modTones s addr f).crypt = s.crypt := rfl
@[simp] theorem modTones_queue (s : State) (addr : Nat) (f : ToneMaps → ToneMaps) : (modTones s addr f).queue = s.queue := rfl
@[simp] theorem modTones_route (s : State) (addr : Nat) (f : ToneMaps → ToneMaps) : (modTones s addr f).route = s.route := rfl
@[simp] theorem modTones_path (s : State) (addr : Nat) (f : ToneMaps → ToneMaps) : (modTones s addr f).path = s.path := rfl
@[simp] theorem modTones_pair (s : State) (addr : Nat) (f : ToneMaps → ToneMaps) : (modTones s addr f).pair = s.pair := rfl
@[simp] theorem modTones_pwr (s : State) (addr : Nat) (f : ToneMaps → ToneMaps) : (modTones s addr f).pwr = s.pwr := rfl
@[simp] theorem modTones_fw (s : State) (addr : Nat) (f : ToneMaps → ToneMaps) : (modTones s addr f).fw = s.fw := rfl
@[simp] theorem modTones_cmp (s : State) (addr : Nat) (f : ToneMaps → ToneMaps) : (modTones s addr f).cmp = s.cmp := rfl
@[simp] theorem modTones_test (s : State) (addr : Nat) (f : ToneMaps → ToneMaps) : (modTones s addr f).test = s.test := rfl

/-! `modRun` -/

@[simp] theorem modRun_pending (s : State) (r : Nat) (f : TestRun → TestRun) : (modRun s r f).pending = s.pending := rfl
@[simp] theorem modRun_upNs (s : State) (r : Nat) (f : TestRun → TestRun) : (modRun s r f).upNs = s.upNs := rfl
@[simp] theorem modRun_free (s : State) (r : Nat) (f : TestRun → TestRun) : (modRun s r f).free = s.free := rfl
@[simp] theorem modRun_part (s : State) (r : Nat) (f : TestRun → TestRun) : (modRun s r f).part = s.part := rfl
@[simp] theorem modRun_role (s : State) (r : Nat) (f : TestRun → TestRun) : (modRun s r f).role = s.role := rfl
@[simp] theorem modRun_straps (s : State) (r : Nat) (f : TestRun → TestRun) : (modRun s r f).straps = s.straps := rfl
@[simp] theorem modRun_resetHigh (s : State) (r : Nat) (f : TestRun → TestRun) : (modRun s r f).resetHigh = s.resetHigh := rfl
@[simp] theorem modRun_quiescing (s : State) (r : Nat) (f : TestRun → TestRun) : (modRun s r f).quiescing = s.quiescing := rfl
@[simp] theorem modRun_snapshotSeq (s : State) (r : Nat) (f : TestRun → TestRun) : (modRun s r f).snapshotSeq = s.snapshotSeq := rfl
@[simp] theorem modRun_host (s : State) (r : Nat) (f : TestRun → TestRun) : (modRun s r f).host = s.host := rfl
@[simp] theorem modRun_clk (s : State) (r : Nat) (f : TestRun → TestRun) : (modRun s r f).clk = s.clk := rfl
@[simp] theorem modRun_key (s : State) (r : Nat) (f : TestRun → TestRun) : (modRun s r f).key = s.key := rfl
@[simp] theorem modRun_air (s : State) (r : Nat) (f : TestRun → TestRun) : (modRun s r f).air = s.air := rfl
@[simp] theorem modRun_node (s : State) (r : Nat) (f : TestRun → TestRun) : (modRun s r f).node = s.node := rfl
@[simp] theorem modRun_radio (s : State) (r : Nat) (f : TestRun → TestRun) : (modRun s r f).radio = s.radio := rfl
@[simp] theorem modRun_orbit (s : State) (r : Nat) (f : TestRun → TestRun) : (modRun s r f).orbit = s.orbit := rfl
@[simp] theorem modRun_crypt (s : State) (r : Nat) (f : TestRun → TestRun) : (modRun s r f).crypt = s.crypt := rfl
@[simp] theorem modRun_queue (s : State) (r : Nat) (f : TestRun → TestRun) : (modRun s r f).queue = s.queue := rfl
@[simp] theorem modRun_route (s : State) (r : Nat) (f : TestRun → TestRun) : (modRun s r f).route = s.route := rfl
@[simp] theorem modRun_path (s : State) (r : Nat) (f : TestRun → TestRun) : (modRun s r f).path = s.path := rfl
@[simp] theorem modRun_pair (s : State) (r : Nat) (f : TestRun → TestRun) : (modRun s r f).pair = s.pair := rfl
@[simp] theorem modRun_pwr (s : State) (r : Nat) (f : TestRun → TestRun) : (modRun s r f).pwr = s.pwr := rfl
@[simp] theorem modRun_fw (s : State) (r : Nat) (f : TestRun → TestRun) : (modRun s r f).fw = s.fw := rfl
@[simp] theorem modRun_cmp (s : State) (r : Nat) (f : TestRun → TestRun) : (modRun s r f).cmp = s.cmp := rfl

/-! `modCarrier` -/

@[simp] theorem modCarrier_pending (s : State) (b : Band) (id : Nat) (f : Launch → Launch) : (modCarrier s b id f).pending = s.pending := rfl
@[simp] theorem modCarrier_upNs (s : State) (b : Band) (id : Nat) (f : Launch → Launch) : (modCarrier s b id f).upNs = s.upNs := rfl
@[simp] theorem modCarrier_free (s : State) (b : Band) (id : Nat) (f : Launch → Launch) : (modCarrier s b id f).free = s.free := rfl
@[simp] theorem modCarrier_part (s : State) (b : Band) (id : Nat) (f : Launch → Launch) : (modCarrier s b id f).part = s.part := rfl
@[simp] theorem modCarrier_role (s : State) (b : Band) (id : Nat) (f : Launch → Launch) : (modCarrier s b id f).role = s.role := rfl
@[simp] theorem modCarrier_straps (s : State) (b : Band) (id : Nat) (f : Launch → Launch) : (modCarrier s b id f).straps = s.straps := rfl
@[simp] theorem modCarrier_resetHigh (s : State) (b : Band) (id : Nat) (f : Launch → Launch) : (modCarrier s b id f).resetHigh = s.resetHigh := rfl
@[simp] theorem modCarrier_quiescing (s : State) (b : Band) (id : Nat) (f : Launch → Launch) : (modCarrier s b id f).quiescing = s.quiescing := rfl
@[simp] theorem modCarrier_snapshotSeq (s : State) (b : Band) (id : Nat) (f : Launch → Launch) : (modCarrier s b id f).snapshotSeq = s.snapshotSeq := rfl
@[simp] theorem modCarrier_host (s : State) (b : Band) (id : Nat) (f : Launch → Launch) : (modCarrier s b id f).host = s.host := rfl
@[simp] theorem modCarrier_clk (s : State) (b : Band) (id : Nat) (f : Launch → Launch) : (modCarrier s b id f).clk = s.clk := rfl
@[simp] theorem modCarrier_key (s : State) (b : Band) (id : Nat) (f : Launch → Launch) : (modCarrier s b id f).key = s.key := rfl
@[simp] theorem modCarrier_air (s : State) (b : Band) (id : Nat) (f : Launch → Launch) : (modCarrier s b id f).air = s.air := rfl
@[simp] theorem modCarrier_node (s : State) (b : Band) (id : Nat) (f : Launch → Launch) : (modCarrier s b id f).node = s.node := rfl
@[simp] theorem modCarrier_orbit (s : State) (b : Band) (id : Nat) (f : Launch → Launch) : (modCarrier s b id f).orbit = s.orbit := rfl
@[simp] theorem modCarrier_crypt (s : State) (b : Band) (id : Nat) (f : Launch → Launch) : (modCarrier s b id f).crypt = s.crypt := rfl
@[simp] theorem modCarrier_queue (s : State) (b : Band) (id : Nat) (f : Launch → Launch) : (modCarrier s b id f).queue = s.queue := rfl
@[simp] theorem modCarrier_route (s : State) (b : Band) (id : Nat) (f : Launch → Launch) : (modCarrier s b id f).route = s.route := rfl
@[simp] theorem modCarrier_path (s : State) (b : Band) (id : Nat) (f : Launch → Launch) : (modCarrier s b id f).path = s.path := rfl
@[simp] theorem modCarrier_pair (s : State) (b : Band) (id : Nat) (f : Launch → Launch) : (modCarrier s b id f).pair = s.pair := rfl
@[simp] theorem modCarrier_pwr (s : State) (b : Band) (id : Nat) (f : Launch → Launch) : (modCarrier s b id f).pwr = s.pwr := rfl
@[simp] theorem modCarrier_fw (s : State) (b : Band) (id : Nat) (f : Launch → Launch) : (modCarrier s b id f).fw = s.fw := rfl
@[simp] theorem modCarrier_cmp (s : State) (b : Band) (id : Nat) (f : Launch → Launch) : (modCarrier s b id f).cmp = s.cmp := rfl
@[simp] theorem modCarrier_test (s : State) (b : Band) (id : Nat) (f : Launch → Launch) : (modCarrier s b id f).test = s.test := rfl

/-! `modPlan` -/

@[simp] theorem modPlan_pending (s : State) (n : Nat) (f : Plan → Plan) : (modPlan s n f).pending = s.pending := rfl
@[simp] theorem modPlan_upNs (s : State) (n : Nat) (f : Plan → Plan) : (modPlan s n f).upNs = s.upNs := rfl
@[simp] theorem modPlan_free (s : State) (n : Nat) (f : Plan → Plan) : (modPlan s n f).free = s.free := rfl
@[simp] theorem modPlan_part (s : State) (n : Nat) (f : Plan → Plan) : (modPlan s n f).part = s.part := rfl
@[simp] theorem modPlan_role (s : State) (n : Nat) (f : Plan → Plan) : (modPlan s n f).role = s.role := rfl
@[simp] theorem modPlan_straps (s : State) (n : Nat) (f : Plan → Plan) : (modPlan s n f).straps = s.straps := rfl
@[simp] theorem modPlan_resetHigh (s : State) (n : Nat) (f : Plan → Plan) : (modPlan s n f).resetHigh = s.resetHigh := rfl
@[simp] theorem modPlan_quiescing (s : State) (n : Nat) (f : Plan → Plan) : (modPlan s n f).quiescing = s.quiescing := rfl
@[simp] theorem modPlan_snapshotSeq (s : State) (n : Nat) (f : Plan → Plan) : (modPlan s n f).snapshotSeq = s.snapshotSeq := rfl
@[simp] theorem modPlan_host (s : State) (n : Nat) (f : Plan → Plan) : (modPlan s n f).host = s.host := rfl
@[simp] theorem modPlan_clk (s : State) (n : Nat) (f : Plan → Plan) : (modPlan s n f).clk = s.clk := rfl
@[simp] theorem modPlan_key (s : State) (n : Nat) (f : Plan → Plan) : (modPlan s n f).key = s.key := rfl
@[simp] theorem modPlan_air (s : State) (n : Nat) (f : Plan → Plan) : (modPlan s n f).air = s.air := rfl
@[simp] theorem modPlan_node (s : State) (n : Nat) (f : Plan → Plan) : (modPlan s n f).node = s.node := rfl
@[simp] theorem modPlan_radio (s : State) (n : Nat) (f : Plan → Plan) : (modPlan s n f).radio = s.radio := rfl
@[simp] theorem modPlan_crypt (s : State) (n : Nat) (f : Plan → Plan) : (modPlan s n f).crypt = s.crypt := rfl
@[simp] theorem modPlan_queue (s : State) (n : Nat) (f : Plan → Plan) : (modPlan s n f).queue = s.queue := rfl
@[simp] theorem modPlan_route (s : State) (n : Nat) (f : Plan → Plan) : (modPlan s n f).route = s.route := rfl
@[simp] theorem modPlan_path (s : State) (n : Nat) (f : Plan → Plan) : (modPlan s n f).path = s.path := rfl
@[simp] theorem modPlan_pair (s : State) (n : Nat) (f : Plan → Plan) : (modPlan s n f).pair = s.pair := rfl
@[simp] theorem modPlan_pwr (s : State) (n : Nat) (f : Plan → Plan) : (modPlan s n f).pwr = s.pwr := rfl
@[simp] theorem modPlan_fw (s : State) (n : Nat) (f : Plan → Plan) : (modPlan s n f).fw = s.fw := rfl
@[simp] theorem modPlan_cmp (s : State) (n : Nat) (f : Plan → Plan) : (modPlan s n f).cmp = s.cmp := rfl
@[simp] theorem modPlan_test (s : State) (n : Nat) (f : Plan → Plan) : (modPlan s n f).test = s.test := rfl

/-! `orbitCount` -/

@[simp] theorem orbitCount_pending (s : State) (i : Nat) : (orbitCount s i).pending = s.pending := rfl
@[simp] theorem orbitCount_upNs (s : State) (i : Nat) : (orbitCount s i).upNs = s.upNs := rfl
@[simp] theorem orbitCount_free (s : State) (i : Nat) : (orbitCount s i).free = s.free := rfl
@[simp] theorem orbitCount_part (s : State) (i : Nat) : (orbitCount s i).part = s.part := rfl
@[simp] theorem orbitCount_role (s : State) (i : Nat) : (orbitCount s i).role = s.role := rfl
@[simp] theorem orbitCount_straps (s : State) (i : Nat) : (orbitCount s i).straps = s.straps := rfl
@[simp] theorem orbitCount_resetHigh (s : State) (i : Nat) : (orbitCount s i).resetHigh = s.resetHigh := rfl
@[simp] theorem orbitCount_quiescing (s : State) (i : Nat) : (orbitCount s i).quiescing = s.quiescing := rfl
@[simp] theorem orbitCount_snapshotSeq (s : State) (i : Nat) : (orbitCount s i).snapshotSeq = s.snapshotSeq := rfl
@[simp] theorem orbitCount_host (s : State) (i : Nat) : (orbitCount s i).host = s.host := rfl
@[simp] theorem orbitCount_clk (s : State) (i : Nat) : (orbitCount s i).clk = s.clk := rfl
@[simp] theorem orbitCount_key (s : State) (i : Nat) : (orbitCount s i).key = s.key := rfl
@[simp] theorem orbitCount_air (s : State) (i : Nat) : (orbitCount s i).air = s.air := rfl
@[simp] theorem orbitCount_node (s : State) (i : Nat) : (orbitCount s i).node = s.node := rfl
@[simp] theorem orbitCount_radio (s : State) (i : Nat) : (orbitCount s i).radio = s.radio := rfl
@[simp] theorem orbitCount_crypt (s : State) (i : Nat) : (orbitCount s i).crypt = s.crypt := rfl
@[simp] theorem orbitCount_queue (s : State) (i : Nat) : (orbitCount s i).queue = s.queue := rfl
@[simp] theorem orbitCount_route (s : State) (i : Nat) : (orbitCount s i).route = s.route := rfl
@[simp] theorem orbitCount_path (s : State) (i : Nat) : (orbitCount s i).path = s.path := rfl
@[simp] theorem orbitCount_pair (s : State) (i : Nat) : (orbitCount s i).pair = s.pair := rfl
@[simp] theorem orbitCount_pwr (s : State) (i : Nat) : (orbitCount s i).pwr = s.pwr := rfl
@[simp] theorem orbitCount_fw (s : State) (i : Nat) : (orbitCount s i).fw = s.fw := rfl
@[simp] theorem orbitCount_cmp (s : State) (i : Nat) : (orbitCount s i).cmp = s.cmp := rfl
@[simp] theorem orbitCount_test (s : State) (i : Nat) : (orbitCount s i).test = s.test := rfl

/-! `txCount` -/

@[simp] theorem txCount_pending (s : State) (b : Band) (i : Nat) : (txCount s b i).pending = s.pending := rfl
@[simp] theorem txCount_upNs (s : State) (b : Band) (i : Nat) : (txCount s b i).upNs = s.upNs := rfl
@[simp] theorem txCount_free (s : State) (b : Band) (i : Nat) : (txCount s b i).free = s.free := rfl
@[simp] theorem txCount_part (s : State) (b : Band) (i : Nat) : (txCount s b i).part = s.part := rfl
@[simp] theorem txCount_role (s : State) (b : Band) (i : Nat) : (txCount s b i).role = s.role := rfl
@[simp] theorem txCount_straps (s : State) (b : Band) (i : Nat) : (txCount s b i).straps = s.straps := rfl
@[simp] theorem txCount_resetHigh (s : State) (b : Band) (i : Nat) : (txCount s b i).resetHigh = s.resetHigh := rfl
@[simp] theorem txCount_quiescing (s : State) (b : Band) (i : Nat) : (txCount s b i).quiescing = s.quiescing := rfl
@[simp] theorem txCount_snapshotSeq (s : State) (b : Band) (i : Nat) : (txCount s b i).snapshotSeq = s.snapshotSeq := rfl
@[simp] theorem txCount_host (s : State) (b : Band) (i : Nat) : (txCount s b i).host = s.host := rfl
@[simp] theorem txCount_clk (s : State) (b : Band) (i : Nat) : (txCount s b i).clk = s.clk := rfl
@[simp] theorem txCount_key (s : State) (b : Band) (i : Nat) : (txCount s b i).key = s.key := rfl
@[simp] theorem txCount_air (s : State) (b : Band) (i : Nat) : (txCount s b i).air = s.air := rfl
@[simp] theorem txCount_node (s : State) (b : Band) (i : Nat) : (txCount s b i).node = s.node := rfl
@[simp] theorem txCount_orbit (s : State) (b : Band) (i : Nat) : (txCount s b i).orbit = s.orbit := rfl
@[simp] theorem txCount_crypt (s : State) (b : Band) (i : Nat) : (txCount s b i).crypt = s.crypt := rfl
@[simp] theorem txCount_queue (s : State) (b : Band) (i : Nat) : (txCount s b i).queue = s.queue := rfl
@[simp] theorem txCount_route (s : State) (b : Band) (i : Nat) : (txCount s b i).route = s.route := rfl
@[simp] theorem txCount_path (s : State) (b : Band) (i : Nat) : (txCount s b i).path = s.path := rfl
@[simp] theorem txCount_pair (s : State) (b : Band) (i : Nat) : (txCount s b i).pair = s.pair := rfl
@[simp] theorem txCount_pwr (s : State) (b : Band) (i : Nat) : (txCount s b i).pwr = s.pwr := rfl
@[simp] theorem txCount_fw (s : State) (b : Band) (i : Nat) : (txCount s b i).fw = s.fw := rfl
@[simp] theorem txCount_cmp (s : State) (b : Band) (i : Nat) : (txCount s b i).cmp = s.cmp := rfl
@[simp] theorem txCount_test (s : State) (b : Band) (i : Nat) : (txCount s b i).test = s.test := rfl

/-! `rxCount` -/

@[simp] theorem rxCount_pending (s : State) (b : Band) (i : Nat) : (rxCount s b i).pending = s.pending := rfl
@[simp] theorem rxCount_upNs (s : State) (b : Band) (i : Nat) : (rxCount s b i).upNs = s.upNs := rfl
@[simp] theorem rxCount_free (s : State) (b : Band) (i : Nat) : (rxCount s b i).free = s.free := rfl
@[simp] theorem rxCount_part (s : State) (b : Band) (i : Nat) : (rxCount s b i).part = s.part := rfl
@[simp] theorem rxCount_role (s : State) (b : Band) (i : Nat) : (rxCount s b i).role = s.role := rfl
@[simp] theorem rxCount_straps (s : State) (b : Band) (i : Nat) : (rxCount s b i).straps = s.straps := rfl
@[simp] theorem rxCount_resetHigh (s : State) (b : Band) (i : Nat) : (rxCount s b i).resetHigh = s.resetHigh := rfl
@[simp] theorem rxCount_quiescing (s : State) (b : Band) (i : Nat) : (rxCount s b i).quiescing = s.quiescing := rfl
@[simp] theorem rxCount_snapshotSeq (s : State) (b : Band) (i : Nat) : (rxCount s b i).snapshotSeq = s.snapshotSeq := rfl
@[simp] theorem rxCount_host (s : State) (b : Band) (i : Nat) : (rxCount s b i).host = s.host := rfl
@[simp] theorem rxCount_clk (s : State) (b : Band) (i : Nat) : (rxCount s b i).clk = s.clk := rfl
@[simp] theorem rxCount_key (s : State) (b : Band) (i : Nat) : (rxCount s b i).key = s.key := rfl
@[simp] theorem rxCount_air (s : State) (b : Band) (i : Nat) : (rxCount s b i).air = s.air := rfl
@[simp] theorem rxCount_node (s : State) (b : Band) (i : Nat) : (rxCount s b i).node = s.node := rfl
@[simp] theorem rxCount_orbit (s : State) (b : Band) (i : Nat) : (rxCount s b i).orbit = s.orbit := rfl
@[simp] theorem rxCount_crypt (s : State) (b : Band) (i : Nat) : (rxCount s b i).crypt = s.crypt := rfl
@[simp] theorem rxCount_queue (s : State) (b : Band) (i : Nat) : (rxCount s b i).queue = s.queue := rfl
@[simp] theorem rxCount_route (s : State) (b : Band) (i : Nat) : (rxCount s b i).route = s.route := rfl
@[simp] theorem rxCount_path (s : State) (b : Band) (i : Nat) : (rxCount s b i).path = s.path := rfl
@[simp] theorem rxCount_pair (s : State) (b : Band) (i : Nat) : (rxCount s b i).pair = s.pair := rfl
@[simp] theorem rxCount_pwr (s : State) (b : Band) (i : Nat) : (rxCount s b i).pwr = s.pwr := rfl
@[simp] theorem rxCount_fw (s : State) (b : Band) (i : Nat) : (rxCount s b i).fw = s.fw := rfl
@[simp] theorem rxCount_cmp (s : State) (b : Band) (i : Nat) : (rxCount s b i).cmp = s.cmp := rfl
@[simp] theorem rxCount_test (s : State) (b : Band) (i : Nat) : (rxCount s b i).test = s.test := rfl

/-! `airCount` -/

@[simp] theorem airCount_pending (s : State) (b : Band) (i : Nat) : (airCount s b i).pending = s.pending := rfl
@[simp] theorem airCount_upNs (s : State) (b : Band) (i : Nat) : (airCount s b i).upNs = s.upNs := rfl
@[simp] theorem airCount_free (s : State) (b : Band) (i : Nat) : (airCount s b i).free = s.free := rfl
@[simp] theorem airCount_part (s : State) (b : Band) (i : Nat) : (airCount s b i).part = s.part := rfl
@[simp] theorem airCount_role (s : State) (b : Band) (i : Nat) : (airCount s b i).role = s.role := rfl
@[simp] theorem airCount_straps (s : State) (b : Band) (i : Nat) : (airCount s b i).straps = s.straps := rfl
@[simp] theorem airCount_resetHigh (s : State) (b : Band) (i : Nat) : (airCount s b i).resetHigh = s.resetHigh := rfl
@[simp] theorem airCount_quiescing (s : State) (b : Band) (i : Nat) : (airCount s b i).quiescing = s.quiescing := rfl
@[simp] theorem airCount_snapshotSeq (s : State) (b : Band) (i : Nat) : (airCount s b i).snapshotSeq = s.snapshotSeq := rfl
@[simp] theorem airCount_host (s : State) (b : Band) (i : Nat) : (airCount s b i).host = s.host := rfl
@[simp] theorem airCount_clk (s : State) (b : Band) (i : Nat) : (airCount s b i).clk = s.clk := rfl
@[simp] theorem airCount_key (s : State) (b : Band) (i : Nat) : (airCount s b i).key = s.key := rfl
@[simp] theorem airCount_node (s : State) (b : Band) (i : Nat) : (airCount s b i).node = s.node := rfl
@[simp] theorem airCount_radio (s : State) (b : Band) (i : Nat) : (airCount s b i).radio = s.radio := rfl
@[simp] theorem airCount_orbit (s : State) (b : Band) (i : Nat) : (airCount s b i).orbit = s.orbit := rfl
@[simp] theorem airCount_crypt (s : State) (b : Band) (i : Nat) : (airCount s b i).crypt = s.crypt := rfl
@[simp] theorem airCount_queue (s : State) (b : Band) (i : Nat) : (airCount s b i).queue = s.queue := rfl
@[simp] theorem airCount_route (s : State) (b : Band) (i : Nat) : (airCount s b i).route = s.route := rfl
@[simp] theorem airCount_path (s : State) (b : Band) (i : Nat) : (airCount s b i).path = s.path := rfl
@[simp] theorem airCount_pair (s : State) (b : Band) (i : Nat) : (airCount s b i).pair = s.pair := rfl
@[simp] theorem airCount_pwr (s : State) (b : Band) (i : Nat) : (airCount s b i).pwr = s.pwr := rfl
@[simp] theorem airCount_fw (s : State) (b : Band) (i : Nat) : (airCount s b i).fw = s.fw := rfl
@[simp] theorem airCount_cmp (s : State) (b : Band) (i : Nat) : (airCount s b i).cmp = s.cmp := rfl
@[simp] theorem airCount_test (s : State) (b : Band) (i : Nat) : (airCount s b i).test = s.test := rfl

/-! `nodeCount` -/

@[simp] theorem nodeCount_pending (s : State) (i : Nat) : (nodeCount s i).pending = s.pending := rfl
@[simp] theorem nodeCount_upNs (s : State) (i : Nat) : (nodeCount s i).upNs = s.upNs := rfl
@[simp] theorem nodeCount_free (s : State) (i : Nat) : (nodeCount s i).free = s.free := rfl
@[simp] theorem nodeCount_part (s : State) (i : Nat) : (nodeCount s i).part = s.part := rfl
@[simp] theorem nodeCount_role (s : State) (i : Nat) : (nodeCount s i).role = s.role := rfl
@[simp] theorem nodeCount_straps (s : State) (i : Nat) : (nodeCount s i).straps = s.straps := rfl
@[simp] theorem nodeCount_resetHigh (s : State) (i : Nat) : (nodeCount s i).resetHigh = s.resetHigh := rfl
@[simp] theorem nodeCount_quiescing (s : State) (i : Nat) : (nodeCount s i).quiescing = s.quiescing := rfl
@[simp] theorem nodeCount_snapshotSeq (s : State) (i : Nat) : (nodeCount s i).snapshotSeq = s.snapshotSeq := rfl
@[simp] theorem nodeCount_host (s : State) (i : Nat) : (nodeCount s i).host = s.host := rfl
@[simp] theorem nodeCount_clk (s : State) (i : Nat) : (nodeCount s i).clk = s.clk := rfl
@[simp] theorem nodeCount_key (s : State) (i : Nat) : (nodeCount s i).key = s.key := rfl
@[simp] theorem nodeCount_air (s : State) (i : Nat) : (nodeCount s i).air = s.air := rfl
@[simp] theorem nodeCount_radio (s : State) (i : Nat) : (nodeCount s i).radio = s.radio := rfl
@[simp] theorem nodeCount_orbit (s : State) (i : Nat) : (nodeCount s i).orbit = s.orbit := rfl
@[simp] theorem nodeCount_crypt (s : State) (i : Nat) : (nodeCount s i).crypt = s.crypt := rfl
@[simp] theorem nodeCount_queue (s : State) (i : Nat) : (nodeCount s i).queue = s.queue := rfl
@[simp] theorem nodeCount_route (s : State) (i : Nat) : (nodeCount s i).route = s.route := rfl
@[simp] theorem nodeCount_path (s : State) (i : Nat) : (nodeCount s i).path = s.path := rfl
@[simp] theorem nodeCount_pair (s : State) (i : Nat) : (nodeCount s i).pair = s.pair := rfl
@[simp] theorem nodeCount_pwr (s : State) (i : Nat) : (nodeCount s i).pwr = s.pwr := rfl
@[simp] theorem nodeCount_fw (s : State) (i : Nat) : (nodeCount s i).fw = s.fw := rfl
@[simp] theorem nodeCount_cmp (s : State) (i : Nat) : (nodeCount s i).cmp = s.cmp := rfl
@[simp] theorem nodeCount_test (s : State) (i : Nat) : (nodeCount s i).test = s.test := rfl

/-! `routeCount` -/

@[simp] theorem routeCount_pending (s : State) (i : Nat) : (routeCount s i).pending = s.pending := rfl
@[simp] theorem routeCount_upNs (s : State) (i : Nat) : (routeCount s i).upNs = s.upNs := rfl
@[simp] theorem routeCount_free (s : State) (i : Nat) : (routeCount s i).free = s.free := rfl
@[simp] theorem routeCount_part (s : State) (i : Nat) : (routeCount s i).part = s.part := rfl
@[simp] theorem routeCount_role (s : State) (i : Nat) : (routeCount s i).role = s.role := rfl
@[simp] theorem routeCount_straps (s : State) (i : Nat) : (routeCount s i).straps = s.straps := rfl
@[simp] theorem routeCount_resetHigh (s : State) (i : Nat) : (routeCount s i).resetHigh = s.resetHigh := rfl
@[simp] theorem routeCount_quiescing (s : State) (i : Nat) : (routeCount s i).quiescing = s.quiescing := rfl
@[simp] theorem routeCount_snapshotSeq (s : State) (i : Nat) : (routeCount s i).snapshotSeq = s.snapshotSeq := rfl
@[simp] theorem routeCount_host (s : State) (i : Nat) : (routeCount s i).host = s.host := rfl
@[simp] theorem routeCount_clk (s : State) (i : Nat) : (routeCount s i).clk = s.clk := rfl
@[simp] theorem routeCount_key (s : State) (i : Nat) : (routeCount s i).key = s.key := rfl
@[simp] theorem routeCount_air (s : State) (i : Nat) : (routeCount s i).air = s.air := rfl
@[simp] theorem routeCount_node (s : State) (i : Nat) : (routeCount s i).node = s.node := rfl
@[simp] theorem routeCount_radio (s : State) (i : Nat) : (routeCount s i).radio = s.radio := rfl
@[simp] theorem routeCount_orbit (s : State) (i : Nat) : (routeCount s i).orbit = s.orbit := rfl
@[simp] theorem routeCount_crypt (s : State) (i : Nat) : (routeCount s i).crypt = s.crypt := rfl
@[simp] theorem routeCount_queue (s : State) (i : Nat) : (routeCount s i).queue = s.queue := rfl
@[simp] theorem routeCount_path (s : State) (i : Nat) : (routeCount s i).path = s.path := rfl
@[simp] theorem routeCount_pair (s : State) (i : Nat) : (routeCount s i).pair = s.pair := rfl
@[simp] theorem routeCount_pwr (s : State) (i : Nat) : (routeCount s i).pwr = s.pwr := rfl
@[simp] theorem routeCount_fw (s : State) (i : Nat) : (routeCount s i).fw = s.fw := rfl
@[simp] theorem routeCount_cmp (s : State) (i : Nat) : (routeCount s i).cmp = s.cmp := rfl
@[simp] theorem routeCount_test (s : State) (i : Nat) : (routeCount s i).test = s.test := rfl

/-! `keyCount` -/

@[simp] theorem keyCount_pending (s : State) (i : Nat) : (keyCount s i).pending = s.pending := rfl
@[simp] theorem keyCount_upNs (s : State) (i : Nat) : (keyCount s i).upNs = s.upNs := rfl
@[simp] theorem keyCount_free (s : State) (i : Nat) : (keyCount s i).free = s.free := rfl
@[simp] theorem keyCount_part (s : State) (i : Nat) : (keyCount s i).part = s.part := rfl
@[simp] theorem keyCount_role (s : State) (i : Nat) : (keyCount s i).role = s.role := rfl
@[simp] theorem keyCount_straps (s : State) (i : Nat) : (keyCount s i).straps = s.straps := rfl
@[simp] theorem keyCount_resetHigh (s : State) (i : Nat) : (keyCount s i).resetHigh = s.resetHigh := rfl
@[simp] theorem keyCount_quiescing (s : State) (i : Nat) : (keyCount s i).quiescing = s.quiescing := rfl
@[simp] theorem keyCount_snapshotSeq (s : State) (i : Nat) : (keyCount s i).snapshotSeq = s.snapshotSeq := rfl
@[simp] theorem keyCount_host (s : State) (i : Nat) : (keyCount s i).host = s.host := rfl
@[simp] theorem keyCount_clk (s : State) (i : Nat) : (keyCount s i).clk = s.clk := rfl
@[simp] theorem keyCount_air (s : State) (i : Nat) : (keyCount s i).air = s.air := rfl
@[simp] theorem keyCount_node (s : State) (i : Nat) : (keyCount s i).node = s.node := rfl
@[simp] theorem keyCount_radio (s : State) (i : Nat) : (keyCount s i).radio = s.radio := rfl
@[simp] theorem keyCount_orbit (s : State) (i : Nat) : (keyCount s i).orbit = s.orbit := rfl
@[simp] theorem keyCount_crypt (s : State) (i : Nat) : (keyCount s i).crypt = s.crypt := rfl
@[simp] theorem keyCount_queue (s : State) (i : Nat) : (keyCount s i).queue = s.queue := rfl
@[simp] theorem keyCount_route (s : State) (i : Nat) : (keyCount s i).route = s.route := rfl
@[simp] theorem keyCount_path (s : State) (i : Nat) : (keyCount s i).path = s.path := rfl
@[simp] theorem keyCount_pair (s : State) (i : Nat) : (keyCount s i).pair = s.pair := rfl
@[simp] theorem keyCount_pwr (s : State) (i : Nat) : (keyCount s i).pwr = s.pwr := rfl
@[simp] theorem keyCount_fw (s : State) (i : Nat) : (keyCount s i).fw = s.fw := rfl
@[simp] theorem keyCount_cmp (s : State) (i : Nat) : (keyCount s i).cmp = s.cmp := rfl
@[simp] theorem keyCount_test (s : State) (i : Nat) : (keyCount s i).test = s.test := rfl

/-! `cryptCount` -/

@[simp] theorem cryptCount_pending (s : State) (i n : Nat) : (cryptCount s i n).pending = s.pending := rfl
@[simp] theorem cryptCount_upNs (s : State) (i n : Nat) : (cryptCount s i n).upNs = s.upNs := rfl
@[simp] theorem cryptCount_free (s : State) (i n : Nat) : (cryptCount s i n).free = s.free := rfl
@[simp] theorem cryptCount_part (s : State) (i n : Nat) : (cryptCount s i n).part = s.part := rfl
@[simp] theorem cryptCount_role (s : State) (i n : Nat) : (cryptCount s i n).role = s.role := rfl
@[simp] theorem cryptCount_straps (s : State) (i n : Nat) : (cryptCount s i n).straps = s.straps := rfl
@[simp] theorem cryptCount_resetHigh (s : State) (i n : Nat) : (cryptCount s i n).resetHigh = s.resetHigh := rfl
@[simp] theorem cryptCount_quiescing (s : State) (i n : Nat) : (cryptCount s i n).quiescing = s.quiescing := rfl
@[simp] theorem cryptCount_snapshotSeq (s : State) (i n : Nat) : (cryptCount s i n).snapshotSeq = s.snapshotSeq := rfl
@[simp] theorem cryptCount_host (s : State) (i n : Nat) : (cryptCount s i n).host = s.host := rfl
@[simp] theorem cryptCount_clk (s : State) (i n : Nat) : (cryptCount s i n).clk = s.clk := rfl
@[simp] theorem cryptCount_key (s : State) (i n : Nat) : (cryptCount s i n).key = s.key := rfl
@[simp] theorem cryptCount_air (s : State) (i n : Nat) : (cryptCount s i n).air = s.air := rfl
@[simp] theorem cryptCount_node (s : State) (i n : Nat) : (cryptCount s i n).node = s.node := rfl
@[simp] theorem cryptCount_radio (s : State) (i n : Nat) : (cryptCount s i n).radio = s.radio := rfl
@[simp] theorem cryptCount_orbit (s : State) (i n : Nat) : (cryptCount s i n).orbit = s.orbit := rfl
@[simp] theorem cryptCount_queue (s : State) (i n : Nat) : (cryptCount s i n).queue = s.queue := rfl
@[simp] theorem cryptCount_route (s : State) (i n : Nat) : (cryptCount s i n).route = s.route := rfl
@[simp] theorem cryptCount_path (s : State) (i n : Nat) : (cryptCount s i n).path = s.path := rfl
@[simp] theorem cryptCount_pair (s : State) (i n : Nat) : (cryptCount s i n).pair = s.pair := rfl
@[simp] theorem cryptCount_pwr (s : State) (i n : Nat) : (cryptCount s i n).pwr = s.pwr := rfl
@[simp] theorem cryptCount_fw (s : State) (i n : Nat) : (cryptCount s i n).fw = s.fw := rfl
@[simp] theorem cryptCount_cmp (s : State) (i n : Nat) : (cryptCount s i n).cmp = s.cmp := rfl
@[simp] theorem cryptCount_test (s : State) (i n : Nat) : (cryptCount s i n).test = s.test := rfl

/-! `queueCount` -/

@[simp] theorem queueCount_pending (s : State) (i n : Nat) : (queueCount s i n).pending = s.pending := rfl
@[simp] theorem queueCount_upNs (s : State) (i n : Nat) : (queueCount s i n).upNs = s.upNs := rfl
@[simp] theorem queueCount_free (s : State) (i n : Nat) : (queueCount s i n).free = s.free := rfl
@[simp] theorem queueCount_part (s : State) (i n : Nat) : (queueCount s i n).part = s.part := rfl
@[simp] theorem queueCount_role (s : State) (i n : Nat) : (queueCount s i n).role = s.role := rfl
@[simp] theorem queueCount_straps (s : State) (i n : Nat) : (queueCount s i n).straps = s.straps := rfl
@[simp] theorem queueCount_resetHigh (s : State) (i n : Nat) : (queueCount s i n).resetHigh = s.resetHigh := rfl
@[simp] theorem queueCount_quiescing (s : State) (i n : Nat) : (queueCount s i n).quiescing = s.quiescing := rfl
@[simp] theorem queueCount_snapshotSeq (s : State) (i n : Nat) : (queueCount s i n).snapshotSeq = s.snapshotSeq := rfl
@[simp] theorem queueCount_host (s : State) (i n : Nat) : (queueCount s i n).host = s.host := rfl
@[simp] theorem queueCount_clk (s : State) (i n : Nat) : (queueCount s i n).clk = s.clk := rfl
@[simp] theorem queueCount_key (s : State) (i n : Nat) : (queueCount s i n).key = s.key := rfl
@[simp] theorem queueCount_air (s : State) (i n : Nat) : (queueCount s i n).air = s.air := rfl
@[simp] theorem queueCount_node (s : State) (i n : Nat) : (queueCount s i n).node = s.node := rfl
@[simp] theorem queueCount_radio (s : State) (i n : Nat) : (queueCount s i n).radio = s.radio := rfl
@[simp] theorem queueCount_orbit (s : State) (i n : Nat) : (queueCount s i n).orbit = s.orbit := rfl
@[simp] theorem queueCount_crypt (s : State) (i n : Nat) : (queueCount s i n).crypt = s.crypt := rfl
@[simp] theorem queueCount_route (s : State) (i n : Nat) : (queueCount s i n).route = s.route := rfl
@[simp] theorem queueCount_path (s : State) (i n : Nat) : (queueCount s i n).path = s.path := rfl
@[simp] theorem queueCount_pair (s : State) (i n : Nat) : (queueCount s i n).pair = s.pair := rfl
@[simp] theorem queueCount_pwr (s : State) (i n : Nat) : (queueCount s i n).pwr = s.pwr := rfl
@[simp] theorem queueCount_fw (s : State) (i n : Nat) : (queueCount s i n).fw = s.fw := rfl
@[simp] theorem queueCount_cmp (s : State) (i n : Nat) : (queueCount s i n).cmp = s.cmp := rfl
@[simp] theorem queueCount_test (s : State) (i n : Nat) : (queueCount s i n).test = s.test := rfl

/-! `pairCount` -/

@[simp] theorem pairCount_pending (s : State) (i n : Nat) : (pairCount s i n).pending = s.pending := rfl
@[simp] theorem pairCount_upNs (s : State) (i n : Nat) : (pairCount s i n).upNs = s.upNs := rfl
@[simp] theorem pairCount_free (s : State) (i n : Nat) : (pairCount s i n).free = s.free := rfl
@[simp] theorem pairCount_part (s : State) (i n : Nat) : (pairCount s i n).part = s.part := rfl
@[simp] theorem pairCount_role (s : State) (i n : Nat) : (pairCount s i n).role = s.role := rfl
@[simp] theorem pairCount_straps (s : State) (i n : Nat) : (pairCount s i n).straps = s.straps := rfl
@[simp] theorem pairCount_resetHigh (s : State) (i n : Nat) : (pairCount s i n).resetHigh = s.resetHigh := rfl
@[simp] theorem pairCount_quiescing (s : State) (i n : Nat) : (pairCount s i n).quiescing = s.quiescing := rfl
@[simp] theorem pairCount_snapshotSeq (s : State) (i n : Nat) : (pairCount s i n).snapshotSeq = s.snapshotSeq := rfl
@[simp] theorem pairCount_host (s : State) (i n : Nat) : (pairCount s i n).host = s.host := rfl
@[simp] theorem pairCount_clk (s : State) (i n : Nat) : (pairCount s i n).clk = s.clk := rfl
@[simp] theorem pairCount_key (s : State) (i n : Nat) : (pairCount s i n).key = s.key := rfl
@[simp] theorem pairCount_air (s : State) (i n : Nat) : (pairCount s i n).air = s.air := rfl
@[simp] theorem pairCount_node (s : State) (i n : Nat) : (pairCount s i n).node = s.node := rfl
@[simp] theorem pairCount_radio (s : State) (i n : Nat) : (pairCount s i n).radio = s.radio := rfl
@[simp] theorem pairCount_orbit (s : State) (i n : Nat) : (pairCount s i n).orbit = s.orbit := rfl
@[simp] theorem pairCount_crypt (s : State) (i n : Nat) : (pairCount s i n).crypt = s.crypt := rfl
@[simp] theorem pairCount_queue (s : State) (i n : Nat) : (pairCount s i n).queue = s.queue := rfl
@[simp] theorem pairCount_route (s : State) (i n : Nat) : (pairCount s i n).route = s.route := rfl
@[simp] theorem pairCount_path (s : State) (i n : Nat) : (pairCount s i n).path = s.path := rfl
@[simp] theorem pairCount_pwr (s : State) (i n : Nat) : (pairCount s i n).pwr = s.pwr := rfl
@[simp] theorem pairCount_fw (s : State) (i n : Nat) : (pairCount s i n).fw = s.fw := rfl
@[simp] theorem pairCount_cmp (s : State) (i n : Nat) : (pairCount s i n).cmp = s.cmp := rfl
@[simp] theorem pairCount_test (s : State) (i n : Nat) : (pairCount s i n).test = s.test := rfl

/-! `testCount` -/

@[simp] theorem testCount_pending (s : State) (r i n : Nat) : (testCount s r i n).pending = s.pending := rfl
@[simp] theorem testCount_upNs (s : State) (r i n : Nat) : (testCount s r i n).upNs = s.upNs := rfl
@[simp] theorem testCount_free (s : State) (r i n : Nat) : (testCount s r i n).free = s.free := rfl
@[simp] theorem testCount_part (s : State) (r i n : Nat) : (testCount s r i n).part = s.part := rfl
@[simp] theorem testCount_role (s : State) (r i n : Nat) : (testCount s r i n).role = s.role := rfl
@[simp] theorem testCount_straps (s : State) (r i n : Nat) : (testCount s r i n).straps = s.straps := rfl
@[simp] theorem testCount_resetHigh (s : State) (r i n : Nat) : (testCount s r i n).resetHigh = s.resetHigh := rfl
@[simp] theorem testCount_quiescing (s : State) (r i n : Nat) : (testCount s r i n).quiescing = s.quiescing := rfl
@[simp] theorem testCount_snapshotSeq (s : State) (r i n : Nat) : (testCount s r i n).snapshotSeq = s.snapshotSeq := rfl
@[simp] theorem testCount_host (s : State) (r i n : Nat) : (testCount s r i n).host = s.host := rfl
@[simp] theorem testCount_clk (s : State) (r i n : Nat) : (testCount s r i n).clk = s.clk := rfl
@[simp] theorem testCount_key (s : State) (r i n : Nat) : (testCount s r i n).key = s.key := rfl
@[simp] theorem testCount_air (s : State) (r i n : Nat) : (testCount s r i n).air = s.air := rfl
@[simp] theorem testCount_node (s : State) (r i n : Nat) : (testCount s r i n).node = s.node := rfl
@[simp] theorem testCount_radio (s : State) (r i n : Nat) : (testCount s r i n).radio = s.radio := rfl
@[simp] theorem testCount_orbit (s : State) (r i n : Nat) : (testCount s r i n).orbit = s.orbit := rfl
@[simp] theorem testCount_crypt (s : State) (r i n : Nat) : (testCount s r i n).crypt = s.crypt := rfl
@[simp] theorem testCount_queue (s : State) (r i n : Nat) : (testCount s r i n).queue = s.queue := rfl
@[simp] theorem testCount_route (s : State) (r i n : Nat) : (testCount s r i n).route = s.route := rfl
@[simp] theorem testCount_path (s : State) (r i n : Nat) : (testCount s r i n).path = s.path := rfl
@[simp] theorem testCount_pair (s : State) (r i n : Nat) : (testCount s r i n).pair = s.pair := rfl
@[simp] theorem testCount_pwr (s : State) (r i n : Nat) : (testCount s r i n).pwr = s.pwr := rfl
@[simp] theorem testCount_fw (s : State) (r i n : Nat) : (testCount s r i n).fw = s.fw := rfl
@[simp] theorem testCount_cmp (s : State) (r i n : Nat) : (testCount s r i n).cmp = s.cmp := rfl

/-! `ethCount` -/

@[simp] theorem ethCount_pending (s : State) (port i : Nat) : (ethCount s port i).pending = s.pending := rfl
@[simp] theorem ethCount_upNs (s : State) (port i : Nat) : (ethCount s port i).upNs = s.upNs := rfl
@[simp] theorem ethCount_free (s : State) (port i : Nat) : (ethCount s port i).free = s.free := rfl
@[simp] theorem ethCount_part (s : State) (port i : Nat) : (ethCount s port i).part = s.part := rfl
@[simp] theorem ethCount_role (s : State) (port i : Nat) : (ethCount s port i).role = s.role := rfl
@[simp] theorem ethCount_straps (s : State) (port i : Nat) : (ethCount s port i).straps = s.straps := rfl
@[simp] theorem ethCount_resetHigh (s : State) (port i : Nat) : (ethCount s port i).resetHigh = s.resetHigh := rfl
@[simp] theorem ethCount_quiescing (s : State) (port i : Nat) : (ethCount s port i).quiescing = s.quiescing := rfl
@[simp] theorem ethCount_snapshotSeq (s : State) (port i : Nat) : (ethCount s port i).snapshotSeq = s.snapshotSeq := rfl
@[simp] theorem ethCount_host (s : State) (port i : Nat) : (ethCount s port i).host = s.host := rfl
@[simp] theorem ethCount_clk (s : State) (port i : Nat) : (ethCount s port i).clk = s.clk := rfl
@[simp] theorem ethCount_key (s : State) (port i : Nat) : (ethCount s port i).key = s.key := rfl
@[simp] theorem ethCount_air (s : State) (port i : Nat) : (ethCount s port i).air = s.air := rfl
@[simp] theorem ethCount_node (s : State) (port i : Nat) : (ethCount s port i).node = s.node := rfl
@[simp] theorem ethCount_radio (s : State) (port i : Nat) : (ethCount s port i).radio = s.radio := rfl
@[simp] theorem ethCount_orbit (s : State) (port i : Nat) : (ethCount s port i).orbit = s.orbit := rfl
@[simp] theorem ethCount_crypt (s : State) (port i : Nat) : (ethCount s port i).crypt = s.crypt := rfl
@[simp] theorem ethCount_queue (s : State) (port i : Nat) : (ethCount s port i).queue = s.queue := rfl
@[simp] theorem ethCount_path (s : State) (port i : Nat) : (ethCount s port i).path = s.path := rfl
@[simp] theorem ethCount_pair (s : State) (port i : Nat) : (ethCount s port i).pair = s.pair := rfl
@[simp] theorem ethCount_pwr (s : State) (port i : Nat) : (ethCount s port i).pwr = s.pwr := rfl
@[simp] theorem ethCount_fw (s : State) (port i : Nat) : (ethCount s port i).fw = s.fw := rfl
@[simp] theorem ethCount_cmp (s : State) (port i : Nat) : (ethCount s port i).cmp = s.cmp := rfl
@[simp] theorem ethCount_test (s : State) (port i : Nat) : (ethCount s port i).test = s.test := rfl

end Sys2Proof.Laws
end

