-- ==== Sys2Proof/Laws/Launch.lean ====
section
/-! SUPPORT. What the acts of a band's transmit chain leave as it was: the queue, the burst, the ramp and the time. -/

namespace Sys2Proof.Laws

open Sys2Proof.Machine

/-- The transmit chains, the clock and the pair are as they were. -/
def TxSame (s t : State) : Prop := t.radio.tx = s.radio.tx ∧ t.clk = s.clk ∧ t.pair = s.pair

theorem TxSame.refl (s : State) : TxSame s s := ⟨rfl, rfl, rfl⟩

theorem TxSame.trans {s t u : State} (h : TxSame s t) (k : TxSame t u) : TxSame s u :=
  ⟨k.1.trans h.1, k.2.1.trans h.2.1, k.2.2.trans h.2.2⟩

theorem TxSame.foldl {α : Type} (f : State → α → State) (h : ∀ s a, TxSame s (f s a)) (l : List α) (s : State) : TxSame s (l.foldl f s) := by
  induction l generalizing s with
  | nil => exact .refl s
  | cons a l ih => exact (h s a).trans (ih (f s a))

theorem txSame_setCtx (s : State) (i : Nat) (c : Ctx) : TxSame s (setCtx s i c) := ⟨rfl, rfl, rfl⟩

theorem txSame_rxWrite (s : State) (ring : Nat) (mk : PostedBuf → Bool → RxEntry) : TxSame s (rxWrite s ring mk).1 := by
  unfold Machine.rxWrite
  dsimp only
  split
  · exact ⟨rfl, rfl, rfl⟩
  split
  · exact ⟨rfl, rfl, rfl⟩
  split
  · exact ⟨rfl, rfl, rfl⟩
  · exact ⟨rfl, rfl, rfl⟩

theorem txSame_poisonCut (s : State) (i : Nat) : TxSame s (poisonCut s i) := by
  unfold poisonCut endCut
  dsimp only
  split
  · exact .refl s
  split
  · exact .refl s
  have h (u : State) (hu : TxSame s u) (b : Bool) (ring : Nat) (mk) : TxSame s (if !b then u else (rxWrite u ring mk).1) := by
    split
    · exact hu
    · exact hu.trans (txSame_rxWrite u ring mk)
  exact h _ (by split <;> exact ⟨rfl, rfl, rfl⟩) _ _ _

theorem txSame_snapBlanked (s : State) (b : Band) (on : Bool) : TxSame s (snapBlanked s b on) := ⟨rfl, rfl, rfl⟩

theorem txSame_ctxIdle (s : State) (i : Nat) : TxSame s (ctxIdle s i) := ⟨rfl, rfl, rfl⟩

theorem txSame_ctxRest (s : State) (i : Nat) : TxSame s (ctxRest s i) := by
  unfold ctxRest
  dsimp only
  split
  · exact ⟨rfl, rfl, rfl⟩
  split <;> exact ⟨rfl, rfl, rfl⟩

theorem txSame_blankContexts (s : State) (b : Band) : TxSame s (blankContexts s b) := by
  unfold blankContexts
  refine .foldl _ (fun s i => ?_) _ s
  dsimp only
  have h : TxSame s (if ctxBusy (ctxOf s i) then poisonCut (rxCount s b rxBlanked) i else s) := by
    split
    · exact .trans ⟨rfl, rfl, rfl⟩ (txSame_poisonCut _ i)
    · exact .refl s
  generalize (if ctxBusy (ctxOf s i) then poisonCut (rxCount s b rxBlanked) i else s) = t at h ⊢
  split
  · exact h.trans (txSame_setCtx t i _)
  · exact h.trans (txSame_ctxIdle t i)

/-- One band's transmit chain keeps its queue, its burst and its ramp, in its state, under the same clock and gate. -/
def ChainSame (b : Band) (s t : State) : Prop :=
  (t.radio.tx.get b).queue = (s.radio.tx.get b).queue ∧ (t.radio.tx.get b).burst = (s.radio.tx.get b).burst
  ∧ (t.radio.tx.get b).rampUs = (s.radio.tx.get b).rampUs ∧ (t.radio.tx.get b).txPathNs = (s.radio.tx.get b).txPathNs
  ∧ (t.radio.tx.get b).state = (s.radio.tx.get b).state ∧ t.clk = s.clk ∧ t.pair = s.pair

theorem ChainSame.refl (b : Band) (s : State) : ChainSame b s s := ⟨rfl, rfl, rfl, rfl, rfl, rfl, rfl⟩

theorem ChainSame.trans {b : Band} {s t u : State} (h : ChainSame b s t) (k : ChainSame b t u) : ChainSame b s u :=
  ⟨k.1.trans h.1, k.2.1.trans h.2.1, k.2.2.1.trans h.2.2.1, k.2.2.2.1.trans h.2.2.2.1, k.2.2.2.2.1.trans h.2.2.2.2.1,
    k.2.2.2.2.2.1.trans h.2.2.2.2.2.1, k.2.2.2.2.2.2.trans h.2.2.2.2.2.2⟩

theorem TxSame.chain {s t : State} (h : TxSame s t) (b : Band) : ChainSame b s t := by
  unfold ChainSame
  rw [h.1, h.2.1, h.2.2]
  exact ⟨rfl, rfl, rfl, rfl, rfl, rfl, rfl⟩

theorem chainSame_modTx (s : State) (b : Band) (f : TxBand → TxBand)
    (h : ∀ x, (f x).queue = x.queue ∧ (f x).burst = x.burst ∧ (f x).rampUs = x.rampUs ∧ (f x).txPathNs = x.txPathNs ∧ (f x).state = x.state) :
    ChainSame b s (modTx s b f) := by
  unfold ChainSame Machine.modTx
  cases b <;> exact ⟨(h _).1, (h _).2.1, (h _).2.2.1, (h _).2.2.2.1, (h _).2.2.2.2, rfl, rfl⟩

theorem chainSame_ite {b : Band} {s t u : State} (c : Prop) [Decidable c] (h : ChainSame b s t) (k : ChainSame b s u) :
    ChainSame b s (if c then t else u) := by
  split
  · exact h
  · exact k

theorem chainSame_modTx_if (s : State) (b : Band) (c : Prop) [Decidable c] (f : TxBand → TxBand)
    (h : ∀ x, (f x).queue = x.queue ∧ (f x).burst = x.burst ∧ (f x).rampUs = x.rampUs ∧ (f x).txPathNs = x.txPathNs ∧ (f x).state = x.state) :
    ChainSame b s (if c then modTx s b f else s) := by
  split
  · exact chainSame_modTx s b f h
  · exact .refl b s

theorem chainSame_requestLines (s : State) (b : Band) (l : Launch) : ChainSame b s (requestLines s b l) := by
  unfold requestLines
  split
  · exact .refl b s
  · exact chainSame_modTx s b _ fun _ => ⟨rfl, rfl, rfl, rfl, rfl⟩

theorem chainSame_transmitLines (s : State) (b : Band) : ChainSame b s (transmitLines s b) := by
  unfold transmitLines
  exact chainSame_modTx_if s b _ _ fun _ => ⟨rfl, rfl, rfl, rfl, rfl⟩

theorem chainSame_blankBand (s : State) (b : Band) : ChainSame b s (blankBand s b) := by
  unfold blankBand
  split
  · exact .refl b s
  · dsimp only
    refine .trans ?_ ((txSame_blankContexts _ b).chain b)
    split
    · exact .refl b s
    · exact (chainSame_modTx s b (fun x => { x with blank := true }) fun _ => ⟨rfl, rfl, rfl, rfl, rfl⟩).trans ((txSame_snapBlanked _ b true).chain b)

theorem chainSame_resumeContexts (s : State) (b : Band) : ChainSame b s (resumeContexts s b) := by
  unfold resumeContexts
  dsimp only
  refine .trans (t := if (s.radio.tx.get b).blank then snapBlanked (modTx s b fun x => { x with blank := false }) b false else s) ?_ ?_
  · split
    · exact (chainSame_modTx s b (fun x => { x with blank := false }) fun _ => ⟨rfl, rfl, rfl, rfl, rfl⟩).trans
        ((txSame_snapBlanked _ b false).chain b)
    · exact .refl b s
  · refine (TxSame.foldl _ (fun s i => ?_) _ _).chain b
    split
    · exact ⟨rfl, rfl, rfl⟩
    · exact txSame_ctxRest s i

theorem chainSame_releaseLines (s : State) (b : Band) : ChainSame b s (releaseLines s b) := by
  unfold releaseLines
  dsimp only
  refine chainSame_ite _ (.refl b s) ?_
  · have h1 := chainSame_modTx_if s b
      ((s.radio.tx.get b).quietFrom - 16000 + (inForce (s.radio.tx.get b)).paLagUs * 1000 ≤ nowNs s + (inForce (s.radio.tx.get b)).txPathNs)
      (fun x => { x with paEn := false }) fun _ => ⟨rfl, rfl, rfl, rfl, rfl⟩
    generalize (if (s.radio.tx.get b).quietFrom - 16000 + (inForce (s.radio.tx.get b)).paLagUs * 1000
      ≤ nowNs s + (inForce (s.radio.tx.get b)).txPathNs then modTx s b (fun x => { x with paEn := false }) else s) = s1 at h1 ⊢
    have h2 := h1.trans (chainSame_modTx_if s1 b
      ((s.radio.tx.get b).quietFrom - 16000 + 10000 ≤ nowNs s + (inForce (s.radio.tx.get b)).txPathNs)
      (fun x => { x with trSw := false, lnaByp := linesLive s1 b && x.lnaStatic }) fun _ => ⟨rfl, rfl, rfl, rfl, rfl⟩)
    refine chainSame_ite _ (.trans ?_ (chainSame_resumeContexts _ b)) h2
    exact h2.trans (chainSame_modTx _ b _ fun _ => ⟨rfl, rfl, rfl, rfl, rfl⟩)

theorem chainSame_calStarts (s : State) (b : Band) : ChainSame b s (calStarts s b) := by
  unfold calStarts
  dsimp only
  split
  · exact .refl b s
  split
  · exact chainSame_modTx_if s b _ _ fun _ => ⟨rfl, rfl, rfl, rfl, rfl⟩
  · exact .refl b s

theorem chainSame_linesDue (s : State) (b : Band) : ChainSame b s (linesDue s b) := by
  unfold linesDue
  split
  · exact .refl b s
  · rename_i l _
    dsimp only
    have h1 : ChainSame b s (if l.tL ≤ nowNs s + (s.radio.tx.get b).txPathNs + (s.radio.tx.get b).coexLeadUs * 1000 then requestLines s b l else s) := by
      split
      · exact chainSame_requestLines s b l
      · exact .refl b s
    generalize (if l.tL ≤ nowNs s + (s.radio.tx.get b).txPathNs + (s.radio.tx.get b).coexLeadUs * 1000 then requestLines s b l else s) = s1 at h1 ⊢
    split
    · exact h1
    · have h2 : ChainSame b s (if l.tL ≤ nowNs s + (s.radio.tx.get b).txPathNs + 20000 then transmitLines s1 b else s1) := by
        split
        · exact h1.trans (chainSame_transmitLines s1 b)
        · exact h1
      generalize (if l.tL ≤ nowNs s + (s.radio.tx.get b).txPathNs + 20000 then transmitLines s1 b else s1) = s2 at h2 ⊢
      have h3 : ChainSame b s (if l.tL ≤ nowNs s2 + 20000 then blankBand s2 b else s2) := by
        split
        · exact h2.trans (chainSame_blankBand s2 b)
        · exact h2
      split
      · exact h3.trans (chainSame_modTx_if _ b _ _ fun _ => ⟨rfl, rfl, rfl, rfl, rfl⟩)
      · exact h3

/-- A chain with no burst has no carrier due and none over. -/
theorem carriersDue_empty (s : State) (b : Band) (h : (s.radio.tx.get b).burst = []) : carriersDue s b = s := by
  unfold carriersDue
  rw [h]
  rfl

theorem carriersEnd_empty (s : State) (b : Band) (h : (s.radio.tx.get b).burst = []) : carriersEnd s b = s := by
  unfold carriersEnd
  dsimp only
  rw [h]
  rfl

/-- What a band's chain does at each of its rows while no burst is under way. -/
theorem chainActs_idle (s : State) (b : Band) (h : (s.radio.tx.get b).burst = []) :
    chainActs s b = carriersEnd (carriersDue (rampAck (linesDue (calStarts (releaseLines s b) b) b) b) b) b := by
  unfold chainActs
  dsimp only
  rw [carriersDue_empty s b h, carriersEnd_empty s b h, h]
  rfl

theorem chainSame_linesTaken (s : State) (b : Band) : ChainSame b s (linesDue (calStarts (releaseLines s b) b) b) :=
  ((chainSame_releaseLines s b).trans (chainSame_calStarts _ b)).trans (chainSame_linesDue _ b)

theorem le_foldl_max (l : List Nat) (a : Nat) : a ≤ l.foldl max a := by
  induction l generalizing a with
  | nil => exact Nat.le_refl a
  | cons x l ih => exact Nat.le_trans (Nat.le_max_left a x) (ih (max a x))

/-- No launch starts before its planned instant (R188). -/
theorem tL_le_earliest {s : State} {b : Band} {l : Launch} {t : Nat} (h : earliest s b l = some t) : l.tL ≤ t := by
  unfold earliest at h
  dsimp only at h
  split at h
  · cases h
  · cases hl : loReady (s.radio.tx.get b) l with
    | none => rw [hl] at h; cases h
    | some u =>
      rw [hl] at h
      simp only [Option.map_some, Option.some.injEq] at h
      exact h ▸ le_foldl_max _ _

end Sys2Proof.Laws
end

