-- ==== Sys2Proof/Laws/PerInstr.lean ====
section
/-! SUPPORT. The family `Shape`, constructor by constructor: a well-formed term of a host command's row carries a word that names
that row's command and no other, and a session that exists. -/

namespace Sys2Proof.Laws

open Sys2Proof Sys2Proof.Machine

/-- The word of a well-formed host command names its own row (R69). -/
def Shape.Statement (i : Instr) : Prop :=
  ∀ c e, hostRow i = some (c, e) → i.wellFormed = true → entryCmd e = some c ∧ e.session.wellFormed = true

/-- An entry that is well formed for a command names it. -/
theorem entry_shape {c : CmdId} {e : CmdEntry} (h : e.wellFormed c = true) : entryCmd e = some c ∧ e.session.wellFormed = true := by
  simp only [CmdEntry.wellFormed, Bool.and_eq_true, beq_iff_eq] at h
  exact ⟨by rw [entryCmd, h.1, cmdOfCode_cmdCode], h.2⟩

/-- What is stated of a row's command follows from its entry alone. -/
theorem host_shape {i : Instr} {d : CmdId} {f : CmdEntry} (hr : hostRow i = some (d, f)) (hw : i.wellFormed = f.wellFormed d) :
    Shape.Statement i := by
  intro c e h w
  rw [hr] at h
  cases h
  exact entry_shape (hw ▸ w)

/-- Of an access or an event nothing is claimed. -/
theorem other_shape {i : Instr} (hr : hostRow i = none) : Shape.Statement i := by
  intro c e h
  rw [hr] at h
  cases h

theorem Shape.sysIdentify (e : CmdEntry) : Shape.Statement (.sysIdentify e) := host_shape rfl rfl
theorem Shape.sysGetState (e : CmdEntry) : Shape.Statement (.sysGetState e) := host_shape rfl rfl
theorem Shape.sysCounters (e : CmdEntry) : Shape.Statement (.sysCounters e) := host_shape rfl rfl
theorem Shape.sysPin (e : CmdEntry) : Shape.Statement (.sysPin e) := host_shape rfl rfl
theorem Shape.sysUnpin (e : CmdEntry) : Shape.Statement (.sysUnpin e) := host_shape rfl rfl
theorem Shape.sysPinQuery (e : CmdEntry) : Shape.Statement (.sysPinQuery e) := host_shape rfl rfl
theorem Shape.sysStageOpen (e : CmdEntry) : Shape.Statement (.sysStageOpen e) := host_shape rfl rfl
theorem Shape.sysStageCheck (e : CmdEntry) : Shape.Statement (.sysStageCheck e) := host_shape rfl rfl
theorem Shape.sysStageCommit (e : CmdEntry) : Shape.Statement (.sysStageCommit e) := host_shape rfl rfl
theorem Shape.sysStageAbort (e : CmdEntry) : Shape.Statement (.sysStageAbort e) := host_shape rfl rfl
theorem Shape.sysStageQuery (e : CmdEntry) : Shape.Statement (.sysStageQuery e) := host_shape rfl rfl
theorem Shape.sysFunctionReset (e : CmdEntry) : Shape.Statement (.sysFunctionReset e) := host_shape rfl rfl
theorem Shape.sysQuiesce (e : CmdEntry) : Shape.Statement (.sysQuiesce e) := host_shape rfl rfl
theorem Shape.sysResume (e : CmdEntry) : Shape.Statement (.sysResume e) := host_shape rfl rfl
theorem Shape.nodeCounterSnapshot (e : CmdEntry) : Shape.Statement (.nodeCounterSnapshot e) := host_shape rfl rfl
theorem Shape.nodeCounterRestore (e : CmdEntry) : Shape.Statement (.nodeCounterRestore e) := host_shape rfl rfl
theorem Shape.nodeColdChallenge (e : CmdEntry) : Shape.Statement (.nodeColdChallenge e) := host_shape rfl rfl
theorem Shape.airProfileLoad (e : CmdEntry) : Shape.Statement (.airProfileLoad e) := host_shape rfl rfl
theorem Shape.airProfileRemove (e : CmdEntry) : Shape.Statement (.airProfileRemove e) := host_shape rfl rfl
theorem Shape.airProfileBind (e : CmdEntry) : Shape.Statement (.airProfileBind e) := host_shape rfl rfl
theorem Shape.airProfileQuery (e : CmdEntry) : Shape.Statement (.airProfileQuery e) := host_shape rfl rfl
theorem Shape.airSetRouterAddress (e : CmdEntry) : Shape.Statement (.airSetRouterAddress e) := host_shape rfl rfl
theorem Shape.airToneMapRead (e : CmdEntry) : Shape.Statement (.airToneMapRead e) := host_shape rfl rfl
theorem Shape.airSound (e : CmdEntry) : Shape.Statement (.airSound e) := host_shape rfl rfl
theorem Shape.airCounters (e : CmdEntry) : Shape.Statement (.airCounters e) := host_shape rfl rfl
theorem Shape.airProfileLoadRaw (e : CmdEntry) : Shape.Statement (.airProfileLoadRaw e) := host_shape rfl rfl
theorem Shape.airToneMapWrite (e : CmdEntry) : Shape.Statement (.airToneMapWrite e) := host_shape rfl rfl
theorem Shape.radioWindowSet (e : CmdEntry) : Shape.Statement (.radioWindowSet e) := host_shape rfl rfl
theorem Shape.radioWindowQuery (e : CmdEntry) : Shape.Statement (.radioWindowQuery e) := host_shape rfl rfl
theorem Shape.radioRxCounters (e : CmdEntry) : Shape.Statement (.radioRxCounters e) := host_shape rfl rfl
theorem Shape.radioContextStatus (e : CmdEntry) : Shape.Statement (.radioContextStatus e) := host_shape rfl rfl
theorem Shape.radioDiagRing (e : CmdEntry) : Shape.Statement (.radioDiagRing e) := host_shape rfl rfl
theorem Shape.radioSnapshotArm (e : CmdEntry) : Shape.Statement (.radioSnapshotArm e) := host_shape rfl rfl
theorem Shape.radioSnapshotRead (e : CmdEntry) : Shape.Statement (.radioSnapshotRead e) := host_shape rfl rfl
theorem Shape.radioSnapshotRelease (e : CmdEntry) : Shape.Statement (.radioSnapshotRelease e) := host_shape rfl rfl
theorem Shape.radioWakeConfig (e : CmdEntry) : Shape.Statement (.radioWakeConfig e) := host_shape rfl rfl
theorem Shape.radioWakeStatus (e : CmdEntry) : Shape.Statement (.radioWakeStatus e) := host_shape rfl rfl
theorem Shape.radioSyncTune (e : CmdEntry) : Shape.Statement (.radioSyncTune e) := host_shape rfl rfl
theorem Shape.radioCaptureSet (e : CmdEntry) : Shape.Statement (.radioCaptureSet e) := host_shape rfl rfl
theorem Shape.radioAgcSet (e : CmdEntry) : Shape.Statement (.radioAgcSet e) := host_shape rfl rfl
theorem Shape.radioRssiCal (e : CmdEntry) : Shape.Statement (.radioRssiCal e) := host_shape rfl rfl
theorem Shape.radioRxPathDelay (e : CmdEntry) : Shape.Statement (.radioRxPathDelay e) := host_shape rfl rfl
theorem Shape.radioContextReserve (e : CmdEntry) : Shape.Statement (.radioContextReserve e) := host_shape rfl rfl
theorem Shape.radioContextRelease (e : CmdEntry) : Shape.Statement (.radioContextRelease e) := host_shape rfl rfl
theorem Shape.radioRegionLoad (e : CmdEntry) : Shape.Statement (.radioRegionLoad e) := host_shape rfl rfl
theorem Shape.radioRegionRemove (e : CmdEntry) : Shape.Statement (.radioRegionRemove e) := host_shape rfl rfl
theorem Shape.radioRegionBind (e : CmdEntry) : Shape.Statement (.radioRegionBind e) := host_shape rfl rfl
theorem Shape.radioRegionQuery (e : CmdEntry) : Shape.Statement (.radioRegionQuery e) := host_shape rfl rfl
theorem Shape.radioBandEnable (e : CmdEntry) : Shape.Statement (.radioBandEnable e) := host_shape rfl rfl
theorem Shape.radioBandDisable (e : CmdEntry) : Shape.Statement (.radioBandDisable e) := host_shape rfl rfl
theorem Shape.radioBandStatus (e : CmdEntry) : Shape.Statement (.radioBandStatus e) := host_shape rfl rfl
theorem Shape.radioTxPowerSet (e : CmdEntry) : Shape.Statement (.radioTxPowerSet e) := host_shape rfl rfl
theorem Shape.radioTxCounters (e : CmdEntry) : Shape.Statement (.radioTxCounters e) := host_shape rfl rfl
theorem Shape.radioCoexConfig (e : CmdEntry) : Shape.Statement (.radioCoexConfig e) := host_shape rfl rfl
theorem Shape.radioTxModeSet (e : CmdEntry) : Shape.Statement (.radioTxModeSet e) := host_shape rfl rfl
theorem Shape.radioTxTiming (e : CmdEntry) : Shape.Statement (.radioTxTiming e) := host_shape rfl rfl
theorem Shape.radioTxPathDelay (e : CmdEntry) : Shape.Statement (.radioTxPathDelay e) := host_shape rfl rfl
theorem Shape.radioFeConfig (e : CmdEntry) : Shape.Statement (.radioFeConfig e) := host_shape rfl rfl
theorem Shape.radioTxAt (e : CmdEntry) : Shape.Statement (.radioTxAt e) := host_shape rfl rfl
theorem Shape.radioTxCalRun (e : CmdEntry) : Shape.Statement (.radioTxCalRun e) := host_shape rfl rfl
theorem Shape.orbitStart (e : CmdEntry) : Shape.Statement (.orbitStart e) := host_shape rfl rfl
theorem Shape.orbitStop (e : CmdEntry) : Shape.Statement (.orbitStop e) := host_shape rfl rfl
theorem Shape.orbitStatus (e : CmdEntry) : Shape.Statement (.orbitStatus e) := host_shape rfl rfl
theorem Shape.orbitFrameSet (e : CmdEntry) : Shape.Statement (.orbitFrameSet e) := host_shape rfl rfl
theorem Shape.orbitStageCells (e : CmdEntry) : Shape.Statement (.orbitStageCells e) := host_shape rfl rfl
theorem Shape.orbitHopSet (e : CmdEntry) : Shape.Statement (.orbitHopSet e) := host_shape rfl rfl
theorem Shape.orbitParentSet (e : CmdEntry) : Shape.Statement (.orbitParentSet e) := host_shape rfl rfl
theorem Shape.orbitClassLoad (e : CmdEntry) : Shape.Statement (.orbitClassLoad e) := host_shape rfl rfl
theorem Shape.orbitClassRemove (e : CmdEntry) : Shape.Statement (.orbitClassRemove e) := host_shape rfl rfl
theorem Shape.orbitNodeSchedule (e : CmdEntry) : Shape.Statement (.orbitNodeSchedule e) := host_shape rfl rfl
theorem Shape.orbitNodeStatus (e : CmdEntry) : Shape.Statement (.orbitNodeStatus e) := host_shape rfl rfl
theorem Shape.orbitReportSet (e : CmdEntry) : Shape.Statement (.orbitReportSet e) := host_shape rfl rfl
theorem Shape.orbitDwellStatus (e : CmdEntry) : Shape.Statement (.orbitDwellStatus e) := host_shape rfl rfl
theorem Shape.orbitCounters (e : CmdEntry) : Shape.Statement (.orbitCounters e) := host_shape rfl rfl
theorem Shape.orbitClassLoadRaw (e : CmdEntry) : Shape.Statement (.orbitClassLoadRaw e) := host_shape rfl rfl
theorem Shape.orbitPrepLead (e : CmdEntry) : Shape.Statement (.orbitPrepLead e) := host_shape rfl rfl
theorem Shape.orbitTimingSet (e : CmdEntry) : Shape.Statement (.orbitTimingSet e) := host_shape rfl rfl
theorem Shape.orbitDriftSet (e : CmdEntry) : Shape.Statement (.orbitDriftSet e) := host_shape rfl rfl
theorem Shape.nodeAdd (e : CmdEntry) : Shape.Statement (.nodeAdd e) := host_shape rfl rfl
theorem Shape.nodeRemove (e : CmdEntry) : Shape.Statement (.nodeRemove e) := host_shape rfl rfl
theorem Shape.nodeRead (e : CmdEntry) : Shape.Statement (.nodeRead e) := host_shape rfl rfl
theorem Shape.nodeSet (e : CmdEntry) : Shape.Statement (.nodeSet e) := host_shape rfl rfl
theorem Shape.nodeTableLoad (e : CmdEntry) : Shape.Statement (.nodeTableLoad e) := host_shape rfl rfl
theorem Shape.nodeLearnSet (e : CmdEntry) : Shape.Statement (.nodeLearnSet e) := host_shape rfl rfl
theorem Shape.nodeAgeSet (e : CmdEntry) : Shape.Statement (.nodeAgeSet e) := host_shape rfl rfl
theorem Shape.nodeShadowSet (e : CmdEntry) : Shape.Statement (.nodeShadowSet e) := host_shape rfl rfl
theorem Shape.nodeJournalRead (e : CmdEntry) : Shape.Statement (.nodeJournalRead e) := host_shape rfl rfl
theorem Shape.nodeCounters (e : CmdEntry) : Shape.Statement (.nodeCounters e) := host_shape rfl rfl
theorem Shape.nodeTableStatus (e : CmdEntry) : Shape.Statement (.nodeTableStatus e) := host_shape rfl rfl
theorem Shape.nodeHashSeed (e : CmdEntry) : Shape.Statement (.nodeHashSeed e) := host_shape rfl rfl
theorem Shape.nodeWriteRaw (e : CmdEntry) : Shape.Statement (.nodeWriteRaw e) := host_shape rfl rfl
theorem Shape.nodeScrubSet (e : CmdEntry) : Shape.Statement (.nodeScrubSet e) := host_shape rfl rfl
theorem Shape.routeAdd (e : CmdEntry) : Shape.Statement (.routeAdd e) := host_shape rfl rfl
theorem Shape.routeRemove (e : CmdEntry) : Shape.Statement (.routeRemove e) := host_shape rfl rfl
theorem Shape.routeLookup (e : CmdEntry) : Shape.Statement (.routeLookup e) := host_shape rfl rfl
theorem Shape.routeDefaultSet (e : CmdEntry) : Shape.Statement (.routeDefaultSet e) := host_shape rfl rfl
theorem Shape.routeMeshSet (e : CmdEntry) : Shape.Statement (.routeMeshSet e) := host_shape rfl rfl
theorem Shape.routeContextSet (e : CmdEntry) : Shape.Statement (.routeContextSet e) := host_shape rfl rfl
theorem Shape.routeNodeSet (e : CmdEntry) : Shape.Statement (.routeNodeSet e) := host_shape rfl rfl
theorem Shape.routeNodeQuery (e : CmdEntry) : Shape.Statement (.routeNodeQuery e) := host_shape rfl rfl
theorem Shape.routeStatus (e : CmdEntry) : Shape.Statement (.routeStatus e) := host_shape rfl rfl
theorem Shape.routeCounters (e : CmdEntry) : Shape.Statement (.routeCounters e) := host_shape rfl rfl
theorem Shape.routeLowpanSet (e : CmdEntry) : Shape.Statement (.routeLowpanSet e) := host_shape rfl rfl
theorem Shape.routeTrieRead (e : CmdEntry) : Shape.Statement (.routeTrieRead e) := host_shape rfl rfl
theorem Shape.ethPortConfig (e : CmdEntry) : Shape.Statement (.ethPortConfig e) := host_shape rfl rfl
theorem Shape.ethPortStatus (e : CmdEntry) : Shape.Statement (.ethPortStatus e) := host_shape rfl rfl
theorem Shape.ethAddrSet (e : CmdEntry) : Shape.Statement (.ethAddrSet e) := host_shape rfl rfl
theorem Shape.ethNeighbourSet (e : CmdEntry) : Shape.Statement (.ethNeighbourSet e) := host_shape rfl rfl
theorem Shape.ethHostSet (e : CmdEntry) : Shape.Statement (.ethHostSet e) := host_shape rfl rfl
theorem Shape.ethCounters (e : CmdEntry) : Shape.Statement (.ethCounters e) := host_shape rfl rfl
theorem Shape.ethMacTune (e : CmdEntry) : Shape.Statement (.ethMacTune e) := host_shape rfl rfl
theorem Shape.keySlotQuery (e : CmdEntry) : Shape.Statement (.keySlotQuery e) := host_shape rfl rfl
theorem Shape.keyGenerate (e : CmdEntry) : Shape.Statement (.keyGenerate e) := host_shape rfl rfl
theorem Shape.keyBlobLoad (e : CmdEntry) : Shape.Statement (.keyBlobLoad e) := host_shape rfl rfl
theorem Shape.keyBlobExport (e : CmdEntry) : Shape.Statement (.keyBlobExport e) := host_shape rfl rfl
theorem Shape.keyRevoke (e : CmdEntry) : Shape.Statement (.keyRevoke e) := host_shape rfl rfl
theorem Shape.keyGenMap (e : CmdEntry) : Shape.Statement (.keyGenMap e) := host_shape rfl rfl
theorem Shape.keyGenQuery (e : CmdEntry) : Shape.Statement (.keyGenQuery e) := host_shape rfl rfl
theorem Shape.keyAttest (e : CmdEntry) : Shape.Statement (.keyAttest e) := host_shape rfl rfl
theorem Shape.keyIdentityGenerate (e : CmdEntry) : Shape.Statement (.keyIdentityGenerate e) := host_shape rfl rfl
theorem Shape.keyIdentityRead (e : CmdEntry) : Shape.Statement (.keyIdentityRead e) := host_shape rfl rfl
theorem Shape.keyLifecycleAdvance (e : CmdEntry) : Shape.Statement (.keyLifecycleAdvance e) := host_shape rfl rfl
theorem Shape.keyTamperStatus (e : CmdEntry) : Shape.Statement (.keyTamperStatus e) := host_shape rfl rfl
theorem Shape.keyTamperConfig (e : CmdEntry) : Shape.Statement (.keyTamperConfig e) := host_shape rfl rfl
theorem Shape.keyDebugChallenge (e : CmdEntry) : Shape.Statement (.keyDebugChallenge e) := host_shape rfl rfl
theorem Shape.keyDebugUnlock (e : CmdEntry) : Shape.Statement (.keyDebugUnlock e) := host_shape rfl rfl
theorem Shape.keyCounters (e : CmdEntry) : Shape.Statement (.keyCounters e) := host_shape rfl rfl
theorem Shape.keyImportRaw (e : CmdEntry) : Shape.Statement (.keyImportRaw e) := host_shape rfl rfl
theorem Shape.keyImportWrapped (e : CmdEntry) : Shape.Statement (.keyImportWrapped e) := host_shape rfl rfl
theorem Shape.keyBlobWrapOut (e : CmdEntry) : Shape.Statement (.keyBlobWrapOut e) := host_shape rfl rfl
theorem Shape.keyKdfVector (e : CmdEntry) : Shape.Statement (.keyKdfVector e) := host_shape rfl rfl
theorem Shape.keySign (e : CmdEntry) : Shape.Statement (.keySign e) := host_shape rfl rfl
theorem Shape.keyDebugAuthSet (e : CmdEntry) : Shape.Statement (.keyDebugAuthSet e) := host_shape rfl rfl
theorem Shape.cryptStatus (e : CmdEntry) : Shape.Statement (.cryptStatus e) := host_shape rfl rfl
theorem Shape.cryptCounters (e : CmdEntry) : Shape.Statement (.cryptCounters e) := host_shape rfl rfl
theorem Shape.cryptRouterEuiSet (e : CmdEntry) : Shape.Statement (.cryptRouterEuiSet e) := host_shape rfl rfl
theorem Shape.cryptGenRoll (e : CmdEntry) : Shape.Statement (.cryptGenRoll e) := host_shape rfl rfl
theorem Shape.cryptNodeChallenge (e : CmdEntry) : Shape.Statement (.cryptNodeChallenge e) := host_shape rfl rfl
theorem Shape.cryptRawBlock (e : CmdEntry) : Shape.Statement (.cryptRawBlock e) := host_shape rfl rfl
theorem Shape.cryptCutThroughSet (e : CmdEntry) : Shape.Statement (.cryptCutThroughSet e) := host_shape rfl rfl
theorem Shape.cryptLaneAssign (e : CmdEntry) : Shape.Statement (.cryptLaneAssign e) := host_shape rfl rfl
theorem Shape.cryptCcmVector (e : CmdEntry) : Shape.Statement (.cryptCcmVector e) := host_shape rfl rfl
theorem Shape.queueConfig (e : CmdEntry) : Shape.Statement (.queueConfig e) := host_shape rfl rfl
theorem Shape.queueFlush (e : CmdEntry) : Shape.Statement (.queueFlush e) := host_shape rfl rfl
theorem Shape.queueStatus (e : CmdEntry) : Shape.Statement (.queueStatus e) := host_shape rfl rfl
theorem Shape.queueOverheadSet (e : CmdEntry) : Shape.Statement (.queueOverheadSet e) := host_shape rfl rfl
theorem Shape.queueGateSet (e : CmdEntry) : Shape.Statement (.queueGateSet e) := host_shape rfl rfl
theorem Shape.queueSampleSet (e : CmdEntry) : Shape.Statement (.queueSampleSet e) := host_shape rfl rfl
theorem Shape.queueSamplesRead (e : CmdEntry) : Shape.Statement (.queueSamplesRead e) := host_shape rfl rfl
theorem Shape.queueCounters (e : CmdEntry) : Shape.Statement (.queueCounters e) := host_shape rfl rfl
theorem Shape.queueFwSet (e : CmdEntry) : Shape.Statement (.queueFwSet e) := host_shape rfl rfl
theorem Shape.queueArbClass (e : CmdEntry) : Shape.Statement (.queueArbClass e) := host_shape rfl rfl
theorem Shape.queueArbStarve (e : CmdEntry) : Shape.Statement (.queueArbStarve e) := host_shape rfl rfl
theorem Shape.queueWatchdogSet (e : CmdEntry) : Shape.Statement (.queueWatchdogSet e) := host_shape rfl rfl
theorem Shape.queueArbStatus (e : CmdEntry) : Shape.Statement (.queueArbStatus e) := host_shape rfl rfl
theorem Shape.queueWorkStatus (e : CmdEntry) : Shape.Statement (.queueWorkStatus e) := host_shape rfl rfl
theorem Shape.timeStatus (e : CmdEntry) : Shape.Statement (.timeStatus e) := host_shape rfl rfl
theorem Shape.timeSet (e : CmdEntry) : Shape.Statement (.timeSet e) := host_shape rfl rfl
theorem Shape.timeAdjust (e : CmdEntry) : Shape.Statement (.timeAdjust e) := host_shape rfl rfl
theorem Shape.timeSourceSet (e : CmdEntry) : Shape.Statement (.timeSourceSet e) := host_shape rfl rfl
theorem Shape.timePtpPort (e : CmdEntry) : Shape.Statement (.timePtpPort e) := host_shape rfl rfl
theorem Shape.timePpsConfig (e : CmdEntry) : Shape.Statement (.timePpsConfig e) := host_shape rfl rfl
theorem Shape.timePinConfig (e : CmdEntry) : Shape.Statement (.timePinConfig e) := host_shape rfl rfl
theorem Shape.timeTriggerConfig (e : CmdEntry) : Shape.Statement (.timeTriggerConfig e) := host_shape rfl rfl
theorem Shape.timeCaptureRead (e : CmdEntry) : Shape.Statement (.timeCaptureRead e) := host_shape rfl rfl
theorem Shape.timeParentDelay (e : CmdEntry) : Shape.Statement (.timeParentDelay e) := host_shape rfl rfl
theorem Shape.timeCounters (e : CmdEntry) : Shape.Statement (.timeCounters e) := host_shape rfl rfl
theorem Shape.timeServoSet (e : CmdEntry) : Shape.Statement (.timeServoSet e) := host_shape rfl rfl
theorem Shape.timeIncrementSet (e : CmdEntry) : Shape.Statement (.timeIncrementSet e) := host_shape rfl rfl
theorem Shape.timeUncClear (e : CmdEntry) : Shape.Statement (.timeUncClear e) := host_shape rfl rfl
theorem Shape.timeRtcStatus (e : CmdEntry) : Shape.Statement (.timeRtcStatus e) := host_shape rfl rfl
theorem Shape.pairConfig (e : CmdEntry) : Shape.Statement (.pairConfig e) := host_shape rfl rfl
theorem Shape.pairStatus (e : CmdEntry) : Shape.Statement (.pairStatus e) := host_shape rfl rfl
theorem Shape.pairLocalApply (e : CmdEntry) : Shape.Statement (.pairLocalApply e) := host_shape rfl rfl
theorem Shape.pairRelinquish (e : CmdEntry) : Shape.Statement (.pairRelinquish e) := host_shape rfl rfl
theorem Shape.pairCounters (e : CmdEntry) : Shape.Statement (.pairCounters e) := host_shape rfl rfl
theorem Shape.pairForceSolo (e : CmdEntry) : Shape.Statement (.pairForceSolo e) := host_shape rfl rfl
theorem Shape.pwrPolicySet (e : CmdEntry) : Shape.Statement (.pwrPolicySet e) := host_shape rfl rfl
theorem Shape.pwrDomainSet (e : CmdEntry) : Shape.Statement (.pwrDomainSet e) := host_shape rfl rfl
theorem Shape.pwrStatus (e : CmdEntry) : Shape.Statement (.pwrStatus e) := host_shape rfl rfl
theorem Shape.pwrRefSet (e : CmdEntry) : Shape.Statement (.pwrRefSet e) := host_shape rfl rfl
theorem Shape.pwrBlockQuery (e : CmdEntry) : Shape.Statement (.pwrBlockQuery e) := host_shape rfl rfl
theorem Shape.updateBegin (e : CmdEntry) : Shape.Statement (.updateBegin e) := host_shape rfl rfl
theorem Shape.updateWrite (e : CmdEntry) : Shape.Statement (.updateWrite e) := host_shape rfl rfl
theorem Shape.updateVerify (e : CmdEntry) : Shape.Statement (.updateVerify e) := host_shape rfl rfl
theorem Shape.updateActivate (e : CmdEntry) : Shape.Statement (.updateActivate e) := host_shape rfl rfl
theorem Shape.updateConfirm (e : CmdEntry) : Shape.Statement (.updateConfirm e) := host_shape rfl rfl
theorem Shape.updateRevert (e : CmdEntry) : Shape.Statement (.updateRevert e) := host_shape rfl rfl
theorem Shape.updateStatus (e : CmdEntry) : Shape.Statement (.updateStatus e) := host_shape rfl rfl
theorem Shape.campaignDefine (e : CmdEntry) : Shape.Statement (.campaignDefine e) := host_shape rfl rfl
theorem Shape.campaignLoad (e : CmdEntry) : Shape.Statement (.campaignLoad e) := host_shape rfl rfl
theorem Shape.campaignTargets (e : CmdEntry) : Shape.Statement (.campaignTargets e) := host_shape rfl rfl
theorem Shape.campaignStart (e : CmdEntry) : Shape.Statement (.campaignStart e) := host_shape rfl rfl
theorem Shape.campaignActivate (e : CmdEntry) : Shape.Statement (.campaignActivate e) := host_shape rfl rfl
theorem Shape.campaignStop (e : CmdEntry) : Shape.Statement (.campaignStop e) := host_shape rfl rfl
theorem Shape.campaignStatus (e : CmdEntry) : Shape.Statement (.campaignStatus e) := host_shape rfl rfl
theorem Shape.campaignTargetRead (e : CmdEntry) : Shape.Statement (.campaignTargetRead e) := host_shape rfl rfl
theorem Shape.campaignTune (e : CmdEntry) : Shape.Statement (.campaignTune e) := host_shape rfl rfl
theorem Shape.testLinkStart (e : CmdEntry) : Shape.Statement (.testLinkStart e) := host_shape rfl rfl
theorem Shape.testLinkResult (e : CmdEntry) : Shape.Statement (.testLinkResult e) := host_shape rfl rfl
theorem Shape.testRadioStart (e : CmdEntry) : Shape.Statement (.testRadioStart e) := host_shape rfl rfl
theorem Shape.testRadioResult (e : CmdEntry) : Shape.Statement (.testRadioResult e) := host_shape rfl rfl
theorem Shape.testStop (e : CmdEntry) : Shape.Statement (.testStop e) := host_shape rfl rfl
theorem Shape.testStatus (e : CmdEntry) : Shape.Statement (.testStatus e) := host_shape rfl rfl
theorem Shape.testTelemetryRead (e : CmdEntry) : Shape.Statement (.testTelemetryRead e) := host_shape rfl rfl
theorem Shape.testTelemetrySet (e : CmdEntry) : Shape.Statement (.testTelemetrySet e) := host_shape rfl rfl
theorem Shape.testWatchdogSet (e : CmdEntry) : Shape.Statement (.testWatchdogSet e) := host_shape rfl rfl
theorem Shape.testFaultInject (e : CmdEntry) : Shape.Statement (.testFaultInject e) := host_shape rfl rfl
theorem Shape.commandFetch : ∀ a, Shape.Statement (.commandFetch a) := fun _ => other_shape rfl
theorem Shape.commandProdWrite : ∀ a b c, Shape.Statement (.commandProdWrite a b c) := fun _ _ _ => other_shape rfl
theorem Shape.rspConsWrite : ∀ a b c, Shape.Statement (.rspConsWrite a b c) := fun _ _ _ => other_shape rfl
theorem Shape.eventConsWrite : ∀ a b, Shape.Statement (.eventConsWrite a b) := fun _ _ => other_shape rfl
theorem Shape.rxProdWrite : ∀ a b c, Shape.Statement (.rxProdWrite a b c) := fun _ _ _ => other_shape rfl
theorem Shape.txProdWrite : ∀ a b, Shape.Statement (.txProdWrite a b) := fun _ _ => other_shape rfl
theorem Shape.tsConsWrite : ∀ a, Shape.Statement (.tsConsWrite a) := fun _ => other_shape rfl
theorem Shape.ringEnable : ∀ a b c, Shape.Statement (.ringEnable a b c) := fun _ _ _ => other_shape rfl
theorem Shape.ringTeardown : ∀ a b c, Shape.Statement (.ringTeardown a b c) := fun _ _ _ => other_shape rfl
theorem Shape.mboxGo : ∀ a, Shape.Statement (.mboxGo a) := fun _ => other_shape rfl
theorem Shape.mboxEvtAck : ∀ a, Shape.Statement (.mboxEvtAck a) := fun _ => other_shape rfl
theorem Shape.registerWrite : ∀ a b c, Shape.Statement (.registerWrite a b c) := fun _ _ _ => other_shape rfl
theorem Shape.cmdWrite : ∀ a b, Shape.Statement (.cmdWrite a b) := fun _ _ => other_shape rfl
theorem Shape.rspRead : Shape.Statement .rspRead := other_shape rfl
theorem Shape.evtRead : Shape.Statement .evtRead := other_shape rfl
theorem Shape.regRead : ∀ a b, Shape.Statement (.regRead a b) := fun _ _ => other_shape rfl
theorem Shape.regWrite : ∀ a b, Shape.Statement (.regWrite a b) := fun _ _ => other_shape rfl
theorem Shape.dataWrite : ∀ a b, Shape.Statement (.dataWrite a b) := fun _ _ => other_shape rfl
theorem Shape.dataRead : ∀ a b, Shape.Statement (.dataRead a b) := fun _ _ => other_shape rfl
theorem Shape.functionLevelReset : ∀ a, Shape.Statement (.functionLevelReset a) := fun _ => other_shape rfl
theorem Shape.partReset : ∀ a b, Shape.Statement (.partReset a b) := fun _ _ => other_shape rfl
theorem Shape.resetAssert : Shape.Statement .resetAssert := other_shape rfl
theorem Shape.perstRelease : Shape.Statement .perstRelease := other_shape rfl
theorem Shape.powerLoss : Shape.Statement .powerLoss := other_shape rfl
theorem Shape.aonPowerOn : Shape.Statement .aonPowerOn := other_shape rfl
theorem Shape.transmitRingFetch : ∀ a b c, Shape.Statement (.transmitRingFetch a b c) := fun _ _ _ => other_shape rfl
theorem Shape.slotPreparation : Shape.Statement .slotPreparation := other_shape rfl
theorem Shape.planHandOff : Shape.Statement .planHandOff := other_shape rfl
theorem Shape.slotBoundary : Shape.Statement .slotBoundary := other_shape rfl
theorem Shape.orbitAnchorReached : Shape.Statement .orbitAnchorReached := other_shape rfl
theorem Shape.stageCommitPoint : ∀ a, Shape.Statement (.stageCommitPoint a) := fun _ => other_shape rfl
theorem Shape.stageLeaseExpiry : ∀ a, Shape.Statement (.stageLeaseExpiry a) := fun _ => other_shape rfl
theorem Shape.stageRecordExpiry : ∀ a, Shape.Statement (.stageRecordExpiry a) := fun _ => other_shape rfl
theorem Shape.bandOn : ∀ a, Shape.Statement (.bandOn a) := fun _ => other_shape rfl
theorem Shape.bandDrainEnd : ∀ a, Shape.Statement (.bandDrainEnd a) := fun _ => other_shape rfl
theorem Shape.bandFault : ∀ a, Shape.Statement (.bandFault a) := fun _ => other_shape rfl
theorem Shape.faultReturnAttempt : ∀ a b, Shape.Statement (.faultReturnAttempt a b) := fun _ _ => other_shape rfl
theorem Shape.syncDetect : ∀ a b c d, Shape.Statement (.syncDetect a b c d) := fun _ _ _ _ => other_shape rfl
theorem Shape.ofdmDetect : ∀ a b c, Shape.Statement (.ofdmDetect a b c) := fun _ _ _ => other_shape rfl
theorem Shape.secondaryDetect : ∀ a b, Shape.Statement (.secondaryDetect a b) := fun _ _ => other_shape rfl
theorem Shape.headerDecide : ∀ a b, Shape.Statement (.headerDecide a b) := fun _ _ => other_shape rfl
theorem Shape.carrierDrop : ∀ a b c, Shape.Statement (.carrierDrop a b c) := fun _ _ _ => other_shape rfl
theorem Shape.rxPsduEnd : ∀ a b c d, Shape.Statement (.rxPsduEnd a b c d) := fun _ _ _ _ => other_shape rfl
theorem Shape.uplinkDeliver : Shape.Statement .uplinkDeliver := other_shape rfl
theorem Shape.soundingEnd : ∀ a b, Shape.Statement (.soundingEnd a b) := fun _ _ => other_shape rfl
theorem Shape.cutThroughPiece : ∀ a b, Shape.Statement (.cutThroughPiece a b) := fun _ _ => other_shape rfl
theorem Shape.joinReqHandle : Shape.Statement .joinReqHandle := other_shape rfl
theorem Shape.controlFrameHandle : Shape.Statement .controlFrameHandle := other_shape rfl
theorem Shape.campaignStatusRx : Shape.Statement .campaignStatusRx := other_shape rfl
theorem Shape.beaconRx : Shape.Statement .beaconRx := other_shape rfl
theorem Shape.ackRx : Shape.Statement .ackRx := other_shape rfl
theorem Shape.ackWindowEnd : ∀ a, Shape.Statement (.ackWindowEnd a) := fun _ => other_shape rfl
theorem Shape.contactMiss : ∀ a, Shape.Statement (.contactMiss a) := fun _ => other_shape rfl
theorem Shape.adriftDeadline : ∀ a, Shape.Statement (.adriftDeadline a) := fun _ => other_shape rfl
theorem Shape.parentCellMissed : ∀ a, Shape.Statement (.parentCellMissed a) := fun _ => other_shape rfl
theorem Shape.contextListenEnd : ∀ a, Shape.Statement (.contextListenEnd a) := fun _ => other_shape rfl
theorem Shape.ackLaunch : ∀ a, Shape.Statement (.ackLaunch a) := fun _ => other_shape rfl
theorem Shape.launchEncrypt : ∀ a, Shape.Statement (.launchEncrypt a) := fun _ => other_shape rfl
theorem Shape.burstStart : ∀ a, Shape.Statement (.burstStart a) := fun _ => other_shape rfl
theorem Shape.launch : ∀ a, Shape.Statement (.launch a) := fun _ => other_shape rfl
theorem Shape.burstEnd : ∀ a, Shape.Statement (.burstEnd a) := fun _ => other_shape rfl
theorem Shape.channelCalibration : ∀ a b, Shape.Statement (.channelCalibration a b) := fun _ _ => other_shape rfl
theorem Shape.backgroundCalibration : ∀ a b, Shape.Statement (.backgroundCalibration a b) := fun _ _ => other_shape rfl
theorem Shape.coexGrantWithdrawn : ∀ a, Shape.Statement (.coexGrantWithdrawn a) := fun _ => other_shape rfl
theorem Shape.coexGrantAsserted : ∀ a, Shape.Statement (.coexGrantAsserted a) := fun _ => other_shape rfl
theorem Shape.eclipseGateClose : Shape.Statement .eclipseGateClose := other_shape rfl
theorem Shape.eclipseGateOpen : Shape.Statement .eclipseGateOpen := other_shape rfl
theorem Shape.agcAttack : ∀ a b, Shape.Statement (.agcAttack a b) := fun _ _ => other_shape rfl
theorem Shape.agcRelease : ∀ a, Shape.Statement (.agcRelease a) := fun _ => other_shape rfl
theorem Shape.snapshotStart : ∀ a, Shape.Statement (.snapshotStart a) := fun _ => other_shape rfl
theorem Shape.snapshotCaptureEnd : ∀ a b, Shape.Statement (.snapshotCaptureEnd a b) := fun _ _ => other_shape rfl
theorem Shape.wakePatternMatch : ∀ a, Shape.Statement (.wakePatternMatch a) := fun _ => other_shape rfl
theorem Shape.lifetimeExpiry : ∀ a, Shape.Statement (.lifetimeExpiry a) := fun _ => other_shape rfl
theorem Shape.toneMapOldRetire : ∀ a, Shape.Statement (.toneMapOldRetire a) := fun _ => other_shape rfl
theorem Shape.agingVisit : Shape.Statement .agingVisit := other_shape rfl
theorem Shape.scrubRead : ∀ a, Shape.Statement (.scrubRead a) := fun _ => other_shape rfl
theorem Shape.shadowCompare : ∀ a, Shape.Statement (.shadowCompare a) := fun _ => other_shape rfl
theorem Shape.ethRxFrame : ∀ a b c, Shape.Statement (.ethRxFrame a b c) := fun _ _ _ => other_shape rfl
theorem Shape.ethLinkChange : ∀ a b, Shape.Statement (.ethLinkChange a b) := fun _ _ => other_shape rfl
theorem Shape.ptpSyncRx : ∀ a b, Shape.Statement (.ptpSyncRx a b) := fun _ _ => other_shape rfl
theorem Shape.ptpAnnounceRx : ∀ a b, Shape.Statement (.ptpAnnounceRx a b) := fun _ _ => other_shape rfl
theorem Shape.ptpDelayRespRx : ∀ a b, Shape.Statement (.ptpDelayRespRx a b) := fun _ _ => other_shape rfl
theorem Shape.ptpDelayReqRx : ∀ a b, Shape.Statement (.ptpDelayReqRx a b) := fun _ _ => other_shape rfl
theorem Shape.ptpSyncTx : ∀ a, Shape.Statement (.ptpSyncTx a) := fun _ => other_shape rfl
theorem Shape.servoUpdate : Shape.Statement .servoUpdate := other_shape rfl
theorem Shape.sourceInvalid : ∀ a, Shape.Statement (.sourceInvalid a) := fun _ => other_shape rfl
theorem Shape.ppsInEdge : Shape.Statement .ppsInEdge := other_shape rfl
theorem Shape.ppsOutSecond : Shape.Statement .ppsOutSecond := other_shape rfl
theorem Shape.captureEdge : ∀ a b, Shape.Statement (.captureEdge a b) := fun _ _ => other_shape rfl
theorem Shape.eventPinEdge : ∀ a, Shape.Statement (.eventPinEdge a) := fun _ => other_shape rfl
theorem Shape.internalTriggerFire : ∀ a, Shape.Statement (.internalTriggerFire a) := fun _ => other_shape rfl
theorem Shape.rtcWindowEnd : ∀ a, Shape.Statement (.rtcWindowEnd a) := fun _ => other_shape rfl
theorem Shape.ephemerisFreeze : Shape.Statement .ephemerisFreeze := other_shape rfl
theorem Shape.ephemerisResume : Shape.Statement .ephemerisResume := other_shape rfl
theorem Shape.uncFreeExpiry : Shape.Statement .uncFreeExpiry := other_shape rfl
theorem Shape.heartbeatSend : Shape.Statement .heartbeatSend := other_shape rfl
theorem Shape.lineHeartbeatRx : ∀ a, Shape.Statement (.lineHeartbeatRx a) := fun _ => other_shape rfl
theorem Shape.heartbeat : ∀ a b, Shape.Statement (.heartbeat a b) := fun _ _ => other_shape rfl
theorem Shape.hello : ∀ a b, Shape.Statement (.hello a b) := fun _ _ => other_shape rfl
theorem Shape.commit : ∀ a b, Shape.Statement (.commit a b) := fun _ _ => other_shape rfl
theorem Shape.commitAck : ∀ a b c, Shape.Statement (.commitAck a b c) := fun _ _ _ => other_shape rfl
theorem Shape.journal : ∀ a b, Shape.Statement (.journal a b) := fun _ _ => other_shape rfl
theorem Shape.config : ∀ a b, Shape.Statement (.config a b) := fun _ _ => other_shape rfl
theorem Shape.contact : ∀ a b c, Shape.Statement (.contact a b c) := fun _ _ _ => other_shape rfl
theorem Shape.epoch : ∀ a b, Shape.Statement (.epoch a b) := fun _ _ => other_shape rfl
theorem Shape.time : ∀ a b c d e, Shape.Statement (.time a b c d e) := fun _ _ _ _ _ => other_shape rfl
theorem Shape.sync : ∀ a b, Shape.Statement (.sync a b) := fun _ _ => other_shape rfl
theorem Shape.pairLinkDown : Shape.Statement .pairLinkDown := other_shape rfl
theorem Shape.replTimeout : Shape.Statement .replTimeout := other_shape rfl
theorem Shape.leaseExpiry : Shape.Statement .leaseExpiry := other_shape rfl
theorem Shape.startupWaitExpiry : Shape.Statement .startupWaitExpiry := other_shape rfl
theorem Shape.takeover : Shape.Statement .takeover := other_shape rfl
theorem Shape.handshakePeriod : ∀ a, Shape.Statement (.handshakePeriod a) := fun _ => other_shape rfl
theorem Shape.handshakeAnswer : ∀ a b, Shape.Statement (.handshakeAnswer a b) := fun _ _ => other_shape rfl
theorem Shape.idleTimerExpiry : ∀ a, Shape.Statement (.idleTimerExpiry a) := fun _ => other_shape rfl
theorem Shape.domainEntryComplete : ∀ a, Shape.Statement (.domainEntryComplete a) := fun _ => other_shape rfl
theorem Shape.domainWake : ∀ a, Shape.Statement (.domainWake a) := fun _ => other_shape rfl
theorem Shape.domainWakeComplete : ∀ a, Shape.Statement (.domainWakeComplete a) := fun _ => other_shape rfl
theorem Shape.tamperAlarm : ∀ a, Shape.Statement (.tamperAlarm a) := fun _ => other_shape rfl
theorem Shape.remaskPass : Shape.Statement .remaskPass := other_shape rfl
theorem Shape.revokeDrainDone : ∀ a, Shape.Statement (.revokeDrainDone a) := fun _ => other_shape rfl
theorem Shape.entropyHealthFail : Shape.Statement .entropyHealthFail := other_shape rfl
theorem Shape.entropyRestartDone : Shape.Statement .entropyRestartDone := other_shape rfl
theorem Shape.maskReseed : ∀ a, Shape.Statement (.maskReseed a) := fun _ => other_shape rfl
theorem Shape.flashRecordWrite : Shape.Statement .flashRecordWrite := other_shape rfl
theorem Shape.recordSectorErase : Shape.Statement .recordSectorErase := other_shape rfl
theorem Shape.handoverDispatchHold : Shape.Statement .handoverDispatchHold := other_shape rfl
theorem Shape.probationFailure : Shape.Statement .probationFailure := other_shape rfl
theorem Shape.kernelWatchdogExpiry : ∀ a, Shape.Statement (.kernelWatchdogExpiry a) := fun _ => other_shape rfl
theorem Shape.paceBelowFloor : ∀ a b, Shape.Statement (.paceBelowFloor a b) := fun _ _ => other_shape rfl
theorem Shape.telemetrySample : ∀ a, Shape.Statement (.telemetrySample a) := fun _ => other_shape rfl
theorem Shape.queueSample : Shape.Statement .queueSample := other_shape rfl
theorem Shape.workSubmit : ∀ a, Shape.Statement (.workSubmit a) := fun _ => other_shape rfl
theorem Shape.coreItemComplete : ∀ a, Shape.Statement (.coreItemComplete a) := fun _ => other_shape rfl
theorem Shape.tailSpill : ∀ a, Shape.Statement (.tailSpill a) := fun _ => other_shape rfl
theorem Shape.tailRefill : ∀ a, Shape.Statement (.tailRefill a) := fun _ => other_shape rfl
theorem Shape.queueCompaction : ∀ a, Shape.Statement (.queueCompaction a) := fun _ => other_shape rfl
theorem Shape.bankArbitration : ∀ a b, Shape.Statement (.bankArbitration a b) := fun _ _ => other_shape rfl
theorem Shape.fabricWatchdogExpiry : ∀ a b, Shape.Statement (.fabricWatchdogExpiry a b) := fun _ _ => other_shape rfl
theorem Shape.campaignRoundStart : Shape.Statement .campaignRoundStart := other_shape rfl
theorem Shape.collectionPhaseStart : Shape.Statement .collectionPhaseStart := other_shape rfl
theorem Shape.testDurationExpiry : ∀ a, Shape.Statement (.testDurationExpiry a) := fun _ => other_shape rfl
theorem Shape.extest : Shape.Statement .extest := other_shape rfl
theorem Shape.clamp : Shape.Statement .clamp := other_shape rfl
theorem Shape.highz : Shape.Statement .highz := other_shape rfl
theorem Shape.samplePreload : Shape.Statement .samplePreload := other_shape rfl
theorem Shape.idcode : Shape.Statement .idcode := other_shape rfl
theorem Shape.bypass : Shape.Statement .bypass := other_shape rfl
theorem Shape.vendorInstruction : ∀ a, Shape.Statement (.vendorInstruction a) := fun _ => other_shape rfl
theorem Shape.trstLow : Shape.Statement .trstLow := other_shape rfl
theorem Shape.pairLinkUp : Shape.Statement .pairLinkUp := other_shape rfl
theorem Shape.longCommandComplete : ∀ a b, Shape.Statement (.longCommandComplete a b) := fun _ _ => other_shape rfl
theorem Shape.isolationYield : Shape.Statement .isolationYield := other_shape rfl
theorem Shape.interruptHoldoffExpiry : ∀ a b, Shape.Statement (.interruptHoldoffExpiry a b) := fun _ _ => other_shape rfl
theorem Shape.ptpAnnounceTx : ∀ a, Shape.Statement (.ptpAnnounceTx a) := fun _ => other_shape rfl
theorem Shape.checkerLocked : ∀ a b, Shape.Statement (.checkerLocked a b) := fun _ _ => other_shape rfl
theorem Shape.checkerLockLoss : ∀ a b c, Shape.Statement (.checkerLockLoss a b c) := fun _ _ _ => other_shape rfl
theorem Shape.testFrameSend : ∀ a, Shape.Statement (.testFrameSend a) := fun _ => other_shape rfl
theorem Shape.handshakeDelayExpiry : ∀ a b, Shape.Statement (.handshakeDelayExpiry a b) := fun _ _ => other_shape rfl

end Sys2Proof.Laws
end

