-- ==== Sys2Proof/Tests/Slice0.lean ====
section
/-! SUPPORT. Witnesses of the statements' hypotheses, the smoke test of WellFormed, and values that the manual and the standards it names
state. `test_witness_<statement>` shows a state and operands that meet the hypotheses of each of its clauses. -/

namespace Sys2Proof.Tests

open Sys2Proof.Machine

set_option Elab.async false

/-- The part runs as a single unit, with its PCIe link up and privileged channel 0 at work on a ring of 64 entries. -/
def base : State :=
  let c := { (nth CmdChan.reset State.reset.host.priv.chans 0) with regs := { RingRegs.reset with ctrl := 0x80000006, active := true } }
  let v := { State.reset.host.priv with chans := modNth State.reset.host.priv.chans 0 fun _ => c }
  { State.reset with resetHigh := true, part := .run, role := .single, host := { State.reset.host with pcieUp := true, priv := v } }

/-- Arguments from (low bit, value) pairs. -/
def args (l : List (Nat × Nat)) : BitVec 320 := BitVec.ofNat 320 (l.foldl (fun n p => n ||| (p.2 <<< p.1)) 0)

/-- A command of a session. -/
def cmdOf (x : Session) (c : CmdId) (l : List (Nat × Nat)) : CmdEntry :=
  { session := x, word := BitVec.ofNat 32 (cmdCode c), length := 0, stageId := 0, bufAddr := 0, bufLen := 0, ctl := 0, args := args l
    buf := [] }

/-- A command in the privileged mailbox. -/
def cmd (c : CmdId) (l : List (Nat × Nat)) : CmdEntry := cmdOf (.mbox .priv) c l

/-- A command of privileged channel 0 with a buffer to read. -/
def cmdIn (c : CmdId) (l : List (Nat × Nat)) (buf : List Byte) : CmdEntry :=
  { cmdOf (.chan .priv 0) c l with bufLen := BitVec.ofNat 32 buf.length, buf := buf }

/-- A command of privileged channel 0 with a buffer to fill. -/
def cmdOut (c : CmdId) (l : List (Nat × Nat)) (n : Nat) : CmdEntry := { cmdOf (.chan .priv 0) c l with bufLen := BitVec.ofNat 32 n }

/-- A node of band B, a privileged relay of class 1, at the index its address hashes to. -/
def node : NodeEntry :=
  { hit := false, relocSeq := 0, isStatic := false, role := 2, coldChal := false, adrift := false, learnPort := 5, rxRing := 0, keyGen := 0
    attenDb := 0, meshAddr := addrHash 0x1122 0, eui := 0x1122, rxCounter := 4, txEpoch := 0, txCount := 0, classId := 1, band := 1, chOff := 0
    routeRef := 0, rateReq := 0, wakePeriod := 100, wakeOffset := 3, driftQ := 0, nextWake := 0, uplinksDue := 0, altValid := false
    misses := 0, samples := 0, outliers := false, outlierNeg := false, adriftDeadline := 0, refNs := 0, refOff := 0, altOff := 0 }

/-- Its index. -/
def home : Nat := 4 * (bucketPair base (addrHash 0x1122 0)).1

/-- The part knows the node. -/
def known : State := modNodes base fun d => { d with table := [(home, node)] }

/-- A region profile of band A with two channels. -/
def region : Region :=
  { id := 1, band := 0, lbt := false, dwellWhole := false, first := 500, step := 10, count := 2, exclude := 0, dwellLimitMs := 400
    dwellWindowS := 20 }

/-- Band A may be enabled. -/
def banded : State :=
  let s := modTx (modRadio base fun r => { r with regions := [(1, region)] }) .bandA fun x => { x with region := 1 }
  modCrypt (modAir s fun a => { a with bind := { a.bind with a := 1 } }) fun c => { c with routerEui := 1 }

/-- Band A is ON. -/
def onA : State := setBand banded .bandA .on

/-- A key slot that holds 16 zero bytes under a use, volatile and exportable. -/
def slotFor (keyType use : Nat) : KeySlot :=
  let x := { (slotOf base 1) with state := .loaded, use := use, keyType := keyType, isVolatile := true, exportable := true, share0 := 0, share1 := 1 }
  { x with check := slotCheck x }

/-- Slot 0 holds the identity key, slot 1 a key for frames, slot 2 one that wraps, slot 3 one that signs, slot 4 one for raw blocks, slot 5
one for the frames of the pair link. -/
def keyed : State := modKey base fun k => { k with
  rootShares := some (0, 1), slots := [slotFor 1 4, slotFor 0 0, slotFor 0 1, slotFor 1 4, slotFor 0 3, slotFor 0 2] ++ k.slots.drop 6 }

/-- The 64 bytes of an air profile that may be loaded. -/
def profile7 : List Byte := airBytes (gfskProfile 7 1 0 50000 1 8 16 1 0xE7A3)

/-- A complete snapshot of band A. -/
def snapped : State := modRadio onA fun r => { r with snapshots :=
  [{ id := 0, band := 0, power := false, units := 1, trigger := 0, triggerId := 0, avgMs := 1, startNs := 0, state := .complete, firstNs := 0
     blanks := [], data := [1, 2, 3, 4] }] }

/-- Band A is ON and the engine runs since ASN 1 at time 0. -/
def slotted : State := modOrbit onA fun o => { o with state := .run, anchored := true, anchorAsn := 1, anchorNs := 0 }

/-- The 64 bytes of a class record that may be loaded. -/
def class4 : List Byte :=
  leBytes 2 4 ++ leBytes 2 0 ++ leBytes 2 0 ++ leBytes 2 0 ++ leBytes 2 4 ++ leBytes 2 1000 ++ leBytes 2 4000 ++ leBytes 2 7000
    ++ leBytes 2 300 ++ leBytes 2 20 ++ leBytes 2 2000 ++ leBytes 2 10 ++ [40, 3] ++ leBytes 2 200 ++ [1, 4] ++ leBytes 2 600
    ++ leBytes 4 6000 ++ leBytes 2 128 ++ List.replicate 26 0

/-- The 256 bytes of an image header of one block. -/
def header : List Byte := leBytes 4 0x4B564649 ++ List.replicate 20 0 ++ leBytes 4 4096 ++ List.replicate 228 0

/-- A download of one block has begun. -/
def pendingImage : State := modFw base fun f => { f with flash := memWriteBytes 0xFF [] flashDownload header }

/-- Its block is written. -/
def fullImage : State := modFw pendingImage fun f => { f with flash := memWriteBytes 0xFF f.flash (flashDownload + 0x200) [0xFE] }

/-- An image on probation, the old one still in its bank. -/
def probing : State := modFw base fun f => { f with onProbation := true, running := some { header := header, body := [] }, old := some { header := header, body := [] } }

/-- A campaign being loaded. -/
def loading : State := modCmp known fun c => { c with state := .loading, imageLen := 64 }
/-- One with a target and its image whole. -/
def campaigning : State := modCmp loading fun c => { c with targets := [{ meshAddr := node.meshAddr, state := 0, silent := 0, missing := 0, ucast0 := 0, ucast1 := 0, heard := false }], hash := sha256 (List.replicate 64 0) }
/-- One that runs. -/
def running : State := modCmp loading fun c => { c with state := .running }

/-! Witnesses: for each statement with hypotheses, states and operands that meet them, clause by clause. -/

/-- A launch of band A at an instant. -/
def launchAtNs (t : Nat) : Launch :=
  { id := 1, kind := .challenge, band := 0, tL := t, asn := 1, nodeAsn := 1, channel := 500, lo := 0, profile := 1, attenDb := 0, lateNs := 0
    airNs := 1000, record := none, addr := 1, ackReq := false, phaseNs := 0, payload := [], psdu := some [1], counter := 0, keyGen := 0
    decided := true, cmd := none, readyNs := 0, tA := 0, pendingBit := false, followUp := false, mapId := 0, toneMap := 0, carrier := .queued }

/-- A stage of the privileged mailbox that holds the AIR function. -/
def stageOf (cmds : List CmdEntry) (checked mode : Nat) (owner : Option Session) : Stage :=
  { id := 1, mask := 0xFFFF, owner := owner, cmds := cmds, argBytes := 0, checkState := checked, mode := mode, point := 0, leaseMs := 5000
    leaseEnd := 0, firstFail := 0, appliedNs := 0, commit := none }

/-- A state with a stage. -/
def staged (cmds : List CmdEntry) (checked mode : Nat) : State :=
  { base with host := { base.host with stages := [stageOf cmds checked mode (some (.mbox .priv))] } }

/-- A command that carries the stage's identifier. -/
def inStage (e : CmdEntry) : CmdEntry := { e with stageId := 1 }

/-- A setting that a stage may hold. -/
def setting : CmdEntry := cmd .radioTxPathDelay [(0, 2), (16, 10000)]

theorem test_witness_StepRunsFront :
    ({ base with pending := [.sysIdentify (cmd .sysIdentify []), .slotBoundary] }).pending
      = .sysIdentify (cmd .sysIdentify []) :: [.slotBoundary] := rfl

theorem test_witness_StepTicksWhenIdle :
    (base.pending = [] ∧ base.clk.frozen = none ∧ base.resetHigh = true) ∧ State.reset.pending = [] ∧ State.reset.resetHigh = false := by
  decide +kernel

theorem test_witness_ExecKeepsQueue : exec .resetAssert base = .next (resetState { base with resetHigh := false } 0) := rfl

theorem test_witness_OnlyVendorStops :
    vendorAvailable base 0x80 = false
    ∧ vendorAvailable (modKey base fun k => { k with lifecycle := .manufacture }) 0x80 = true
    ∧ vendorAvailable (modKey base fun k => { k with lifecycle := .manufacture }) 0xFE = true := by decide +kernel

theorem test_witness_StepKeepsInvariant :
    invariant { base with pending := [.resetAssert, .ethLinkChange 1 true] } = true
    ∧ step { base with pending := [.resetAssert, .ethLinkChange 1 true] }
        = .next (resetState { base with pending := [.ethLinkChange 1 true], resetHigh := false } 0) :=
  ⟨by decide +kernel, rfl⟩

theorem test_witness_HostRowsServed : hostRow (.airProfileRemove setting) = some (.airProfileRemove, setting) := rfl

/-- A command of the unprivileged mailbox. -/
def fromBelow : CmdEntry := cmdOf (.mbox .unpriv) .sysPin [(0, 0x84)]

theorem test_witness_RefusalsInOrder :
    (served .sysPin fromBelow base = true ∧ viewRefuses (arrived fromBelow base) fromBelow (cmdSpec .sysPin) = true)
    ∧ (let e := { setting with length := 41 }
       served .radioTxPathDelay e base = true ∧ viewRefuses (arrived e base) e (cmdSpec .radioTxPathDelay) = false ∧ lengthsOk e .none = false)
    ∧ (let e := { setting with ctl := 2 }
       served .radioTxPathDelay e base = true ∧ lengthsOk e .none = true ∧ reservedOk e (cmdSpec .radioTxPathDelay) = false)
    ∧ (let s := modKey base fun k => { k with tampered := true }
       served .radioTxPathDelay setting s = true ∧ lengthsOk setting .none = true
         ∧ (!bufAddrOk setting || !reservedOk setting (cmdSpec .radioTxPathDelay) || !stageArgs .radioTxPathDelay setting
              || !(fnImpl .radioTxPathDelay).args setting (stageView (arrived setting s) setting)) = false
         ∧ tamperStops (arrived setting s) = true ∧ tamperExempt setting .radioTxPathDelay = false)
    ∧ (let s := { base with role := .standby }
       served .radioTxPathDelay setting s = true ∧ tamperStops (arrived setting s) = false ∧ (arrived setting s).role = .standby
         ∧ (cmdSpec .radioTxPathDelay).reads = false ∧ standbyTakes (cmdSpec .radioTxPathDelay).fn = false) := by
  decide +kernel

theorem test_witness_PrivilegedOnly :
    hostRow (.sysPin fromBelow) = some (.sysPin, fromBelow) ∧ served .sysPin fromBelow base = true ∧ (cmdSpec .sysPin).privOnly = true
    ∧ sessionView fromBelow.session = .unpriv := ⟨rfl, by decide +kernel⟩

theorem test_witness_LateRefusals :
    (let s := staged [inStage setting] 1 0
     admitted .radioTxPathDelay setting s = true ∧ setting.stageId = 0 ∧ isStageCommand .radioTxPathDelay = false
       ∧ (cmdSpec .radioTxPathDelay).reads = false ∧ conflicts (arrived setting s) setting = true)
    ∧ (let e := cmd .sysUnpin [(0, 0x84)]
       admitted .sysUnpin e base = true ∧ conflicts (arrived e base) e = false
         ∧ (lastRefusal .now .sysUnpin e (arrived e base)).isSome = true) := by decide +kernel

theorem test_witness_CommandFrames : base.pwr.commands = [] ∧ (domOf base domEth).state = .on := by decide +kernel

/-- SYS_STAGE_OPEN for the RADIO function, lease 100 ms. -/
def opening : CmdEntry := cmd .sysStageOpen [(0, 4), (16, 100)]

theorem test_witness_StageOpens :
    (admitted .sysStageOpen opening base = true ∧ opening.stageId = 0 ∧ partRefuses (arrived opening base) opening .sysStageOpen = false
      ∧ (liveStages (arrived opening base)).length < 4)
    ∧ (∀ st ∈ (arrived opening base).host.stages, st.id ≠ 65535)
    ∧ (let s := staged [] 0 0
       admitted .sysStageOpen opening s = true ∧ ((liveStages (arrived opening s)).any fun st => (st.mask &&& 4) != 0) = true)
    ∧ (let s := { base with host := { base.host with stages := List.replicate 4 { stageOf [] 0 0 none with mask := 2 } } }
       admitted .sysStageOpen opening s = true ∧ ((liveStages (arrived opening s)).any fun st => (st.mask &&& 4) != 0) = false
         ∧ (liveStages (arrived opening s)).length = 4) := by decide +kernel

theorem test_witness_StageCommands :
    (let e := inStage (cmd .sysStageCheck [])
     admitted .sysStageCheck e (staged [] 0 0) = true ∧ partRefuses (arrived e (staged [] 0 0)) e .sysStageCheck = false
       ∧ (openStage (arrived e (staged [] 0 0)) e).isSome = true
       ∧ pointAhead (staged [] 0 0) 0 0 (leadNs (staged [] 0 0) + 2000000) = true
       ∧ stageFailure (staged [] 0 0) [] 0 0 = none
       ∧ (stageFailure (staged [] 0 0) [inStage (cmd .airProfileRemove [(0, 7)])] 0 0).isSome = true
       ∧ (openStage (arrived e (staged [inStage (cmd .airProfileRemove [(0, 7)])] 0 0)) e).isSome = true)
    ∧ (let e := inStage (cmd .sysStageCommit [])
       admitted .sysStageCommit e (staged [] 1 0) = true ∧ partRefuses (arrived e (staged [] 1 0)) e .sysStageCommit = false
         ∧ (openStage (arrived e (staged [] 1 0)) e).map (fun st => (st.checkState, st.mode)) = some (1, 0)
         ∧ stageFailure (staged [] 1 0) [] 0 0 = none
         ∧ (openStage (arrived e (staged [] 1 1)) e).map (fun st => (st.checkState, st.mode)) = some (1, 1)
         ∧ pointAhead (staged [] 1 1) 1 2000000 2000000 = true)
    ∧ (let e := inStage (cmd .sysStageAbort [])
       admitted .sysStageAbort e (staged [] 0 0) = true ∧ partRefuses (arrived e (staged [] 0 0)) e .sysStageAbort = false
         ∧ (openStage (arrived e (staged [] 0 0)) e).isSome = true)
    ∧ (let e := inStage (cmd .sysStageQuery [])
       admitted .sysStageQuery e (staged [] 2 0) = true ∧ partRefuses (arrived e (staged [] 2 0)) e .sysStageQuery = false
         ∧ (queryStage (arrived e (staged [] 2 0)) e).map (·.checkState) = some 2
         ∧ admitted .sysStageQuery e (staged [] 3 1) = true ∧ (queryStage (arrived e (staged [] 3 1)) e).map (·.checkState) = some 3) := by
  decide +kernel

theorem test_witness_CommandIsStaged :
    hostRow (.radioTxPathDelay (inStage setting)) = some (.radioTxPathDelay, inStage setting)
    ∧ (let e := inStage setting
       let s := staged [] 1 0
       admitted .radioTxPathDelay e s = true ∧ e.stageId ≠ 0 ∧ isStageCommand .radioTxPathDelay = false
         ∧ (openStage (arrived e s) e).map (fun st => bitOf st.mask.toNat ((cmdSpec .radioTxPathDelay).fn - 1)) = some true
         ∧ unstageable (cmdSpec .radioTxPathDelay).fn = false ∧ (cmdSpec .radioTxPathDelay).reads = false
         ∧ (cmdSpec .radioTxPathDelay).stageable = true ∧ argSize e (cmdSpec .radioTxPathDelay).buf ≤ 1048576
         ∧ lastRefusal .record .radioTxPathDelay e (stageView (arrived e s) e) = none) := ⟨rfl, by decide +kernel⟩

theorem test_witness_StagePoints :
    (((staged [] 3 1).host.stages.find? fun st => st.id == 1 && st.checkState == 3).isSome = true ∧ firmwareRuns (staged [] 3 1) = true
      ∧ commitNs (staged [] 3 1) 1 0 = some 0 ∧ (0 : Int) ≤ (nowNs (staged [] 3 1) : Int)
      ∧ stageFailure (staged [] 3 1) [] 1 0 = none
      ∧ (stageFailure (staged [inStage (cmd .airProfileRemove [(0, 7)])] 3 1) [inStage (cmd .airProfileRemove [(0, 7)])] 1 0).isSome = true)
    ∧ (((staged [] 2 0).host.stages.find? fun st => st.id == 1 && decide (st.checkState ≤ 2)).map (·.leaseEnd) = some 0
        ∧ 0 ≤ (staged [] 2 0).upNs)
    ∧ ((staged [] 4 0).host.stages.find? fun st => st.id == 1 && decide (4 ≤ st.checkState)).map (·.leaseEnd) = some 0 := by decide +kernel

theorem test_witness_SystemCommands :
    ready .sysIdentify (cmd .sysIdentify []) base = true
    ∧ ready .sysGetState (cmd .sysGetState []) base = true
    ∧ ready .sysPin (cmd .sysPin [(0, 0x84)]) base = true
    ∧ ready .sysUnpin (cmd .sysUnpin [(0, 0x84)]) { base with host := { base.host with pins := [0x84] } } = true
    ∧ ready .sysPinQuery (cmd .sysPinQuery []) base = true := by decide +kernel

theorem test_witness_SystemCommands_counters :
    ready .sysCounters (cmdOut .sysCounters [] 20) base = true
    ∧ ready .airCounters (cmd .airCounters []) base = true
    ∧ ready .radioRxCounters (cmdOut .radioRxCounters [] 64) base = true
    ∧ ready .radioTxCounters (cmdOut .radioTxCounters [] 64) base = true
    ∧ ready .orbitCounters (cmdOut .orbitCounters [] 88) base = true
    ∧ ready .nodeCounters (cmdOut .nodeCounters [] 72) base = true
    ∧ ready .routeCounters (cmdOut .routeCounters [] 56) base = true
    ∧ ready .ethCounters (cmdOut .ethCounters [] 48) base = true
    ∧ ready .keyCounters (cmdOut .keyCounters [] 40) base = true
    ∧ ready .cryptCounters (cmdOut .cryptCounters [] 52) base = true
    ∧ ready .queueCounters (cmdOut .queueCounters [] 56) base = true
    ∧ ready .timeCounters (cmdOut .timeCounters [] 60) base = true
    ∧ ready .pairCounters (cmdOut .pairCounters [] 52) base = true := by decide +kernel

theorem test_witness_LongCommandsStart :
    ready .sysFunctionReset (cmd .sysFunctionReset [(0, 0x0B)]) base = true
    ∧ ready .sysQuiesce (cmd .sysQuiesce []) base = true
    ∧ ready .sysResume (cmd .sysResume []) { base with part := .quiesced } = true
    ∧ ready .nodeCounterSnapshot (cmdOut .nodeCounterSnapshot [] 16) (modNodes { base with part := .quiesced } fun d => { d with snapshot := some (List.replicate 20 0) }) = true
    ∧ ready .nodeColdChallenge (cmd .nodeColdChallenge []) { base with part := .coldWait } = true
    ∧ ready .keyIdentityGenerate (cmd .keyIdentityGenerate []) base = true
    ∧ ready .keyLifecycleAdvance (cmd .keyLifecycleAdvance [(0, 3), (32, 0x41445603)]) (modKey base fun k => { k with identitySeed := some 1 }) = true
    ∧ ready .updateVerify (cmd .updateVerify []) fullImage = true
    ∧ ready .updateConfirm (cmd .updateConfirm []) probing = true
    ∧ ready .updateRevert (cmd .updateRevert []) probing = true
    ∧ ready .campaignStart (cmd .campaignStart [(0, 5)]) campaigning = true
    ∧ ready .nodeCounterRestore (cmdIn .nodeCounterRestore [] ([0x4B])) { base with part := .coldWait } = true := by decide +kernel

theorem test_witness_AirCommands :
    ready .airProfileLoad (cmdIn .airProfileLoad [] (profile7)) base = true
    ∧ ready .airProfileLoadRaw (cmdIn .airProfileLoadRaw [] (profile7)) base = true
    ∧ ready .airProfileRemove (cmd .airProfileRemove [(0, 7)]) (modAir base fun a => { a with profiles := a.profiles ++ [(7, gfskProfile 7 1 0 50000 1 8 16 1 0xE7A3)] }) = true
    ∧ ready .airProfileBind (cmd .airProfileBind [(0, 0), (16, 1)]) banded = true
    ∧ ready .airProfileQuery (cmdOut .airProfileQuery [(0, 1)] 64) base = true
    ∧ ready .airSetRouterAddress (cmd .airSetRouterAddress [(0, 0xFFFFFEFF)]) base = true
    ∧ ready .airToneMapRead (cmd .airToneMapRead [(0, home)]) known = true
    ∧ ready .airSound (cmd .airSound [(0, home)]) known = true
    ∧ ready .airToneMapWrite (cmdIn .airToneMapWrite [(0, home), (20, 15)] (List.replicate 39 0x44)) known = true := by decide +kernel

theorem test_witness_RadioSettings :
    ready .radioWindowSet (cmd .radioWindowSet [(0, 1), (16, 7700)]) base = true
    ∧ ready .radioDiagRing (cmd .radioDiagRing []) base = true
    ∧ ready .radioWakeConfig (cmd .radioWakeConfig [(0, 1), (4, 6), (16, 3040), (32, 0x0F0F0F0F)]) base = true
    ∧ ready .radioSyncTune (cmd .radioSyncTune [(0, 0), (8, 8), (16, 0xFDF8), (32, 30)]) base = true
    ∧ ready .radioCaptureSet (cmd .radioCaptureSet [(0, 2), (8, 30)]) base = true
    ∧ ready .radioAgcSet (cmd .radioAgcSet [(0, 0), (2, 2), (8, 60), (16, 20)]) base = true
    ∧ ready .radioRssiCal (cmd .radioRssiCal []) base = true
    ∧ ready .radioRxPathDelay (cmd .radioRxPathDelay []) base = true
    ∧ ready .radioRegionLoad (cmdIn .radioRegionLoad [] (regionBytes region)) base = true
    ∧ ready .radioRegionRemove (cmd .radioRegionRemove [(0, 1)]) (modRadio base fun r => { r with regions := [(1, region)] }) = true
    ∧ ready .radioRegionBind (cmd .radioRegionBind [(0, 0), (16, 1)]) (modRadio base fun r => { r with regions := [(1, region)] }) = true
    ∧ ready .radioSnapshotRelease (cmd .radioSnapshotRelease [(0, 0)]) snapped = true
    ∧ ready .radioTxPowerSet (cmd .radioTxPowerSet []) base = true
    ∧ ready .radioTxModeSet (cmd .radioTxModeSet []) base = true
    ∧ ready .radioTxTiming (cmd .radioTxTiming [(0, 0), (8, 16), (16, 17), (24, 8), (32, 500)]) base = true
    ∧ ready .radioTxPathDelay (cmd .radioTxPathDelay []) base = true
    ∧ ready .radioFeConfig (cmd .radioFeConfig []) base = true
    ∧ ready .radioCoexConfig (cmd .radioCoexConfig [(0, 1), (16, 1000)]) base = true
    ∧ ready .radioBandStatus (cmd .radioBandStatus []) base = true := by decide +kernel

theorem test_witness_RadioReceiveReads :
    ready .radioWindowQuery (cmd .radioWindowQuery []) base = true
    ∧ ready .radioContextStatus (cmdOut .radioContextStatus [(0, 511), (16, 1)] 16) base = true
    ∧ ready .radioWakeStatus (cmd .radioWakeStatus []) base = true
    ∧ ready .radioRegionQuery (cmdOut .radioRegionQuery [(0, 1)] 64) banded = true
    ∧ ready .radioSnapshotArm (cmd .radioSnapshotArm [(0, 0), (4, 8), (8, 0)]) onA = true
    ∧ ready .radioSnapshotRead (cmdOut .radioSnapshotRead [(0, 0), (32, 0)] 4) snapped = true
    ∧ ready .radioContextReserve (cmd .radioContextReserve [(0, 0), (4, 64), (16, 500), (32, 1)]) onA = true
    ∧ ready .radioContextRelease (cmd .radioContextRelease [(0, 511), (16, 1)]) (modRadio base fun r => { r with reserved := [511] }) = true := by decide +kernel

theorem test_witness_RadioBands :
    ready .radioBandEnable (cmd .radioBandEnable [(0, 0)]) banded = true
    ∧ ready .radioBandDisable (cmd .radioBandDisable [(0, 0)]) onA = true
    ∧ ready .radioTxAt (cmdIn .radioTxAt [(0, 0), (16, 1000), (32, 1), (64, 200000)] ([1, 2, 3])) slotted = true
    ∧ ready .radioTxCalRun (cmd .radioTxCalRun []) base = true := by decide +kernel

theorem test_witness_OrbitCommands :
    ready .orbitFrameSet (cmd .orbitFrameSet [(0, 4000), (16, 1)]) base = true
    ∧ ready .orbitStageCells (cmdIn .orbitStageCells [(0, 2)] ([])) base = true
    ∧ ready .orbitHopSet (cmdIn .orbitHopSet [(0, 0), (8, 1)] ([0])) banded = true
    ∧ ready .orbitClassLoad (cmdIn .orbitClassLoad [] (class4)) base = true
    ∧ ready .orbitClassLoadRaw (cmdIn .orbitClassLoadRaw [] (class4)) base = true
    ∧ ready .orbitClassRemove (cmd .orbitClassRemove [(0, 4)]) (modOrbit base fun o => { o with classes := o.classes ++ [(4, classRecord class4)] }) = true
    ∧ ready .orbitStart (cmd .orbitStart [(0, 1), (32, 7), (96, 0xFFFFFFFF)]) base = true
    ∧ ready .orbitStop (cmd .orbitStop []) base = true
    ∧ ready .orbitStatus (cmd .orbitStatus []) base = true
    ∧ ready .orbitParentSet (cmdIn .orbitParentSet [(0, 1)] ([1, 0, 0, 0, 2, 0, 0, 0])) base = true
    ∧ ready .orbitNodeSchedule (cmd .orbitNodeSchedule [(0, home), (20, 1), (24, 127), (32, 1), (56, 50), (80, 49)]) known = true
    ∧ ready .orbitNodeStatus (cmd .orbitNodeStatus [(0, home)]) known = true
    ∧ ready .orbitReportSet (cmd .orbitReportSet []) base = true
    ∧ ready .orbitDwellStatus (cmd .orbitDwellStatus []) base = true
    ∧ ready .orbitPrepLead (cmd .orbitPrepLead [(0, 10000)]) base = true
    ∧ ready .orbitTimingSet (cmd .orbitTimingSet [(0, 200), (16, 1)]) base = true
    ∧ ready .orbitDriftSet (cmd .orbitDriftSet [(0, home), (18, 1), (32, 0xFFFF)]) known = true := by decide +kernel

theorem test_witness_NodeCommands :
    ready .nodeAdd (cmd .nodeAdd [(0, 0x55), (64, 1), (80, 1), (96, 10), (128, 9)]) base = true
    ∧ ready .nodeRemove (cmd .nodeRemove [(0, 2), (32, 0x1122)]) known = true
    ∧ ready .nodeRead (cmdOut .nodeRead [(0, 0), (16, 1), (32, home)] 64) known = true
    ∧ ready .nodeSet (cmd .nodeSet [(0, home), (20, 7), (24, 15), (32, 31), (37, 1)]) known = true
    ∧ ready .nodeWriteRaw (cmdIn .nodeWriteRaw [(0, 4 * (bucketPair base 0).1)] (List.replicate 64 0)) base = true
    ∧ ready .nodeLearnSet (cmd .nodeLearnSet [(0, 4), (32, 1)]) base = true
    ∧ ready .nodeAgeSet (cmd .nodeAgeSet []) base = true
    ∧ ready .nodeShadowSet (cmd .nodeShadowSet [(0, 1), (32, 262144), (64, 4096)]) base = true
    ∧ ready .nodeJournalRead (cmd .nodeJournalRead []) base = true
    ∧ ready .nodeTableStatus (cmd .nodeTableStatus []) base = true
    ∧ ready .nodeHashSeed (cmd .nodeHashSeed []) base = true
    ∧ ready .nodeScrubSet (cmd .nodeScrubSet [(0, 3600)]) base = true := by decide +kernel

theorem test_witness_RouteCommands :
    ready .routeAdd (cmd .routeAdd [(0, 0x20010DB800000000), (64, 32), (72, 4)]) base = true
    ∧ ready .routeRemove (cmd .routeRemove [(0, 0x20010DB800000000), (64, 32)]) (modRoute base fun r => { r with routes := [{ pfx := 0x20010DB800000000, len := 32, action := 4, target := 0 }] }) = true
    ∧ ready .routeLookup (cmd .routeLookup []) base = true
    ∧ ready .routeDefaultSet (cmd .routeDefaultSet []) base = true
    ∧ ready .routeMeshSet (cmd .routeMeshSet []) base = true
    ∧ ready .routeContextSet (cmd .routeContextSet [(0, 15), (4, 1), (8, 64)]) base = true
    ∧ ready .routeNodeSet (cmd .routeNodeSet [(0, home), (20, 1)]) known = true
    ∧ ready .routeNodeQuery (cmdOut .routeNodeQuery [(0, home)] 48) known = true
    ∧ ready .routeStatus (cmd .routeStatus []) base = true
    ∧ ready .routeLowpanSet (cmd .routeLowpanSet []) base = true
    ∧ ready .routeTrieRead (cmdOut .routeTrieRead [(0, 0), (16, 1)] 64) base = true := by decide +kernel

theorem test_witness_EthCommands :
    ready .ethPortConfig (cmd .ethPortConfig [(0, 1), (1, 5), (16, 9216), (100, 4094)]) base = true
    ∧ ready .ethPortStatus (cmd .ethPortStatus []) base = true
    ∧ ready .ethAddrSet (cmd .ethAddrSet []) base = true
    ∧ ready .ethNeighbourSet (cmd .ethNeighbourSet []) base = true
    ∧ ready .ethHostSet (cmd .ethHostSet [(0, 1), (16, 1)]) base = true
    ∧ ready .ethMacTune (cmd .ethMacTune [(0, 1), (8, 8)]) base = true := by decide +kernel

theorem test_witness_KeyCommands :
    ready .keySlotQuery (cmd .keySlotQuery []) base = true
    ∧ ready .keyGenerate (cmd .keyGenerate [(0, 127), (8, 1), (12, 4), (15, 1)]) base = true
    ∧ ready .keyImportRaw (cmdIn .keyImportRaw [(0, 1), (32, 0x00800000)] (List.replicate 16 7)) base = true
    ∧ ready .keyBlobLoad (cmdIn .keyBlobLoad [(0, 127)] (List.replicate 48 0)) base = true
    ∧ ready .keyBlobExport (cmdOut .keyBlobExport [(0, 1)] 64) keyed = true
    ∧ ready .keyBlobWrapOut (cmdOut .keyBlobWrapOut [(0, 1), (8, 2)] 24) keyed = true
    ∧ ready .keyRevoke (cmd .keyRevoke [(0, 1)]) keyed = true
    ∧ ready .keyGenMap (cmd .keyGenMap [(0, 0), (8, 1), (15, 0)]) keyed = true
    ∧ ready .keyGenQuery (cmd .keyGenQuery []) base = true
    ∧ ready .keyAttest (cmdOut .keyAttest [(0, 1)] 128) keyed = true
    ∧ ready .keySign (cmdOut .keySign [(0, 3)] 64) keyed = true
    ∧ ready .keyIdentityRead (cmdOut .keyIdentityRead [] 64) keyed = true
    ∧ ready .keyTamperStatus (cmd .keyTamperStatus []) base = true
    ∧ ready .keyTamperConfig (cmd .keyTamperConfig []) base = true
    ∧ ready .keyDebugChallenge (cmd .keyDebugChallenge []) base = true
    ∧ ready .keyDebugUnlock (cmdIn .keyDebugUnlock [] (List.replicate 128 0)) (modKey base fun k => { k with debugHash := some 0 }) = true
    ∧ ready .keyKdfVector (cmdIn .keyKdfVector [] (List.replicate 16 0)) base = true
    ∧ ready .keyDebugAuthSet (cmd .keyDebugAuthSet []) base = true := by decide +kernel

theorem test_witness_CryptCommands :
    ready .cryptStatus (cmd .cryptStatus []) base = true
    ∧ ready .cryptRouterEuiSet (cmd .cryptRouterEuiSet [(64, 1)]) base = true
    ∧ ready .cryptGenRoll (cmd .cryptGenRoll [(0, 254)]) (modKey keyed fun k => { k with genMap := modNth k.genMap 0 fun _ => some (254, 1) }) = true
    ∧ ready .cryptNodeChallenge (cmd .cryptNodeChallenge [(0, home)]) known = true
    ∧ ready .cryptRawBlock (cmd .cryptRawBlock [(0, 4), (8, 2)]) keyed = true
    ∧ ready .cryptCutThroughSet (cmd .cryptCutThroughSet [(0, 0xFFFF), (32, 513)]) base = true
    ∧ ready .cryptLaneAssign (cmd .cryptLaneAssign []) base = true
    ∧ ready .cryptCcmVector (cmdIn .cryptCcmVector [(0, 5)] (List.replicate 30 0)) base = true := by decide +kernel

theorem test_witness_QueueCommands :
    ready .queueConfig (cmd .queueConfig [(0, 63), (8, 1), (16, 16384)]) base = true
    ∧ ready .queueFlush (cmd .queueFlush []) base = true
    ∧ ready .queueStatus (cmd .queueStatus []) base = true
    ∧ ready .queueOverheadSet (cmd .queueOverheadSet [(0, 1)]) base = true
    ∧ ready .queueGateSet (cmdIn .queueGateSet [(0, 2)] ([])) base = true
    ∧ ready .queueSampleSet (cmd .queueSampleSet []) base = true
    ∧ ready .queueSamplesRead (cmd .queueSamplesRead [(0, 63), (8, 256)]) base = true
    ∧ ready .queueFwSet (cmd .queueFwSet []) base = true
    ∧ ready .queueArbClass (cmd .queueArbClass []) base = true
    ∧ ready .queueArbStarve (cmd .queueArbStarve [(0, 16)]) base = true
    ∧ ready .queueWatchdogSet (cmd .queueWatchdogSet [(0, 1000)]) base = true
    ∧ ready .queueArbStatus (cmdOut .queueArbStatus [] 256) base = true
    ∧ ready .queueWorkStatus (cmdOut .queueWorkStatus [] 96) base = true := by decide +kernel

theorem test_witness_TimeCommands :
    ready .timeSet (cmd .timeSet []) base = true
    ∧ ready .timeAdjust (cmd .timeAdjust []) base = true
    ∧ ready .timeSourceSet (cmd .timeSourceSet []) base = true
    ∧ ready .timePtpPort (cmd .timePtpPort []) base = true
    ∧ ready .timePpsConfig (cmd .timePpsConfig [(32, 500000)]) base = true
    ∧ ready .timeParentDelay (cmd .timeParentDelay []) base = true
    ∧ ready .timeIncrementSet (cmd .timeIncrementSet [(0, 0x200000000)]) base = true
    ∧ ready .timeUncClear (cmd .timeUncClear [(0, 10), (16, 1)]) base = true
    ∧ ready .timeServoSet (cmd .timeServoSet [(32, 500000), (64, 100000), (96, 10), (160, 50), (192, 10), (224, 1000)]) base = true
    ∧ ready .timeStatus (cmd .timeStatus []) base = true
    ∧ ready .timeRtcStatus (cmd .timeRtcStatus []) base = true
    ∧ ready .timePinConfig (cmd .timePinConfig []) base = true
    ∧ ready .timeTriggerConfig (cmd .timeTriggerConfig []) base = true
    ∧ ready .timeCaptureRead (cmd .timeCaptureRead []) base = true := by decide +kernel

theorem test_witness_PairCommands :
    ready .pairConfig (cmd .pairConfig []) base = true
    ∧ ready .pairStatus (cmd .pairStatus []) base = true
    ∧ ready .pairRelinquish (cmd .pairRelinquish []) (modPair { base with role := .active } fun p => { p with replica := .ready }) = true
    ∧ ready .pairForceSolo (cmd .pairForceSolo []) { base with role := .active } = true := by decide +kernel

theorem test_witness_PowerCommands :
    ready .pwrPolicySet (cmd .pwrPolicySet [(0, 22), (5, 1), (16, 60000), (32, 10)]) base = true
    ∧ ready .pwrRefSet (cmd .pwrRefSet [(0, 20000)]) base = true
    ∧ ready .pwrStatus (cmdOut .pwrStatus [] 96) base = true
    ∧ ready .pwrBlockQuery (cmd .pwrBlockQuery []) base = true
    ∧ ready .pwrDomainSet (cmd .pwrDomainSet []) base = true := by decide +kernel

theorem test_witness_UpdateCommands :
    ready .updateWrite (cmdIn .updateWrite [(0, 0)] (List.replicate 4096 0xFF)) pendingImage = true
    ∧ ready .updateActivate (cmd .updateActivate [(0, 1)]) (modFw base fun f => { f with flash := memWriteBytes 0xFF [] flashHeader header }) = true
    ∧ ready .updateStatus (cmdOut .updateStatus [] 64) base = true
    ∧ ready .campaignDefine (cmdIn .campaignDefine [(0, 9), (16, 1), (32, 64), (64, 64), (80, 1), (96, 2), (128, 1)] (List.replicate 32 0)) base = true
    ∧ ready .campaignLoad (cmdIn .campaignLoad [(0, 62)] ([1, 2])) loading = true
    ∧ ready .campaignTargets (cmdIn .campaignTargets [] ([])) base = true
    ∧ ready .campaignActivate (cmd .campaignActivate [(0, 1000)]) running = true
    ∧ ready .campaignStop (cmd .campaignStop []) base = true
    ∧ ready .campaignStatus (cmd .campaignStatus []) base = true
    ∧ ready .campaignTargetRead (cmd .campaignTargetRead [(16, 4096)]) base = true
    ∧ ready .campaignTune (cmd .campaignTune []) base = true := by decide +kernel

theorem test_witness_TestCommands :
    ready .testLinkStart (cmd .testLinkStart [(0, 3)]) base = true
    ∧ ready .testLinkResult (cmd .testLinkResult [(0, 3)]) (setRun base 3 (newRun base 0)) = true
    ∧ ready .testRadioStart (cmd .testRadioStart [(0, 0), (2, 2), (5, 1), (32, 1), (64, 21), (80, 100)]) base = true
    ∧ ready .testRadioResult (cmd .testRadioResult [(0, 0)]) (setRun base 5 (newRun base 0)) = true
    ∧ ready .testStop (cmd .testStop []) base = true
    ∧ ready .testStatus (cmd .testStatus []) base = true
    ∧ ready .testTelemetryRead (cmd .testTelemetryRead [(0, 1024)]) base = true
    ∧ ready .testTelemetrySet (cmd .testTelemetrySet [(0, 10)]) base = true
    ∧ ready .testWatchdogSet (cmd .testWatchdogSet [(0, 10), (16, 2000)]) base = true
    ∧ ready .testFaultInject (cmd .testFaultInject [(0, 2), (4, 63)]) base = true := by decide +kernel

theorem test_witness_LongCommandsStart_piece :
    let e := cmdIn .nodeCounterRestore [] [0x4B]
    ready .nodeCounterRestore e { base with part := .coldWait } = true ∧ (takePiece (arrived e { base with part := .coldWait }) e).2.status = stOk := by
  decide +kernel

theorem test_witness_RadioReceiveReads_snapshot :
    let e := cmdOut .radioSnapshotRead [] 4
    let s := modRadio onA fun r => { r with snapshots := r.snapshots ++
      [{ id := 0, band := 0, power := false, units := 1, trigger := 0, triggerId := 0, avgMs := 1, startNs := 0, state := .capturing, firstNs := 0
         blanks := [], data := [] }] }
    ready .radioSnapshotRead e snapped = true ∧ (snapOf (arrived e snapped) 0).map (·.state) = some .complete
    ∧ ready .radioSnapshotRead e s = true ∧ (snapOf (arrived e s) 0).map (·.state) = some .capturing := by decide +kernel

/-- RADIO_TX_AT of three bytes on channel 500 of band A. -/
def direct : CmdEntry := cmdIn .radioTxAt [(0, 0), (16, 500), (32, 1), (64, 200000)] [1, 2, 3]

theorem test_witness_RadioBands_clauses :
    (let e := cmd .radioBandEnable []
     ready .radioBandEnable e (setBand banded .bandA .fault) = true ∧ ready .radioBandEnable e banded = true)
    ∧ (ready .radioTxAt direct slotted = true ∧ (profileOf (arrived direct slotted) 1).isSome = true
        ∧ ((profileOf (arrived direct slotted) 1).map fun p =>
            let l := directLaunch direct (arrived direct slotted) p
            dwellRefuser (arrived direct slotted) (argBand direct) l.channel l.tL l.airNs) = some none)
    ∧ (let s := modRadio slotted fun r => { r with regions := [(1, { region with dwellLimitMs := 0 })] }
       ready .radioTxAt direct s = true
         ∧ ((profileOf (arrived direct s) 1).map fun p =>
            let l := directLaunch direct (arrived direct s) p
            (dwellRefuser (arrived direct s) (argBand direct) l.channel l.tL l.airNs).isSome) = some true)
    ∧ (let e := cmd .radioTxCalRun [(4, 7)]
       ready .radioTxCalRun e base = true ∧ argBits e 6 4 ≠ 0)
    ∧ (let e := cmd .radioTxCalRun [(0, 2)]
       ready .radioTxCalRun e base = true ∧ argBits e 6 4 = 0) := by decide +kernel

theorem test_witness_NodeCommands_clauses :
    (let e := cmd .nodeAdd [(0, 0x55), (64, 1), (80, 1), (96, 10), (128, 9)]
     ready .nodeAdd e base = true ∧ assignAddr (arrived e base) 0x55 = some (addrHash 0x55 0)
       ∧ (insertEntry (arrived e base) (addedEntry e (arrived e base) (addrHash 0x55 0))).2.isSome = true)
    ∧ (let e := cmd .nodeRemove [(0, 2), (32, 0x1122)]
       ready .nodeRemove e known = true ∧ keyIndex e (arrived e known) = some home ∧ nodeAt (arrived e known) home = some node)
    ∧ (let e := cmdOut .nodeRead [(0, 0), (16, 1), (32, home)] 64
       ready .nodeRead e known = true ∧ keyIndex e (arrived e known) = some home)
    ∧ (let e := cmd .nodeSet [(0, home)]
       ready .nodeSet e known = true ∧ nodeAt (arrived e known) home = some node) := by decide +kernel

theorem test_witness_RouteCommands_node :
    let e := cmdOut .routeNodeQuery [(0, home)] 48
    ready .routeNodeQuery e known = true ∧ nodeAt (arrived e known) home = some node := by decide +kernel

theorem test_witness_OrbitCommands_node :
    let e := cmd .orbitNodeSchedule [(0, home), (20, 1), (24, 127), (32, 1), (56, 50), (80, 49)]
    ready .orbitNodeSchedule e known = true ∧ nodeAt (arrived e known) home = some node := by decide +kernel

/-- The key of slot 2. -/
def wrapping : List Byte := slotMaterial (slotOf keyed 2)

theorem test_witness_KeyCommands_slots :
    (readSlot keyed 2).2 = some wrapping ∧ (readSlot keyed 1).2.isSome = true ∧ (readSlot keyed 0).2.isSome = true
    ∧ (readSlot keyed 3).2.isSome = true ∧ (wrapKey keyed).isSome = true := by decide +kernel

theorem test_witness_CryptCommands_clauses :
    nodeAt (arrived (cmd .cryptNodeChallenge [(0, home)]) known) home = some node
    ∧ (let e := cmd .cryptRawBlock [(0, 4), (8, 1)]
       ready .cryptRawBlock e keyed = true ∧ masksOut (arrived e keyed) = false ∧ (rawBlocks e (arrived e keyed)).2.status = stOk)
    ∧ (let e := cmd .cryptRawBlock [(0, 4), (8, 2)]
       let s := modKey keyed fun k => { k with entRestart := true, reserve := 31 }
       ready .cryptRawBlock e s = true ∧ masksOut (arrived e s) = true) := by decide +kernel

/-- PAIR_CONFIG that forms a pair with the key of slot 5. -/
def pairing : CmdEntry := cmd .pairConfig [(0, 1), (2, 1000), (16, 5000), (32, 1000), (48, 1000), (64, 1000), (80, 5), (88, 5)]

/-- PAIR_LOCAL_APPLY of a band's path delay. -/
def localApply : CmdEntry :=
  cmdIn .pairLocalApply [] (leBytes 4 (cmdCode .radioTxPathDelay) ++ List.replicate 20 0 ++ leBytes 4 0x00C80002 ++ List.replicate 36 0)

theorem test_witness_PairCommands_clauses :
    (ready .pairConfig (cmd .pairConfig []) base = true ∧ argBit (cmd .pairConfig []) 0 = false)
    ∧ (ready .pairConfig pairing keyed = true ∧ argBit pairing 0 = true
        ∧ (closeGate { arrived pairing keyed with role := .undecided }).pair.link ≠ .up)
    ∧ (admitted .pairLocalApply localApply base = true ∧ localApply.stageId = 0 ∧ partRefuses (arrived localApply base) localApply .pairLocalApply = false
        ∧ entryCmd (innerEntry (arrived localApply base) localApply) = some .radioTxPathDelay ∧ unitLocal .radioTxPathDelay = true
        ∧ (innerEntry (arrived localApply base) localApply).stageId = 0
        ∧ firstRefusal .radioTxPathDelay (innerEntry (arrived localApply base) localApply) { arrived localApply base with role := .single }
            (arrived localApply base) = none) := by decide +kernel

theorem test_witness_PowerCommands_clauses :
    (let e := cmd .pwrDomainSet [(32, 0x80)]
     ready .pwrDomainSet e base = true ∧ argBits e 1 0 = 0
       ∧ ((List.range 24).all fun d => !bitOf (argBits e 63 32) d || (domOf (arrived e base) d).state == .on) = true)
    ∧ (let e := cmd .pwrDomainSet [(32, 0x80)]
       let s := modDom base 7 fun x => { x with state := .off }
       ready .pwrDomainSet e s = true
         ∧ ((List.range 24).all fun d => !bitOf (argBits e 63 32) d || (domOf (arrived e s) d).state == .on) = false)
    ∧ (let e := cmd .pwrDomainSet [(0, 1), (32, 0x80)]
       ready .pwrDomainSet e base = true ∧ argBits e 1 0 ≠ 0
         ∧ ((lowerOrder (argBits e 63 32)).all fun d => inLow (arrived e base) d (argBits e 1 0 == 2)) = false) := by decide +kernel

theorem test_witness_TestCommands_radio :
    (let e := cmd .testRadioStart [(16, 1000)]
     let s := { base with pair := { base.pair with gateOpen := true } }
     ready .testRadioStart e s = true ∧ argBits e 4 2 ≤ 1)
    ∧ (let e := cmd .testRadioStart [(2, 3), (32, 1), (64, 21), (80, 100)]
       let s := { base with pair := { base.pair with gateOpen := true } }
       ready .testRadioStart e s = true ∧ argBits e 4 2 = 3)
    ∧ (let e := cmd .testRadioStart [(2, 4), (32, 1), (64, 21)]
       ready .testRadioStart e base = true ∧ 3 < argBits e 4 2
         ∧ freeCtx base (((profileOf base 1).map isOfdm).getD false) (fun c => c.purpose == .background) = some 0)
    ∧ (runOf (arrived (cmd .testRadioResult []) (setRun base 5 (newRun base 0))) 5).isSome = true := by decide +kernel

/-- A state in which one long command works. -/
def working (s : State) (e : CmdEntry) : State := { s with host := { s.host with longOps := [{ e := e, since := 0, ref := 0 }] } }

/-- The command works under its session and tag. -/
def worksIn (s : State) (c : CmdId) (e : CmdEntry) : Prop := worksAs e.session (entryTag e) { e := e, since := 0, ref := 0 } c (working s e)

theorem test_witness_LongCommandsEnd_part :
    worksIn base .sysFunctionReset (cmd .sysFunctionReset [(0, 11)])
    ∧ (worksIn { base with quiescing := true } .sysQuiesce (cmd .sysQuiesce []) ∧ flightsDone base = true)
    ∧ worksIn { base with part := .quiesced } .sysResume (cmd .sysResume [])
    ∧ worksIn { base with part := .quiesced } .nodeCounterSnapshot (cmdOut .nodeCounterSnapshot [] 16)
    ∧ worksIn { base with part := .coldWait } .nodeCounterRestore (cmdIn .nodeCounterRestore [] [1])
    ∧ worksIn { base with part := .coldWait } .nodeColdChallenge (cmd .nodeColdChallenge [])
    ∧ worksIn base .nodeTableLoad (cmdIn .nodeTableLoad [] [])
    ∧ worksIn base .ethPortConfig (cmd .ethPortConfig []) := by unfold worksIn worksAs; decide +kernel

theorem test_witness_LongCommandsEnd_other :
    worksIn base .keyIdentityGenerate (cmd .keyIdentityGenerate [])
    ∧ (worksAs (.mbox .priv) 0 { e := cmd .keyLifecycleAdvance [], since := 0, ref := 3 } .keyLifecycleAdvance
          { base with host := { base.host with longOps := [{ e := cmd .keyLifecycleAdvance [], since := 0, ref := 3 }] } }
        ∧ advanceTarget base.key.lifecycle 3 = some .field)
    ∧ (worksIn keyed .cryptRawBlock (cmd .cryptRawBlock [(0, 4), (8, 2)]) ∧ masksOut keyed = false)
    ∧ (worksIn base .pairConfig (cmd .pairConfig []) ∧ base.role ≠ .undecided)
    ∧ (worksIn (modPair { base with role := .standby } fun p => { p with seen := 1 }) .pairRelinquish (cmd .pairRelinquish [])
        ∧ (modPair base fun p => { p with seen := 1 }).pair.claim.toNat < 1)
    ∧ worksIn base .updateBegin (cmdIn .updateBegin [] [])
    ∧ (worksIn fullImage .updateVerify (cmd .updateVerify []) ∧ pendingHeader fullImage = some header)
    ∧ (worksIn base .updateActivate (cmd .updateActivate [(0, 1)]) ∧ argBit (cmd .updateActivate [(0, 1)]) 0 = true)
    ∧ (worksIn probing .updateRevert (cmd .updateRevert []) ∧ probing.fw.onProbation = true ∧ probing.fw.old.isSome = true)
    ∧ worksIn probing .updateConfirm (cmd .updateConfirm [])
    ∧ (worksIn loading .campaignStart (cmd .campaignStart []) ∧ loading.cmp.state = .loading) := by unfold worksIn worksAs; decide +kernel

/-- NODE_TABLE_LOAD of an image of zeros, which holds no valid entry. -/
def emptyImage : CmdEntry := { cmdIn .nodeTableLoad [] [] with bufLen := 16777216 }

theorem imageEntries_zeros (n : Nat) : imageEntries (List.replicate n 0) = [] := by
  have hs : ∀ off, sliceBytes (List.replicate n (0 : Byte)) off 64 = List.replicate 64 0 := by
    intro off
    have hl : min 64 (n - off) + (64 - min 64 (n - off)) = 64 := by omega
    rw [sliceBytes, List.drop_replicate, List.take_replicate, List.length_replicate, List.replicate_append_replicate, hl]
  have hv : entryValid (List.replicate 64 (0 : Byte)) = false := by decide +kernel
  rw [imageEntries, List.filterMap_eq_nil_iff]
  intro i _
  rw [hs]
  show (if entryValid (List.replicate 64 0) = true then _ else none) = none
  rw [hv]
  rfl

theorem sliceBytes_nil (n : Nat) : sliceBytes [] 0 n = List.replicate n 0 := by simp [sliceBytes]

theorem emptyImage_entries : imageEntries (inBuf emptyImage) = [] := by
  have hb : inBuf emptyImage = List.replicate emptyImage.bufLen.toNat 0 := sliceBytes_nil _
  rw [hb, imageEntries_zeros]

theorem nodeTableLoad_check (e : CmdEntry) (s : State) : (fnImpl .nodeTableLoad).check .now e s
    = orRefuse (refuseIf (s.part != .coldWait && !s.node.table.isEmpty) stRefusedState)
      (refuseIf (!imageOk s (imageEntries (inBuf e))) stBadArg) := rfl

theorem test_witness_LongCommandsStart_image : ready .nodeTableLoad emptyImage base = true := by
  have h1 : admitted .nodeTableLoad emptyImage base = true := by decide +kernel
  have h2 : lastRefusal .now .nodeTableLoad emptyImage (arrived emptyImage base) = none := by
    have hp : partRefuses (arrived emptyImage base) emptyImage .nodeTableLoad = false := by decide +kernel
    have ht : (arrived emptyImage base).node.table.isEmpty = true := by decide +kernel
    rw [lastRefusal, hp, nodeTableLoad_check, emptyImage_entries, ht]
    simp [orRefuse, refuseIf, imageOk]
  have h3 : ((cmdSpec .nodeTableLoad).reads || !conflicts (arrived emptyImage base) emptyImage) = true := by
    have hl : liveStages (arrived emptyImage base) = [] := by decide +kernel
    unfold conflicts
    rw [hl]
    simp
  have h4 : tooLong emptyImage (cmdSpec .nodeTableLoad) ((fnImpl .nodeTableLoad).apply .now emptyImage (arrived emptyImage base)).2 = false := by decide +kernel
  have h0 : (emptyImage.stageId == 0) = true := rfl
  rw [ready, h1, h2, h3, h4, h0]
  rfl

/-- UPDATE_BEGIN of a header of 256 bytes. -/
def begins (h : List Byte) : CmdEntry := { cmdOut .updateBegin [] 256 with buf := h }

theorem updateBegin_check (e : CmdEntry) (s : State) : (fnImpl .updateBegin).check .now e s
    = orRefuse (refuseIf (s.fw.onProbation && s.fw.old.isSome) stUpdateSequence) (refuseIf (!headerOk s (inBuf e)) stImageBad) := rfl

theorem inBuf_begins {h : List Byte} (hl : h.length = 256) : inBuf (begins h) = h := by
  have hb : inBuf (begins h) = sliceBytes h 0 256 := rfl
  rw [hb, sliceBytes, List.drop_zero, ← hl, List.take_length, hl]
  simp

theorem arrived_begins (h : List Byte) : arrived (begins h) base = arrived (begins []) base := rfl

theorem admitted_begins (h : List Byte) : admitted .updateBegin (begins h) base = admitted .updateBegin (begins []) base := rfl

/-- Whether a header's signature verifies rests on a key that the part holds (log 6), so the witness is: every header the part accepts. -/
theorem test_witness_UpdateCommands_begin {h : List Byte} (hk : headerOk base h = true) : ready .updateBegin (begins h) base = true := by
  have hl : h.length = 256 := by
    simp only [headerOk, Bool.and_eq_true, beq_iff_eq] at hk
    omega
  have hk' : headerOk (arrived (begins []) base) h = headerOk base h := rfl
  have h1 : admitted .updateBegin (begins []) base = true := by decide +kernel
  have hp : partRefuses (arrived (begins []) base) (begins h) .updateBegin = false := by
    have : partRefuses (arrived (begins []) base) (begins h) .updateBegin = partRefuses (arrived (begins []) base) (begins []) .updateBegin := rfl
    rw [this]; decide +kernel
  have hf : ((arrived (begins []) base).fw.onProbation && (arrived (begins []) base).fw.old.isSome) = false := by decide +kernel
  have h2 : lastRefusal .now .updateBegin (begins h) (arrived (begins []) base) = none := by
    rw [lastRefusal, hp, updateBegin_check, inBuf_begins hl, hk', hk, hf]
    rfl
  have h3 : ((cmdSpec .updateBegin).reads || !conflicts (arrived (begins []) base) (begins h)) = true := by
    have : conflicts (arrived (begins []) base) (begins h) = conflicts (arrived (begins []) base) (begins []) := rfl
    rw [this]; decide +kernel
  have h4 : tooLong (begins h) (cmdSpec .updateBegin) ((fnImpl .updateBegin).apply .now (begins h) (arrived (begins []) base)).2 = false := rfl
  have h0 : ((begins h).stageId == 0) = true := rfl
  rw [ready, admitted_begins, arrived_begins, h1, h2, h3, h4, h0]
  rfl

/-- The key and the data of the 128-bit example of RFC 3394. -/
def kek : List Byte := beBytes 16 0x000102030405060708090A0B0C0D0E0F

theorem unwrap_pass1 : unwrapPass kek 12 (beBytes 8 0x1FA68B0A8112B447) [beBytes 8 0x9D3E862371D2CFE5, beBytes 8 0xAEF34BD8FB5A7B82]
    = (beBytes 8 6529228934383156044, [beBytes 8 5752172836115430210, beBytes 8 13695810629572495745]) := by decide +kernel

theorem unwrap_pass2 : unwrapPass kek 10 (beBytes 8 6529228934383156044) [beBytes 8 5752172836115430210, beBytes 8 13695810629572495745]
    = (beBytes 8 5469848907198773877, [beBytes 8 7258366094040461499, beBytes 8 13066863773179899986]) := by decide +kernel

theorem unwrap_pass3 : unwrapPass kek 8 (beBytes 8 5469848907198773877) [beBytes 8 7258366094040461499, beBytes 8 13066863773179899986]
    = (beBytes 8 16424232443190999281, [beBytes 8 17386256016787417354, beBytes 8 2735272315378553857]) := by decide +kernel

theorem unwrap_pass4 : unwrapPass kek 6 (beBytes 8 16424232443190999281) [beBytes 8 17386256016787417354, beBytes 8 2735272315378553857]
    = (beBytes 8 6383547426727141439, [beBytes 8 554714161401472764, beBytes 8 18333746609216369760]) := by decide +kernel

theorem unwrap_pass5 : unwrapPass kek 4 (beBytes 8 6383547426727141439) [beBytes 8 554714161401472764, beBytes 8 18333746609216369760]
    = (beBytes 8 484786487434841353, [beBytes 8 15074372827391883000, beBytes 8 8416813169816110567]) := by decide +kernel

theorem unwrap_pass6 : unwrapPass kek 2 (beBytes 8 484786487434841353) [beBytes 8 15074372827391883000, beBytes 8 8416813169816110567]
    = (beBytes 8 0xA6A6A6A6A6A6A6A6, [beBytes 8 0x8899AABBCCDDEEFF, beBytes 8 0x0011223344556677]) := by decide +kernel

/-- The wrapped data of the example, 24 bytes. -/
def wrapped : List Byte := beBytes 24 0x1FA68B0A8112B447AEF34BD8FB5A7B829D3E862371D2CFE5

theorem unwrapPasses_step {k : List Byte} {n t : Nat} {a a' : List Byte} {rs rs' : List (List Byte)} (h : unwrapPass k t a rs = (a', rs')) :
    unwrapPasses k (n + 1) t a rs = unwrapPasses k n (t - rs.length) a' rs' := by rw [unwrapPasses, h]

theorem unwrap_passes : unwrapPasses kek 6 12 (beBytes 8 0x1FA68B0A8112B447) [beBytes 8 0x9D3E862371D2CFE5, beBytes 8 0xAEF34BD8FB5A7B82]
    = (beBytes 8 0xA6A6A6A6A6A6A6A6, [beBytes 8 0x8899AABBCCDDEEFF, beBytes 8 0x0011223344556677]) :=
  (unwrapPasses_step unwrap_pass1).trans <| (unwrapPasses_step unwrap_pass2).trans <| (unwrapPasses_step unwrap_pass3).trans <|
    (unwrapPasses_step unwrap_pass4).trans <| (unwrapPasses_step unwrap_pass5).trans <| unwrapPasses_step unwrap_pass6

/-- RFC 3394, 4.1: 128 bits of key data under a 128-bit key. -/
theorem test_rfc3394_unwrap : keyUnwrap kek wrapped = some (beBytes 16 0x00112233445566778899AABBCCDDEEFF) := by
  have h0 : wrapped.take 8 = beBytes 8 0x1FA68B0A8112B447 := by decide +kernel
  have h1 : (chunks8 (wrapped.length / 8 - 1) (wrapped.drop 8)).reverse = [beBytes 8 0x9D3E862371D2CFE5, beBytes 8 0xAEF34BD8FB5A7B82] := by
    decide +kernel
  have h2 : wrapped.length / 8 - 1 = 2 := by decide +kernel
  have h3 (n : Nat) (d : List Byte) (hn : d.length / 8 - 1 = n) : keyUnwrap kek d =
      if (unwrapPasses kek 6 (6 * n) (d.take 8) (chunks8 n (d.drop 8)).reverse).1 == List.replicate 8 0xA6
      then some (unwrapPasses kek 6 (6 * n) (d.take 8) (chunks8 n (d.drop 8)).reverse).2.reverse.flatten else none := by
    subst hn; rfl
  rw [h2] at h1
  rw [h3 2 wrapped h2, h0, h1, show 6 * 2 = 12 from rfl, unwrap_passes]
  decide +kernel

/-- Slot 2 holds that key. -/
def rfcKeyed : State := modKey keyed fun k => { k with slots := modNth k.slots 2 fun x =>
  let y := { x with share0 := 0, share1 := 0x000102030405060708090A0B0C0D0E0F }
  { y with check := slotCheck y } }

theorem test_witness_KeyCommands_unwrap :
    ready .keyImportWrapped (cmdIn .keyImportWrapped [(0, 6), (8, 2), (32, 0x00800000)] wrapped) rfcKeyed = true
    ∧ (readSlot rfcKeyed 2).2 = some kek ∧ keyUnwrap kek wrapped = some (beBytes 16 0x00112233445566778899AABBCCDDEEFF) :=
  ⟨by decide +kernel, by decide +kernel, test_rfc3394_unwrap⟩

/-! Witnesses of the events' statements: hypotheses at states and operands that meet them. -/

/-- The part after 1000 s. -/
def late : State := { base with upNs := 1000000000000 }

/-- A domain of the part after 1000 s is changed. -/
def dom (d : Nat) (f : Domain → Domain) : State := modDom late d f

theorem test_witness_DomainRows :
    (let s := dom 14 fun x => { x with policy := 1, since := 999900000000 }
     (domOf s 14).policy = 1 ∧ (domOf s 14).state = .on ∧ (domOf s 14).request = none ∧ lockedDom s 14 = false
       ∧ (domOf s 14).since + (domOf s 14).hsPeriodMs * 1000000 ≤ s.upNs ∧ mayEnter s 14 (domOf s 14).targetOff = true)
    ∧ (let s := dom 14 fun x => { x with request := some (true, false) }
       (domOf s 14).state = .on ∧ (domOf s 14).request = some (true, false)
         ∧ mayEnter (modDom s 14 fun x => { x with answers := [1] }) 14 true = true)
    ∧ ([BlockAnswer.agree, .refuse].findIdx? (· == .refuse) = some 1)
    ∧ (let s := dom 2 fun x => { x with delaying := [1], since := 999999900000 }
       (domOf s 2).state = .on ∧ 1 ∈ (domOf s 2).delaying ∧ (domOf s 2).since + domDelayUs 2 * 1000 ≤ s.upNs)
    ∧ (let s := modDom (setBand late .bandA .on) 22 fun x => { x with policy := 2, since := 999999000000 }
       (domOf s 22).policy = 2 ∧ (domOf s 22).state = .on ∧ (domOf s 22).request = none
         ∧ (domOf s 22).since + (domOf s 22).idleUs * 1000 ≤ s.upNs ∧ lockedDom s 22 = true)
    ∧ (let s := dom 22 fun x => { x with policy := 2, since := 999999000000 }
       (domOf s 22).policy = 2 ∧ (domOf s 22).state = .on ∧ (domOf s 22).request = none
         ∧ (domOf s 22).since + (domOf s 22).idleUs * 1000 ≤ s.upNs ∧ lockedDom s 22 = false)
    ∧ (let s := dom 16 fun x => { x with state := .entering, request := some (false, false), since := 999999995000 }
       (domOf s 16).state = .entering ∧ (domOf s 16).request = some (false, false) ∧ (domOf s 16).wakeNext = false ∧ (16 : Nat) ≠ domRef
         ∧ (domOf s 16).since + domEntryNs 16 ≤ s.upNs)
    ∧ (let s := dom 19 fun x => { x with state := .off }
       ∀ x ∈ wakeCascade 19 ++ [19], (domOf s x).request = none)
    ∧ (let s := dom 1 fun x => { x with state := .waking, wasOff := true, since := 999999650000 }
       (domOf s 1).state = .waking ∧ (1 : Nat) ≠ domRef ∧ (domOf s 1).since + domWakeNs 1 (domOf s 1).wasOff ≤ s.upNs
         ∧ (domOf (wakeAnswers (domWoken (modDom s 1 fun x => { x with state := .on, since := s.upNs }) 1 (domOf s 1).wasOff)) 1).state = .on) := by
  decide +kernel

theorem test_witness_KeyRows :
    (let s := { keyed with upNs := 100000000 }
     domState s domKey = .on ∧ s.key.remaskAt + 100000000 ≤ s.upNs)
    ∧ ((slotOf keyed 3).state = .loaded ∧ slotCheck (slotOf keyed 3) = (slotOf keyed 3).check ∧ keyed.key.entRestart = false)
    ∧ (let s := modSlot keyed 127 fun x => { x with state := .revoked }
       (slotOf s 127).state = .revoked ∧ (slotOf s 127).refs = 0)
    ∧ (let s := modKey keyed fun k => { k with entRestart := true, reserve := 16 }
       s.key.entRestart = true ∧ 16 ≤ s.key.reserve) := by decide +kernel

/-- Ethernet port 1 at work in mode 5 with its link up and the address FE80::1. -/
def wired : State := modEth late 1 fun p =>
  { p with mode := 5, up := true, mac := 0x020000000001, hostEn := true, addrs := [some 0xFE800000000000000000000000000001, none, none, none] }

/-- A frame of 60 bytes or more to a MAC address. -/
def frameTo (mac ethType : Nat) (body : List Byte) : List Byte :=
  beBytes 6 mac ++ beBytes 6 0x020000000002 ++ beBytes 2 ethType ++ body ++ List.replicate (46 - body.length) 0

/-- An IPv6 packet of 24 payload bytes. -/
def ipTo (next dst : Nat) (payload : List Byte) : List Byte :=
  [0x60, 0, 0, 0, 0, 24, BitVec.ofNat 8 next, 255] ++ beBytes 16 0xFE800000000000000000000000000002 ++ beBytes 16 dst ++ payload
    ++ List.replicate (24 - payload.length) 0

/-- A Neighbor Solicitation for FE80::1. -/
def solicit : List Byte := ipTo 58 0xFF0200000000000000000001FF000001 ([135, 0, 0, 0, 0, 0, 0, 0] ++ beBytes 16 0xFE800000000000000000000000000001)

theorem test_witness_EthernetRows :
    ((ethOf wired 1).up = true ∧ (ethOf wired 1).mode ≠ 0 ∧ resourceTested wired 1 = false)
    ∧ (let f := frameTo 0x020000000003 0x0800 []
       f.length = 60 ∧ beNat (sliceBytes f 12 2) ≠ 0x88F7 ∧ macOurs (ethOf wired 1) (beNat (sliceBytes f 0 6)) = false)
    ∧ (let f := frameTo 0x020000000001 0x8100 []
       leAt f 12 2 = 0x0081 ∧ (ethOf wired 1).vlanId = 0)
    ∧ (let f := frameTo 0x3333FF000001 0x86DD solicit
       leAt f 12 2 ≠ 0x0081 ∧ macOurs (ethOf wired 1) (beNat (sliceBytes f 0 6)) = true
         ∧ (f.drop 14).take (40 + beNat (sliceBytes (f.drop 14) 4 2)) = solicit
         ∧ solicitTarget (ethOf wired 1) solicit = some 0xFE800000000000000000000000000001)
    ∧ (let p := ipTo 17 0x20010DB8000000000000000000000005 []
       40 ≤ p.length ∧ solicitTarget (ethOf wired 1) p = none ∧ ipDst p / 2 ^ 120 ≠ 0xFF
         ∧ ownAddress (ethCount wired 1 ecRxFrames) (ipDst p) = false)
    ∧ (macOurs (ethOf wired 1) (beNat (sliceBytes (frameTo 0xFFFFFFFFFFFF 0x0806 []) 0 6)) = true ∧ (ethOf wired 1).hostEn = true) := by
  decide +kernel

/-- An Announce. -/
def announce (sender prio : Nat) : PtpAnnounce :=
  { domain := 0, sender := BitVec.ofNat 80 sender, priority1 := BitVec.ofNat 8 prio, clockClass := 6, accuracy := 0x20, variance := 0
    priority2 := 0, gmIdentity := 1, stepsRemoved := 0, utcOffset := 37, unsupported := false }

/-- Port 1 follows sender 7, with an exchange open. -/
def slave : State := modPtp wired 1 fun q => { q with role := 1, master := some ⟨announce 7 10, 0⟩, exchange := some (3, 100, 200, 300) }

/-- Port 1 is a master that was never heard. -/
def master : State := modCrypt (modPtp wired 1 fun q => { q with role := 2 }) fun c => { c with routerEui := 1 }

/-- A Sync of sender 7. -/
def sync : PtpSync := { domain := 0, sender := 7, seqId := 3, t1 := 100, t2 := 200, t3 := 300, unsupported := false }

theorem test_witness_EthernetRows_ptp :
    (ptpLive slave 1 = true ∧ slave.clk.frozen = none ∧ (ptpOf slave 1).role = 1 ∧ (ptpOf slave 1).master = some ⟨announce 7 10, 0⟩
      ∧ sync.unsupported = false ∧ sync.domain.toNat = (ptpOf slave 1).domain ∧ sync.sender = (announce 7 10).sender
      ∧ ({ sync with unsupported := true }).unsupported = true)
    ∧ (let s := modPtp slave 1 fun q => { q with master := none }
       (ptpOf s 1).role = 1 ∧ ptpLive s 1 = true ∧ (ptpOf s 1).master = none ∧ (announce 7 10).domain.toNat = (ptpOf s 1).domain)
    ∧ ((announce 8 9).sender ≠ (announce 7 10).sender ∧ listLt (announceKey (announce 8 9)) (announceKey (announce 7 10)) = true
      ∧ listLt (announceKey (announce 8 11)) (announceKey (announce 7 10)) = false)
    ∧ ((ptpOf slave 1).exchange = some (3, 100, 200, 300))
    ∧ (ptpLive master 1 = true ∧ masterSends master 1 = true
      ∧ intervalDue master (ptpOf master 1).syncSentAt (ptpOf master 1).logSync = true
      ∧ intervalDue master (ptpOf master 1).annSentAt (ptpOf master 1).logAnnounce = true)
    ∧ (let s := modPtp master 1 fun q => { q with syncSentAt := some (1000000000000 - 125000000), annSentAt := some (1000000000000 - 2000000000) }
       intervalDue s (ptpOf s 1).syncSentAt (ptpOf s 1).logSync = true ∧ intervalDue s (ptpOf s 1).annSentAt (ptpOf s 1).logAnnounce = true) := by
  decide +kernel

/-- An event pin is programmed. -/
def pinned (f : PinProg → PinProg) : State := modClk late fun c => { c with pins := modNth c.pins 15 f }

theorem test_witness_TimeRows :
    (late.clk.frozen = none ∧ late.clk.nextUpdate ≤ nowNs late)
    ∧ (let s := modClk late fun c => { c with srcs := modNth c.srcs 2 fun x => { x with valid := true, heardAt := 997000000000 } }
       (srcOf s.clk 3).valid = true ∧ (srcOf s.clk 3).heardAt + 3000000000 ≤ s.upNs)
    ∧ (let s := modClk slave fun c => { c with srcs := modNth c.srcs 1 fun x => { x with valid := true, heardAt := 999625000000 } }
       (srcOf s.clk 2).valid = true ∧ (ptpOf s (2 - 1)).master = some ⟨announce 7 10, 0⟩
         ∧ (srcOf s.clk 2).heardAt + 3 * logInterval (ptpOf s (2 - 1)).logSync ≤ s.upNs)
    ∧ (late.clk.ppsOutRise = none)
    ∧ (let s := pinned fun p => { p with mode := 5 }
       (nth PinProg.reset s.clk.pins 15).mode = 5 ∧ (nth PinProg.reset s.clk.pins 15).fifo.length < 16)
    ∧ (let s := pinned fun p => { p with mode := 3, fifo := List.replicate 16 0 }
       (nth PinProg.reset s.clk.pins 15).mode = 3 ∧ 16 ≤ (nth PinProg.reset s.clk.pins 15).fifo.length)
    ∧ (let s := pinned fun p => { p with nextEdge := some 0 }
       (nth PinProg.reset s.clk.pins 15).nextEdge = some 0 ∧ 0 + (nth PinProg.reset s.clk.pins 15).delayNs ≤ nowNs s)
    ∧ (let s := modClk late fun c => { c with trigs := modNth c.trigs 13 fun x => { x with kind := 1, nextFire := some 0 } }
       (s.clk.trigs[13]?).map (·.nextFire) = some (some 0) ∧ 0 ≤ nowNs s)
    ∧ (let s := { late with upNs := 3600000000000 }
       sourceList s = [] ∧ s.clk.uncFrom + s.clk.uncFreeS * 1000000000 ≤ s.upNs ∧ s.clk.uncertain = true)
    ∧ (let s := dom 23 fun x => { x with state := .entering }
       (domOf s domRef).state = .entering ∧ s.clk.frozen = none ∧ (domOf s domRef).wakeNext = false ∧ mayEnter s domRef true = true
         ∧ ethInUse s = false ∧ bandsNotOff s = false)
    ∧ (let s := modClk (dom 23 fun x => { x with state := .waking, since := 999997000000 }) fun c =>
         { c with frozen := some { tFreeze := 0, fracFreeze := 0, atNs := 0 } }
       s.clk.frozen = some { tFreeze := 0, fracFreeze := 0, atNs := 0 } ∧ (domOf s domRef).state = .waking
         ∧ (domOf s domRef).since + s.pwr.refSettleUs * 1000 ≤ s.upNs) := by decide +kernel

theorem test_witness_TimeRows_resume :
    let s := modClk (dom 23 fun x => { x with state := .waking, since := 999997000000 }) fun c =>
      { c with frozen := some { tFreeze := 0, fracFreeze := 0, atNs := 0 } }
    let g := gapPeriods s (s.upNs - 0)
    (wakeAnswers (modDom (resumeClock g.2 g.1) domRef fun x => { x with state := .on, since := g.2.upNs })).clk.frozen = none := rfl

theorem test_witness_TapInstructions :
    vendorAvailable { base with test := { base.test with held := true } } 0x80 = false ∧ base.test.held = false
    ∧ ({ base with test := { base.test with held := true } }).test.held = true ∧ vendorAvailable base 0xFF = false := by decide +kernel

/-- A stored image whose body is 4,096 erased bytes. -/
def stored : State :=
  let h := leBytes 4 0x4B564649 ++ leBytes 2 1 ++ leBytes 2 0x7316 ++ List.replicate 16 0 ++ leBytes 4 4096 ++ List.replicate 4 0
    ++ beBytes 32 0xF47A8EC3E9AFF2318D896942282AD4FE37D6391C82914F54A5DA8A37DE1300C6 ++ List.replicate 192 0
  modFw base fun f => { f with flash := memWriteBytes 0xFF [] flashHeader h }

/-- Its header. -/
def storedHdr : List Byte := (storedHeader stored).getD []

theorem storedHdr_bodyLen : hdrBodyLen storedHdr = 4096 := by decide +kernel

theorem stored_below : (∀ c ∈ stored.fw.flash, c.1 < flashBody) := by decide +kernel

/-- The hash after `n` blocks of 64 erased bytes. -/
def erasedBlocks : Nat → List W32 → List W32
  | 0, h => h
  | n + 1, h => erasedBlocks n (shaBlock h (List.replicate 64 0xFF))

theorem shaBlocks_erased (n m : Nat) (h : List W32) (t : List Byte) :
    shaBlocks (n + m) h (List.replicate (64 * n) 0xFF ++ t) = shaBlocks m (erasedBlocks n h) t := by
  induction n generalizing h with
  | zero => simp [erasedBlocks]
  | succ n ih =>
    have e : List.replicate (64 * (n + 1)) (0xFF : Byte) = List.replicate 64 0xFF ++ List.replicate (64 * n) 0xFF := by
      rw [List.replicate_append_replicate]; congr 1; omega
    rw [show n + 1 + m = n + m + 1 by omega, shaBlocks, e, List.append_assoc, List.take_left' (by simp), List.drop_left' (by simp), ih]
    rfl

theorem erasedBlocks_add (n m : Nat) (h : List W32) : erasedBlocks (n + m) h = erasedBlocks m (erasedBlocks n h) := by
  induction n generalizing h with
  | zero => simp [erasedBlocks]
  | succ n ih => rw [show n + 1 + m = n + m + 1 by omega, erasedBlocks, ih]; rfl

theorem erased_16 : erasedBlocks 16 shaInit =
    [0xD228E88A, 0xEEC15B53, 0xD15A8B61, 0xFE7E5D7A, 0x66BFBC35, 0x5BE59E37, 0xDAFEF5A9, 0xCC1DD357] := by decide +kernel

theorem erased_32 : erasedBlocks 16 [0xD228E88A, 0xEEC15B53, 0xD15A8B61, 0xFE7E5D7A, 0x66BFBC35, 0x5BE59E37, 0xDAFEF5A9, 0xCC1DD357] =
    [0x6A76D99E, 0x0DA7FB9E, 0x8927E6A1, 0x3E13FC0C, 0xF2445F57, 0xDD0BD263, 0x11EC0EBF, 0xA9F81BEF] := by decide +kernel

theorem erased_48 : erasedBlocks 16 [0x6A76D99E, 0x0DA7FB9E, 0x8927E6A1, 0x3E13FC0C, 0xF2445F57, 0xDD0BD263, 0x11EC0EBF, 0xA9F81BEF] =
    [0x62F2B37E, 0x0C235159, 0x5F61CF85, 0x5843B0EF, 0xAF19E202, 0x34A0F2B1, 0x8A38B220, 0xA08B6770] := by decide +kernel

theorem erased_64 : erasedBlocks 16 [0x62F2B37E, 0x0C235159, 0x5F61CF85, 0x5843B0EF, 0xAF19E202, 0x34A0F2B1, 0x8A38B220, 0xA08B6770] =
    [0x15D54DAC, 0x61B2CB93, 0x9F86D662, 0x1AF31DC1, 0x41CC12B4, 0x2D22D6FC, 0x70EDA08B, 0x58569918] := by decide +kernel

theorem sha_of_erased : sha256 (List.replicate 4096 0xFF) = beBytes 32 0xF47A8EC3E9AFF2318D896942282AD4FE37D6391C82914F54A5DA8A37DE1300C6 := by
  have p : (List.replicate 4096 (0xFF : Byte) ++ (0x80 :: List.replicate ((119 - (List.replicate 4096 (0xFF : Byte)).length % 64) % 64) 0)
      ++ beBytes 8 ((List.replicate 4096 (0xFF : Byte)).length * 8)).length / 64 = 64 + 1 := by
    simp only [List.length_append, List.length_cons, List.length_replicate]; decide +kernel
  unfold sha256
  simp only []
  rw [p, List.append_assoc, show (4096 : Nat) = 64 * 64 from rfl, shaBlocks_erased]
  rw [show (64 : Nat) = 16 + (16 + (16 + 16)) from rfl, erasedBlocks_add, erased_16, erasedBlocks_add, erased_32, erasedBlocks_add, erased_48, erased_64]
  simp only [List.length_replicate]
  decide +kernel

theorem test_witness_ResetRows_body : bodyMatches stored storedHdr = true := by
  have h : flashBodyOf stored storedHdr = List.replicate 4096 0xFF := by
    unfold flashBodyOf flashRead
    rw [storedHdr_bodyLen]
    exact Laws.memReadBytes_above 0xFF _ _ _ stored_below
  unfold bodyMatches
  rw [h, sha_of_erased]
  decide +kernel

/-- The signature is the one condition that rests on the factory's keys, which are open. -/
theorem test_witness_ResetRows_header (signed : hdrSigned stored storedHdr = true) : headerOk stored storedHdr = true := by
  have h : (storedHdr.length == 256 && leAt storedHdr 0 4 == 0x4B564649 && leAt storedHdr 4 2 == 1 && leAt storedHdr 6 2 == 0x7316
    && decide (leAt storedHdr 8 1 ≤ 2) && hdrFlags storedHdr / 2 == 0 && leAt storedHdr 28 4 == 0 && (sliceBytes storedHdr 64 128).all (· == 0)
    && hdrBodyLen storedHdr % 4096 == 0 && decide (4096 ≤ hdrBodyLen storedHdr) && decide (hdrBodyLen storedHdr ≤ 2097152)) = true := by decide +kernel
  have g : decide (stored.key.securityFuses ≤ hdrSecurity storedHdr) = true := by decide +kernel
  unfold headerOk
  exact Bool.and_eq_true_iff.2 ⟨Bool.and_eq_true_iff.2 ⟨h, signed⟩, g⟩

theorem test_witness_ResetRows :
    (pcieExists base = true ∧ partAnswers base = true ∧ resourceTested base 2 = false ∧ State.reset.resetHigh = false)
    ∧ (let s := modFw base fun f => { f with coldStart := true }
       s.resetHigh = true ∧ s.fw.coldStart = true)
    ∧ (bootsTampered (sampleTamper base 0x10) = true ∧ bootsTampered (sampleTamper (modKey base fun k => { k with tamperCount := 8 }) 0) = true)
    ∧ (bootsTampered (sampleTamper base 0) = false ∧ (sampleTamper base 0).straps.bootSrc.toNat < 2)
    ∧ ((storedHeader stored).isSome = true ∧ threeFailures stored = false)
    ∧ (storedHeader base = none ∧ pendingHeader base = none) := by decide +kernel

theorem test_witness_ResetRows_none : ∀ h, storedHeader base = some h → headerOk base h = false := by
  intro h x
  exact absurd (x.symm.trans (by decide +kernel : storedHeader base = none)) (by simp)

theorem test_witness_WatchRows :
    (firmwareRuns probing = true ∧ probing.fw.onProbation = true ∧ probing.fw.old.isSome = true)
    ∧ ((modFw probing fun f => { f with old := none }).fw.old = none)
    ∧ (firmwareRuns base = true ∧ base.fw.onProbation = false ∧ domState base (domCore0 + 7 / 2) = .on)
    ∧ (let s := modQueue base fun q => { q with banks := modNth q.banks 31 fun x => { x with owner := some 15 } }
       (nth { owner := none, last := [] } s.queue.banks 31).owner = some 15)
    ∧ ((0x80 : Byte).toNat &&& armedMask (modKey base fun k => { k with liveLevels := 0x80 })) ≠ 0
    ∧ ((0x01 : Byte).toNat &&& armedMask (modKey base fun k => { k with liveLevels := 0x01 })) ≠ 0
    ∧ ((0 : Byte).toNat &&& armedMask (modKey base fun k => { k with liveLevels := 0 })) = 0
    ∧ ((0x80 : Byte).toNat &&& armedMask (modKey base fun k => { k with lifecycle := .manufacture, liveLevels := 0x80 })) = 0 := by decide +kernel

/-- The engine runs in slot 3 of 10 ms slots; the next boundary is at 30 ms. -/
def inSlot3 : State := modOrbit { slotted with clk := { slotted.clk with timeNs := 30000000 } } fun o =>
  { o with slot := some 3, prepared := some 3 }

/-- A plan that is not handed over. -/
def openPlan : Plan := { asn := 4, t0 := 30050000, listens := [], launches := [], contacts := [], antenna := [0, 0, 0], parks := [], handed := false }

/-- A contact of the node whose windows have closed. -/
def closed : Contact := { addr := node.meshAddr, nodeAsn := 3, expected := true, met := false, follow := false, untilNs := 30000000, dls := [] }

/-- The part knows a node of that home in the running engine. -/
def knownIn (n : NodeEntry) (p : Plan) : State := modOrbit (modNodes inSlot3 fun d => { d with table := [(home, n)] }) fun o => { o with plans := [p] }

theorem test_witness_SlotRows :
    (inSlot3.orbit.anchored = true ∧ firmwareRuns inSlot3 = true
      ∧ slotBoundary (slotView (stagedView 4 inSlot3) 4) 4 - (leadNs inSlot3 : Int) ≤ (nowNs inSlot3 : Int) ∧ nextPrepared inSlot3 = 4)
    ∧ (let s := knownIn node openPlan
       s.role ≠ .standby ∧ radioStopped s = false ∧ (s.orbit.plans.find? fun p => !p.handed) = some openPlan ∧ handOffNs openPlan.t0 ≤ nowNs s)
    ∧ (radioStopped { base with part := .quiesced } = true ∧ base.role ≠ .standby)
    ∧ (numbering inSlot3 = true ∧ nextSlot inSlot3 = 4 ∧ slotBoundary (frameInForce inSlot3 4) 4 = 30000000)
    ∧ (let s := modOrbit base fun o => { o with anchored := true }
       s.orbit.anchored = true ∧ s.orbit.state = .idle ∧ s.orbit.anchorNs ≤ nowNs s)
    ∧ (let s := knownIn { node with misses := 2 } { openPlan with contacts := [closed] }
       nodeAt s home = some { node with misses := 2 } ∧ missedContact s node.meshAddr = some (4, closed))
    ∧ (let s := knownIn { node with misses := 3, adrift := true } { openPlan with contacts := [closed] }
       nodeAt s home = some { node with misses := 3, adrift := true } ∧ missedContact s node.meshAddr = some (4, closed))
    ∧ (let s := knownIn { node with adrift := true, adriftDeadline := 4 } openPlan
       nodeAt s home = some { node with adrift := true, adriftDeadline := 4 } ∧ numbering s = true ∧ 4 ≤ currentAsn s)
    ∧ (let s := modOrbit inSlot3 fun o => { o with parents := [⟨1, 0⟩, ⟨2, 1⟩], parent := some 1, parentMiss := 2 }
       s.orbit.parents ≠ [] ∧ enginePlans s = true ∧ bandState s .bandA = .on ∧ (orbitCount s ocParentMissed).orbit.parent = some 1
         ∧ 2 ≤ (orbitCount s ocParentMissed).orbit.parentMiss)
    ∧ (let s := modOrbit inSlot3 fun o => { o with parents := [⟨1, 0⟩], parent := some 0, parentMiss := 1 }
       (orbitCount s ocParentMissed).orbit.parent = some 0 ∧ (orbitCount s ocParentMissed).orbit.parentMiss < 2) := by decide +kernel

/-- A frame for the node in shaping queue 0. -/
def frame : Frame :=
  { gen := 1, source := .firmware, queue := 0, dest := node.meshAddr, ftype := 0, payload := [1, 2, 3], ackReq := false, tsReq := false, tsId := 0
    expires := some 5, since := 0, attempts := 0, planned := false, onAir := false, doomed := false, lost := false, eui := 0, keyGen := 0, seq := 0
    lastLaunch := none }

/-- It is pending as record 16383. -/
def holding (f : Frame) : State := modQueue { known with upNs := 5 } fun q => { q with records := [(16383, f)] }

/-- Bank 0 of the bulk memory, which holds half the node table, is in Retention. -/
def retained : State := modDom base 7 fun x => { x with state := .retention }

theorem test_witness_TableRows :
    (anyLow retained tableDoms = true ∧ retained.node.ageS ≠ 0 ∧ tableFrozen retained = false ∧ retained.role ≠ .standby
      ∧ (let s := modNodes retained fun d => { d with shadowOn := true }
         anyLow s tableDoms = true ∧ s.node.shadowOn = true ∧ s.node.overflow = false))
    ∧ tableFrozen { base with part := .quiesced } = true
    ∧ (anyLow base tableDoms = false ∧ base.node.ageS ≠ 0 ∧ tableFrozen base = false ∧ base.role ≠ .standby
        ∧ nodeAt (accessDoms base tableDoms) 0 = none)
    ∧ (let a := accessDoms (modNodes base fun d => { d with table := [(262143, node)], agePos := 262143 }) tableDoms
       let t := modNodes a fun d => { d with agePos := (d.agePos + 1) % 262144 }
       a.node.agePos = 262143 ∧ nodeAt t 262143 = some node ∧ agingSkips t 262143 node = false ∧ node.hit = false
         ∧ agingSkips t 262143 { node with isStatic := true } = true ∧ agingSkips t 262143 { node with hit := true } = false)
    ∧ (let s := modNodes base fun d => { d with ageDeletes := [5] }
       s.node.ageDeletes = [5] ∧ (flowOf s (flowIndex 5)).busy = false
         ∧ (flowOf (setFlow s (flowIndex 5) { flowOf s (flowIndex 5) with busy := true }) (flowIndex 5)).busy = true)
    ∧ (let t := modNodes known fun d => { d with ageDeletes := d.ageDeletes.filter (· != node.meshAddr) }
       lookupAddr t node.meshAddr = some home ∧ nodeAt t home = some node ∧ agingSkips t home node = false
         ∧ agingSkips (modNodes (holding frame) fun d => { d with ageDeletes := d.ageDeletes.filter (· != node.meshAddr) }) home node = true)
    ∧ ((accessDoms base tableDoms).node.repair = [] ∧ mapGet (readWord (accessDoms base tableDoms) 0 0).node.repair 0 = none)
    ∧ (let s := accessDoms (modNodes base fun d => { d with errors := [(0, true)] }) tableDoms
       s.node.repair = [] ∧ mapGet (readWord s 0 0).node.repair 0 = some { cause := 0, words := 1 })
    ∧ (let s := modNodes base fun d => { d with repair := [(5, { cause := 1, words := 3 })] }
       anyLow s tableDoms = false ∧ (accessDoms s tableDoms).node.repair = [(5, { cause := 1, words := 3 })])
    ∧ (let s := modNodes known fun d => { d with shadowOn := true, cmpPos := home }
       let t := modNodes (readEntryWords (accessDoms s tableDoms) home) fun d => { d with cmpPos := (d.cmpPos + 1) % 262144 }
       anyLow s tableDoms = false ∧ s.node.shadowOn = true ∧ s.node.overflow = false ∧ mapGet t.node.repair home = none ∧ shadowDiff t home [] ≠ 0
         ∧ (∀ r ∈ t.node.journal, r.index ≠ home ∧ r.fromIndex ≠ home) ∧ shadowDiff t 0 (List.replicate 64 0) = 0)
    ∧ base.node.shadowOn = false := by decide +kernel

/-- The launch is encrypted and its gate open: band A at 1 ms. -/
def airing (f : TxBand → TxBand) : State :=
  let s := modTx { slotted with clk := { slotted.clk with timeNs := 1000000 }, upNs := 1000000 } .bandA f
  { s with pair := { s.pair with gateOpen := true } }

/-- A data launch at an instant. -/
def data (t : Nat) : Launch := { launchAtNs t with kind := .data, lateNs := 60000, lo := 500 }

theorem test_witness_BandRows :
    (let s := modTx slotted .bandA fun x => { x with state := .pendingOn, onAfter := some 0 }
     let u := modOrbit s fun o => { o with frameLen := 1 }
     bandState u .bandA = .pendingOn ∧ (u.radio.tx.get .bandA).onAfter = some 0 ∧ atFrameBoundary u 0 = true)
    ∧ (let s := setBand banded .bandC .draining
       bandState s .bandC = .draining ∧ (s.radio.tx.get .bandC).burst = [] ∧ bandCtxs s .bandC ctxBusy = [])
    ∧ (bandState onA .bandA ≠ .off ∧ bandState onA .bandA ≠ .fault)
    ∧ (let s := modOrbit (modTx slotted .bandA fun x => { x with state := .fault, attempts := 1, onAfter := some 0 }) fun o => { o with frameLen := 1 }
       bandState s .bandA = .fault ∧ (s.radio.tx.get .bandA).attempts ≠ 0 ∧ atFrameBoundary s ((s.radio.tx.get .bandA).onAfter.getD 0) = true)
    ∧ (let s := calStarts (airing fun x => { x with calLo := some 500, calEnd := some 1000000 }) .bandA
       calNeed s .bandA = some (500, 952000) ∧ 952000 + 48000 ≤ nowNs s ∧ (s.radio.tx.get .bandA).calFails = 0)
    ∧ (let s := calStarts (airing fun x => { x with calLo := some 500, calEnd := some 1000000, calFails := 1 }) .bandA
       (s.radio.tx.get .bandA).calFails ≠ 0)
    ∧ (let t := bgOverdue (calStarts (airing fun x => { x with bgDue := [false, true, false] }) .bandA) .bandA
       bgIsDue t (t.radio.tx.get .bandA) (bgIndex .bias) 100 = true ∧ bgGap t .bandA (bgTimes (bgIndex .bias)).1 = true
         ∧ bgIsDue t (t.radio.tx.get .bandA) (bgIndex .loIq) (t.radio.tx.get .bandA).bgTempQ = false
         ∧ bgIsDue t (t.radio.tx.get .bandA) (bgIndex .loIq) ((t.radio.tx.get .bandA).bgTempQ + 32) = true)
    ∧ (((airing id).radio.tx.get .bandA).grant = false ∧ ((airing id).radio.tx.get .bandA).coexEnable = false
        ∧ ((airing fun x => { x with coexEnable := true }).radio.tx.get .bandA).coexEnable = true)
    ∧ (let s := airing fun x => { x with coexEnable := true, coexAbort := true, burst := [{ data 1000000 with carrier := .onAir }] }
       let x := inForce ((launchOp s .bandA).radio.tx.get .bandA)
       x.coexEnable = true ∧ x.coexAbort = true ∧ x.burst ≠ []) := by decide +kernel

/-- A context of band A that listens to anything on profile 1. -/
def ctx (st : CtxState) (p : Purpose) (profile : Nat) (rx : Option Reception) : Ctx :=
  { state := st, purpose := p, band := 0, channel := 500, profile := profile, prio := 1, listenStart := 0, listenEnd := 100, lateFrom := 0
    set := CtxSet.reset, maps := [], rx := rx, frames := 0 }

/-- It is context 511 of the running engine. -/
def hearing (c : Ctx) : State := setCtx slotted 511 c

/-- A reception of 11 bytes, not whitened, detected at −100 dBm. -/
def rec11 : Reception := { reception { endNs := 0, endFrac := 0, rssiQ := -400 } with length := 11 }

/-- What a context of that reception heard: no payload, the MIC given. -/
def heard (mic : List Byte) (counter : Nat) : Heard :=
  { ctx := 511, c := ctx .psdu (.acquire) 1 (some rec11), r := rec11, p := gfskProfile 1 1 0 50000 1 8 16 1 0xE7A3, psdu := mic ++ [0, 0]
    h := { fc := 8, dest := 1, src := node.meshAddr, eui := 0, hops := [], next := 0, keyGen := 0, counter := BitVec.ofNat 32 counter, len := 0 }
    lqi := 255, ack := none }

/-- The node's own key for generation 0 stands in the cache: 16 zero bytes. -/
def cached : State := modKey keyed fun k =>
  let c : CacheEntry := { eui := 0x1122, gen := 0, parentSlot := 1, parentEpoch := 0, notRecent := false, share0 := 1, share1 := 1, check := 0 }
  { k with genMap := modNth k.genMap 0 fun _ => some (0, 1), cache := [(cacheSet 0x1122 0 * 4, { c with check := cacheCheck c })] }

/-- Band A retunes until 1 ms. -/
def retunes (s : State) : State := modRx s .bandA fun r => { r with retuneEnd := some 1000000 }

theorem test_witness_DetectionRows :
    (let s := hearing (ctx .armed .reserved 1 none)
     let p := gfskProfile 1 1 0 50000 1 8 16 1 0xE7A3
     let c := ctxOf s 511
     profileOf s 1 = some p ∧ listens s 511 = true ∧ beganEarly s c p = false ∧ isOfdm p = false ∧ c.set.preQual ≤ 16 ∧ 1 ≤ p.syncTol
       ∧ c.set.syncRssiMinQ = -520 ∧ 15 < c.set.preQual ∧ p.syncTol < 2 ∧ retuning s .bandA = false ∧ retuning (retunes s) .bandA = true
       ∧ listens (hearing (ctx .idle .reserved 1 none)) 511 = false)
    ∧ (let s := hearing (ctx .armed .reserved 5 none)
       listens s 511 = true ∧ (profileOf s 5).map (fun p => (isOfdm p, beganEarly s (ctxOf s 511) p)) = some (true, false)
         ∧ (ctxOf s 511).set.ofdmThr < 61 ∧ 60 ≤ (ctxOf s 511).set.ofdmThr)
    ∧ (let s := hearing (ctx .locked .acquire 1 (some rec11))
       (ctxOf s 511).rx = some rec11 ∧ (ctxOf s 511).state = .locked ∧ rec11.stalled = none
         ∧ rec11.det.rssiQ + 4 * ((ctxOf s 511).set.captureMargin : Int) ≤ rssiOf s .bandA (-376)
         ∧ ¬ rec11.det.rssiQ + 4 * ((ctxOf s 511).set.captureMargin : Int) ≤ rssiOf s .bandA (-377))
    ∧ (let c := ctx .psdu .acquire 1 (some rec11)
       let s := hearing { c with set := { c.set with captureSwitch := true } }
       let p := gfskProfile 1 1 0 50000 1 8 16 1 0xE7A3
       (ctxOf s 511).state = .psdu ∧ (ctxOf s 511).set.captureSwitch = true ∧ judgedPre p rec11 (detection s .bandA (-376)) 0 = false
         ∧ (ctxOf (hearing c) 511).set.captureSwitch = false ∧ ctxBusy (ctxOf s 511) = true
         ∧ rssiOf s .bandA (-449) < rec11.det.rssiQ - 4 * ((ctxOf s 511).set.carrierDrop : Int)
         ∧ rec11.det.rssiQ - 4 * ((ctxOf s 511).set.carrierDrop : Int) ≤ rssiOf s .bandA (-448))
    ∧ (let s := hearing (ctx .psdu .acquire 5 (some rec11))
       (profileOf s 5).map (fun p => (isOfdm p, judgedPre p rec11 (detection s .bandA (-376)) 0)) = some (true, true))
    ∧ (gfskHeader (gfskProfile 1 1 0 50000 1 8 16 1 0xE7A3) 0x000000 = none
        ∧ gfskHeader (gfskProfile 1 1 0 50000 1 8 16 1 0xE7A3) 0xC207FF
            = some { length := 2047, whiten := false, fcsType := 0, rateHint := 0, toneMap := 0, symbolBits := 0 } ∧ rec11.held = none)
    ∧ (signalHeader (ctx .locked .acquire 5 (some rec11)) 0 = (none, false)
        ∧ (signalHeader (ctx .locked .acquire 5 (some rec11)) (1 + 2 ^ 18 * hcs8 [1, 0, 0])).1.isSome = true
        ∧ combineCopies ((List.range 104).map fun i => if i = 0 then 1 else if i < 26 then -1 else 0) 0 = 1)
    ∧ (let s := hearing (ctx .psdu .acquire 5 (some rec11))
       (ctxOf s 511).rx = some rec11 ∧ (profileOf s (ctxOf s 511).profile).map isOfdm = some true
         ∧ rec11.bytes.length + (List.replicate 11 (0 : Byte)).length ≤ rec11.length ∧ masksOut (setCtx s 511 (ctxOf s 511)) = false
         ∧ rec11.length < rec11.bytes.length + (List.replicate 12 (0 : Byte)).length)
    ∧ (profileOf base 40 = none ∧ (ctxOf (hearing (ctx .idle .acquire 1 none)) 511).rx = none) := by decide +kernel

theorem test_witness_ReceiverRows :
    (let s := { hearing (ctx .armed .acquire 1 none) with clk := { base.clk with timeNs := 100 } }
     (ctxOf s 511).state = .armed ∧ (ctxOf s 511).purpose ≠ .test ∧ ctxReserved s 511 = false ∧ (ctxOf s 511).listenEnd ≤ nowNs s)
    ∧ nowNs (hearing (ctx .armed .acquire 1 none)) < (ctxOf (hearing (ctx .armed .acquire 1 none)) 511).listenEnd
    ∧ ((onA.radio.rx.get .bandA).agcMode ≠ 2 ∧ (onA.radio.rx.get .bandA).agcMode ≠ 1 ∧ (onA.radio.rx.get .bandA).agcGain ≠ 0
        ∧ ((modRx onA .bandA fun r => { r with agcGain := 0 }).radio.rx.get .bandA).agcGain = 0
        ∧ ((modRx onA .bandA fun r => { r with agcMode := 2 }).radio.rx.get .bandA).agcMode = 2)
    ∧ (let s := { onA with upNs := 1000000000 }
       (s.radio.rx.get .bandA).agcAt + (s.radio.rx.get .bandA).agcRelease * 1000 ≤ s.upNs)
    ∧ ((liveSnap (modRadio snapped fun r => { r with snapshots := r.snapshots.map fun x => { x with state := .armed, trigger := 1 } }) .bandA).map
        fun x => (x.state, x.trigger, x.startNs)) = some (.armed, 1, 0)
    ∧ (let s := { (modRadio snapped fun r => { r with snapshots := r.snapshots.map fun x => { x with state := .capturing } }) with
         clk := { base.clk with timeNs := 4096000 } }
       (liveSnap s .bandA).map (fun x => (x.state, decide (x.firstNs + captureNs x ≤ nowNs s), decide (nowNs s < 1 + captureNs x)))
         = some (.capturing, true, true))
    ∧ liveSnap onA .bandA = none
    ∧ (let s := modRadio base fun r => { r with wake := { r.wake with enable := true, pattern := 0x0F0F0F0F } }
       s.radio.wake.enable = true ∧ diffBits (0x0F0F0F0C : W32).toNat s.radio.wake.pattern.toNat ≤ s.radio.wake.tol ∧ s.radio.wake.lastAt = none
         ∧ (s.radio.tx.get .bandB).burst = [] ∧ base.radio.wake.enable = false) := by decide +kernel

/-- A frame on its way. -/
def upFrame (ftype : Nat) (payload : List Byte) : Uplink :=
  { band := 1, ctx := 511, channel := 500, profile := 1, ftype := ftype, index := home, nodeValid := true, src := node.meshAddr, eui := node.eui
    dest := 1, ackReq := false, keyGen := 0, counter := 5, header := [], payload := payload, psduLen := 0, tsNs := 20000000, tsFrac := 0, rssiQ := -400, lqi := 255
    rateHint := 0, toneMap := 0, cell := none, launch := some 1, parent := some (0, 1000), cut := none, ack := none, acked := true, e := some 1000 }

/-- Every descriptor of the frame buffers is in use. -/
def crowded (s : State) : State := { s with path := { s.path with uplinks := List.replicate 1024 (upFrame 0 []) } }

/-- A chain whose grant can no longer come in time. -/
def ungranted (coex : Bool) : State := airing fun x => { x with coexEnable := coex, queue := [{ data 900000 with psdu := none }] }

theorem test_witness_LaunchRows_encrypt :
    (let l := { data 1040000 with psdu := none }
     let s := airing fun x => { x with queue := [l] }
     ((s.radio.tx.get .bandA).queue.find? fun l =>
        l.psdu.isNone && !isAckLaunch l && decide (l.tL ≤ nowNs s + 40000) && !waitsForTwin s l && !followUntold s l) = some l
       ∧ l.record = none ∧ frameBufferRoom s (plainLen s l) = true ∧ frameBufferRoom (crowded s) (plainLen s l) = false)
    ∧ (let l := { data 1040000 with psdu := none, record := some 16383 }
       let s := modQueue (modNodes (airing fun x => { x with queue := [l] }) fun d => { d with table := [(home, node)] }) fun q =>
         { q with records := [(16383, { frame with payload := List.replicate 2047 0 })] }
       let u := modQueue s fun q => { q with records := [(16383, frame)] }
       ((s.radio.tx.get .bandA).queue.find? fun l =>
         l.psdu.isNone && !isAckLaunch l && decide (l.tL ≤ nowNs s + 40000) && !waitsForTwin s l && !followUntold s l) = some l
         ∧ l.record = some 16383 ∧ recordOf u 16383 = some frame ∧ frame.dest ≠ addrBroadcast ∧ frame.ftype ≠ ftJoinRsp
         ∧ launchTooLong s { frame with payload := List.replicate 2047 0 } = true ∧ launchTooLong u frame = false
         ∧ bulkBad s (.pending 16383) = false ∧ bulkBad { s with pwr := { s.pwr with bulkErrors := [.pending 16383] } } (.pending 16383) = true
         ∧ frameBufferRoom s 26 = true ∧ frameBufferRoom (crowded s) 26 = false) := by decide +kernel

theorem test_witness_LaunchRows_chain :
    (let s := airing fun x => { x with queue := [launchAtNs 1004000] }
     (s.radio.tx.get .bandA).burst = [] ∧ ((s.radio.tx.get .bandA).queue.find? isAckLaunch) = some (launchAtNs 1004000)
       ∧ 1004000 ≤ nowNs s + rampNs (s.radio.tx.get .bandA) + (s.radio.tx.get .bandA).txPathNs ∧ s.pair.gateOpen = true
       ∧ bandState s .bandA = .on ∧ nowNs s + rampNs (s.radio.tx.get .bandA) + (s.radio.tx.get .bandA).txPathNs < 1100000)
    ∧ (let s := airing fun x => { x with queue := [data 1100000] }
       ((s.radio.tx.get .bandA).queue.find? isAckLaunch) = none
         ∧ ((s.radio.tx.get .bandA).queue.find? fun l => !isAckLaunch l) = some (data 1100000))
    ∧ (let s := airing fun x => { x with queue := [data 1100000] }
       let x := s.radio.tx.get .bandA
       let due := nowNs s + x.txPathNs
       x.queue = [data 1100000] ∧ x.paLeadUs ≤ 20 ∧ due + 20000 < 1100000 ∧ 1100000 ≤ due + x.coexLeadUs * 1000
         ∧ due + x.coexLeadUs * 1000 < 9000000)
    ∧ (let s := airing fun x => { x with queue := [data 1000000], lo := some 500 }
       followUntold s (data 1000000) = false ∧ chainLaunches s .bandA = true ∧ earliest s .bandA (data 1000000) = some 1000000
         ∧ 1000000 ≤ nowNs s + rampNs (s.radio.tx.get .bandA) + (s.radio.tx.get .bandA).txPathNs
         ∧ earliest s .bandA (data 1100000) = some 1100000
         ∧ nowNs s + rampNs (s.radio.tx.get .bandA) + (s.radio.tx.get .bandA).txPathNs < 1100000)
    ∧ (let s := airing fun x => { x with queue := [data 900000], lo := some 500, calEnd := some 1000000 }
       (earliest s .bandA (data 900000)).map (fun t => decide ((data 900000).tL + lateBound (data 900000) < t)) = some true)
    ∧ (let s := { (airing fun x => { x with queue := [data 1000000] }) with pair := base.pair }
       chainLaunches s .bandA = false ∧ followUntold s (data 1000000) = false ∧ (data 1000000).tL ≤ nowNs s ∧ nowNs s < (data 1000001).tL)
    ∧ (let l := { data 900000 with psdu := none }
       followUntold (ungranted true) l = false ∧ chainLaunches (ungranted true) .bandA = true ∧ earliest (ungranted true) .bandA l = none
         ∧ l.tL + lateBound l ≤ nowNs (ungranted true) ∧ ((ungranted true).radio.tx.get .bandA).coexEnable = true
         ∧ ((ungranted true).radio.tx.get .bandA).grant = false ∧ earliest (ungranted false) .bandA l = none
         ∧ ((ungranted false).radio.tx.get .bandA).coexEnable = false)
    ∧ (let ramp (l : Launch) (coex : Bool) := airing fun x => { x with coexEnable := coex, burst := [{ l with tA := 1000000, carrier := .ramping }] }
       let due (s : State) := (s.radio.tx.get .bandA).burst.filter fun l => l.carrier == .ramping && decide (l.tA ≤ nowNs s)
       due (ramp (data 1000000) false) = [{ data 1000000 with tA := 1000000, carrier := .ramping }] ∧ isAckLaunch (data 1000000) = false
         ∧ due (ramp (launchAtNs 1000000) true) = [{ launchAtNs 1000000 with tA := 1000000, carrier := .ramping }]
         ∧ isAckLaunch (launchAtNs 1000000) = true ∧ (launchAtNs 1000000).decided = true ∧ (launchAtNs 1000000).psdu ≠ none
         ∧ (inForce ((ramp (launchAtNs 1000000) true).radio.tx.get .bandA)).coexEnable = true
         ∧ ((ramp (launchAtNs 1000000) true).radio.tx.get .bandA).grant = false
         ∧ (inForce ((ramp (launchAtNs 1000000) false).radio.tx.get .bandA)).coexEnable = false)
    ∧ (let l := { data 900000 with tA := 900000, carrier := .onAir }
       let s := airing fun x => { x with burst := [l] }
       let x := s.radio.tx.get .bandA
       x.burst ≠ [] ∧ (∀ l ∈ x.burst, l.carrier = .onAir ∧ carrierEndNs x l ≤ nowNs s) ∧ burstEndNs x ≤ nowNs s) := by decide +kernel

/-- It waits in the threads of a part that knows the node. -/
def thread (s : State) (ftype : Nat) (payload : List Byte) : State := { s with path := { s.path with threads := [upFrame ftype payload] } }

/-- A frame is taken from the threads and meets a condition. -/
def taken (s : State) (ftype : Nat) (p : Uplink → State → Bool) : Prop := (takeThread s ftype).map (fun x => p x.1 x.2) = some true

/-- A launch to an address that waits for its acknowledgement. -/
def waiting (s : State) (addr : W32) (attempts : Nat) : State :=
  let s := modTx s .bandA fun x => { x with awaiting := [{ launchAtNs 0 with kind := .data, addr := addr, record := some 16383 }] }
  modQueue s fun q => { q with records := [(16383, { frame with dest := addr, attempts := attempts })] }

theorem test_witness_FrameRows :
    (let s := hearing (ctx .psdu .acquire 1 (some rec11))
     let q : List Byte := [0, 1, 2, 3, 4, 5, 6, 7, 8, 0xA7, 0xEE]
     (ctxOf s 511).rx = some rec11 ∧ frameBufferRoom s 11 = true ∧ (q.take rec11.length).length = rec11.length ∧ fcsOk rec11.fcsType q = true
       ∧ fcsOk rec11.fcsType (List.replicate 11 1) = false
       ∧ frameBufferRoom { s with path := { s.path with uplinks := List.replicate 1024 (upFrame 0 []) } } 11 = false)
    ∧ (macCheck (micBytes 1) (fcsLen 0) (destOurs base) [0, 0x30] = some 0 ∧ macCheck (micBytes 1) (fcsLen 0) (destOurs base) [0, 0] = some 1)
    ∧ ((heard [] 3).h.counter.toNat < node.rxCounter.toNat ∧ (heard [] 4).h.counter = node.rxCounter ∧ node.rxCounter.toNat < (heard [] 5).h.counter.toNat)
    ∧ (genCase cached node 0 false = .normal ∧ (resolveKey cached node.eui 0).2 = .key (List.replicate 16 0))
    ∧ ((upFrame ftData []).cut = none ∧ (upFrame ftData []).ftype = ftData ∧ (upFrame ftControl []).ftype ≠ ftData)
    ∧ (let h := hearing (ctx .sounding .acquire 5 (some { rec11 with sounder := some (node.meshAddr, 8) }))
       let s := modNodes { h with clk := { h.clk with timeNs := 30000000 } } fun d => { d with table := [(home, node)] }
       let c := ctxOf s 511
       c.state = .sounding ∧ (c.rx.bind (·.sounder)) = some (node.meshAddr, 8) ∧ (profileOf s c.profile).isSome
         ∧ (c.rx.map (·.decidedNs)) = some 0 ∧ 8 * ofdmSymbolNs c.band ≤ antennaNs s (bandOfD c.band)
         ∧ lookupAddr (modTones (ctxRest s 511) node.meshAddr.toNat fun t => { t with wantSounding := false }) node.meshAddr = some home
         ∧ lookupAddr (modTones (ctxRest (hearing c) 511) node.meshAddr.toNat fun t => { t with wantSounding := false }) node.meshAddr = none)
    ∧ (let s := modTones base node.meshAddr.toNat fun t => { t with old := [(15, 500), (14, 2000000000)] }
       (((tonesOf s node.meshAddr.toNat).old.filter fun o => decide (o.2 ≤ s.upNs)) = [])
         ∧ ((tonesOf { s with upNs := 1000 } node.meshAddr.toNat).old.filter fun o => decide (o.2 ≤ 1000)) = [(15, 500)]) := by decide +kernel

/-- The payload of a TONE_MAP frame: map 15, every tone off. -/
def toneMap : List Byte := 0x01 :: 15 :: 0 :: List.replicate 39 0

theorem test_witness_FrameRows_threads :
    taken (thread base ftJoinReq [9, 0]) ftJoinReq (fun u t => (classOf t (leAt u.payload 0 2)).isNone)
    ∧ taken (thread known ftJoinReq [1, 0]) ftJoinReq
        (fun u t => (classOf t (leAt u.payload 0 2)).isSome && decide (lookupEui t u.eui = some home) && decide (nodeAt t home = some node))
    ∧ taken (thread base ftJoinReq [1, 0]) ftJoinReq
        (fun u t => (classOf t (leAt u.payload 0 2)).isSome && (lookupEui t u.eui).isNone && decide ((chargePort t u.band).2 = .allowed))
    ∧ taken (thread known ftControl toneMap) ftControl
        (fun u t => ((nodeAt t u.index).map (·.role == 2)).getD false && decide (42 ≤ u.payload.length) && decide (leAt u.payload 2 1 = 0)
          && decide (leAt u.payload 1 1 = 15) && mapValid (leAt u.payload 3 39))
    ∧ taken (thread known ftControl [0x02, 16]) ftControl
        (fun u t => ((nodeAt t u.index).map (·.role == 2)).getD false && decide (leAt u.payload 1 1 = 16))
    ∧ taken (thread known ftControl [6]) ftControl (fun u _ => decide (u.payload = [6]))
    ∧ taken (thread (modCmp running fun c => { c with targets := campaigning.cmp.targets }) ftCampaign ([0x03, 0, 0, 0, 16] ++ List.replicate 64 0)) ftCampaign
        (fun u t => t.cmp.targets.any (·.meshAddr == u.src) && decide (t.cmp.state = .running)
          && decide (leAt u.payload 1 2 = t.cmp.id) && decide (leAt u.payload 4 1 ≤ 16)
          && decide (5 + 4 * leAt u.payload 4 1 ≤ u.payload.length))
    ∧ (let s := modOrbit inSlot3 fun o => { o with parents := [⟨node.meshAddr, 1⟩] }
       taken (thread (modOrbit s fun o => { o with state := .acquiring }) ftBeacon (List.replicate 27 0)) ftBeacon
         (fun u t => (t.orbit.parents.findIdx? fun c => c.addr == u.src && c.band == u.band) == some 0 && beaconOffset t u 0 0 == some 1000
           && t.orbit.state == .acquiring && !t.orbit.runPending)
       ∧ taken (thread (modOrbit s fun o => { o with parent := some 0 }) ftBeacon (List.replicate 27 0)) ftBeacon
         (fun u t => beaconOffset t u 0 0 == some 1000 && t.orbit.state != .acquiring && enginePlans t && u.parent.map (·.1) == some 0
           && t.orbit.parent == some 0))
    ∧ (let l : Launch := { launchAtNs 0 with kind := .data, addr := 7, record := some 16383 }
       taken (thread (waiting base 7 0) ftAck []) ftAck
         (fun u t => ((t.radio.tx.toList.flatMap (·.awaiting)).find? fun l => some l.id == u.launch) == some l
           && lookupAddr (orbitCount (awaitEnds t l) ocAcked) 7 == none && (recordOf (orbitCount (awaitEnds t l) ocAcked) 16383).isSome))
    ∧ (let l : Launch := { launchAtNs 0 with kind := .data, addr := node.meshAddr, record := some 16383 }
       taken (thread (waiting known node.meshAddr 0) ftAck []) ftAck
         (fun u t =>
           let a := orbitCount (awaitEnds t l) ocAcked
           ((t.radio.tx.toList.flatMap (·.awaiting)).find? fun l => some l.id == u.launch) == some l && lookupAddr a l.addr == some home
             && nodeAt a home == some node && u.e == some 1000
             && (recordOf (sendContact (clockMeasure a home 1000 u.tsNs false false) home) 16383).isSome)) := by
  unfold taken; decide +kernel

theorem test_witness_FrameRows_window :
    (let s := waiting known node.meshAddr 4
     let l : Launch := { launchAtNs 0 with kind := .data, addr := node.meshAddr, record := some 16383 }
     ((s.radio.tx.toList.flatMap (·.awaiting)).find? (·.id == 1)) = some l ∧ s.radio.ctxs = [] ∧ (s.radio.tx.get (bandOfD l.band)).burst = []
       ∧ s.orbit.plans = [] ∧ s.path.threads = [] ∧ s.pair.waits = [] ∧ l.record = some 16383
       ∧ recordOf (awaitEnds s l) 16383 = some { frame with attempts := 4 } ∧ retryMax (awaitEnds s l) node.meshAddr = 4) := by decide +kernel

/-- With a zero key, counter 5 and no payload the MIC of 4 bytes is this one. -/
def mic5 : List Byte := [0x32, 0xF6, 0xF1, 0xD5]

theorem test_witness_FrameRows_verify :
    ((heard mic5 5).verify (List.replicate 16 0) node.eui).2 = true ∧ ((heard [0, 0, 0, 0] 5).verify (List.replicate 16 0) node.eui).2 = false := by
  decide +kernel

theorem test_witness_TagFailure :
    genCase cached node 0 false = .normal ∧ (resolveKey cached node.eui 0).2 = .key (List.replicate 16 0)
    ∧ ((heard [0, 0, 0, 0] 5).verify (List.replicate 16 0) node.eui).2 = false :=
  ⟨by decide +kernel, by decide +kernel, test_witness_FrameRows_verify.2⟩

theorem test_witness_HeaderRejection :
    let s := hearing (ctx .locked .acquire 1 (some rec11))
    (ctxOf s 511).rx = some rec11 ∧ profileOf s (ctxOf s 511).profile = some (gfskProfile 1 1 0 50000 1 8 16 1 0xE7A3)
    ∧ (ctxOf s 511).state = .locked ∧ hcs8 (leBytes 2 (bitsOf 0xC207FF 15 0)) = bitsOf 0xC207FF 23 16
    ∧ bitsOf 0xC207FF 10 0 = 2047 ∧ hcs8 (leBytes 2 (bitsOf 0xC207FE 15 0)) ≠ bitsOf 0xC207FE 23 16 := by decide +kernel

/-- Privileged channel 3 at work, with a command that waits on it. -/
def fetching : State := { base with host := { base.host with priv := { base.host.priv with
  chans := modNth base.host.priv.chans 3 fun c => { c with regs := { c.regs with ctrl := 0x80000006, active := true, prod := 1 } } } } }

/-- An event stands in the privileged mirror. -/
def alarmed : State := raiseEvent base evTamper 1 0 0 0

theorem test_witness_HostAccessRows :
    (viewsAnswer (accessView base) = true ∧ viewsAnswer base = true)
    ∧ (bitOf (0x80000004 : W32).toNat 31 = true ∧ bitOf ((0x80000004 : W32) &&& ctrlMask (.rx 15)).toNat 31 = true
        ∧ ((ringRegs (accessView base) .unpriv (.rx 15)).map fun x => (ringOn x, x.active)) = some (false, false)
        ∧ sizeOk (.rx 15) (bitsOf ((0x80000004 : W32) &&& ctrlMask (.rx 15)).toNat 3 0) = true
        ∧ sizeOk (.rx 15) (bitsOf ((0x8000000D : W32) &&& ctrlMask (.rx 15)).toNat 3 0) = false)
    ∧ (bitOf (0 : W32).toNat 31 = false ∧ bitOf ((0 : W32) &&& ctrlMask (.chan 0)).toNat 31 = false
        ∧ (ringRegs (accessView base) .priv (.chan 0)).map ringOn = some true)
    ∧ (sessionServed base (mboxEntry base .priv).session = true ∧ (viewOf base .priv).mboxBusy = false)
    ∧ (mirrorEvent (accessView alarmed) .priv).isSome = true
    ∧ (let s := modRing base .priv (.chan 0) fun r => { r with unreported := 1 }
       (ringRegs s .priv (.chan 0)).map (·.unreported) = some 1)
    ∧ (turn fetching = some (.chan .priv 3) ∧ (cmdOf (.chan .priv 3) .sysIdentify []).session = .chan .priv 3
        ∧ entryCmd (cmdOf (.chan .priv 3) .sysIdentify []) = some .sysIdentify
        ∧ entryCmd { cmdOf (.chan .priv 3) .sysIdentify [] with word := 0xFFFFFFFF } = none) := by decide +kernel

theorem test_witness_SpiRows :
    (partAnswers base = true ∧ sessionServed base .spi = true ∧ base.host.spi.outstanding = false ∧ base.host.spi.rsps = []
      ∧ mirrorEvent base .priv = none ∧ (mirrorEvent alarmed .priv).isSome = true)
    ∧ (let s := modSpi base fun x => { x with outstanding := true }
       sessionServed s .spi = true ∧ s.host.spi.outstanding = true)
    ∧ 1 ≤ leAt [0xFF, 0xFF, 1, 0] 2 2 := by decide +kernel

/-- Any response may wait. -/
theorem test_witness_SpiRows_response (r : Response) : (modSpi base fun x => { x with rsps := [r] }).host.spi.rsps = [r] := rfl

/-- Of every payload some check is right and another wrong. -/
theorem test_witness_SpiRows_check (payload : List Byte) : ∃ c d, crc16 (0x01#8 :: payload) = c ∧ crc16 (0x01#8 :: payload) ≠ d :=
  ⟨_, crc16 (0x01#8 :: payload) + 1, rfl, by simp⟩

/-- The active unit of a pair with its link up. -/
def active : State := modPair { late with role := .active } fun p =>
  { p with enabled := true, link := .up, replica := .ready, claim := 1, leaseEnd := some 1000000000001, rxSeq := 7 }

/-- The standby of a pair with its link up, which knows the node. -/
def standby : State := modPair { known with role := .standby } fun p => { p with enabled := true, link := .up, replica := .ready, rxSeq := 7 }

/-- A header in order whose tag holds. -/
def inOrder : LinkHdr := { seq := 7, flags := 0, tagOk := true }

/-- What the twin says first. -/
def hello : HelloMsg := { pairProto := 0, stepping := 2, lifecycle := 2, unitId := true, routerAddr := 1, kcvs := [] }

theorem test_witness_PairRows :
    (gateMay active = true ∧ gateMay base = true ∧ gateMay standby = false ∧ active.pair.gateOpen = false
      ∧ ({ active with pair := { active.pair with gateOpen := true } }).pair.gateOpen = true)
    ∧ (active.pair.enabled = true ∧ firmwareRuns active = true ∧ active.pair.hbAt = none)
    ∧ (bitsOf (0 : W64).toNat 7 0 = hbCrc (0 : W64).toNat ∧ bitsOf (1 : W64).toNat 7 0 ≠ hbCrc (1 : W64).toNat)
    ∧ (active.pair.link = .up ∧ resourceTested active 3 = false ∧ inOrder.tagOk = true ∧ inOrder.seq = active.pair.rxSeq ∧ inOrder.seq = standby.pair.rxSeq)
    ∧ (let t := modPair (linkUse standby) fun p => { p with rxSeq := p.rxSeq + 1, tagFails := 0, linkAt := some standby.upNs }
       follows t = true ∧ t.role = .standby ∧ nodeAt t home = some node)
    ∧ (let t := modPair (linkUse active) fun p => { p with rxSeq := p.rxSeq + 1, tagFails := 0, linkAt := some active.upNs }
       t.role ≠ .standby ∧ helloFits (sendHello t false) hello = true ∧ keyChecks (sendHello t false) = []
         ∧ helloFits (sendHello t false) { hello with unitId := false } = false)
    ∧ (base.pair.link ≠ .up ∧ ({ inOrder with seq := 8 }).seq ≠ active.pair.rxSeq)
    ∧ (let s := modPair active fun p => { p with link := .down }
       s.pair.enabled = true ∧ s.pair.link ≠ .up ∧ resourceTested s 3 = false)
    ∧ (let s := modPair active fun p => { p with waits := [{ seq := 1, since := 999999900000, hold := .launch }] }
       s.role = .active ∧ 999999900000 + s.pair.replTimeoutUs * 1000 ≤ s.upNs)
    ∧ (let s := modPair active fun p => { p with leaseEnd := some 1000000000000 }
       s.pair.leaseEnd = some 1000000000000 ∧ 1000000000000 ≤ s.upNs)
    ∧ (let s := modPair { late with role := .undecided } fun p => { p with enabled := true, startupEnd := some 5 }
       s.pair.startupEnd = some 5 ∧ s.role = .undecided ∧ s.pair.enabled = true ∧ s.pair.helloBad = false ∧ 5 ≤ s.upNs ∧ firmwareRuns s = true)
    ∧ (let s := modPair { standby with upNs := 5 } fun p => { p with judgedEnd := some 5 }
       s.pair.judgedEnd = some 5 ∧ s.role = .standby ∧ 5 ≤ s.upNs)
    ∧ (let s := modPair active fun p => { p with yieldPolicy := true, lineAt := some 999999000000 }
       s.pair.yieldPolicy = true ∧ silentFor s s.pair.lineAt (s.pair.leaseUs * 1000) = true
         ∧ silentFor s s.pair.linkAt (s.pair.leaseUs * 1000) = true) := by decide +kernel

/-- An atomic work item. -/
def item (atomic : Bool) : WorkItem := { flowKey := 5, kind := 1, prio := 7, isAtomic := atomic, arg := 0 }

/-- A shaping queue with 49 holes. -/
def holed : State := modShape base 63 fun x => { x with fifo := { x.fifo with middle := List.replicate 49 { record := 1, gen := 1 } } }

theorem test_witness_WorkRows :
    (firmwareRuns base = true ∧ 1024 < workCellsFree base ∧ (item false).isAtomic = false ∧ (item true).isAtomic = true)
    ∧ ((flowOf (setFlow base (flowIndex 5) { flowOf base (flowIndex 5) with busy := true }) (flowIndex 5)).busy = true)
    ∧ (let s := setCore base 7 { coreOf base 7 with running := some { item := item true, enqNs := 0 } }
       (coreOf s 7).running = some { item := item true, enqNs := 0 })
    ∧ (mismatchOf (queueOf base 63).fifo = none ∧ mismatchOf (readyOf base 7) = none ∧ mismatchOf (flowOf base 16383).deferred = none)
    ∧ (mismatchOf (queueOf (modShape base 63 fun x => { x with fifo := { x.fifo with skew := (0, 0, 1) } }) 63).fifo = some 2)
    ∧ ((queueLive holed 63).length + 48 < queueHoles holed 63)
    ∧ (let s := { base with upNs := 100000000 }
       s.queue.sampleMs ≠ 0 ∧ s.queue.sampleAt ≤ s.upNs)
    ∧ (arbWinner base (nth BankArb.reset base.queue.banks 31) 0x8000 = some 15 ∧ (0x8000 : W16).toNat = 0x8000) := by decide +kernel

theorem test_witness_ServiceRows :
    ((modCrypt base fun c => { c with epochWrite := some base.crypt.epochs }).crypt.epochWrite = some base.crypt.epochs)
    ∧ ((modFw base fun f => { f with handover := some { header := header, body := [] } }).fw.handover = some { header := header, body := [] })
    ∧ (let s := modTest late fun t => { t with paceFloor := 10, paceEventAt := some 999000000000 }
       9 < s.test.paceFloor ∧ s.test.paceFloor ≤ 10 ∧ s.test.paceEventAt = some 999000000000 ∧ 999000000000 + 1000000000 ≤ s.upNs
         ∧ ¬ late.upNs < 999000000000 + 1000000000)
    ∧ ((modTest late fun t => { t with paceEventAt := some 999000000001 }).test.paceEventAt = some 999000000001 ∧ late.upNs < 999000000001 + 1000000000)
    ∧ (late.test.telemAt ≤ late.upNs ∧ firmwareRuns late = true)
    ∧ (let s := modCmp inSlot3 fun c => { c with state := .running, startAsn := 3, roundSlots := 1, maxRounds := 1 }
       reachedRound s = some 1 ∧ campaignRuns s = true ∧ s.cmp.round = none ∧ (closeCollection s).cmp.maxRounds ≤ 1)
    ∧ (let s := modCmp inSlot3 fun c => { c with state := .running, startAsn := 3, roundSlots := 1, maxRounds := 2, round := some 0 }
       reachedRound s = some 1 ∧ s.cmp.round = some 0 ∧ 1 < (closeCollection s).cmp.maxRounds)
    ∧ (let s := modCmp inSlot3 fun c => { c with state := .running, startAsn := 3, roundSlots := 4, bcastSlots := 1, round := some 0 }
       s.cmp.round = some 0 ∧ campaignRuns s = true ∧ s.cmp.collecting = false ∧ 3 + 0 * s.cmp.roundSlots + s.cmp.bcastSlots ≤ currentAsn s) := by decide +kernel

theorem test_witness_ServiceRows_tests :
      (let s := setRun late 7 { newRun late 0 with endAt := some 5 }
       (runOf s 7).map (·.endAt) = some (some 5) ∧ 5 ≤ s.upNs)
    ∧ (let s := setRun late 0 { newRun late 0 with lanes := [{ bits := 0, errors := 0, locked := false, losses := 0 }
                                                            , { bits := 0, errors := 0, locked := true, losses := 0 }] }
       (runOf s 0).map (fun t => (t.running, t.dir, (t.lanes[0]?).map (·.locked), (t.lanes[1]?).map (·.locked)))
         = some (true, 0, some false, some true))
    ∧ (let s := setRun late 7 { newRun late 0 with kind := 2 }
       (runOf s (5 + bandNum .bandC)).map (fun t => (t.running, t.kind, t.lastTx, t.count)) = some (true, 2, none, 0))
    ∧ (let s := setRun late 7 { newRun late 0 with kind := 3, profile := 6, count := 2, counts := [1, 0, 0, 0, 0, 0], lastTx := some 0, intervalUs := 1000 }
       (runOf s (5 + bandNum .bandC)).map (fun t => (t.running, t.kind, t.lastTx, t.count, nth 0 t.counts 0)) = some (true, 3, some 0, 2, 1)
         ∧ (profileOf s 6).isSome = true) := by decide +kernel

theorem test_witness_RouterAddressRefusals :
    (let e := cmd .airSetRouterAddress [(0, 5)]
     admitted .airSetRouterAddress e onA = true ∧ partRefuses (arrived e onA) e .airSetRouterAddress = false ∧ e.stageId = 0
       ∧ conflicts (arrived e onA) e = false ∧ bandEnabled (arrived e onA) .bandA = true)
    ∧ (let e := cmd .airSetRouterAddress [(0, 0xFFFFFF00)]
       served .airSetRouterAddress e base = true ∧ viewRefuses (arrived e base) e (cmdSpec .airSetRouterAddress) = false
         ∧ lengthsOk e (cmdSpec .airSetRouterAddress).buf = true ∧ argBits e 31 0 = 0xFFFFFF00
         ∧ argBits (cmd .airSetRouterAddress []) 31 0 = 0) := by decide +kernel

theorem test_witness_RevertRule :
    (let e := cmd .updateRevert []
     admitted .updateRevert e base = true ∧ partRefuses (arrived e base) e .updateRevert = false ∧ e.stageId = 0 ∧ conflicts (arrived e base) e = false
       ∧ (arrived e base).fw.onProbation = false ∧ (arrived e base).fw.old = none)
    ∧ worksIn probing .updateRevert (cmd .updateRevert []) ∧ probing.fw.onProbation = true ∧ probing.fw.old.isSome = true
    ∧ firmwareRuns probing = true := by unfold worksIn worksAs; decide +kernel

/-- A mailbox command waits for its turn. -/
def mailing (s : State) : State := modView s .priv fun w => { w with mboxBusy := true, mboxWaits := true }

/-- A command waits on the SPI. -/
def spiWaiting (s : State) : State :=
  modSpi s fun x => { x with outstanding := true, refused := false, waits := some (cmdOf .spi .sysIdentify []) }

theorem test_witness_HostAccessRows_turns :
    (sessionServed base (.mbox .priv) = true ∧ (viewOf base .priv).mboxBusy = false ∧ turn (mailing base) = some (.mbox .priv)
      ∧ (mboxEntry (mailing base) .priv).session = .mbox .priv)
    ∧ (sessionServed fetching (.mbox .priv) = true ∧ (viewOf fetching .priv).mboxBusy = false
        ∧ turn (mailing { fetching with host := { fetching.host with rrLast := 0 } }) ≠ some (.mbox .priv))
    ∧ (let s := modChan fetching .priv 3 fun c => { c with regs := { c.regs with dmaLeft := some 0 } }
       turn s = some (.chan .priv 3) ∧ dmaFails (chanOf s .priv 3).regs = true ∧ dmaFails (chanOf fetching .priv 3).regs = false)
    ∧ (turn (spiWaiting base) = some .spi ∧ turn (spiWaiting fetching) ≠ some .spi ∧ sessionServed fetching .spi = true
        ∧ fetching.host.spi.outstanding = false) := by decide +kernel

/-- Transmit ring 15 at work, with an entry that waits in it. -/
def sending : State := { base with host := { base.host with tx := modNth base.host.tx 15 fun r =>
  { r with regs := { r.regs with ctrl := 0x80000006, active := true, prod := 1 } } } }

theorem test_witness_WorkRows_queues :
    (let r := nth TxRing.reset sending.host.tx 15
     pcieExists sending = true ∧ inRun sending = true ∧ radioStopped sending = false ∧ sending.key.tampered = false ∧ ringOn r.regs = true
       ∧ r.regs.active = true ∧ r.regs.prod ≠ r.regs.cons ∧ poolHasRoom sending (sliceBytes (List.replicate 2047 1) 0 2047).length = true
       ∧ dmaFails r.regs = false ∧ dmaFails { r.regs with dmaLeft := some 0 } = true)
    ∧ (recordOf (holding frame) 16383 = some frame ∧ frame.expires = some 5 ∧ 5 ≤ (holding frame).upNs ∧ frame.onAir = false
        ∧ anyLow (holding frame) shaperDoms = false ∧ recordOf (holding { frame with onAir := true }) 16383 = some { frame with onAir := true })
    ∧ (let s := modDom (holding frame) 9 fun x => { x with state := .retention }
       anyLow s shaperDoms = true ∧ recordOf s 16383 = some frame)
    ∧ (anyLow base tailDoms = false ∧ anyLow holed tailDoms = false
        ∧ anyLow (modDom holed 9 fun x => { x with state := .retention }) tailDoms = true
        ∧ (queueLive (modDom holed 9 fun x => { x with state := .retention }) 63).length + 48
            < queueHoles (modDom holed 9 fun x => { x with state := .retention }) 63)
    ∧ (let s : State := { base with pwr := { base.pwr with bulkErrors := [.tailCell (.ready 7)] } }
       bulkBad s (.tailCell (.ready 7)) = true ∧ bulkBad s (.tailCell (.deferred 16383)) = false)
    ∧ (mismatchOf (readyOf (modReady base 7 fun f => { f with skew := (0, 1, 0) }) 7) = some 1
        ∧ (let f := { (flowOf base 16383).deferred with skew := (1, 0, 0) }
           mismatchOf (flowOf (setFlow base 16383 { busy := true, deferred := f }) 16383).deferred = some 0)) := by decide +kernel

theorem test_witness_FrameRows_delivery :
    (base.path.uplinks.find? (mayProceed base) = none)
    ∧ (let u := { upFrame ftData [] with parent := none, launch := none }
       let s : State := { known with path := { known.path with uplinks := [u] } }
       s.path.uplinks.find? (mayProceed s) = some u ∧ u.cut = none ∧ u.ftype = ftData)
    ∧ (let u := { upFrame ftControl [] with parent := none, launch := none }
       let s : State := { known with path := { known.path with uplinks := [u] } }
       s.path.uplinks.find? (mayProceed s) = some u ∧ u.cut = none ∧ u.ftype ≠ ftData)
    ∧ (let u := { upFrame ftData [] with cut := some (7, 3), parent := none, launch := none }
       let s : State := { known with path := { known.path with uplinks := [u] } }
       s.path.uplinks.find? (mayProceed s) = some u ∧ u.cut = some (7, 3))
    ∧ (let s := hearing (ctx .psdu .test 1 (some rec11))
       (ctxOf s 511).purpose = .test ∧ (ctxOf s 511).state = .psdu ∧ (profileOf s 1).isSome = true ∧ rec11.stalled = none)
    ∧ (let s := hearing (ctx .psdu .acquire 1 (some rec11))
       masksOut (rxCount s .bandA rxFcsOkCount) = false
         ∧ masksOut (rxCount (modKey s fun k => { k with entRestart := true, reserve := 0 }) .bandA rxFcsOkCount) = true)
    ∧ (∃ t ∈ (modCmp running fun c => { c with targets := campaigning.cmp.targets }).cmp.targets, t.meshAddr = node.meshAddr) := by decide +kernel

theorem test_witness_WatchRows_banks :
    (domOf base (7 + 31 / 4)).state = .on ∧ (domOf base 7).state = .on := by decide +kernel

/-! An ill-formed term for each check of WellFormed. -/

theorem test_illFormed_entries :
    (Instr.sysIdentify (cmd .sysPin [])).wellFormed = false ∧ (Instr.sysIdentify (cmdOf (.chan .priv 4) .sysIdentify [])).wellFormed = false
    ∧ (Instr.sysIdentify (cmdOf (.chan .unpriv 12) .sysIdentify [])).wellFormed = false
    ∧ (Instr.sysIdentify (cmdOf (.chan .unpriv 11) .sysIdentify [])).wellFormed = true := by decide +kernel

theorem test_illFormed_host :
    (Instr.commandFetch (cmdOf (.chan .priv 4) .sysIdentify [])).wellFormed = false ∧ (Instr.commandProdWrite .priv 4 0).wellFormed = false
    ∧ (Instr.rspConsWrite .unpriv 12 0).wellFormed = false ∧ (Instr.rxProdWrite 16 0 []).wellFormed = false
    ∧ (Instr.txProdWrite 16 0).wellFormed = false ∧ (Instr.ringEnable .priv (.rx 0) ⟨0x80000004, none⟩).wellFormed = false
    ∧ (Instr.ringEnable .unpriv (.rx 16) ⟨0x80000004, none⟩).wellFormed = false ∧ (Instr.ringEnable .priv .ts ⟨0x80000004, none⟩).wellFormed = false
    ∧ (Instr.ringEnable .unpriv (.tx 16) ⟨0x80000004, none⟩).wellFormed = false ∧ (Instr.ringEnable .priv .event ⟨4, none⟩).wellFormed = false
    ∧ (Instr.ringTeardown .priv .event 0x80000004).wellFormed = false ∧ (Instr.registerWrite .priv 0x10000 0).wellFormed = false
    ∧ (Instr.registerWrite .priv 0x21 0).wellFormed = false ∧ (Instr.longCommandComplete (.chan .unpriv 12) 0).wellFormed = false
    ∧ (Instr.interruptHoldoffExpiry .priv (.chan 4)).wellFormed = false := by decide +kernel

theorem test_illFormed_radio :
    (Instr.transmitRingFetch 16 { bufAddr := 0, ctl := 0, destAddr := 0, life := 0, rsvd := 0 } []).wellFormed = false ∧ (Instr.syncDetect 512 0 0 0).wellFormed = false
    ∧ (Instr.syncDetect 511 33 0 0).wellFormed = false ∧ (Instr.ofdmDetect 512 0 0).wellFormed = false
    ∧ (Instr.secondaryDetect 512 ⟨0, []⟩).wellFormed = false ∧ (Instr.headerDecide 512 ⟨0, []⟩).wellFormed = false
    ∧ (Instr.carrierDrop 512 [] 0).wellFormed = false ∧ (Instr.rxPsduEnd 512 [] 0 []).wellFormed = false
    ∧ (Instr.soundingEnd 512 []).wellFormed = false ∧ (Instr.cutThroughPiece 512 []).wellFormed = false
    ∧ (Instr.contactMiss 262144).wellFormed = false ∧ (Instr.adriftDeadline 262144).wellFormed = false
    ∧ (Instr.contextListenEnd 512).wellFormed = false := by decide +kernel

theorem test_illFormed_links :
    (Instr.ethRxFrame 2 [] true).wellFormed = false ∧ (Instr.ethLinkChange 2 true).wellFormed = false
    ∧ (Instr.ptpSyncRx 2 sync).wellFormed = false ∧ (Instr.ptpAnnounceRx 2 (announce 1 1)).wellFormed = false
    ∧ (Instr.ptpSyncTx 2).wellFormed = false ∧ (Instr.ptpAnnounceTx 2).wellFormed = false ∧ (Instr.sourceInvalid 6).wellFormed = false
    ∧ (Instr.captureEdge 16 true).wellFormed = false ∧ (Instr.eventPinEdge 16).wellFormed = false
    ∧ (Instr.internalTriggerFire 14).wellFormed = false ∧ (Instr.contact inOrder 262144 0).wellFormed = false
    ∧ (Instr.checkerLocked 5 0).wellFormed = false ∧ (Instr.checkerLocked 0 8).wellFormed = false
    ∧ (Instr.checkerLockLoss 5 0 0).wellFormed = false := by decide +kernel

theorem test_illFormed_domains :
    (Instr.handshakePeriod 24).wellFormed = false ∧ (Instr.handshakeAnswer 24 []).wellFormed = false ∧ (Instr.idleTimerExpiry 24).wellFormed = false
    ∧ (Instr.domainEntryComplete 24).wellFormed = false ∧ (Instr.domainWake 24).wellFormed = false
    ∧ (Instr.domainWakeComplete 24).wellFormed = false ∧ (Instr.handshakeDelayExpiry 24 0).wellFormed = false
    ∧ (Instr.revokeDrainDone 128).wellFormed = false ∧ (Instr.maskReseed 16).wellFormed = false
    ∧ (Instr.kernelWatchdogExpiry 8).wellFormed = false ∧ (Instr.coreItemComplete 8).wellFormed = false
    ∧ (Instr.queueCompaction 64).wellFormed = false ∧ (Instr.bankArbitration 32 0).wellFormed = false
    ∧ (Instr.bankArbitration 31 0).wellFormed = true ∧ (Instr.fabricWatchdogExpiry 16 0).wellFormed = false
    ∧ (Instr.fabricWatchdogExpiry 0 32).wellFormed = false := by decide +kernel

/-! Values that the manual and the standards it names state. -/

/-- The string of the check values: 123456789. -/
def digits : List Byte := [0x31, 0x32, 0x33, 0x34, 0x35, 0x36, 0x37, 0x38, 0x39]

/-- R110: the check value of the header check. -/
theorem test_hcs8_check : hcs8 digits = 0xF4 := by decide +kernel

/-- R113: the check values of the two FCS types, as sent. -/
theorem test_fcs_check : fcsOf 0 digits = [0x89, 0x21] ∧ fcsOf 1 digits = [0x26, 0x39, 0xF4, 0xCB] := by decide +kernel

/-- R114: the first 16 bits of the whitening sequence under the default seed. -/
theorem test_pn9_first : pn9 0x1FF [0, 0] = [0xFF, 0xE1] := by decide +kernel

/-- R114: whitening is its own inverse. -/
theorem test_pn9_twice : pn9 0x1FF (pn9 0x1FF digits) = digits := by decide +kernel

/-- The durations that follow R114: 32-byte data under profiles 2 and 3, 33 bytes under profile 4, 1,500 bytes of TL-OFDM on band B. -/
theorem test_frame_durations :
    (profileOf base 2).map (frameNs · 1 32) = some 7200000 ∧ (profileOf base 3).map (frameNs · 1 32) = some 1160000
    ∧ (profileOf base 4).map (frameNs · 2 33) = some 448000 ∧ (profileOf base 5).map (frameNs · 1 1500) = some 17424000 := by decide +kernel

/-- FIPS 197, appendix B: one block under a 128-bit key. -/
theorem test_aes_block : aesEncrypt (beBytes 16 0x2B7E151628AED2A6ABF7158809CF4F3C) (beBytes 16 0x3243F6A8885A308D313198A2E0370734)
    = beBytes 16 0x3925841D02DC09FBDC118597196A0B32 := by decide +kernel

/-- FIPS 180-4: the digest of the three bytes of abc. -/
theorem test_sha256_abc : sha256 [0x61, 0x62, 0x63] = beBytes 32 0xBA7816BF8F01CFEA414140DE5DAE2223B00361A396177A9CB410FF61F20015AD := by
  decide +kernel

/-- R115 to R121: the header of a data frame read field by field: control 0x0248, destination 1, source 0x11223344, generation 2, counter 0x02C01A3F. -/
theorem test_mac_header :
    let h := parseMac ([0x48, 0x02] ++ leBytes 4 1 ++ leBytes 4 0x11223344 ++ [2] ++ leBytes 4 0x02C01A3F)
    h.fc = 0x0248 ∧ h.dest = 1 ∧ h.src = 0x11223344 ∧ h.keyGen = 2 ∧ h.counter = 0x02C01A3F ∧ h.len = 15 := by decide +kernel

/-- R119: an EUI-64 as its bytes stand on the air. -/
theorem test_eui_bytes : leBytes 8 0x8A2C4100003F9107 = [0x07, 0x91, 0x3F, 0x00, 0x00, 0x41, 0x2C, 0x8A] := by decide +kernel

end Sys2Proof.Tests
end

section
/-! SUPPORT. What the checks of R75 answer: a host command's row runs the one routine of host commands, and a command that a check of
steps 1 to 6 turns away is answered with that check's status. -/

namespace Sys2Proof.Proofs

open Sys2Proof Sys2Proof.Machine Sys2Proof.Laws

/-- The row of a host command runs the routine of host commands: every constructor that `hostRow` names has such an arm. -/
theorem exec_hostRow {i : Instr} {c : CmdId} {e : CmdEntry} (s : State) (h : hostRow i = some (c, e)) :
    exec i s = .next (hostCommand c e s) := by
  cases i
  all_goals cases h
  all_goals rfl

/-- A command in service that a check of steps 1 to 6 turns away gets that refusal as its one response (R75). -/
theorem hostCommand_refused {c : CmdId} {e : CmdEntry} {s : State} {r : Reply} (hs : served c e s = true)
    (hr : firstRefusal c e (arrived e s) (stageView (arrived e s) e) = some r) :
    hostCommand c e s = respond (arrived e s) e r true := by
  rw [hostCommand_served hs, runChecked, hr]

/-- The view is judged before anything else that can refuse a known command (R75 step 2). -/
theorem firstRefusal_of_viewRefuses {c : CmdId} {e : CmdEntry} {s : State} (view : State) (h : viewRefuses s e (cmdSpec c) = true) :
    firstRefusal c e s view = some (refuse stRefusedView) := by
  rw [firstRefusal, if_pos h]

/-- The mark of a privileged-only command refuses the unprivileged view alone, whatever its function, its level and the pins (R71). -/
theorem viewRefuses_of_privOnly {x : CmdSpec} {e : CmdEntry} (s : State) (hx : x.privOnly = true) (hv : sessionView e.session = .unpriv) :
    viewRefuses s e x = true := by
  simp [viewRefuses, hx, hv]

end Sys2Proof.Proofs
end

section
/-! Settled statements of the host interface. -/

namespace Sys2Proof.Proofs

open Sys2Proof Sys2Proof.Machine

/-- Settles O10: the mark makes step 2 of R75 refuse, and step 2 is judged first, in whatever state the command arrives. -/
theorem privilegedOnly : Obligations.PrivilegedOnly := by
  intro i c e s hrow hserved hpriv hview
  have hrefused := firstRefusal_of_viewRefuses (stageView (arrived e s) e) (viewRefuses_of_privOnly (arrived e s) hpriv hview)
  rw [exec_hostRow s hrow, hostCommand_refused hserved hrefused]

end Sys2Proof.Proofs
end

section
/-! SUPPORT. What the remaining checks of R75 answer: the arguments of step 4, and the part state and the command's own check of
steps 9 and 10. -/

namespace Sys2Proof.Proofs

open Sys2Proof Sys2Proof.Machine Sys2Proof.Laws

/-- A command that names no stage and is none of those served apart runs at once (R75 step 7). -/
theorem runChecked_immediate {c : CmdId} {e : CmdEntry} {s : State} (hr : firstRefusal c e s (stageView s e) = none)
    (hc : isStageCommand c = false) (h0 : e.stageId = 0) (hl : (c == .pairLocalApply) = false) :
    runChecked c e s = runNow c e s := by
  simp [runChecked, hr, hc, h0, hl]

/-- An immediate command that no stage stands against is answered with the first refusal of steps 9 and 10. -/
theorem runNow_refused {c : CmdId} {e : CmdEntry} {s : State} {r : Reply} (hk : conflicts s e = false)
    (hr : lastRefusal .now c e s = some r) : runNow c e s = respond s e r true := by
  simp [runNow, hk, hr]

/-- A command that the part state lets pass is judged by its function's own check. -/
theorem lastRefusal_of_part_passes {c : CmdId} {e : CmdEntry} {s : State} (w : When) (hp : partRefuses s e c = false) :
    lastRefusal w c e s = (fnImpl c).check w e s := by
  simp [lastRefusal, hp]

/-- Step 4 refuses an argument that the command's function does not take, once view and lengths pass. -/
theorem firstRefusal_of_bad_args {c : CmdId} {e : CmdEntry} {s view : State} (hv : viewRefuses s e (cmdSpec c) = false)
    (hl : lengthsOk e (cmdSpec c).buf = true) (ha : (fnImpl c).args e view = false) :
    firstRefusal c e s view = some (refuse stBadArg) := by
  simp [firstRefusal, hv, hl, ha]

/-- One enabled band is some enabled band: `bands` names all three. -/
theorem anyBandEnabled_of_bandEnabled {s : State} {b : Band} (h : bandEnabled s b = true) : anyBandEnabled s = true := by
  have hmem : b ∈ bands := by cases b <;> decide
  exact List.any_eq_true.mpr ⟨b, hmem, h⟩

end Sys2Proof.Proofs
end

section
/-! SUPPORT. The decision of a GFSK header (R109 to R112). -/

namespace Sys2Proof.Proofs

open Sys2Proof Sys2Proof.Machine

/-- A field of the bits `hi` down to `lo` is below 2 to the number of its bits. -/
theorem bitsOf_lt (x hi lo : Nat) : bitsOf x hi lo < 2 ^ (hi + 1 - lo) := Nat.mod_lt _ (Nat.two_pow_pos _)

/-- R112: a GFSK header that the profile rejects. -/
def HeaderRejected (p : AirProfile) (h : Nat) : Prop :=
  hcs8 (leBytes 2 (bitsOf h 15 0)) ≠ bitsOf h 23 16 ∨ bitsOf h 10 0 = 0 ∨ bitsOf h 15 13 = 6 ∨ bitsOf h 15 13 = 7
    ∨ (bitsOf h 15 13 % 2 = 1 ∧ p.mode = 0) ∨ p.maxPsdu < bitsOf h 10 0

/-- Fields of a GFSK header that passes (R109). -/
def gfskFields (h : Nat) : HdrFields :=
  { length := bitsOf h 10 0, whiten := bitOf h 12, fcsType := natOf (bitOf h 11), rateHint := bitsOf h 15 13, toneMap := 0, symbolBits := 0 }

/-- The three bits of `rate_hint` are 6 or more where they are 6 or 7. -/
theorem six_le_rateHint_iff (h : Nat) : 6 ≤ bitsOf h 15 13 ↔ bitsOf h 15 13 = 6 ∨ bitsOf h 15 13 = 7 := by
  have hlt : bitsOf h 15 13 < 8 := bitsOf_lt h 15 13
  omega

/-- What the model's decoder makes of a GFSK header: nothing in the five cases of R112, its fields in any other. -/
theorem gfskHeader_eq (p : AirProfile) (h : Nat) [Decidable (HeaderRejected p h)] :
    gfskHeader p h = if HeaderRejected p h then none else some (gfskFields h) := by
  have htest : HeaderRejected p h ↔ hcs8 (leBytes 2 (bitsOf h 15 0)) ≠ bitsOf h 23 16 ∨ bitsOf h 10 0 = 0 ∨ 6 ≤ bitsOf h 15 13
      ∨ (bitsOf h 15 13 % 2 = 1 ∧ p.mode = 0) ∨ p.maxPsdu < bitsOf h 10 0 := by
    rw [HeaderRejected, six_le_rateHint_iff, or_assoc]
  simp only [gfskHeader, gfskFields, htest, Bool.or_eq_true, Bool.and_eq_true, bne_iff_ne, decide_eq_true_eq, or_assoc]

/-- Counting on the receive side moves no antenna instant: the count leaves the clock and `rx_path_ns`. -/
@[simp] theorem antennaNs_rxCount (s : State) (b d : Band) (k : Nat) : antennaNs (rxCount s b k) d = antennaNs s d := by
  cases b <;> cases d <;> rfl

/-- A header that passes (R160, R163): a held detection is lost, and the context receives the PSDU under the header's fields. -/
def headerPasses (s : State) (i : Nat) (r : Reception) (f : HdrFields) : State :=
  setCtx (if r.held.isSome then rxCount s (bandOfD (ctxOf s i).band) rxOverlapLost else s) i
    { ctxOf s i with
      state := .psdu
      rx := some { r with
        decidedNs := antennaNs s (bandOfD (ctxOf s i).band), symbolBits := f.symbolBits, held := none, length := f.length, whiten := f.whiten
        fcsType := f.fcsType, rateHint := f.rateHint, toneMap := f.toneMap
        posted := s.host.rx.map fun x => if ringOn x.regs && x.regs.active then x.posted.length else 0 } }

/-- HEADER_DECIDE is the context's decision on what it heard (R163). -/
theorem exec_headerDecide (i : Nat) (heard : HeaderHeard) (s : State) :
    exec (.headerDecide i heard) s = .next (headerDecideOp s i heard.hdr heard.soft) := rfl

section Decision

variable {i : Nat} {s : State} {r : Reception} {p : AirProfile} (heard : HeaderHeard) (hrx : (ctxOf s i).rx = some r)
  (hp : profileOf s (ctxOf s i).profile = some p) (hlocked : (ctxOf s i).state = .locked) (hgfsk : isOfdm p = false)

include hrx hp hlocked hgfsk

/-- A context locked on a GFSK frame whose header does not decode gives the frame up. -/
theorem exec_headerDecide_of_none (hnone : gfskHeader p (heard.hdr.toNat % 2 ^ 24) = none) :
    exec (.headerDecide i heard) s = .next (headerFails s i r (heard.hdr.toNat % 2 ^ 24)) := by
  simp [-Nat.reducePow, exec_headerDecide, headerDecideOp, hrx, hp, hlocked, hgfsk, hnone]

/-- A context locked on a GFSK frame whose header decodes goes on to its PSDU. -/
theorem exec_headerDecide_of_some {f : HdrFields} (hsome : gfskHeader p (heard.hdr.toNat % 2 ^ 24) = some f) :
    exec (.headerDecide i heard) s = .next (headerPasses s i r f) := by
  cases hheld : r.held <;> simp [-Nat.reducePow, exec_headerDecide, headerDecideOp, headerPasses, hrx, hp, hlocked, hgfsk, hsome, hheld]

end Decision

end Sys2Proof.Proofs
end

section
/-! Settled statements of the air formats. -/

namespace Sys2Proof.Proofs

open Sys2Proof Sys2Proof.Machine Sys2Proof.Laws

/-- Settles O56: the header decodes to nothing in the five cases of R112 and to its fields in any other. -/
theorem headerRejection : Obligations.HeaderRejection := by
  classical
  intro i hdr soft s r p hrx hp hlocked hgfsk
  refine ⟨fun hbad => ?_, fun hok => ?_⟩
  · have hnone : gfskHeader p (hdr.toNat % 2 ^ 24) = none := by rw [gfskHeader_eq]; exact if_pos hbad
    exact exec_headerDecide_of_none ⟨hdr, soft⟩ hrx hp hlocked hgfsk hnone
  · have hsome : gfskHeader p (hdr.toNat % 2 ^ 24) = some (gfskFields (hdr.toNat % 2 ^ 24)) := by rw [gfskHeader_eq]; exact if_neg hok
    exact exec_headerDecide_of_some ⟨hdr, soft⟩ hrx hp hlocked hgfsk hsome

/-- AIR_SET_ROUTER_ADDRESS takes no address that R118 reserves. -/
theorem airSetRouterAddress_args_of_reserved {e : CmdEntry} (view : State)
    (h : argBits e 31 0 = 0 ∨ 0xFFFFFF00 ≤ argBits e 31 0 ∧ argBits e 31 0 ≤ 0xFFFFFFFF) :
    (fnImpl .airSetRouterAddress).args e view = false := by
  have hreserved : reservedAddr (argBits e 31 0) = true := by
    obtain hzero | ⟨hhigh, -⟩ := h
    · simp [reservedAddr, hzero]
    · simp [reservedAddr, hhigh]
  simp [fnImpl, airSetRouterAddress, hreserved]

/-- The command's own check refuses while some band is enabled (R147). -/
theorem airSetRouterAddress_check_of_enabled {s : State} (w : When) (e : CmdEntry) (h : anyBandEnabled s = true) :
    (fnImpl .airSetRouterAddress).check w e s = some (refuse stRefusedState) := by
  simp [fnImpl, airSetRouterAddress, refuseIf, h]

/-- Settles O57: the enabled band refuses at step 10 of R75, the reserved address at step 4. -/
theorem routerAddressRefusals : Obligations.RouterAddressRefusals := by
  constructor
  · intro e s hadmitted hpart hstage hconf ⟨b, hband⟩
    obtain ⟨hserved, hpasses⟩ := admitted_parts hadmitted
    have hcheck := airSetRouterAddress_check_of_enabled .now e (anyBandEnabled_of_bandEnabled hband)
    have hrefused := (lastRefusal_of_part_passes .now hpart).trans hcheck
    rw [exec_hostRow s rfl, hostCommand_served hserved, runChecked_immediate hpasses rfl hstage rfl, runNow_refused hconf hrefused]
  · intro e s hserved hview hlen haddr
    have hrefused := firstRefusal_of_bad_args hview hlen (airSetRouterAddress_args_of_reserved (stageView (arrived e s) e) haddr)
    rw [exec_hostRow s rfl, hostCommand_refused hserved hrefused]

end Sys2Proof.Proofs
end

section
/-! SUPPORT. What a failed MIC leaves as it was (R356). -/

namespace Sys2Proof.Proofs

open Sys2Proof Sys2Proof.Machine

/-- The parts of the state that sending, delivery and a node's contact would change: transmit chains, forwarding path, node table,
engine plans, queues, clock, air settings, twin. -/
def trafficOf (s : State) : Trio TxBand × Path × NodeDom × Orbit × QueueDom × Clk × Air × Pair :=
  (s.radio.tx, s.path, s.node, s.orbit, s.queue, s.clk, s.air, s.pair)

/-! The updates that a key lookup, a cipher lane, a counter and an entry of a ring are made of. -/

@[simp] theorem trafficOf_modKey (s : State) (f : KeyDom → KeyDom) : trafficOf (modKey s f) = trafficOf s := rfl
@[simp] theorem trafficOf_keyCount (s : State) (i : Nat) : trafficOf (keyCount s i) = trafficOf s := rfl
@[simp] theorem trafficOf_modSlot (s : State) (n : Nat) (f : KeySlot → KeySlot) : trafficOf (modSlot s n f) = trafficOf s := rfl
@[simp] theorem trafficOf_chargeUse (s : State) (n k : Nat) : trafficOf (chargeUse s n k) = trafficOf s := rfl
@[simp] theorem trafficOf_cryptCount (s : State) (i n : Nat) : trafficOf (cryptCount s i n) = trafficOf s := rfl
@[simp] theorem trafficOf_modLane (s : State) (i : Nat) (f : Lane → Lane) : trafficOf (modLane s i f) = trafficOf s := rfl

@[simp] theorem trafficOf_modView (s : State) (v : View) (f : ViewIf → ViewIf) : trafficOf (modView s v f) = trafficOf s := by
  cases v <;> rfl

/-- An event goes to the views alone (R81). -/
@[simp] theorem trafficOf_raiseEvent (s : State) (code a0 a1 a2 a3 : Nat) : trafficOf (raiseEvent s code a0 a1 a2 a3) = trafficOf s := by
  simp only [raiseEvent, raiseAt]
  split <;> simp only [trafficOf_modView]

/-- An entry of a receive ring, written or dropped, is the host interface's (R66). -/
@[simp] theorem trafficOf_rxWrite (s : State) (ring : Nat) (mk : PostedBuf → Bool → RxEntry) :
    trafficOf (rxWrite s ring mk).1 = trafficOf s := by
  unfold rxWrite
  extract_lets r
  split
  · rfl
  · split
    · rfl
    · split <;> rfl

/-! The key of a frame (R335) and the cipher lane it runs on (R365). -/

/-- A mask comes from the entropy source or from the reserve of the KEY domain. -/
theorem trafficOf_drawMask {s t : State} {n : Nat} {m : BitVec 256} (h : drawMask s n = some (m, t)) : trafficOf t = trafficOf s := by
  unfold drawMask at h
  split at h
  · split at h
    · cases h; rfl
    · cases h
  · cases h; rfl

@[simp] theorem trafficOf_readSlot (s : State) (n : Nat) : trafficOf (readSlot s n).1 = trafficOf s := by
  unfold readSlot
  extract_lets x
  split
  · rfl
  · split
    · rfl
    · simp [markBad]

@[simp] theorem trafficOf_deriveKey (s : State) (slot : Nat) (eui : W64) (g : Nat) :
    trafficOf (deriveKey s slot eui g).1 = trafficOf s := by
  unfold deriveKey
  split
  · rfl
  · have hread := trafficOf_readSlot s slot
    generalize readSlot s slot = read at hread ⊢
    obtain ⟨t, _ | net⟩ := read
    · exact hread
    · dsimp only at hread ⊢
      cases hmask : drawMask t 16 with
      | none => exact hread
      | some drawn => simp [trafficOf_drawMask hmask, hread]

/-- Whether the cache answers, the slot answers or neither, only the KEY domain and the views are written. -/
@[simp] theorem trafficOf_resolveKey (s : State) (eui : W64) (g : Nat) : trafficOf (resolveKey s eui g).1 = trafficOf s := by
  unfold resolveKey
  extract_lets found noSlot
  have hnoSlot : trafficOf noSlot.1 = trafficOf s := by
    cases h : found <;> simp [noSlot, h]
  cases bindingOf s g with
  | none => exact hnoSlot
  | some bound =>
    dsimp only
    split
    · exact hnoSlot
    · cases found with
      | none => exact trafficOf_deriveKey s bound.2 eui g
      | some entry =>
        dsimp only
        split
        · exact trafficOf_deriveKey s bound.2 eui g
        · split
          · rfl
          · split <;> simp

@[simp] theorem trafficOf_reseedLane (s : State) (i : Nat) : trafficOf (reseedLane s i) = trafficOf s := by
  unfold reseedLane
  cases hmask : drawMask s 16 with
  | none => rfl
  | some drawn => exact (trafficOf_modLane ..).trans (trafficOf_drawMask hmask)

@[simp] theorem trafficOf_laneRun (s : State) (i n : Nat) : trafficOf (laneRun s i n) = trafficOf s := by
  unfold laneRun
  extract_lets seeded counted
  have hseeded : trafficOf seeded = trafficOf s := by simp only [seeded]; split <;> simp
  have hcounted : trafficOf counted = trafficOf seeded := by simp only [counted]; split <;> simp
  rw [trafficOf_modLane, hcounted, hseeded]

@[simp] theorem trafficOf_frameLane (s : State) : trafficOf (frameLane s) = trafficOf s := by simp [frameLane]

/-! What the failure itself does. -/

@[simp] theorem trafficOf_reportNode (s : State) (x : Heard) (i : Nat) (n : NodeEntry) (status : Byte) (payload : List Byte) :
    trafficOf (reportNode s x i n status payload) = trafficOf s := by
  unfold reportNode
  extract_lets want
  split
  · simp [hostDeliver]
  · rfl

/-- The end of a cut-through series is a change of its context, a count and an entry of its ring (R361). -/
@[simp] theorem trafficOf_endCut (s : State) (i : Nat) (status : Byte) (lqi : Nat) : trafficOf (endCut s i status lqi) = trafficOf s := by
  unfold endCut
  extract_lets c
  split
  · rfl
  · split
    · rfl
    · extract_lets closed crypt counted
      have hcounted : trafficOf counted = trafficOf s := by simp only [counted]; split <;> rfl
      split
      · exact hcounted
      · rw [trafficOf_rxWrite, hcounted]

@[simp] theorem trafficOf_tagFails (s : State) (x : Heard) (node : Option (Nat × NodeEntry)) :
    trafficOf (tagFails s x node) = trafficOf s := by
  cases node <;> simp [tagFails, cutFails, reportHidden]

/-- The EUI under which the key of a frame of a node stands: the group value for a broadcast that is no JOIN_REQ, else the node's (R352). -/
def keyEui (x : Heard) (n : NodeEntry) (join : Bool) : W64 :=
  if x.h.dest = addrBroadcast ∧ join = false then groupEui else n.eui

/-- Under a generation that R355 takes and a key that is there, a wrong MIC ends the frame in `tagFails`. -/
theorem verifyNode_of_mic_fails {s : State} {x : Heard} {n : NodeEntry} {join : Bool} {key : List Byte} (i : Nat)
    (go : State → List Byte → GenCase → State)
    (hcase : genCase s n x.h.keyGen join = .normal ∨ genCase s n x.h.keyGen join = .switch)
    (hkey : (resolveKey s (keyEui x n join) x.h.keyGen.toNat).2 = .key key) (hmic : (x.verify key n.eui).2 = false) :
    verifyNode s x i n join go = tagFails (frameLane (resolveKey s (keyEui x n join) x.h.keyGen.toNat).1) x (some (i, n)) := by
  have heui : (if (x.h.dest == addrBroadcast && !join) = true then groupEui else n.eui) = keyEui x n join := by simp [keyEui]
  unfold verifyNode
  dsimp only
  rw [heui]
  generalize resolveKey s (keyEui x n join) x.h.keyGen.toNat = resolved at hkey ⊢
  obtain ⟨t, res⟩ := resolved
  subst hkey
  obtain h | h := hcase <;> simp [h, hmic]

/-- R80: where the node's ring reports errors, the failed frame has its entry in it. -/
theorem reportHidden_of_errReport {s : State} {x : Heard} {n : NodeEntry} (i : Nat) (h : errReport s n.rxRing = true) :
    reportHidden s x i n fsTagFail
      = (hostDeliver s (x.uplink (some (i, n)) (List.replicate x.sealed.length 0) 0) n.rxRing fsTagFail).1 := by
  have hstatus : (fsTagFail == fsDuplicate) = false := by decide
  simp [reportHidden, reportNode, hstatus, h]

end Sys2Proof.Proofs
end

section
/-! Settled statements of frame protection. -/

namespace Sys2Proof.Proofs

open Sys2Proof Sys2Proof.Machine

/-- Settles O58: the failure ends in `tagFails`, and each update from the key lookup on leaves what sending and delivery would change. -/
theorem tagFailure : Obligations.TagFailure := by
  intro s x i n join go key hcase eui t u hkey hmic
  have hfails : u = tagFails t x (some (i, n)) := verifyNode_of_mic_fails i go hcase hkey hmic
  have hkept : trafficOf u = trafficOf s :=
    calc trafficOf u = trafficOf t := by rw [hfails, trafficOf_tagFails]
      _ = trafficOf s := (trafficOf_frameLane _).trans (trafficOf_resolveKey s eui x.h.keyGen.toNat)
  simp only [trafficOf, Prod.mk.injEq] at hkept
  obtain ⟨htx, hpath, hnode, horbit, hqueue, hclk, hair, hpair⟩ := hkept
  exact ⟨htx, hpath, hnode, horbit, hqueue, hclk, hair, hpair, hfails, rfl, reportHidden_of_errReport i⟩

end Sys2Proof.Proofs
end

section
/-! SUPPORT. How a long command ends (R77), and a command that its function's own check turns away (R75 step 10). -/

namespace Sys2Proof.Proofs

open Sys2Proof Sys2Proof.Machine Sys2Proof.Laws

/-- An immediate command that steps 1 to 9 let pass and its function's own check refuses gets that refusal as its one response. -/
theorem exec_refused_by_check {i : Instr} {c : CmdId} {e : CmdEntry} {s : State} {r : Reply} (hrow : hostRow i = some (c, e))
    (hadmitted : admitted c e s = true) (hc : isStageCommand c = false) (hl : (c == .pairLocalApply) = false) (hstage : e.stageId = 0)
    (hconf : conflicts (arrived e s) e = false) (hpart : partRefuses (arrived e s) e c = false)
    (hcheck : (fnImpl c).check .now e (arrived e s) = some r) :
    exec i s = .next (respond (arrived e s) e r true) := by
  obtain ⟨hserved, hpasses⟩ := admitted_parts hadmitted
  have hrefused := (lastRefusal_of_part_passes .now hpart).trans hcheck
  rw [exec_hostRow s hrow, hostCommand_served hserved, runChecked_immediate hpasses hc hstage hl, runNow_refused hconf hrefused]

/-- The end of a long command's work leaves what its function's `finish` gives and answers its reply; KEY_GEN_MAP's end does more. -/
theorem exec_longCommandComplete_of_finish {x : Session} {tag : W16} {op : LongOp} {c : CmdId} {s t : State} {r : Reply}
    (hworks : worksAs x tag op c s) (hc : (c == .keyGenMap) = false) (hfinish : (fnImpl c).finish op (ended op s) = some (t, r)) :
    exec (.longCommandComplete x tag) s = .next (answerFinal t op.e r) := by
  obtain ⟨hfound, hcmd⟩ := hworks
  rw [ended] at hfinish
  show Host.Outcome.next (longCompleteOp x tag s) = _
  simp [longCompleteOp, hfound, hcmd, hfinish, hc]

end Sys2Proof.Proofs
end

section
/-! SUPPORT. Handing back to the old image (R483, R484). -/

namespace Sys2Proof.Proofs

open Sys2Proof Sys2Proof.Machine

/-- A hand-back is legal on probation with the old image in its bank (R484). -/
theorem revertible_iff (s : State) : revertible s = true ↔ s.fw.onProbation = true ∧ s.fw.old.isSome = true := Bool.and_eq_true_iff

/-- Without probation or without the old image there is none. -/
theorem revertible_eq_false {s : State} (h : s.fw.onProbation = false ∨ s.fw.old = none) : revertible s = false := by
  obtain hoff | hnone := h
  · rw [revertible, hoff, Bool.false_and]
  · rw [revertible, hnone, Option.isSome_none, Bool.and_false]

/-- UPDATE_REVERT's own check refuses where no hand-back is legal. -/
theorem updateRevert_check_of_not_revertible {s : State} (w : When) (e : CmdEntry) (h : revertible s = false) :
    (fnImpl .updateRevert).check w e s = some (refuse stUpdateSequence) := by
  simp [fnImpl, updateRevert, refuseIf, h]

/-- The work of UPDATE_REVERT ends in the hand-back and its event. -/
theorem updateRevert_finish_of_revertible {s : State} (op : LongOp) (h : revertible s = true) :
    (fnImpl .updateRevert).finish op s = some (stageEvent (handBack s) 5, okReply) := by
  simp [fnImpl, updateRevert, h]

/-- A failure on probation with the old image in its bank is the hand-back that counts (R483). -/
theorem probationFailureOp_of_revertible {s : State} (hrun : firmwareRuns s = true) (h : revertible s = true) :
    probationFailureOp s = failBack s := by
  obtain ⟨hprob, hold⟩ := (revertible_iff s).mp h
  simp [probationFailureOp, probationFails, hrun, hprob, hold]

end Sys2Proof.Proofs
end

section
/-! Settled statements of the firmware update. -/

namespace Sys2Proof.Proofs

open Sys2Proof Sys2Proof.Machine

/-- Settles O60: one condition, `revertible`, decides the command's check, its completion and the probation failure's hand-back. -/
theorem revertRule : Obligations.RevertRule := by
  refine ⟨?refused, ?reverted, ?failed, ?counted⟩
  case refused =>
    intro e s hadmitted hpart hstage hconf hillegal
    have hcheck := updateRevert_check_of_not_revertible .now e (revertible_eq_false hillegal)
    exact exec_refused_by_check rfl hadmitted rfl rfl hstage hconf hpart hcheck
  case reverted =>
    intro x tag op s hworks hprob hold
    have hlegal : revertible (ended op s) = true := (revertible_iff _).mpr ⟨hprob, hold⟩
    exact exec_longCommandComplete_of_finish hworks rfl (updateRevert_finish_of_revertible op hlegal)
  case failed =>
    intro s hrun hprob hold
    exact congrArg Host.Outcome.next (probationFailureOp_of_revertible hrun ((revertible_iff s).mpr ⟨hprob, hold⟩))
  case counted =>
    exact fun _ => rfl

end Sys2Proof.Proofs
end

section
/-! SUPPORT. The word that IDCODE shifts out, field by field (R511). -/

namespace Sys2Proof.Proofs

open Sys2Proof Sys2Proof.Machine

/-- The version is the top field, above the 28 bits of the part number, the manufacturer and the 1. -/
theorem idcodeValue_version : idcodeValue.extractLsb' 28 4 = 0x2#4 := by
  rw [idcodeValue, BitVec.extractLsb'_append_eq_of_le (by decide), BitVec.extractLsb'_append_eq_of_le (by decide)]
  exact BitVec.extractLsb'_append_eq_left

/-- The part number ends above the 12 bits of the manufacturer and the 1. -/
theorem idcodeValue_part : idcodeValue.extractLsb' 12 16 = 0x7316#16 := by
  rw [idcodeValue, BitVec.extractLsb'_append_eq_of_le (by decide), BitVec.extractLsb'_append_eq_of_le (by decide)]
  exact BitVec.extractLsb'_append_eq_right

/-- The manufacturer ends above the 1, whatever identity JEDEC assigned. -/
theorem idcodeValue_manufacturer : idcodeValue.extractLsb' 1 11 = Config.jedecId := by
  rw [idcodeValue, BitVec.extractLsb'_append_eq_of_le (by decide)]
  exact BitVec.extractLsb'_append_eq_right

/-- The lowest bit is the 1. -/
theorem idcodeValue_lowest : idcodeValue.extractLsb' 0 1 = 1#1 :=
  BitVec.extractLsb'_append_eq_right

/-- The data register shifts out what the port was set to. -/
@[simp] theorem setTap_tapDr (s : State) (ir : Byte) (dr : W32) : (setTap s ir dr).test.tapDr = dr := rfl

/-- IDCODE selects its register and puts the IDCODE in it. -/
theorem exec_idcode (s : State) : exec .idcode s = .next (setTap s 0x02#8 idcodeValue) := rfl

end Sys2Proof.Proofs
end

section
/-! Settled statements of the test access port. -/

namespace Sys2Proof.Proofs

open Sys2Proof Sys2Proof.Machine

/-- Settles O40: the data register holds `idcodeValue`, whose four fields are read in place. -/
theorem idcodeReads : Obligations.IdcodeReads := by
  intro s
  refine ⟨_, exec_idcode s, ?_⟩
  rw [setTap_tapDr]
  exact ⟨idcodeValue_version, idcodeValue_part, idcodeValue_manufacturer, idcodeValue_lowest⟩

end Sys2Proof.Proofs
end

section
/-! SUPPORT. Every row keeps the queue and the canonical form of the memories, in one table over the rows of events. -/

namespace Sys2Proof.Proofs

open Sys2Proof Sys2Proof.Machine Sys2Proof.Laws

/-- Where an outcome has a next state, that state has the queue of `s` and, of canonical memories, canonical ones. -/
def NextKeeps (s : State) (o : Host.Outcome State Fault Refusal) : Prop := ∀ t, o = .next t → Keeps s t

theorem nextKeeps_next {s t : State} (h : Keeps s t) : NextKeeps s (.next t) := by
  intro u hu
  cases hu
  exact h

/-- A vendor instruction stops, or acts as BYPASS (R510). -/
theorem exec_vendorInstruction (s : State) (b : Byte) :
    exec (.vendorInstruction b) s = if vendorAvailable s b then .fault .vendorInstruction else .next (setTap s b 0) := rfl

theorem nextKeeps_vendorInstruction (s : State) (b : Byte) : NextKeeps s (exec (.vendorInstruction b) s) := by
  rw [exec_vendorInstruction]
  split
  · exact fun _ h => nomatch h
  · exact nextKeeps_next (keeps_setTap _ _ _ (keeps_refl s))

/-- A row that is no host command is one operation of the model, and each such operation keeps them. -/
theorem nextKeeps_event {i : Instr} (s : State) (hrow : hostRow i = none) : NextKeeps s (exec i s) := by
  cases i with
  | vendorInstruction b => exact nextKeeps_vendorInstruction s b
  | commandFetch _ => exact nextKeeps_next (keeps_fetchOp _ _ (keeps_refl s))
  | commandProdWrite _ _ _ => exact nextKeeps_next (keeps_commandProdOp _ _ _ _ (keeps_accessView _ (keeps_refl s)))
  | rspConsWrite _ _ _ => exact nextKeeps_next (keeps_rspConsOp _ _ _ _ (keeps_accessView _ (keeps_refl s)))
  | eventConsWrite _ _ => exact nextKeeps_next (keeps_eventConsOp _ _ _ (keeps_accessView _ (keeps_refl s)))
  | rxProdWrite _ _ _ => exact nextKeeps_next (keeps_rxProdOp _ _ _ _ (keeps_accessView _ (keeps_refl s)))
  | txProdWrite _ _ => exact nextKeeps_next (keeps_txProdOp _ _ _ (keeps_accessView _ (keeps_refl s)))
  | tsConsWrite _ => exact nextKeeps_next (keeps_tsConsOp _ _ (keeps_accessView _ (keeps_refl s)))
  | ringEnable _ _ _ => exact nextKeeps_next (keeps_ringEnableOp _ _ _ _ _ (keeps_accessView _ (keeps_refl s)))
  | ringTeardown _ _ _ => exact nextKeeps_next (keeps_ringTeardownOp _ _ _ _ (keeps_accessView _ (keeps_refl s)))
  | mboxGo _ => exact nextKeeps_next (keeps_mboxGoOp _ _ (keeps_refl s))
  | mboxEvtAck _ => exact nextKeeps_next (keeps_ite (keeps_evtAckOp _ _ (keeps_accessView _ (keeps_refl s))) (keeps_refl s))
  | registerWrite _ _ _ => exact nextKeeps_next (keeps_registerWriteOp _ _ _ _ (keeps_accessView _ (keeps_refl s)))
  | cmdWrite _ _ => exact nextKeeps_next (keeps_cmdWriteOp _ _ _ (keeps_refl s))
  | rspRead => exact nextKeeps_next (keeps_rspReadOp _ (keeps_refl s))
  | evtRead => exact nextKeeps_next (keeps_evtReadOp _ (keeps_refl s))
  | regRead _ _ => exact nextKeeps_next (keeps_regReadOp _ _ _ (keeps_refl s))
  | regWrite _ _ => exact nextKeeps_next (keeps_regWriteOp _ _ _ (keeps_refl s))
  | dataWrite _ _ => exact nextKeeps_next (keeps_dataWriteOp _ _ _ (keeps_refl s))
  | dataRead _ _ => exact nextKeeps_next (keeps_dataReadOp _ _ _ (keeps_refl s))
  | functionLevelReset _ => exact nextKeeps_next (keeps_flrOp _ _ (keeps_refl s))
  | partReset _ _ => exact nextKeeps_next (keeps_partResetOp _ _ _ (keeps_refl s))
  | resetAssert => exact nextKeeps_next (keeps_resetAssertOp _ (keeps_refl s))
  | perstRelease => exact nextKeeps_next (keeps_perstReleaseOp _ (keeps_refl s))
  | powerLoss => exact nextKeeps_next (keeps_powerLossOp _ (keeps_refl s))
  | aonPowerOn => exact nextKeeps_next (keeps_aonPowerOnOp _ (keeps_refl s))
  | transmitRingFetch _ _ _ => exact nextKeeps_next (keeps_txFetchOp _ _ _ _ (keeps_refl s))
  | slotPreparation => exact nextKeeps_next (keeps_slotPreparationOp _ _ (fun _ _ k => keeps_stagedView _ _ k) (keeps_refl s))
  | planHandOff => exact nextKeeps_next (keeps_planHandOffOp _ (keeps_refl s))
  | slotBoundary => exact nextKeeps_next (keeps_slotBoundaryOp _ (keeps_refl s))
  | orbitAnchorReached => exact nextKeeps_next (keeps_anchorReachedOp _ (keeps_refl s))
  | stageCommitPoint _ => exact nextKeeps_next (keeps_stagePointOp _ _ (keeps_refl s))
  | stageLeaseExpiry _ => exact nextKeeps_next (keeps_stageLeaseOp _ _ (keeps_refl s))
  | stageRecordExpiry _ => exact nextKeeps_next (keeps_stageRecordOp _ _ (keeps_refl s))
  | bandOn _ => exact nextKeeps_next (keeps_bandOnOp _ _ (keeps_refl s))
  | bandDrainEnd _ => exact nextKeeps_next (keeps_drainEndOp _ _ (keeps_refl s))
  | bandFault _ => exact nextKeeps_next (keeps_bandFaultOp _ _ (keeps_refl s))
  | faultReturnAttempt _ _ => exact nextKeeps_next (keeps_faultReturnOp _ _ _ (keeps_refl s))
  | syncDetect _ _ _ _ => exact nextKeeps_next (keeps_syncDetectOp _ _ _ _ _ (keeps_refl s))
  | ofdmDetect _ _ _ => exact nextKeeps_next (keeps_ofdmDetectOp _ _ _ _ (keeps_refl s))
  | secondaryDetect _ _ => exact nextKeeps_next (keeps_secondaryDetectOp _ _ _ _ (keeps_refl s))
  | headerDecide _ _ => exact nextKeeps_next (keeps_headerDecideOp _ _ _ _ (keeps_refl s))
  | carrierDrop _ _ _ => exact nextKeeps_next (keeps_carrierDropOp _ _ _ _ (keeps_refl s))
  | rxPsduEnd _ _ _ _ => exact nextKeeps_next (keeps_rxPsduEndOp _ _ _ _ _ (keeps_refl s))
  | uplinkDeliver => exact nextKeeps_next (keeps_uplinkDeliverOp _ (keeps_refl s))
  | soundingEnd _ _ => exact nextKeeps_next (keeps_soundingEndOp _ _ _ (keeps_refl s))
  | cutThroughPiece _ _ => exact nextKeeps_next (keeps_cutPieceOp _ _ _ (keeps_refl s))
  | joinReqHandle => exact nextKeeps_next (keeps_joinReqOp _ (keeps_refl s))
  | controlFrameHandle => exact nextKeeps_next (keeps_controlOp _ (keeps_refl s))
  | campaignStatusRx => exact nextKeeps_next (keeps_statusRxOp _ (keeps_refl s))
  | beaconRx => exact nextKeeps_next (keeps_beaconOp _ (keeps_refl s))
  | ackRx => exact nextKeeps_next (keeps_ackOp _ (keeps_refl s))
  | ackWindowEnd _ => exact nextKeeps_next (keeps_ackWindowEndOp _ _ (keeps_refl s))
  | contactMiss _ => exact nextKeeps_next (keeps_contactMissOp _ _ (keeps_refl s))
  | adriftDeadline _ => exact nextKeeps_next (keeps_adriftDeadlineOp _ _ (keeps_refl s))
  | parentCellMissed _ => exact nextKeeps_next (keeps_parentMissedOp _ _ (keeps_refl s))
  | contextListenEnd _ => exact nextKeeps_next (keeps_listenEndOp _ _ (keeps_refl s))
  | ackLaunch _ => exact nextKeeps_next (keeps_ackLaunchOp _ _ (keeps_refl s))
  | launchEncrypt _ => exact nextKeeps_next (keeps_launchEncryptOp _ _ (keeps_refl s))
  | burstStart _ => exact nextKeeps_next (keeps_burstStartOp _ _ (keeps_refl s))
  | launch _ => exact nextKeeps_next (keeps_launchOp _ _ (keeps_refl s))
  | burstEnd _ => exact nextKeeps_next (keeps_burstEndOp _ _ (keeps_refl s))
  | channelCalibration _ _ => exact nextKeeps_next (keeps_channelCalOp _ _ _ (keeps_refl s))
  | backgroundCalibration _ _ => exact nextKeeps_next (keeps_backgroundCalOp _ _ _ _ (keeps_refl s))
  | coexGrantWithdrawn _ => exact nextKeeps_next (keeps_coexWithdrawOp _ _ (keeps_refl s))
  | coexGrantAsserted _ => exact nextKeeps_next (keeps_coexGrantOp _ _ (keeps_refl s))
  | eclipseGateClose => exact nextKeeps_next (keeps_gateCloseOp _ (keeps_refl s))
  | eclipseGateOpen => exact nextKeeps_next (keeps_gateOpenOp _ (keeps_refl s))
  | agcAttack _ _ => exact nextKeeps_next (keeps_agcAttackOp _ _ _ (keeps_refl s))
  | agcRelease _ => exact nextKeeps_next (keeps_agcReleaseOp _ _ (keeps_refl s))
  | snapshotStart _ => exact nextKeeps_next (keeps_snapshotStartOp _ _ (keeps_refl s))
  | snapshotCaptureEnd _ _ => exact nextKeeps_next (keeps_snapshotEndOp _ _ _ (keeps_refl s))
  | wakePatternMatch _ => exact nextKeeps_next (keeps_wakeMatchOp _ _ (keeps_refl s))
  | lifetimeExpiry _ => exact nextKeeps_next (keeps_lifetimeOp _ _ (keeps_refl s))
  | toneMapOldRetire _ => exact nextKeeps_next (keeps_toneMapRetireOp _ _ (keeps_refl s))
  | agingVisit => exact nextKeeps_next (keeps_agingOp _ (keeps_refl s))
  | scrubRead _ => exact nextKeeps_next (keeps_scrubOp _ _ (keeps_refl s))
  | shadowCompare _ => exact nextKeeps_next (keeps_compareOp _ _ (keeps_refl s))
  | ethRxFrame _ _ _ => exact nextKeeps_next (keeps_ethRxOp _ _ _ _ (keeps_refl s))
  | ethLinkChange _ _ => exact nextKeeps_next (keeps_ethLinkOp _ _ _ (keeps_refl s))
  | ptpSyncRx _ _ => exact nextKeeps_next (keeps_ptpSyncRxOp _ _ _ (keeps_refl s))
  | ptpAnnounceRx _ _ => exact nextKeeps_next (keeps_ptpAnnounceOp _ _ _ (keeps_refl s))
  | ptpDelayRespRx _ _ => exact nextKeeps_next (keeps_ptpDelayRespOp _ _ _ (keeps_refl s))
  | ptpDelayReqRx _ _ => exact nextKeeps_next (keeps_ptpDelayReqOp _ _ _ (keeps_refl s))
  | ptpSyncTx _ => exact nextKeeps_next (keeps_ptpSyncTxOp _ _ (keeps_refl s))
  | servoUpdate => exact nextKeeps_next (keeps_servoUpdateOp _ (keeps_refl s))
  | sourceInvalid _ => exact nextKeeps_next (keeps_sourceInvalidOp _ _ (keeps_refl s))
  | ppsInEdge => exact nextKeeps_next (keeps_ppsInOp _ (keeps_refl s))
  | ppsOutSecond => exact nextKeeps_next (keeps_ppsOutOp _ (keeps_refl s))
  | captureEdge _ _ => exact nextKeeps_next (keeps_captureOp _ _ _ (keeps_refl s))
  | eventPinEdge _ => exact nextKeeps_next (keeps_eventPinOp _ _ (keeps_refl s))
  | internalTriggerFire _ => exact nextKeeps_next (keeps_triggerPassed _ _ (keeps_refl s))
  | rtcWindowEnd _ => exact nextKeeps_next (keeps_rtcWindowOp _ _ (keeps_refl s))
  | ephemerisFreeze => exact nextKeeps_next (keeps_freezeOp _ (keeps_refl s))
  | ephemerisResume => exact nextKeeps_next (keeps_ephemerisResumeOp _ (keeps_refl s))
  | uncFreeExpiry => exact nextKeeps_next (keeps_uncFreeOp _ (keeps_refl s))
  | heartbeatSend => exact nextKeeps_next (keeps_heartbeatSendOp _ (keeps_refl s))
  | lineHeartbeatRx _ => exact nextKeeps_next (keeps_lineHeartbeatOp _ _ (keeps_refl s))
  | heartbeat _ _ => exact nextKeeps_next (keeps_heartbeatOp _ _ _ (keeps_refl s))
  | hello _ _ => exact nextKeeps_next (keeps_helloOp _ _ _ (keeps_refl s))
  | commit _ _ => exact nextKeeps_next (keeps_commitOp _ _ _ (keeps_refl s))
  | commitAck _ _ _ => exact nextKeeps_next (keeps_commitAckOp _ _ _ _ (keeps_refl s))
  | journal _ _ => exact nextKeeps_next (keeps_journalOp _ _ _ (keeps_refl s))
  | config _ _ => exact nextKeeps_next (keeps_configOp _ _ _ _ (fun _ _ k => keeps_runReplicated _ _ k) (keeps_refl s))
  | contact _ _ _ => exact nextKeeps_next (keeps_contactOp _ _ _ _ (keeps_refl s))
  | epoch _ _ => exact nextKeeps_next (keeps_epochOp _ _ _ (keeps_refl s))
  | time _ _ _ _ _ => exact nextKeeps_next (keeps_timeOp _ _ _ _ _ _ (keeps_refl s))
  | sync _ _ => exact nextKeeps_next (keeps_syncOp _ _ _ _ (fun _ _ k => keeps_runReplicated _ _ k) (keeps_refl s))
  | pairLinkDown => exact nextKeeps_next (keeps_linkDownOp _ (keeps_refl s))
  | replTimeout => exact nextKeeps_next (keeps_replTimeoutOp _ (keeps_refl s))
  | leaseExpiry => exact nextKeeps_next (keeps_leaseExpiryOp _ (keeps_refl s))
  | startupWaitExpiry => exact nextKeeps_next (keeps_startupOp _ (keeps_refl s))
  | takeover => exact nextKeeps_next (keeps_takeoverOp _ (keeps_refl s))
  | handshakePeriod _ => exact nextKeeps_next (keeps_handshakePeriodOp _ _ (keeps_refl s))
  | handshakeAnswer _ _ => exact nextKeeps_next (keeps_handshakeAnswerOp _ _ _ (keeps_refl s))
  | idleTimerExpiry _ => exact nextKeeps_next (keeps_idleTimerOp _ _ (keeps_refl s))
  | domainEntryComplete _ => exact nextKeeps_next (keeps_entryCompleteOp _ _ (keeps_refl s))
  | domainWake _ => exact nextKeeps_next (keeps_domainWakeOp _ _ (keeps_refl s))
  | domainWakeComplete _ => exact nextKeeps_next (keeps_domainWokenOp _ _ (keeps_refl s))
  | tamperAlarm _ => exact nextKeeps_next (keeps_tamperOp _ _ (keeps_refl s))
  | remaskPass => exact nextKeeps_next (keeps_remaskOp _ (keeps_refl s))
  | revokeDrainDone _ => exact nextKeeps_next (keeps_revokeDrainOp _ _ (keeps_refl s))
  | entropyHealthFail => exact nextKeeps_next (keeps_entropyFailOp _ (keeps_refl s))
  | entropyRestartDone => exact nextKeeps_next (keeps_entropyDoneOp _ (keeps_refl s))
  | maskReseed _ => exact nextKeeps_next (keeps_reseedLane _ _ (keeps_refl s))
  | flashRecordWrite => exact nextKeeps_next (keeps_flashRecordOp _ (keeps_refl s))
  | recordSectorErase => exact nextKeeps_next (keeps_sectorEraseOp _ (keeps_refl s))
  | handoverDispatchHold => exact nextKeeps_next (keeps_handoverOp _ (keeps_refl s))
  | probationFailure => exact nextKeeps_next (keeps_probationFailureOp _ (keeps_refl s))
  | kernelWatchdogExpiry _ => exact nextKeeps_next (keeps_kernelWatchdogOp _ _ (keeps_refl s))
  | paceBelowFloor _ _ => exact nextKeeps_next (keeps_paceOp _ _ _ (keeps_refl s))
  | telemetrySample _ => exact nextKeeps_next (keeps_telemetryOp _ _ (keeps_refl s))
  | queueSample => exact nextKeeps_next (keeps_queueSampleOp _ (keeps_refl s))
  | workSubmit _ => exact nextKeeps_next (keeps_workSubmitOp _ _ (keeps_refl s))
  | coreItemComplete _ => exact nextKeeps_next (keeps_coreCompleteOp _ _ (keeps_refl s))
  | tailSpill _ => exact nextKeeps_next (keeps_tailSpillOp _ _ (keeps_refl s))
  | tailRefill _ => exact nextKeeps_next (keeps_tailRefillOp _ _ (keeps_refl s))
  | queueCompaction _ => exact nextKeeps_next (keeps_compactionOp _ _ (keeps_refl s))
  | bankArbitration _ _ => exact nextKeeps_next (keeps_arbitrationOp _ _ _ (keeps_refl s))
  | fabricWatchdogExpiry _ _ => exact nextKeeps_next (keeps_fabricWatchdogOp _ _ _ (keeps_refl s))
  | campaignRoundStart => exact nextKeeps_next (keeps_roundStartOp _ (keeps_refl s))
  | collectionPhaseStart => exact nextKeeps_next (keeps_collectionOp _ (keeps_refl s))
  | testDurationExpiry _ => exact nextKeeps_next (keeps_testDurationOp _ _ (keeps_refl s))
  | extest => exact nextKeeps_next (keeps_holdOp _ _ (keeps_refl s))
  | clamp => exact nextKeeps_next (keeps_holdOp _ _ (keeps_refl s))
  | highz => exact nextKeeps_next (keeps_holdOp _ _ (keeps_refl s))
  | samplePreload => exact nextKeeps_next (keeps_setTap _ _ _ (keeps_refl s))
  | idcode => exact nextKeeps_next (keeps_setTap _ _ _ (keeps_refl s))
  | bypass => exact nextKeeps_next (keeps_setTap _ _ _ (keeps_refl s))
  | trstLow => exact nextKeeps_next (keeps_trstLowOp _ (keeps_refl s))
  | pairLinkUp => exact nextKeeps_next (keeps_linkUpOp _ (keeps_refl s))
  | longCommandComplete _ _ => exact nextKeeps_next (keeps_longCompleteOp _ _ _ (keeps_refl s))
  | isolationYield => exact nextKeeps_next (keeps_isolationOp _ (keeps_refl s))
  | interruptHoldoffExpiry _ _ => exact nextKeeps_next (keeps_holdoffExpiryOp _ _ _ (keeps_refl s))
  | ptpAnnounceTx _ => exact nextKeeps_next (keeps_ptpAnnounceTxOp _ _ (keeps_refl s))
  | checkerLocked _ _ => exact nextKeeps_next (keeps_checkerLockedOp _ _ _ (keeps_refl s))
  | checkerLockLoss _ _ _ => exact nextKeeps_next (keeps_checkerLossOp _ _ _ _ (keeps_refl s))
  | testFrameSend _ => exact nextKeeps_next (keeps_testFrameOp _ _ (keeps_refl s))
  | handshakeDelayExpiry _ _ => exact nextKeeps_next (keeps_delayExpiryOp _ _ _ (keeps_refl s))
  | _ => cases hrow

/-- Every row keeps the queue and the canonical form of the memories. -/
theorem nextKeeps_exec (i : Instr) (s : State) : NextKeeps s (exec i s) := by
  cases hrow : hostRow i with
  | none => exact nextKeeps_event s hrow
  | some ce =>
    rw [exec_hostRow s hrow]
    exact nextKeeps_next (keeps_hostCommand ce.1 ce.2 s (keeps_refl s))

/-- The invariant, as what `Keeps` speaks of. -/
theorem invariant_iff (s : State) : invariant s = true ↔ MemOk s ∧ ∀ i ∈ s.pending, i.wellFormed = true := by
  simp [invariant, memoryOk, queueOk, MemOk]

/-- What keeps the queue and the canonical form keeps the invariant. -/
theorem invariant_of_keeps {s t : State} (hkeeps : Keeps s t) (hinv : invariant s = true) : invariant t = true := by
  obtain ⟨hqueue, hmem⟩ := hkeeps
  rw [invariant_iff] at hinv ⊢
  exact ⟨hmem hinv.1, hqueue ▸ hinv.2⟩

/-- Taking the front off the queue keeps the invariant. -/
theorem invariant_tail {s : State} {i : Instr} {rest : List Instr} (hqueue : s.pending = i :: rest) (hinv : invariant s = true) :
    invariant { s with pending := rest } = true := by
  rw [invariant_iff] at hinv ⊢
  exact ⟨hinv.1, fun j hj => hinv.2 j (hqueue ▸ List.mem_cons_of_mem i hj)⟩

/-- With nothing waiting a step is a tick. -/
theorem step_of_nil {s : State} (h : s.pending = []) : step s = .next (tick s) := by
  rw [step, h]

/-- A step runs the row at the front on the state with the queue's rest. -/
theorem step_of_cons {s : State} {i : Instr} {rest : List Instr} (h : s.pending = i :: rest) :
    step s = exec i { s with pending := rest } := by
  rw [step, h]

/-- A tick adds the increment to the 96-bit time while the reference runs (R405). -/
theorem tick_time {s : State} (hrun : s.clk.frozen = none) (hreset : s.resetHigh = true) :
    (tick s).clk.timeNs ++ (tick s).clk.timeFrac = (s.clk.timeNs ++ s.clk.timeFrac) + s.clk.increment.setWidth 96 := by
  have hsplit (t : BitVec 96) : t.extractLsb' 32 64 ++ t.extractLsb' 0 32 = t := by
    rw [BitVec.extractLsb'_append_extractLsb'_eq_extractLsb' (by decide)]
    simp
  simp only [tick, hrun, hreset]
  exact hsplit _

/-- With the reference stopped or RESET_N low the time stands. -/
theorem tick_stands {s : State} (h : s.clk.frozen ≠ none ∨ s.resetHigh = false) : tick s = { s with upNs := s.upNs + 2 } := by
  unfold tick
  refine if_pos ?_
  obtain hfrozen | hlow := h
  · simp [Option.isSome_iff_ne_none.mpr hfrozen]
  · simp [hlow]

/-- A tick changes the time and the time since power-on alone. -/
theorem tick_frame (s : State) : tick s
    = { s with upNs := s.upNs + 2, clk := { s.clk with timeNs := (tick s).clk.timeNs, timeFrac := (tick s).clk.timeFrac } } := by
  unfold tick
  extract_lets t
  split <;> rfl

end Sys2Proof.Proofs
end

section
/-! Settled statements of the block: its queue, its steps, its invariant. -/

namespace Sys2Proof.Proofs

open Sys2Proof Sys2Proof.Machine Sys2Proof.Laws

/-- Settles O1. -/
theorem stepRunsFront : Obligations.StepRunsFront := fun _ _ _ h => step_of_cons h

/-- Settles O2: a tick is a record update of the two times. -/
theorem stepTicksWhenIdle : Obligations.StepTicksWhenIdle := by
  intro s hidle
  refine ⟨tick s, step_of_nil hidle, tick_frame s, tick_time, fun hstill => ?_⟩
  rw [tick_stands hstill]
  exact ⟨rfl, rfl⟩

/-- Settles O3, from the table of the rows. -/
theorem execKeepsQueue : Obligations.ExecKeepsQueue := by
  intro i s t h
  exact (nextKeeps_exec i s t h).1

/-- Settles O4: the meaning of every row but one is a next state, whatever the state. -/
theorem onlyVendorStops : Obligations.OnlyVendorStops := by
  refine ⟨fun i s havailable => ?_, fun b s havailable => ?_⟩
  · cases i with
    | vendorInstruction b =>
      exact ⟨setTap s b 0, by rw [exec_vendorInstruction, havailable b rfl]; rfl⟩
    | _ => exact ⟨_, rfl⟩
  · rw [exec_vendorInstruction, if_pos havailable]

/-- Settles O5: nothing waits at reset, and both memories list nothing. -/
theorem resetHasInvariant : Obligations.ResetHasInvariant := rfl

/-- Settles O6: a tick and every row keep the queue that is left and the memories' canonical form. -/
theorem stepKeepsInvariant : Obligations.StepKeepsInvariant := by
  intro s t hinv hstep
  cases hqueue : s.pending with
  | nil =>
    rw [step_of_nil hqueue] at hstep
    cases hstep
    exact invariant_of_keeps (keeps_tick s (keeps_refl s)) hinv
  | cons i rest =>
    rw [step_of_cons hqueue] at hstep
    exact invariant_of_keeps (nextKeeps_exec i _ t hstep) (invariant_tail hqueue hinv)

/-- Settles O7: the values of the state right after reset, read off. -/
theorem resetValues : Obligations.ResetValues :=
  ⟨rfl, rfl, rfl, rfl, rfl, by decide, by decide, by decide, rfl, rfl, by decide, rfl⟩

/-- Settles O8. -/
theorem hostRowsServed : Obligations.HostRowsServed := fun _ _ _ s h => exec_hostRow s h

end Sys2Proof.Proofs
end

section
/-! SUPPORT. Host commands in service, check by check (R75): where each one ends, from the state it arrives in. -/

namespace Sys2Proof.Proofs

open Sys2Proof Sys2Proof.Machine Sys2Proof.Laws

/-- A row in service that a check of steps 1 to 6 turns away gets that refusal as its one response. -/
theorem exec_refused_first {i : Instr} {c : CmdId} {e : CmdEntry} {s : State} {r : Reply} (hrow : hostRow i = some (c, e))
    (hserved : served c e s = true) (hrefused : firstRefusal c e (arrived e s) (stageView (arrived e s) e) = some r) :
    exec i s = .next (respond (arrived e s) e r true) := by
  rw [exec_hostRow s hrow, hostCommand_refused hserved hrefused]

/-- A row that steps 1 to 6 let pass goes on as its kind has it: a stage command, one of a stage, or an immediate one. -/
theorem exec_admitted {i : Instr} {c : CmdId} {e : CmdEntry} {s : State} (hrow : hostRow i = some (c, e))
    (hadmitted : admitted c e s = true) :
    exec i s = .next (
      if isStageCommand c then runStageCmd c e (arrived e s)
      else if e.stageId != 0 then runStaged c e (arrived e s) (stageView (arrived e s) e)
      else if c == .pairLocalApply then
        (if partRefuses (arrived e s) e c then respond (arrived e s) e (refuse stRefusedState) true else runLocal e (arrived e s))
      else runNow c e (arrived e s)) := by
  obtain ⟨hserved, hpasses⟩ := admitted_parts hadmitted
  rw [exec_hostRow s hrow, hostCommand_served hserved, runChecked, hpasses]

/-- A stage command goes on with its stage (R87). -/
theorem exec_stageCommand {i : Instr} {c : CmdId} {e : CmdEntry} {s : State} (hrow : hostRow i = some (c, e))
    (hadmitted : admitted c e s = true) (hc : isStageCommand c = true) : exec i s = .next (runStageCmd c e (arrived e s)) := by
  rw [exec_admitted hrow hadmitted, if_pos hc]

/-- A command that names no stage and is served apart in no way runs at once. -/
theorem exec_immediate {i : Instr} {c : CmdId} {e : CmdEntry} {s : State} (hrow : hostRow i = some (c, e))
    (hadmitted : admitted c e s = true) (hstage : e.stageId = 0) (hc : isStageCommand c = false) (hl : c ≠ .pairLocalApply) :
    exec i s = .next (runNow c e (arrived e s)) := by
  simp [exec_admitted hrow hadmitted, hc, hstage, hl]

/-- A command that names a stage is recorded in it or refused (R89). -/
theorem exec_staged {i : Instr} {c : CmdId} {e : CmdEntry} {s : State} (hrow : hostRow i = some (c, e))
    (hadmitted : admitted c e s = true) (hstage : e.stageId ≠ 0) (hc : isStageCommand c = false) :
    exec i s = .next (runStaged c e (arrived e s) (stageView (arrived e s) e)) := by
  have hnamed : (e.stageId != 0) = true := bne_iff_ne.mpr hstage
  rw [exec_admitted hrow hadmitted, hc, hnamed]
  rfl

/-! Steps 3 to 6, each past the ones before it. -/

section FirstRefusals

variable {c : CmdId} {e : CmdEntry} {s view : State} (hv : viewRefuses s e (cmdSpec c) = false)
include hv

theorem firstRefusal_of_lengths (hl : lengthsOk e (cmdSpec c).buf = false) : firstRefusal c e s view = some (refuse stBadLength) := by
  simp [firstRefusal, hv, hl]

variable (hl : lengthsOk e (cmdSpec c).buf = true)
include hl

theorem firstRefusal_of_args
    (ha : (!bufAddrOk e || !reservedOk e (cmdSpec c) || !stageArgs c e || !(fnImpl c).args e view) = true) :
    firstRefusal c e s view = some (refuse stBadArg) := by
  rw [firstRefusal]
  simp only [hv, hl, ha]
  rfl

variable (ha : (!bufAddrOk e || !reservedOk e (cmdSpec c) || !stageArgs c e || !(fnImpl c).args e view) = false)
include ha

theorem firstRefusal_of_tampered (ht : tamperStops s = true) (hx : tamperExempt e c = false) :
    firstRefusal c e s view = some (refuse stTampered) := by
  rw [firstRefusal]
  simp only [hv, hl, ha, ht, hx]
  rfl

theorem firstRefusal_of_standby (ht : tamperStops s = false ∨ tamperExempt e c = true) (hrole : s.role = .standby)
    (hreads : (cmdSpec c).reads = false) (hown : standbyTakes (cmdSpec c).fn = false) :
    firstRefusal c e s view = some (refuse stNotActive) := by
  have hpass : (tamperStops s && !tamperExempt e c) = false := by obtain h | h := ht <;> simp [h]
  rw [firstRefusal]
  simp only [hv, hl, ha, hpass, hrole, hreads, hown]
  rfl

end FirstRefusals

/-- An immediate command that would write what a live stage holds is answered with the conflict (R75 step 8). -/
theorem runNow_of_conflict {c : CmdId} {e : CmdEntry} {s : State} (hreads : (cmdSpec c).reads = false) (hk : conflicts s e = true) :
    runNow c e s = respond s e (refuse stConflict) true := by
  simp [runNow, hreads, hk]

/-- Past step 8 an immediate command is answered with the first refusal of steps 9 and 10. -/
theorem runNow_of_lastRefusal {c : CmdId} {e : CmdEntry} {s : State} {r : Reply}
    (hk : (cmdSpec c).reads = true ∨ conflicts s e = false) (hr : lastRefusal .now c e s = some r) :
    runNow c e s = respond s e r true := by
  obtain h | h := hk <;> simp [runNow, h, hr]

/-! A command's arrival. -/

/-- `t` is `s` but for the host interface, and there the stages are those of `s`. -/
def OnlyHost (s t : State) : Prop := t = { s with host := { t.host with stages := s.host.stages } }

theorem OnlyHost.trans {s t u : State} (h : OnlyHost s t) (k : OnlyHost t u) : OnlyHost s u := by
  have hstages : t.host.stages = s.host.stages := by rw [h]
  rw [OnlyHost, ← hstages]
  calc u = { t with host := { u.host with stages := t.host.stages } } := k
    _ = _ := by rw [h]

theorem onlyHost_modView (s : State) (v : View) (f : ViewIf → ViewIf) : OnlyHost s (modView s v f) := by
  cases v <;> rfl

theorem onlyHost_takeSlot (s : State) (v : View) (n : Nat) : OnlyHost s (takeSlot s v n) := by
  unfold takeSlot modChan
  exact onlyHost_modView s v _

theorem onlyHost_tookTurn (s : State) (x : Session) : OnlyHost s (tookTurn s x) := rfl

theorem onlyHost_enterChan (v : View) (n : Nat) (s : State) : OnlyHost s (enterChan v n s) := by
  unfold enterChan
  extract_lets r rung
  have hrung : OnlyHost s rung := by
    simp only [rung]
    split
    · exact onlyHost_modView s v _
    · rfl
  exact (hrung.trans (onlyHost_tookTurn _ _)).trans (onlyHost_takeSlot _ v n)

theorem onlyHost_fetchMbox (v : View) (s : State) : OnlyHost s (fetchMbox v s) :=
  have hcounted : OnlyHost s (hostCount (modView s v fun w => { w with mboxBusy := true, mboxWaits := false }) hcMboxCommands) :=
    (onlyHost_modView s v _).trans rfl
  hcounted.trans (onlyHost_tookTurn _ _)

/-- The session that takes a command writes registers of the host interface. -/
theorem onlyHost_entered (e : CmdEntry) (s : State) : OnlyHost s (entered e s) := by
  unfold entered
  split
  case h_1 v n _ => exact onlyHost_enterChan v n s
  case h_2 v _ => exact (onlyHost_modView s v _).trans (onlyHost_fetchMbox v _)
  case h_3 => rfl

theorem entered_frame (e : CmdEntry) (s : State) : entered e s = { s with host := (entered e s).host } := by
  rw [onlyHost_entered e s]

theorem entered_stages (e : CmdEntry) (s : State) : (entered e s).host.stages = s.host.stages := by
  rw [onlyHost_entered e s]

/-- `t` is `s` but for its domains, and every domain that was On is On. -/
def OnlyDomains (s t : State) : Prop :=
  t = { s with pwr := { s.pwr with doms := t.pwr.doms } } ∧ ∀ d, (domOf s d).state = .on → (domOf t d).state = .on

theorem OnlyDomains.refl (s : State) : OnlyDomains s s := ⟨rfl, fun _ h => h⟩

theorem OnlyDomains.trans {s t u : State} (h : OnlyDomains s t) (k : OnlyDomains t u) : OnlyDomains s u :=
  ⟨by rw [k.1, h.1], fun d hd => k.2 d (h.2 d hd)⟩

theorem OnlyDomains.commands {s t : State} (h : OnlyDomains s t) : t.pwr.commands = s.pwr.commands := by rw [h.1]

theorem OnlyDomains.foldl {α : Type} {f : State → α → State} {P : State → Prop} (hf : ∀ s a, P s → OnlyDomains s (f s a))
    (hP : ∀ s t, P s → OnlyDomains s t → P t) (l : List α) {s : State} (hs : P s) : OnlyDomains s (l.foldl f s) := by
  induction l generalizing s with
  | nil => exact .refl s
  | cons a l ih => exact (hf s a hs).trans (ih (hP s _ hs (hf s a hs)))

/-- An element after a change at a position. -/
theorem nth_modNth {α : Type} (x : α) (l : List α) (i j : Nat) (f : α → α) :
    nth x (modNth l i f) j = if i = j ∧ j < l.length then f (nth x l j) else nth x l j := by
  unfold nth modNth
  rw [List.getD_eq_getElem?_getD, List.getElem?_modify, List.getD_eq_getElem?_getD]
  by_cases hj : j < l.length
  · by_cases hi : i = j <;> simp [hi, hj]
  · simp [hj]

/-- A domain after a change of one. -/
theorem domOf_modDom (s : State) (d k : Nat) (f : Domain → Domain) :
    domOf (modDom s d f) k = if d = k ∧ k < s.pwr.doms.length then f (domOf s k) else domOf s k :=
  nth_modNth _ _ _ _ _

/-- An access leaves a domain that is On there (R468). -/
theorem onlyDomains_wakeOne (s : State) (d : Nat) : OnlyDomains s (wakeOne s d) := by
  refine ⟨rfl, fun k hk => ?_⟩
  rw [wakeOne, domOf_modDom]
  split
  · simp [hk]
  · exact hk

theorem onlyDomains_wakeDomain (s : State) (d : Nat) : OnlyDomains s (wakeDomain s d) :=
  OnlyDomains.foldl (P := fun _ => True) (fun s d _ => onlyDomains_wakeOne s d) (fun _ _ _ _ => trivial) _ trivial

/-- With no lowering command at work none goes on. -/
theorem domGoOn_of_no_command {s : State} (h : s.pwr.commands = []) (d : Nat) (b : Bool) : domGoOn s d b = s := by
  simp [domGoOn, h]

/-- With no lowering command at work an access only wakes. -/
theorem domainWakeOp_of_no_command {s : State} (h : s.pwr.commands = []) (d : Nat) : domainWakeOp s d = wakeDomain s d := by
  have hwoken : (wakeDomain s d).pwr.commands = [] := by rw [(onlyDomains_wakeDomain s d).commands, h]
  unfold domainWakeOp
  extract_lets hit
  induction hit with
  | nil => rfl
  | cons x l ih => rw [List.foldl_cons, domGoOn_of_no_command hwoken]; exact ih

theorem onlyDomains_accessDoms {s : State} (h : s.pwr.commands = []) (doms : List Nat) : OnlyDomains s (accessDoms s doms) :=
  OnlyDomains.foldl (P := fun s => s.pwr.commands = [])
    (fun s d h => by rw [domainWakeOp_of_no_command h]; exact onlyDomains_wakeDomain s d) (fun _ _ h k => by rw [k.commands, h]) doms h

/-- Renewing a lease writes the stages. -/
theorem renewNamed_frame (s : State) (e : CmdEntry) :
    renewNamed s e = { s with host := { s.host with stages := (renewNamed s e).host.stages } } := by
  unfold renewNamed
  split
  · rfl
  · split <;> rfl

/-- Of the stages it writes the leases. -/
theorem renewNamed_stages (s : State) (e : CmdEntry) :
    (renewNamed s e).host.stages.map (fun st => { st with leaseEnd := 0 }) = s.host.stages.map (fun st => { st with leaseEnd := 0 }) := by
  unfold renewNamed
  split
  · rfl
  · split
    · simp only [renewLease, modStage, List.map_map]
      refine List.map_congr_left fun x _ => ?_
      simp only [Function.comp_apply]
      split <;> rfl
    · rfl

/-- The stage that the entry names has its lease run anew (R93). -/
theorem renewNamed_lease {s : State} {e : CmdEntry} {st : Stage} (hstage : e.stageId ≠ 0)
    (hfound : (s.host.stages.find? fun st => st.id == e.stageId.toNat && decide (st.checkState ≤ 2)) = some st) :
    ∀ x ∈ (renewNamed s e).host.stages, x.id = st.id → x.leaseEnd = s.upNs + x.leaseMs * 1000000 := by
  rw [renewNamed, if_neg hstage, hfound]
  intro x hx hid
  simp only [renewLease, modStage, List.mem_map] at hx
  obtain ⟨y, -, rfl⟩ := hx
  split at hid
  · rename_i hy
    simp [hy]
  · rename_i hy
    exact absurd hid hy

end Sys2Proof.Proofs
end

section
/-! Settled statements of commands in service. -/

namespace Sys2Proof.Proofs

open Sys2Proof Sys2Proof.Machine Sys2Proof.Laws

/-- Settles O9: each check of steps 2 to 6 is met past those before it. -/
theorem refusalsInOrder : Obligations.RefusalsInOrder := by
  intro i c e s hrow hserved x a v bad
  refine ⟨fun hv => ?_, fun hv hl => ?_, fun hv hl ha => ?_, fun hv hl ha ht hx => ?_, fun hv hl ha ht hrole hreads hown => ?_⟩
  · exact exec_refused_first hrow hserved (firstRefusal_of_viewRefuses v hv)
  · exact exec_refused_first hrow hserved (firstRefusal_of_lengths hv hl)
  · exact exec_refused_first hrow hserved (firstRefusal_of_args hv hl ha)
  · exact exec_refused_first hrow hserved (firstRefusal_of_tampered hv hl ha ht hx)
  · exact exec_refused_first hrow hserved (firstRefusal_of_standby hv hl ha ht hrole hreads hown)

/-- Settles O11: an immediate command meets the conflict first, then the state and its function's own check. -/
theorem lateRefusals : Obligations.LateRefusals := by
  intro i c e s hrow hadmitted hstage hc hl a
  rw [exec_immediate hrow hadmitted hstage hc hl]
  exact ⟨fun hreads hk => congrArg _ (runNow_of_conflict hreads hk), fun r hk hr => congrArg _ (runNow_of_lastRefusal hk hr)⟩

/-- Settles O12: a response by its frame; an arrival by the frames of its three parts, the session, the domains and the lease. -/
theorem commandFrames : Obligations.CommandFrames := by
  refine ⟨⟨respond_frame, answerFinal_frame⟩, fun e s hnone => ?_⟩
  have hentered : (entered e s).pwr.commands = [] := by rw [entered_frame]; exact hnone
  have hdoms := onlyDomains_accessDoms hentered (entryDoms e)
  have hnames : arrived e s = renewNamed (accessDoms (entered e s) (entryDoms e)) e := rfl
  generalize accessDoms (entered e s) (entryDoms e) = t at hdoms hnames
  have hpwr : (arrived e s).pwr = t.pwr := by rw [hnames, renewNamed_frame]
  have hhost : t.host = (entered e s).host := by rw [hdoms.1]
  have hstages : t.host.stages = s.host.stages := by rw [hhost, entered_stages]
  have hup : t.upNs = s.upNs := by rw [hdoms.1, entered_frame]
  refine ⟨?_, ?_, fun d hd => ?_, fun hstage => ?_, ?_, fun st hstage hfound => ?_⟩
  · rw [hpwr]
    calc arrived e s = { t with host := { t.host with stages := (arrived e s).host.stages } } := by
          rw [hnames]; exact renewNamed_frame t e
      _ = { entered e s with host := { (entered e s).host with stages := (arrived e s).host.stages }, pwr := t.pwr } := by
          rw [hdoms.1]
      _ = _ := by rw [entered_frame]
  · rw [hpwr, hdoms.commands, hentered]
  · rw [domOf, hpwr]
    exact hdoms.2 d (by rw [domOf, entered_frame]; exact hd)
  · rw [hnames, renewNamed, if_pos hstage, hstages]
  · rw [hnames, renewNamed_stages, hstages]
  · rw [hnames, ← hup]
    exact renewNamed_lease hstage (hstages ▸ hfound)

end Sys2Proof.Proofs
end

section
/-! SUPPORT. Stages (R85 to R95, R554): the stage commands on an open stage, the stages' own events. -/

namespace Sys2Proof.Proofs

open Sys2Proof Sys2Proof.Machine Sys2Proof.Laws

/-- An identifier that SYS_STAGE_OPEN may give: above the last one given while a stage lives, and of no stage (R88, log 67). -/
def FreshStage (s : State) (n : Nat) : Prop :=
  (if (liveStages s).isEmpty then 0 else s.host.lastStage) < n ∧ n ≤ 65535 ∧ ∀ st ∈ s.host.stages, st.id ≠ n

/-- The first number that passes a test, of those above `lo` up to `hi`, is one of them and passes. -/
theorem find?_above_some {lo hi n : Nat} {p : Nat → Bool} (h : ((List.range (hi - lo)).map fun k => lo + k + 1).find? p = some n) :
    lo < n ∧ n ≤ hi ∧ p n = true := by
  have hpass := List.find?_some h
  have hmem := List.mem_of_find?_eq_some h
  rw [List.mem_map] at hmem
  obtain ⟨k, hk, rfl⟩ := hmem
  rw [List.mem_range] at hk
  exact ⟨by omega, by omega, hpass⟩

/-- Where there is none, none of them passes. -/
theorem find?_above_none {lo hi : Nat} {p : Nat → Bool} (h : ((List.range (hi - lo)).map fun k => lo + k + 1).find? p = none) {n : Nat}
    (hlo : lo < n) (hhi : n ≤ hi) : p n = false := by
  rw [List.find?_eq_none] at h
  have hmem : n ∈ (List.range (hi - lo)).map fun k => lo + k + 1 :=
    List.mem_map.mpr ⟨n - lo - 1, List.mem_range.mpr (by omega), by omega⟩
  exact Bool.eq_false_iff.mpr (h n hmem)

/-- No stage has an identifier exactly where the model's search finds it unused. -/
theorem unused_iff (s : State) (n : Nat) : (!s.host.stages.any fun st => st.id == n) = true ↔ ∀ st ∈ s.host.stages, st.id ≠ n := by
  simp

/-- A stage that SYS_STAGE_OPEN opens (R88). -/
def newStage (e : CmdEntry) (s : State) (n : Nat) : Stage :=
  let lease := if argBits e 31 16 = 0 then 5000 else argBits e 31 16
  { id := n, mask := BitVec.ofNat 16 (argBits e 15 0), owner := some e.session, cmds := [], argBytes := 0, checkState := 0, mode := 0, point := 0
    leaseMs := lease, leaseEnd := s.upNs + lease * 1000000, firstFail := 0xFFFFFFFF, appliedNs := 0, commit := none }

/-- SYS_STAGE_OPEN past its refusals: with no fresh identifier there is no room, and with one the stage is open. -/
theorem stageOpen_of_room {e : CmdEntry} {s : State}
    (hheld : ((liveStages s).any fun st => (st.mask &&& BitVec.ofNat 16 (argBits e 15 0)) != 0) = false)
    (hpart : partRefuses s e .sysStageOpen = false) (hfew : (liveStages s).length < 4) :
    ((∀ n, ¬FreshStage s n) ∧ stageOpen e s = respond s e (refuse stNoRoom) true)
    ∨ ∃ n, FreshStage s n ∧ stageOpen e s = respond { s with host := { s.host with
        lastStage := n, stages := s.host.stages ++ [newStage e s n] } } e { status := stOk, stageId := some n } true := by
  unfold stageOpen
  extract_lets mask live last used
  rw [hheld, hpart, if_neg (by decide), if_neg (by decide), if_neg (Nat.not_le.mpr hfew)]
  split
  · rename_i hnone
    refine .inl ⟨fun n ⟨hlast, hmax, hunused⟩ => ?_, rfl⟩
    exact absurd ((unused_iff s n).mpr hunused) (Bool.eq_false_iff.mp (find?_above_none hnone hlast hmax))
  · rename_i n hsome
    obtain ⟨hlast, hmax, hunused⟩ := find?_above_some hsome
    exact .inr ⟨n, ⟨hlast, hmax, (unused_iff s n).mp hunused⟩, rfl⟩

/-- SYS_STAGE_OPEN that carries no stage opens one. -/
theorem runStageCmd_open {e : CmdEntry} {s : State} (hstage : e.stageId = 0) : runStageCmd .sysStageOpen e s = stageOpen e s := by
  rw [runStageCmd, if_pos (by decide), if_pos hstage]

section OpenStage

variable {e : CmdEntry} {s : State} {st : Stage} (hopen : openStage s e = some st)
include hopen

theorem runStageCmd_check (hpart : partRefuses s e .sysStageCheck = false) : runStageCmd .sysStageCheck e s = stageCheck e s st := by
  rw [runStageCmd, if_neg (by decide), if_neg (by decide), hopen]
  exact if_neg (by rw [hpart]; decide)

theorem runStageCmd_commit (hpart : partRefuses s e .sysStageCommit = false) : runStageCmd .sysStageCommit e s = stageCommit e s st := by
  rw [runStageCmd, if_neg (by decide), if_neg (by decide), hopen]
  exact if_neg (by rw [hpart]; decide)

theorem runStageCmd_abort (hpart : partRefuses s e .sysStageAbort = false) :
    runStageCmd .sysStageAbort e s = respond (discardStage s st) e okReply true := by
  rw [runStageCmd, if_neg (by decide), if_neg (by decide), hopen]
  exact if_neg (by rw [hpart]; decide)

end OpenStage

theorem runStageCmd_query {e : CmdEntry} {s : State} {st : Stage} (hquery : queryStage s e = some st)
    (hpart : partRefuses s e .sysStageQuery = false) :
    runStageCmd .sysStageQuery e s = respond s e (okData (stageRecord s st)) true := by
  rw [runStageCmd, if_neg (by decide), if_pos (by decide), hquery]
  exact if_neg (by rw [hpart]; decide)

/-- Where a boundary of slots lies is the engine's and the slot settings' alone. -/
theorem slotBoundary_frameInForce_host (s : State) (h : HostIf) (n : Nat) :
    slotBoundary (frameInForce { s with host := h } n) n = slotBoundary (frameInForce s n) n := by
  unfold frameInForce
  cases s.orbit.nextFrame with
  | none => rfl
  | some next =>
    dsimp only
    split <;> rfl

/-- The instant of a commit does not depend on the host interface (R91). -/
theorem commitNs_host (s : State) (h : HostIf) (mode point : Nat) : commitNs { s with host := h } mode point = commitNs s mode point := by
  unfold commitNs
  split
  · rfl
  · rfl
  · rw [slotBoundary_frameInForce_host]
    rfl

/-- A number written in `n` bytes takes `n` bytes. -/
@[simp] theorem length_leBytes (n x : Nat) : (leBytes n x).length = n := by
  induction n generalizing x with
  | zero => rfl
  | succ n ih => simp [leBytes, ih]

/-- The stage record is 40 bytes (R554). -/
theorem length_stageRecord (s : State) (st : Stage) : (stageRecord s st).length = 40 := by
  simp [stageRecord]

end Sys2Proof.Proofs
end

section
/-! Settled statements of stages. -/

namespace Sys2Proof.Proofs

open Sys2Proof Sys2Proof.Machine Sys2Proof.Laws

/-- Settles O13: each refusal past those before it, and past them all the search for a fresh identifier. -/
theorem stageOpens : Obligations.StageOpens := by
  intro e s hadmitted hstage a mask held lease last fresh
  rw [exec_stageCommand rfl hadmitted rfl, runStageCmd_open hstage]
  refine ⟨fun hheld => ?_, fun hheld hpart => ?_, fun hheld hpart hfull => ?_, fun hheld hpart hnone => ?_,
    fun hheld hpart hfew ⟨m, hm⟩ => ?_⟩
  · rw [stageOpen, if_pos hheld]
  · have hheld' : held ≠ true := by rw [hheld]; decide
    rw [stageOpen, if_neg hheld', if_pos hpart]
  · have hheld' : held ≠ true := by rw [hheld]; decide
    rw [stageOpen, if_neg hheld', if_neg (by rw [hpart]; decide), if_pos hfull]
  · by_cases hfew : (liveStages a).length < 4
    · obtain ⟨-, hroom⟩ | ⟨n, hn, -⟩ := stageOpen_of_room hheld hpart hfew
      · rw [hroom]
      · exact absurd hn (hnone n)
    · have hheld' : held ≠ true := by rw [hheld]; decide
      rw [stageOpen, if_neg hheld', if_neg (by rw [hpart]; decide), if_pos (Nat.not_lt.mp hfew)]
  · obtain ⟨hnone, -⟩ | ⟨n, hn, hopened⟩ := stageOpen_of_room hheld hpart hfew
    · exact absurd hm (hnone m)
    · exact ⟨n, hn, congrArg _ hopened⟩

/-- Settles O14. -/
theorem stageCommands : Obligations.StageCommands := by
  refine ⟨⟨?checked, ?atOnce, ?sealed, ?aborted⟩, ?queried, length_stageRecord⟩
  case checked =>
    intro e s st hadmitted hpart hopen mode point t hahead
    have hahead' : (!pointAhead t mode point (leadNs t + 2000000)) ≠ true := by rw [hahead]; decide
    rw [exec_stageCommand rfl hadmitted rfl, runStageCmd_check hopen hpart]
    refine ⟨fun hnone => ?_, fun f hf => ?_⟩
    · rw [stageCheck, if_neg hahead', hnone]
    · rw [stageCheck, if_neg hahead', hf]
      rfl
  case atOnce =>
    intro e s st hadmitted hpart hopen hstate hmode hpass
    rw [exec_stageCommand rfl hadmitted rfl, runStageCmd_commit hopen hpart, stageCommit]
    simp [hstate, hmode, hpass, pointAhead]
  case sealed =>
    intro e s st hadmitted hpart hopen hstate hmode hahead a t
    rw [exec_stageCommand rfl hadmitted rfl, runStageCmd_commit hopen hpart, stageCommit]
    simp [hstate, hmode, hahead, t, a]
  case aborted =>
    intro e s st hadmitted hpart hopen
    rw [exec_stageCommand rfl hadmitted rfl, runStageCmd_abort hopen hpart]
  case queried =>
    intro e s st hadmitted hpart hquery
    rw [exec_stageCommand rfl hadmitted rfl, runStageCmd_query hquery hpart]

/-- Settles O15: past step 7 the command's record is checked and put at the end of its stage. -/
theorem commandIsStaged : Obligations.CommandIsStaged := by
  intro i c e s st hrow hadmitted hstage hc hopen hmask hstageable hreads hkind hcmds hbytes hlast
  have hroom : ¬(4096 ≤ st.cmds.length ∨ 1048576 < st.argBytes + argSize e (cmdSpec c).buf) := by omega
  rw [exec_staged hrow hadmitted hstage hc, runStaged, hopen]
  simp only [hmask, hstageable, hreads, hkind, hlast]
  simp [hroom]

/-- Settles O16: at its point a sealed stage is applied or discarded; an open one ends with its lease, a record with its time. -/
theorem stagePoints : Obligations.StagePoints := by
  refine ⟨?atPoint, ?lease, ?record⟩
  case atPoint =>
    intro id s st t hfound hrun hpoint hpast op u answer
    have hpassed : stagePointOp.pointPassed s st = true := by simp [stagePointOp.pointPassed, hpoint, hpast]
    have hcan : (commitNs u st.mode st.point).isSome = true := Option.isSome_iff_exists.mpr ⟨t, (commitNs_host s _ _ _).trans hpoint⟩
    have hstays : (!firmwareRuns s || !stagePointOp.pointPassed s st) ≠ true := by rw [hrun, hpassed]; decide
    have hexec : exec (.stageCommitPoint id) s = .next (stagePointOp id s) := rfl
    rw [hexec, stagePointOp, hfound]
    dsimp only
    rw [if_neg hstays, if_pos hcan]
    refine ⟨fun hnone => ?_, fun f hf => ?_⟩
    · rewrite [hnone]
      rfl
    · rewrite [hf]
      rfl
  case lease =>
    intro id s st hfound hend
    have hexec : exec (.stageLeaseExpiry id) s = .next (stageLeaseOp id s) := rfl
    rw [hexec, stageLeaseOp, hfound]
    exact congrArg _ (if_pos hend)
  case record =>
    intro id s st hfound hend
    have hexec : exec (.stageRecordExpiry id) s = .next (stageRecordOp id s) := rfl
    rw [hexec, stageRecordOp, hfound]
    exact congrArg _ (if_pos hend)

end Sys2Proof.Proofs
end

section
/-! SUPPORT. Host commands that nothing turns away, by the shape of their response (R75 step 10, R76, R77): one response, a final
response at once after the interim one, or an interim response with the work going on. -/

namespace Sys2Proof.Proofs

open Sys2Proof Sys2Proof.Machine Sys2Proof.Laws

/-- A command of no protocol of its own: not of the stages, not one that carries another, not the one whose end moves the schedule. -/
def isPlain (c : CmdId) : Bool := !isStageCommand c && c != .pairLocalApply && c != .keyGenMap

/-- Such a command of one response. -/
def isShort (c : CmdId) : Bool := isPlain c && !(cmdSpec c).long

/-- A reply that is given at once, and is the last one. -/
def isFinal (r : Reply) : Bool := r.status != stAccepted && r.status != stDeferred

theorem isPlain_parts {c : CmdId} (h : isPlain c = true) : isStageCommand c = false ∧ c ≠ .pairLocalApply ∧ c ≠ .keyGenMap := by
  simpa [isPlain, and_assoc] using h

section Ready

variable {i : Instr} {c : CmdId} {e : CmdEntry} {s t : State} {r : Reply} (hrow : hostRow i = some (c, e)) (hready : ready c e s = true)
include hrow hready

/-- A command of one response. -/
theorem exec_short (hshort : isShort c = true) (happly : (fnImpl c).apply .now e (arrived e s) = (t, r)) (hr : isFinal r = true) :
    exec i s = .next (answerFinal t e r) := by
  simp only [isShort, isFinal, Bool.and_eq_true, bne_iff_ne, Bool.not_eq_true'] at hshort hr
  obtain ⟨hc, hl, hm⟩ := isPlain_parts hshort.1
  rw [exec_hostRow s hrow, ready_short hready hc hl hm hshort.2 happly hr.1 hr.2]

/-- A command, long or not, that meets an outcome of its function: one response. -/
theorem exec_outcome (hplain : isPlain c = true) (happly : (fnImpl c).apply .now e (arrived e s) = (t, r)) (hr : isFinal r = true)
    (hok : r.status ≠ stOk) : exec i s = .next (answerFinal t e r) := by
  simp only [isFinal, Bool.and_eq_true, bne_iff_ne] at hr
  obtain ⟨hc, hl, hm⟩ := isPlain_parts hplain
  rw [exec_hostRow s hrow, ready_refused hready hc hl hm happly hok hr.1 hr.2]

/-- A long command whose work is done at once: its interim response, then its final one. -/
theorem exec_done (hplain : isPlain c = true) (hlong : (cmdSpec c).long = true)
    (happly : (fnImpl c).apply .now e (arrived e s) = (t, r)) (hok : r.status = stOk) :
    exec i s = .next (answerFinal (respond t e { status := stAccepted } false) e r) := by
  obtain ⟨hc, hl, hm⟩ := isPlain_parts hplain
  rw [exec_hostRow s hrow, ready_done hready hc hl hm hlong happly hok]

/-- A long command at work: its interim response, and what it does after that. -/
theorem exec_long (hplain : isPlain c = true) (happly : (fnImpl c).apply .now e (arrived e s) = (t, { status := stAccepted })) :
    exec i s = .next ((fnImpl c).after e (respond (atWork c e (arrived e s) t) e { status := stAccepted } false)) := by
  obtain ⟨hc, hl, -⟩ := isPlain_parts hplain
  rw [exec_hostRow s hrow, ready_long hready hc hl happly rfl]
  rfl

end Ready

section Shapes

variable {c : CmdId} {i : CmdEntry → Instr} {f : CmdEntry → State → State} {r : CmdEntry → State → Reply}

/-- A command of one response has the shape that its function's state and reply have. -/
theorem answers_of_apply (happly : ∀ e s, (fnImpl c).apply .now e s = (f e s, r e s))
    (hr : ∀ e s, isFinal (r e s) = true := by intros; rfl) (hrow : ∀ e, hostRow (i e) = some (c, e) := by intros; rfl)
    (hshort : isShort c = true := by rfl) : Answers c i f r :=
  fun e _ hready => exec_short (hrow e) hready hshort (happly e _) (hr e _)

theorem sets_of_apply (happly : ∀ e s, (fnImpl c).apply .now e s = (f e s, okReply))
    (hrow : ∀ e, hostRow (i e) = some (c, e) := by intros; rfl) (hshort : isShort c = true := by rfl) : Sets c i f :=
  answers_of_apply happly (fun _ _ => rfl) hrow hshort

theorem reads_of_apply (happly : ∀ e s, (fnImpl c).apply .now e s = (s, r e s))
    (hr : ∀ e s, isFinal (r e s) = true := by intros; rfl) (hrow : ∀ e, hostRow (i e) = some (c, e) := by intros; rfl)
    (hshort : isShort c = true := by rfl) : Reads c i r :=
  answers_of_apply happly hr hrow hshort

/-- A long command with nothing to do after its interim response. -/
theorem starts_of_apply (happly : ∀ e s, (fnImpl c).apply .now e s = (f e s, { status := stAccepted }))
    (hafter : ∀ e s, (fnImpl c).after e s = s := by intros; rfl) (hrow : ∀ e, hostRow (i e) = some (c, e) := by intros; rfl)
    (hplain : isPlain c = true := by rfl) : Starts c i f := by
  intro e s hready
  rw [exec_long (hrow e) hready hplain (happly e _), hafter]

end Shapes

end Sys2Proof.Proofs
end

section
/-! Settled statements of the SYS commands, the counters, and the long commands that only start. -/

namespace Sys2Proof.Proofs

open Sys2Proof Sys2Proof.Machine Sys2Proof.Laws

/-- SYS_COUNTERS clears by a change of the host interface. -/
theorem sysCounters_apply (w : When) (e : CmdEntry) (s : State) : (fnImpl .sysCounters).apply w e s
    = (if argBit e 0 then { s with host := { s.host with counters := clearCtrs s.host.counters } } else s,
        okData (ctrBytes s.host.counters)) := by
  show ({ s with host := if argBit e 0 then { s.host with counters := clearCtrs s.host.counters } else s.host }, _) = _
  split <;> rfl

/-- Settles O17. -/
theorem systemCommands : Obligations.SystemCommands := by
  refine ⟨⟨?_, ?_, ?_, ?_, ?_⟩, ?_, ?_, ?_, ?_, ?_, ?_, ?_, ?_, ?_, ?_, ?_, ?_, ?_⟩
  · exact reads_of_apply fun _ _ => rfl
  · exact reads_of_apply fun _ _ => rfl
  · exact sets_of_apply fun _ _ => rfl
  · exact sets_of_apply fun _ _ => rfl
  · exact reads_of_apply fun _ _ => rfl
  · exact answers_of_apply (sysCounters_apply .now)
  all_goals exact answers_of_apply fun _ _ => rfl

/-- Settles O18: all but two have nothing to do after their interim response. -/
theorem longCommandsStart : Obligations.LongCommandsStart := by
  refine ⟨?functionReset, ?quiesce, ?_, ?_, ?_, ?_, ?_, ?_, ?_, ?_, ?_, ?_, ?counterRestore⟩
  case functionReset => exact fun e s hready => exec_long rfl hready rfl rfl
  case quiesce => exact fun e s hready => exec_long rfl hready rfl rfl
  case counterRestore =>
    intro e s hready hpiece
    exact exec_long rfl hready rfl (if_pos hpiece)
  all_goals exact starts_of_apply fun _ _ => rfl

end Sys2Proof.Proofs
end

section
/-! Settled statements of the AIR and RADIO commands. -/

namespace Sys2Proof.Proofs

open Sys2Proof Sys2Proof.Machine Sys2Proof.Laws

/-- Settles O19. -/
theorem airCommands : Obligations.AirCommands := by
  refine ⟨?_, ?_, ?_, ?_, ?profileQuery, ?_, ?toneMapRead, ?sound, ?_⟩
  case profileQuery => exact reads_of_apply (fun _ _ => rfl) fun _ _ => by split <;> rfl
  case toneMapRead => exact reads_of_apply fun _ _ => rfl
  case sound => exact starts_of_apply fun _ _ => rfl
  all_goals exact sets_of_apply fun _ _ => rfl

/-- Settles O20: each setting is the record update its function makes. -/
theorem radioSettings : Obligations.RadioSettings := by
  refine ⟨⟨?_, ?_, ?_, ?_, ?_, ?_, ?_, ?_, ?_, ?_, ?_, ?_⟩, ?_, ?_, ?_, ?_, ?_, ?_, ?bandStatus⟩
  case bandStatus => exact reads_of_apply fun _ _ => rfl
  all_goals exact sets_of_apply fun _ _ => rfl

/-- Reading a snapshot that is complete gives its bytes (R171). -/
theorem radioSnapshotRead_apply_of_complete {w : When} {e : CmdEntry} {s : State} {x : Snapshot}
    (hfound : snapOf s (argBits e 7 0) = some x) (hstate : x.state = .complete) :
    (fnImpl .radioSnapshotRead).apply w e s = (s, okData (sliceBytes x.data (argBits e 63 32) e.bufLen.toNat)) := by
  simp [fnImpl, radioSnapshotRead, hfound, hstate]

/-- Reading one that is not gives open values (log 4). -/
theorem radioSnapshotRead_apply_of_incomplete {w : When} {e : CmdEntry} {s : State} {x : Snapshot}
    (hfound : snapOf s (argBits e 7 0) = some x) (hstate : x.state ≠ .complete) :
    (fnImpl .radioSnapshotRead).apply w e s = ((drawBytes s e.bufLen.toNat).2, okData (drawBytes s e.bufLen.toNat).1) := by
  simp [fnImpl, radioSnapshotRead, hfound, hstate]

/-- Settles O21. -/
theorem radioReceiveReads : Obligations.RadioReceiveReads := by
  refine ⟨?windowQuery, ?contextStatus, ?wakeStatus, ?regionQuery, ?snapshotArm, ?readComplete, ?readIncomplete, ?reserve, ?release⟩
  case windowQuery => exact reads_of_apply (fun _ _ => rfl) fun _ _ => by split <;> rfl
  case contextStatus => exact reads_of_apply fun _ _ => rfl
  case wakeStatus => exact reads_of_apply fun _ _ => rfl
  case regionQuery => exact reads_of_apply (fun _ _ => rfl) fun _ _ => by split <;> rfl
  case snapshotArm => exact starts_of_apply fun _ _ => rfl
  case readComplete =>
    intro e s x hready hfound hstate
    exact exec_short rfl hready rfl (radioSnapshotRead_apply_of_complete hfound hstate) rfl
  case readIncomplete =>
    intro e s x hready hfound hstate
    exact exec_short rfl hready rfl (radioSnapshotRead_apply_of_incomplete hfound hstate) rfl
  case reserve => exact answers_of_apply fun _ _ => rfl
  case release => exact sets_of_apply fun _ _ => rfl

/-- RADIO_BAND_ENABLE outside a stage's point: a FAULT band makes one return attempt, any other becomes PENDING_ON (R204, R207). -/
theorem radioBandEnable_apply (e : CmdEntry) (s : State) :
    let w := wakeDomain s (domBandA + bandNum (argBand e))
    (fnImpl .radioBandEnable).apply .now e s
      = (holdOn (if bandState w (argBand e) = .fault then modTx w (argBand e) fun x => { x with attempts := 3, onAfter := some (nowNs w) }
          else modTx w (argBand e) fun x => { x with state := .pendingOn, onAfter := some (nowNs w + 2000000) }),
        { status := stAccepted }) := by
  intro w
  show (holdOn (match bandState w (argBand e), When.now with
    | .fault, _ => modTx w (argBand e) fun x => { x with attempts := 3, onAfter := some (nowNs w) }
    | _, .commit 2 _ => armReserved (setBand w (argBand e) .on) (argBand e) true
    | _, _ => modTx w (argBand e) fun x => { x with state := .pendingOn, onAfter := some (nowNs w + 2000000) }), _) = _
  cases bandState w (argBand e) <;> rfl

/-- RADIO_BAND_DISABLE outside a stage's point: an ON band drains from its boundary on, any other but a DRAINING one goes off (R205). -/
theorem radioBandDisable_apply (e : CmdEntry) (s : State) :
    (fnImpl .radioBandDisable).apply .now e s
      = (match bandState s (argBand e) with
          | .on => modTx s (argBand e) fun x => { x with offPending := true }
          | .draining => s
          | _ => bandGoesOff s (argBand e), okReply) := by
  simp only [fnImpl, radioBandDisable]
  cases bandState s (argBand e) <;> rfl

/-- RADIO_TX_AT that no dwell account refuses is queued (R212). -/
theorem radioTxAt_apply_of_dwell {w : When} {e : CmdEntry} {s : State} {p : AirProfile} (hp : profileOf s (argBits e 47 32) = some p)
    (hdwell : (let l := directLaunch e s p; dwellRefuser s (argBand e) l.channel l.tL l.airNs) = none) :
    (fnImpl .radioTxAt).apply w e s = (enqueueLaunch (takeLaunchId s) (directLaunch e s p), { status := stAccepted }) := by
  simp only [fnImpl, radioTxAt, hp, hdwell]

/-- One that an account refuses is counted. -/
theorem radioTxAt_apply_of_refuser {w : When} {e : CmdEntry} {s : State} {p : AirProfile} {r : Region} {key v : Nat}
    (hp : profileOf s (argBits e 47 32) = some p)
    (hdwell : (let l := directLaunch e s p; dwellRefuser s (argBand e) l.channel l.tL l.airNs) = some (r, key, v)) :
    (fnImpl .radioTxAt).apply w e s = (dwellDeny s (argBand e) r key v, refuse stDwellLimit) := by
  simp only [fnImpl, radioTxAt, hp, hdwell]

/-- Settles O22. -/
theorem radioBands : Obligations.RadioBands := by
  refine ⟨?enable, ?disable, ?queued, ?refused, ?calibrates, ?nothingDue⟩
  case enable => exact fun e s hready => exec_long rfl hready rfl (radioBandEnable_apply e _)
  case disable => exact sets_of_apply radioBandDisable_apply
  case queued => exact fun e s p hready hp hdwell => exec_long rfl hready rfl (radioTxAt_apply_of_dwell hp hdwell)
  case refused =>
    exact fun e s p r key v hready hp hdwell => exec_outcome rfl hready rfl (radioTxAt_apply_of_refuser hp hdwell) rfl (by decide)
  case calibrates => exact fun e s hready hmask => exec_long rfl hready rfl (if_neg hmask)
  case nothingDue => exact fun e s hready hmask => exec_done rfl hready rfl rfl (if_pos hmask) rfl

end Sys2Proof.Proofs
end

section
/-! SUPPORT. What filing nodes in the wake calendar leaves of the Orbit engine (R229, R556). -/

namespace Sys2Proof.Proofs

open Sys2Proof Sys2Proof.Machine Sys2Proof.Laws

/-- The Orbit engine but for its wake calendar and its counters. -/
def engineOf (s : State) : Orbit := { s.orbit with calendar := [], counters := [] }

@[simp] theorem engineOf_unfile (s : State) (i : Nat) : engineOf (unfile s i) = engineOf s := rfl
@[simp] theorem engineOf_modNode (s : State) (i : Nat) (f : NodeEntry → NodeEntry) : engineOf (modNode s i f) = engineOf s := rfl

/-- Filing a node writes the calendar, and counts each wake it passes. -/
@[simp] theorem engineOf_fileNode (k : Nat) (s : State) (i : Nat) : engineOf (fileNode k s i) = engineOf s := by
  induction k generalizing s with
  | zero => rfl
  | succ k ih =>
    unfold fileNode
    split
    · rfl
    · extract_lets p
      split
      · rfl
      · rw [ih]
        rfl

@[simp] theorem engineOf_refile (s : State) (i : Nat) : engineOf (refile s i) = engineOf s := by
  rw [refile, engineOf_fileNode, engineOf_unfile]

@[simp] theorem engineOf_fileFrom (s : State) (i a : Nat) : engineOf (fileFrom s i a) = engineOf s := by
  unfold fileFrom
  split
  · rfl
  · split <;> simp

/-- Filing every node leaves the rest of the engine. -/
@[simp] theorem engineOf_refileAll (s : State) : engineOf (refileAll s) = engineOf s := by
  unfold refileAll
  generalize mapKeys s.node.table = nodes
  induction nodes generalizing s with
  | nil => rfl
  | cons i l ih =>
    rw [List.foldl_cons, ih]
    split
    · rfl
    · exact engineOf_fileFrom s i _

end Sys2Proof.Proofs
end

section
/-! Settled statements of the ORBIT, NODE, ROUTE and ETH commands. -/

namespace Sys2Proof.Proofs

open Sys2Proof Sys2Proof.Machine Sys2Proof.Laws

/-- ORBIT_START writes the anchor and files the nodes; the engine stays IDLE until the anchor's instant (R217). -/
theorem orbitStart_apply (e : CmdEntry) (s : State) : ∃ t, (fnImpl .orbitStart).apply .now e s = (t, okReply)
    ∧ t.orbit.state = .idle ∧ t.orbit.anchored = true ∧ t.orbit.anchorAsn = argBits e 71 32 ∧ t.orbit.anchorNs = argBits e 159 96
    ∧ t.orbit.follow = argBit e 0 := by
  let anchored := modOrbit s fun o =>
    { o with follow := argBit e 0, anchorAsn := argBits e 71 32, anchorNs := argBits e 159 96, anchored := true, slot := none
             prepared := none, nextFrame := none, runPending := false, parentMiss := 0, parentNext := none }
  let running := modOrbit anchored fun o => { o with state := .run }
  have hkept : engineOf (refileAll running) = engineOf running := engineOf_refileAll running
  simp only [engineOf, Orbit.mk.injEq] at hkept
  refine ⟨modOrbit (refileAll running) fun o => { o with state := .idle }, rfl, rfl, ?_⟩
  simp only [modOrbit_orbit]
  simp [hkept, running, anchored]

/-- ORBIT_NODE_SCHEDULE of a node that exists offers it the update and parks the frame that carries it (R252). -/
theorem orbitNodeSchedule_apply {w : When} {e : CmdEntry} {s : State} {n : NodeEntry} (hn : nodeAt s (argBits e 17 0) = some n) :
    let u := askedSchedule e s n
    let payload := schedPayload u s.orbit.schedVersion
    let t := replicateOffer (modOrbit s fun o => { o with schedUpdates := o.schedUpdates ++ [u] }) (argBits e 17 0) payload
    (fnImpl .orbitNodeSchedule).apply w e s
      = ((parkFirmware t (firmwareFrame t n.meshAddr ftControl payload true)).1, { status := stAccepted }) := by
  simp only [fnImpl, orbitNodeSchedule, hn]

/-- Settles O23: each clause is its function's record update, with the anchor kept through the filing of the nodes. -/
theorem orbitCommands : Obligations.OrbitCommands := by
  refine ⟨⟨?_, ?_, ?_, ?_, ?_, ?_⟩, ?start, ?_, ?status, ?_, ?nodeSchedule, ?nodeStatus, ?_, ?dwellStatus, ?_, ?_, ?_⟩
  case start =>
    intro e s hready
    obtain ⟨t, happly, hanchor⟩ := orbitStart_apply e (arrived e s)
    exact ⟨t, exec_short rfl hready rfl happly rfl, hanchor⟩
  case status => exact reads_of_apply fun _ _ => rfl
  case nodeSchedule => exact fun e s n hready hn => exec_long rfl hready rfl (orbitNodeSchedule_apply hn)
  case nodeStatus => exact reads_of_apply (fun _ _ => rfl) fun _ _ => by split <;> rfl
  case dwellStatus => exact reads_of_apply fun _ _ => rfl
  all_goals exact sets_of_apply fun _ _ => rfl

section NodeEntries

variable {w : When} {e : CmdEntry} {s : State}

/-- NODE_ADD with an address and an index for the node (R278). -/
theorem nodeAdd_apply_of_room {a : W32} {i : Nat} {t : State} (ha : assignAddr s (BitVec.ofNat 64 (argBits e 63 0)) = some a)
    (hi : insertEntry s (addedEntry e s a) = (t, some i)) :
    (fnImpl .nodeAdd).apply w e s
      = (fileFrom (journalAdd t 2 i a i) i (currentAsn t + 2), okData (leBytes 4 i ++ leBytes 4 a.toNat)) := by
  simp only [fnImpl, nodeAdd, ha, hi]

/-- NODE_REMOVE of a node that exists (R285). -/
theorem nodeRemove_apply_of_found {i : Nat} {n : NodeEntry} (hi : keyIndex e (keyPass e s) = some i)
    (hn : nodeAt (keyPass e s) i = some n) :
    (fnImpl .nodeRemove).apply w e s = (deleteNode (flushNode (keyPass e s) n.meshAddr) i 5, okReply) := by
  simp only [fnImpl, nodeRemove, setter, hi, hn]

/-- NODE_READ from an index on. -/
theorem nodeRead_apply_of_found {i : Nat} (hi : keyIndex e (keyPass e s) = some i) :
    let l := (List.range (min (argBits e 25 16) (262144 - i))).map (i + ·)
    (fnImpl .nodeRead).apply w e s = (l.foldl readEntryWords (keyPass e s), okData (l.flatMap (indexBytes (keyPass e s)))) := by
  simp only [fnImpl, nodeRead, hi]

/-- NODE_SET of a node that exists: nothing changes where the entry stays the same. -/
theorem nodeSet_apply_of_found {n : NodeEntry} (hn : nodeAt s (argBits e 17 0) = some n) :
    let m := { n with
      rxRing := if argBit e 20 then argBits e 27 24 else n.rxRing
      attenDb := if argBit e 21 then argBits e 36 32 else n.attenDb
      isStatic := if argBit e 22 then argBit e 37 else n.isStatic }
    let i := argBits e 17 0
    (fnImpl .nodeSet).apply w e s = (if m = n then s else journalAdd (writeEntry s i m) 6 i m.meshAddr i, okReply) := by
  simp only [fnImpl, nodeSet, setter, hn]

/-- ROUTE_NODE_QUERY of a node that exists. -/
theorem routeNodeQuery_apply_of_found {n : NodeEntry} (hn : nodeAt s (argBits e 17 0) = some n) :
    let slot := if routeKind n = 1 || routeKind n = 2 then relayAt s (routeSlot n) else none
    (fnImpl .routeNodeQuery).apply w e s = (s,
      { status := stOk, figures := [(n.routeRef : Int)]
        data := sliceBytes ((slot.map relayBytes).getD []) 0 16
          ++ sliceBytes (((sourceRoute s n).getD []).flatMap fun a => leBytes 4 a.toNat) 0 32 }) := by
  simp only [fnImpl, routeNodeQuery, getter, hn]

end NodeEntries

/-- Settles O24. -/
theorem nodeCommands : Obligations.NodeCommands := by
  refine ⟨⟨?add, ?remove, ?read, ?set, ?writeRaw⟩, ?_, ?_, ?_, ?journalRead, ?tableStatus, ?_, ?_⟩
  case add => exact fun e s a i t hready ha hi => exec_short rfl hready rfl (nodeAdd_apply_of_room ha hi) rfl
  case remove => exact fun e s i n hready hi hn => exec_short rfl hready rfl (nodeRemove_apply_of_found hi hn) rfl
  case read => exact fun e s i hready hi => exec_short rfl hready rfl (nodeRead_apply_of_found hi) rfl
  case set => exact fun e s n hready hn => exec_short rfl hready rfl (nodeSet_apply_of_found hn) rfl
  case journalRead => exact answers_of_apply fun _ _ => rfl
  case tableStatus => exact fun e s hready => exec_short rfl hready rfl rfl rfl
  all_goals exact sets_of_apply fun _ _ => rfl

/-- Settles O25. -/
theorem routeCommands : Obligations.RouteCommands := by
  refine ⟨?_, ?_, ?lookup, ?_, ?_, ?_, ?nodeSet, ?nodeQuery, ?status, ?_, ?trieRead⟩
  case lookup => exact reads_of_apply fun _ _ => rfl
  case nodeSet => exact fun e s hready => exec_short rfl hready rfl rfl rfl
  case nodeQuery => exact fun e s n hready hn => exec_short rfl hready rfl (routeNodeQuery_apply_of_found hn) rfl
  case status => exact reads_of_apply fun _ _ => rfl
  case trieRead => exact answers_of_apply fun _ _ => rfl
  all_goals exact sets_of_apply fun _ _ => rfl

/-- Settles O26. -/
theorem ethCommands : Obligations.EthCommands := by
  refine ⟨?config, ?status, ?_, ?_, ?_, ?_⟩
  case config => exact starts_of_apply fun _ _ => rfl
  case status => exact reads_of_apply fun _ _ => rfl
  all_goals exact sets_of_apply fun _ _ => rfl

end Sys2Proof.Proofs
end

section
/-! SUPPORT. Commands that answer later (R336, R341), and KEY_GEN_MAP, which moves the schedule. -/

namespace Sys2Proof.Proofs

open Sys2Proof Sys2Proof.Machine Sys2Proof.Laws

/-- A command whose response comes at a later event stays at work without one. -/
theorem exec_deferred {i : Instr} {c : CmdId} {e : CmdEntry} {s t : State} (hrow : hostRow i = some (c, e)) (hready : ready c e s = true)
    (hplain : isPlain c = true) (happly : (fnImpl c).apply .now e (arrived e s) = (t, deferReply)) :
    exec i s = .next (atWork c e (arrived e s) t) := by
  obtain ⟨hc, hl, -⟩ := isPlain_parts hplain
  obtain ⟨-, -, -, -, hfits⟩ := ready_parts hready
  rw [happly] at hfits
  rw [exec_hostRow s hrow, ready_run hready hc hl, happly, finishRun]
  dsimp only at hfits ⊢
  rw [hfits]
  rfl

/-- KEY_GEN_MAP answers, and the change of the bindings takes effect on the schedule. -/
theorem exec_keyGenMap {e : CmdEntry} {s t : State} (hready : ready .keyGenMap e s = true)
    (happly : (fnImpl .keyGenMap).apply .now e (arrived e s) = (t, okReply)) :
    exec (.keyGenMap e) s = .next (mapChanged (answerFinal t e okReply)) := by
  obtain ⟨-, -, -, -, hfits⟩ := ready_parts hready
  rw [happly] at hfits
  rw [exec_hostRow (i := .keyGenMap e) s rfl, ready_run hready rfl (by decide), happly, finishRun]
  dsimp only at hfits ⊢
  rw [hfits]
  rfl

section Masks

variable {f : CmdEntry → State → State × Reply} {e : CmdEntry} {s : State}

/-- With masks a command that needs them runs. -/
theorem whenMasked_of_masks (h : masksOut s = false) : whenMasked f e s = f e s := by
  simp [whenMasked, h]

/-- Without, it waits (R341). -/
theorem whenMasked_of_none (h : masksOut s = true) : whenMasked f e s = (s, deferReply) := by
  simp [whenMasked, h]

end Masks

/-- What blob loading answers is its last response. -/
theorem isFinal_blobLoad (e : CmdEntry) (s : State) : isFinal (blobLoad e s).2 = true := by
  unfold blobLoad
  extract_lets b
  split
  · rfl
  · split
    · rfl
    · split
      · rfl
      · split
        · rfl
        · extract_lets w0 uses use
          split <;> rfl

/-- What a raw block answers is its last response. -/
theorem isFinal_rawBlocks (e : CmdEntry) (s : State) : isFinal (rawBlocks e s).2 = true := by
  unfold rawBlocks
  extract_lets slot n
  split <;> rfl

/-- What a debug unlock answers is its last response. -/
theorem isFinal_debugUnlock (e : CmdEntry) (s : State) : isFinal (debugUnlock e s).2 = true := by
  unfold debugUnlock
  extract_lets b pub sig
  generalize identityPublic s = read
  dsimp only
  split
  · split <;> rfl
  · rfl

end Sys2Proof.Proofs
end

section
/-! Settled statements of the KEY and CRYPT commands. -/

namespace Sys2Proof.Proofs

open Sys2Proof Sys2Proof.Machine Sys2Proof.Laws

section Slots

variable {e : CmdEntry} {s u v : State} {m k d : List Byte}

/-- Wrapping an unwrapped key into an EMPTY slot (R339). -/
theorem importWrapped_of_unwrapped {p : List Byte} (hread : readSlot s (argBits e 14 8) = (u, some k))
    (hunwrap : keyUnwrap k (inBuf e) = some p) : importWrapped e s = (importKey (chargeUse u (argBits e 14 8) 1) e p, okReply) := by
  simp only [importWrapped, hread, hunwrap]

theorem keyImportRaw_apply (w : When) (e : CmdEntry) (s : State) :
    (fnImpl .keyImportRaw).apply w e s = whenMasked (fun e s => (importKey s e (inBuf e), okReply)) e s := rfl

theorem keyBlobExport_apply_of_read {kw : List Byte} (w : When) (hread : readSlot s (argBits e 6 0) = (u, some m))
    (hwrap : wrapKey s = some kw) :
    (fnImpl .keyBlobExport).apply w e s = (u, okData (blobOf u (argBits e 6 0) kw m)) := by
  simp only [fnImpl, keyBlobExport, hread, hwrap]

theorem keyBlobWrapOut_apply_of_read (w : When) (hkek : readSlot s (argBits e 14 8) = (u, some k))
    (hread : readSlot u (argBits e 6 0) = (v, some m)) :
    (fnImpl .keyBlobWrapOut).apply w e s = (chargeUse v (argBits e 14 8) 1, okData (keyWrap k m)) := by
  simp only [fnImpl, keyBlobWrapOut, hkek, hread]

theorem keyAttest_apply_of_read (w : When) (hread : readSlot s 0 = (u, some d)) :
    let st := attestStatement u (argBits e 6 0) (argBytes e 4 32)
    let sig := signWith u d (sha256 st)
    (fnImpl .keyAttest).apply w e s = (sig.1, okData (st ++ sig.2)) := by
  simp only [fnImpl, keyAttest, hread]

theorem keySign_apply_of_read (w : When) (hread : readSlot s (argBits e 6 0) = (u, some d)) :
    let sig := signWith (chargeUse u (argBits e 6 0) 1) d (argBytes e 4 32)
    (fnImpl .keySign).apply w e s = (sig.1, okData sig.2) := by
  simp only [fnImpl, keySign, hread]

end Slots

/-- KEY_GEN_MAP removes a binding, which may end a roll, or makes one in its generation's place or the first free one (R336, R373). -/
theorem keyGenMap_apply (e : CmdEntry) (s : State) :
    let g := argBits e 7 0
    (fnImpl .keyGenMap).apply .now e s
      = (if argBit e 15 then
          rollEnds (modKey s fun k => { k with genMap := k.genMap.map fun b => if (b.map (·.1)) == some g then none else b }) g
        else modKey s fun k =>
          let pos := match bindingOf s g with | some (p, _) => p | none => (k.genMap.findIdx? (·.isNone)).getD 0
          { k with genMap := modNth k.genMap pos fun _ => some (g, argBits e 14 8) }, okReply) := by
  intro g
  cases hremove : argBit e 15 <;> simp only [fnImpl, keyGenMapRoll, keyGenMap, setter, hremove] <;> rfl

/-- The identity's public key, or a bad slot (R342). -/
theorem keyIdentityRead_apply (e : CmdEntry) (s : State) : (fnImpl .keyIdentityRead).apply .now e s
    = ((identityPublic s).1, match (identityPublic s).2 with | some p => okData p | none => refuse stKeyBadSlot) := by
  simp only [fnImpl, keyIdentityRead]
  generalize identityPublic s = read
  obtain ⟨t, _ | p⟩ := read <;> rfl

/-- Settles O27: commands on slots by what the slots read, those that need masks with them and without. -/
theorem keyCommands : Obligations.KeyCommands := by
  refine ⟨⟨?slotQuery, ?generate, ?importRaw, ?importWrapped, ?blobLoad, ?waits, ?blobExport, ?wrapOut, ?revoke, ?genMap, ?genQuery, ?attest,
    ?sign⟩, ?identity, ?tamperStatus, ?tamperConfig, ?challenge, ?unlock, ?kdf, ?authSet⟩
  case slotQuery => exact reads_of_apply fun _ _ => rfl
  case generate => exact sets_of_apply fun _ _ => rfl
  case importRaw => exact fun e s hready hmasks => exec_short rfl hready rfl ((keyImportRaw_apply ..).trans (whenMasked_of_masks hmasks)) rfl
  case importWrapped =>
    intro e s u k p hready hmasks hread hunwrap
    exact exec_short rfl hready rfl ((whenMasked_of_masks hmasks).trans (importWrapped_of_unwrapped hread hunwrap)) rfl
  case blobLoad => exact fun e s hready hmasks => exec_short rfl hready rfl (whenMasked_of_masks hmasks) (isFinal_blobLoad e _)
  case waits =>
    intro e s hmasks
    refine ⟨fun hready => ?_, fun hready => ?_, fun hready => ?_⟩
    · exact exec_deferred rfl hready rfl ((keyImportRaw_apply ..).trans (whenMasked_of_none hmasks))
    all_goals exact exec_deferred rfl hready rfl (whenMasked_of_none hmasks)
  case blobExport =>
    exact fun e s u m kw hready hread hwrap => exec_short rfl hready rfl (keyBlobExport_apply_of_read .now hread hwrap) rfl
  case wrapOut =>
    exact fun e s u v k m hready hkek hread => exec_short rfl hready rfl (keyBlobWrapOut_apply_of_read .now hkek hread) rfl
  case revoke => exact fun e s hready => exec_deferred rfl hready rfl rfl
  case genMap => exact fun e s hready => exec_keyGenMap hready (keyGenMap_apply e _)
  case genQuery => exact reads_of_apply fun _ _ => rfl
  case attest => exact fun e s u d hready hread => exec_short rfl hready rfl (keyAttest_apply_of_read .now hread) rfl
  case sign => exact fun e s u d hready hread => exec_short rfl hready rfl (keySign_apply_of_read .now hread) rfl
  case identity => exact answers_of_apply keyIdentityRead_apply fun _ _ => by split <;> rfl
  case tamperStatus => exact reads_of_apply fun _ _ => rfl
  case tamperConfig => exact sets_of_apply fun _ _ => rfl
  case challenge => exact answers_of_apply fun _ _ => rfl
  case unlock => exact answers_of_apply (fun _ _ => rfl) isFinal_debugUnlock
  case kdf => exact reads_of_apply fun _ _ => rfl
  case authSet => exact sets_of_apply fun _ _ => rfl

section Lanes

variable {w : When} {e : CmdEntry} {s : State}

theorem cryptRawBlock_apply_of_masks (h : masksOut s = false) : (fnImpl .cryptRawBlock).apply w e s = rawBlocks e s := by
  simp [fnImpl, cryptRawBlock, h]

theorem cryptRawBlock_apply_of_none (h : masksOut s = true) :
    (fnImpl .cryptRawBlock).apply w e s = (cryptCount s xcLaneWait 1, deferReply) := by
  simp [fnImpl, cryptRawBlock, h]

theorem cryptCcmVector_apply_of_masks (h : masksOut s = false) : (fnImpl .cryptCcmVector).apply w e s = ccmVector e s := by
  simp [fnImpl, cryptCcmVector, h]

theorem cryptCcmVector_apply_of_none (h : masksOut s = true) :
    (fnImpl .cryptCcmVector).apply w e s = (cryptCount s xcLaneWait 1, deferReply) := by
  simp [fnImpl, cryptCcmVector, h]

end Lanes

/-- Settles O28. -/
theorem cryptCommands : Obligations.CryptCommands := by
  refine ⟨?status, ?_, ?_, ?_, ?rawBlock, ?rawWaits, ?_, ?_, ?vector, ?vectorWaits⟩
  case status => exact reads_of_apply fun _ _ => rfl
  case rawBlock =>
    exact fun e s hready hmasks => exec_short rfl hready rfl (cryptRawBlock_apply_of_masks hmasks) (isFinal_rawBlocks e _)
  case rawWaits => exact fun e s hready hmasks => exec_deferred rfl hready rfl (cryptRawBlock_apply_of_none hmasks)
  case vector => exact fun e s hready hmasks => exec_short rfl hready rfl (cryptCcmVector_apply_of_masks hmasks) rfl
  case vectorWaits => exact fun e s hready hmasks => exec_deferred rfl hready rfl (cryptCcmVector_apply_of_none hmasks)
  all_goals exact sets_of_apply fun _ _ => rfl

end Sys2Proof.Proofs
end

section
/-! Settled statements of the QUEUE, TIME, PAIR, PWR, UPDATE, CAMPAIGN and TEST commands. -/

namespace Sys2Proof.Proofs

open Sys2Proof Sys2Proof.Machine Sys2Proof.Laws

/-- Settles O29. -/
theorem queueCommands : Obligations.QueueCommands := by
  refine ⟨?_, ?flush, ?status, ?_, ?_, ?_, ?samplesRead, ?_, ?_, ?_, ?_, ?arbStatus, ?workStatus⟩
  case flush => exact answers_of_apply fun _ _ => rfl
  case status => exact reads_of_apply fun _ _ => rfl
  case samplesRead => exact reads_of_apply fun _ _ => rfl
  case arbStatus => exact answers_of_apply fun _ _ => rfl
  case workStatus => exact reads_of_apply fun _ _ => rfl
  all_goals exact sets_of_apply fun _ _ => rfl

/-- Settles O30. -/
theorem timeCommands : Obligations.TimeCommands := by
  refine ⟨⟨?_, ?_, ?_, ?_, ?_, ?_, ?_, ?_, ?_⟩, ?status, ?rtcStatus, ?_, ?_, ?captureRead⟩
  case status => exact reads_of_apply fun _ _ => rfl
  case rtcStatus => exact reads_of_apply fun _ _ => rfl
  case captureRead => exact answers_of_apply fun _ _ => rfl
  all_goals exact sets_of_apply fun _ _ => rfl

/-- PAIR_CONFIG without the pair: the part is single, and its gate may open (R436). -/
theorem pairConfig_apply_of_single {w : When} {e : CmdEntry} {s : State} (hpair : argBit e 0 = false) :
    let t := modPair { s with role := .single } fun p => { p with enabled := false, link := .down, startupEnd := none }
    (fnImpl .pairConfig).apply w e s = (gateOpenOp t, { status := stAccepted }) := by
  simp [fnImpl, pairConfig, hpair]

/-- PAIR_CONFIG of a pair while the link is not up: the roles are open, and the link trains (R439, R441). -/
theorem pairConfig_apply_of_pair {w : When} {e : CmdEntry} {s : State} (hpair : argBit e 0 = true)
    (hlink : (closeGate { s with role := .undecided }).pair.link ≠ .up) :
    let wait := argBits e 79 64 * 1000000 + (if s.straps.unitId then 0 else 2 * argBits e 31 16 * 1000)
    let t := closeGate { s with role := .undecided }
    (fnImpl .pairConfig).apply w e s = (modPair t fun p =>
      { p with
        enabled := true, yieldPolicy := argBit e 1, hbUs := argBits e 15 2, leaseUs := argBits e 31 16, guardUs := argBits e 47 32
        replTimeoutUs := argBits e 63 48, startupWaitMs := argBits e 79 64, encSlot := argBits e 86 80, macSlot := argBits e 94 88
        startupEnd := some (t.upNs + wait), helloBad := false, link := .training }, { status := stAccepted }) := by
  simp only [fnImpl, pairConfig, hpair]
  generalize closeGate { s with role := .undecided } = t at hlink ⊢
  simp [modPair, hlink]

/-- Settles O31. -/
theorem pairCommands : Obligations.PairCommands := by
  refine ⟨?single, ?pair, ?status, ?relinquish, ?forceSolo, ?localApply⟩
  case single => exact fun e s hready hpair => exec_long rfl hready rfl (pairConfig_apply_of_single hpair)
  case pair => exact fun e s hready hpair hlink => exec_long rfl hready rfl (pairConfig_apply_of_pair hpair hlink)
  case status => exact reads_of_apply fun _ _ => rfl
  case relinquish => exact starts_of_apply fun _ _ => rfl
  case forceSolo => exact sets_of_apply fun _ _ => rfl
  case localApply =>
    intro e s c hadmitted hstage hpart hinner hlocal hinnerStage hpasses
    rw [exec_admitted rfl hadmitted]
    simp [isStageCommand, hstage, hpart, runLocal, hinner, hlocal, hpasses, hinnerStage]

section Domains

variable {w : When} {e : CmdEntry} {s : State}

/-- PWR_DOMAIN_SET with On, all its domains On: they are accessed, and it is done (R473). -/
theorem pwrDomainSet_apply_of_on (hmode : argBits e 1 0 = 0)
    (hon : ((List.range 24).all fun d => !bitOf (argBits e 63 32) d || (domOf s d).state == .on) = true) :
    (fnImpl .pwrDomainSet).apply w e s = (wakeMask s (argBits e 63 32), okFigures [0]) := by
  simp only [fnImpl, pwrDomainSet, hmode, hon]
  rfl

/-- With On and a domain that is not: they wake, and it stays at work. -/
theorem pwrDomainSet_apply_of_wake (hmode : argBits e 1 0 = 0)
    (hon : ((List.range 24).all fun d => !bitOf (argBits e 63 32) d || (domOf s d).state == .on) = false) :
    (fnImpl .pwrDomainSet).apply w e s = (wakeMask s (argBits e 63 32), { status := stAccepted }) := by
  simp only [fnImpl, pwrDomainSet, hmode, hon]
  rfl

/-- With a low state and a domain that is not in it: the lowering is queued behind those at work (R467). -/
theorem pwrDomainSet_apply_of_lower (hmode : argBits e 1 0 ≠ 0)
    (hlow : ((lowerOrder (argBits e 63 32)).all fun d => inLow s d (argBits e 1 0 == 2)) = false) :
    (fnImpl .pwrDomainSet).apply w e s
      = ({ s with pwr := { s.pwr with commands := s.pwr.commands
          ++ [{ e := e, off := argBits e 1 0 == 2, todo := lowerOrder (argBits e 63 32), done := [], answered := false }] } },
        { status := stAccepted }) := by
  simp only [fnImpl, pwrDomainSet, hlow]
  rw [if_neg hmode]
  rfl

theorem pwrDomainSet_after_of_on (hmode : argBits e 1 0 = 0) : (fnImpl .pwrDomainSet).after e s = s := by
  simp [fnImpl, pwrDomainSet, hmode]

theorem pwrDomainSet_after_of_lower (hmode : argBits e 1 0 ≠ 0) :
    (fnImpl .pwrDomainSet).after e s = if s.pwr.commands.length = 1 then domNext domSteps s else s := by
  simp [fnImpl, pwrDomainSet, hmode]

end Domains

/-- Settles O32. -/
theorem powerCommands : Obligations.PowerCommands := by
  refine ⟨?policySet, ?refSet, ?status, ?blockQuery, ?allOn, ?wake, ?lower⟩
  case policySet => exact sets_of_apply fun _ _ => rfl
  case refSet => exact sets_of_apply fun _ _ => rfl
  case status => exact reads_of_apply fun _ _ => rfl
  case blockQuery => exact reads_of_apply fun _ _ => rfl
  case allOn => exact fun e s hready hmode hon => exec_done rfl hready rfl rfl (pwrDomainSet_apply_of_on hmode hon) rfl
  case wake =>
    intro e s hready hmode hon
    rw [exec_long rfl hready rfl (pwrDomainSet_apply_of_wake hmode hon), pwrDomainSet_after_of_on hmode]
  case lower =>
    intro e s hready hmode hlow
    rw [exec_long rfl hready rfl (pwrDomainSet_apply_of_lower hmode hlow), pwrDomainSet_after_of_lower hmode]

/-- UPDATE_WRITE of a block that is written changes nothing (R478). -/
theorem updateWrite_apply (e : CmdEntry) (s : State) : (fnImpl .updateWrite).apply .now e s
    = (if blockWritten s (argBits e 31 0 / 4096) then s else (writeBlock s (argBits e 31 0) (inBuf e)).1,
        if blockWritten s (argBits e 31 0 / 4096) then okReply else (writeBlock s (argBits e 31 0) (inBuf e)).2) := by
  simp only [fnImpl, updateWrite]
  split <;> rfl

/-- What writing a block answers is its last response. -/
theorem isFinal_writeBlock (s : State) (off : Nat) (b : List Byte) : isFinal (writeBlock s off b).2 = true := by
  unfold writeBlock
  extract_lets t
  split <;> rfl

/-- Settles O33. -/
theorem updateCommands : Obligations.UpdateCommands := by
  refine ⟨⟨?begin, ?write, ?activate, ?status⟩, ?_, ?_, ?targets, ?_, ?_, ?campaignStatus, ?targetRead, ?_⟩
  case begin => exact starts_of_apply fun _ _ => rfl
  case write =>
    refine answers_of_apply updateWrite_apply fun e s => ?_
    split
    · rfl
    · exact isFinal_writeBlock s _ _
  case activate => exact starts_of_apply fun _ _ => rfl
  case status => exact reads_of_apply fun _ _ => rfl
  case targets => exact answers_of_apply fun _ _ => rfl
  case campaignStatus => exact reads_of_apply fun _ _ => rfl
  case targetRead => exact reads_of_apply fun _ _ => rfl
  all_goals exact sets_of_apply fun _ _ => rfl

section RadioTests

variable {w : When} {e : CmdEntry} {s : State}

/-- A radio test at work, with the domains it reaches woken (R505). -/
def radioTestStarted (e : CmdEntry) (s : State) : State :=
  let b := argBits e 1 0
  let w := (domFabric :: domNear :: domRef :: [domBandA + b]).foldl wakeDomain s
  setRun w (5 + b) { newRun w (argBits e 159 128) with
    kind := argBits e 4 2, lb := argBits e 5 5, channel := argBits e 31 16, profile := argBits e 47 32, offsetKhz := argSigned e 63 48
    len := argBits e 74 64, intervalUs := argBits e 95 80, count := argBits e 127 96 }

/-- What the kind of a radio test adds (R505): the transmit chain on, nothing, or a context that listens. -/
theorem testRadioStart_apply : (fnImpl .testRadioStart).apply w e s
    = (let t := radioTestStarted e s
      if argBits e 4 2 = 0 || argBits e 4 2 = 1 then modTx t (argBand e) fun x => { x with paEn := true, trSw := true, lnaByp := true }
      else if argBits e 4 2 = 3 then t
      else
        match freeCtx t (((profileOf t (argBits e 47 32)).map isOfdm).getD false) (fun c => c.purpose == .background) with
        | some i => setCtx t i (armed t { Ctx.idle with
            purpose := .test, band := argBits e 1 0, channel := argBits e 31 16, profile := argBits e 47 32, prio := 6
            listenStart := 0, listenEnd := 2 ^ 64, frames := (ctxOf t i).frames } .armed)
        | none => t, okReply) := rfl

/-- TEST_RADIO_RESULT of a test that there is reads its counts and why it ended. -/
theorem testRadioResult_apply_of_run {t : TestRun} (hrun : runOf s (5 + argBits e 1 0) = some t) :
    (fnImpl .testRadioResult).apply w e s
      = (if argBit e 2 then modRun s (5 + argBits e 1 0) fun t => { t with counts := List.replicate 6 0 } else s,
        okData ((t.counts ++ [t.cause]).flatMap (leBytes 4))) := by
  simp only [fnImpl, testRadioResult, hrun]

end RadioTests

/-- Settles O34. -/
theorem testCommands : Obligations.TestCommands := by
  refine ⟨?_, ?linkResult, ?radioStart, ?radioResult, ?stop, ?status, ?telemetryRead, ?_, ?_, ?_⟩
  case linkResult => exact answers_of_apply fun _ _ => rfl
  case radioStart =>
    intro e s hready b w t
    have hstarted : radioTestStarted e (arrived e s) = t := rfl
    have happly := testRadioStart_apply (w := .now) (e := e) (s := arrived e s)
    rw [hstarted] at happly
    refine ⟨fun hkind => ?_, fun hkind => ?_, fun i hkind hctx => ?_⟩
    · have hcarrier : (decide (argBits e 4 2 = 0) || decide (argBits e 4 2 = 1)) = true := by simp; omega
      rw [if_pos hcarrier] at happly
      exact exec_short rfl hready rfl happly rfl
    · have hcarrier : ¬(decide (argBits e 4 2 = 0) || decide (argBits e 4 2 = 1)) = true := by simp; omega
      rw [if_neg hcarrier, if_pos hkind] at happly
      exact exec_short rfl hready rfl happly rfl
    · have hcarrier : ¬(decide (argBits e 4 2 = 0) || decide (argBits e 4 2 = 1)) = true := by simp; omega
      have hframes : ¬argBits e 4 2 = 3 := by omega
      rw [if_neg hcarrier, if_neg hframes, hctx] at happly
      exact exec_short rfl hready rfl happly rfl
  case radioResult => exact fun e s t hready hrun => exec_short rfl hready rfl (testRadioResult_apply_of_run hrun) rfl
  case stop => exact answers_of_apply fun _ _ => rfl
  case status => exact reads_of_apply fun _ _ => rfl
  case telemetryRead => exact reads_of_apply fun _ _ => rfl
  all_goals exact sets_of_apply fun _ _ => rfl

end Sys2Proof.Proofs
end

section
/-! SUPPORT. The ends of long commands: what `finish` gives in the state that the statement's condition names. -/

namespace Sys2Proof.Proofs

open Sys2Proof Sys2Proof.Machine Sys2Proof.Laws

/-- A row ends as its function's `finish` gives it. -/
theorem ends_of_finish {c : CmdId} {p : LongOp → State → Prop} {f : LongOp → State → State} {r : LongOp → State → Reply}
    (hc : (c == .keyGenMap) = false) (hfinish : ∀ op s, p op s → (fnImpl c).finish op (ended op s) = some (f op (ended op s), r op (ended op s))) :
    Ends c p f r :=
  fun _ _ op s hworks hp => exec_longCommandComplete_of_finish hworks hc (hfinish op s hp)

/-- With masks the work that waited for them is done. -/
theorem onceMasked_of_masks {f : CmdEntry → State → State × Reply} {e : CmdEntry} {s : State} (h : masksOut s = false) :
    onceMasked f e s = some (f e s) := by
  simp [onceMasked, h]

/-- The end of a long command's work takes no masks away. -/
theorem masksOut_ended {op : LongOp} {s : State} (h : masksOut s = false) : masksOut (ended op s) = false := h

section Finish

variable {op : LongOp} {s : State}

/-- SYS_QUIESCE ends in QUIESCED when the frames in flight have finished (R100). -/
theorem sysQuiesce_finish (hpart : s.part = .run) (hquiescing : s.quiescing = true) (hdone : flightsDone s = true) :
    (fnImpl .sysQuiesce).finish op s = some (enterQuiesced s, okReply) := by
  simp [fnImpl, sysQuiesce, inRun, hpart, hquiescing, hdone]

/-- SYS_RESUME ends in RUN with the snapshot and its marker gone. -/
theorem sysResume_finish (hpart : s.part = .quiesced) :
    (fnImpl .sysResume).finish op s
      = some ({ modNodes (eraseMarker s) fun d => { d with snapshot := none } with part := .run }, okReply) := by
  simp [fnImpl, sysResume, hpart]

/-- NODE_COUNTER_SNAPSHOT answers the piece asked for. -/
theorem nodeCounterSnapshot_finish (hpart : s.part = .quiesced) :
    (fnImpl .nodeCounterSnapshot).finish op s
      = some (s, okData (((snapshotHeld s).drop (argBits op.e 31 0)).take op.e.bufLen.toNat)) := by
  simp [fnImpl, nodeCounterSnapshot, hpart]

/-- NODE_COUNTER_RESTORE takes its piece. -/
theorem nodeCounterRestore_finish (hpart : s.part = .coldWait) :
    (fnImpl .nodeCounterRestore).finish op s = some (takePiece s op.e) := by
  simp [fnImpl, nodeCounterRestore, hpart]

/-- NODE_COLD_CHALLENGE ends in RUN with every node challenged. -/
theorem nodeColdChallenge_finish (hpart : s.part = .coldWait) :
    (fnImpl .nodeColdChallenge).finish op s
      = some ({ (mapKeys s.node.table).foldl challengeNode s with part := .run }, okReply) := by
  simp [fnImpl, nodeColdChallenge, hpart]

/-- KEY_LIFECYCLE_ADVANCE enters its state without keys and asks for the cold start. -/
theorem keyLifecycleAdvance_finish {l : Lifecycle} (htarget : advanceTarget s.key.lifecycle op.ref = some l) :
    let t := zeroizeKeys (modKey s fun k => { k with lifecycle := l })
    (fnImpl .keyLifecycleAdvance).finish op s
      = some ({ t with fw := { t.fw with coldStart := true } }, okFigures [(op.ref : Int)]) := by
  simp only [fnImpl, keyLifecycleAdvance, htarget]

/-- PAIR_CONFIG ends when the roles are decided, or a hello did not fit. -/
theorem pairConfig_finish (h : s.role ≠ .undecided ∨ s.pair.helloBad = true) :
    (fnImpl .pairConfig).finish op s = some (s, okFigures [((roleCode s.role : Nat) : Int)]) := by
  obtain hrole | hbad := h
  · simp [fnImpl, pairConfig, hrole]
  · simp [fnImpl, pairConfig, hbad]

/-- PAIR_RELINQUISH ends when a later claim has been seen. -/
theorem pairRelinquish_finish (h : s.pair.claim.toNat < s.pair.seen.toNat) :
    (fnImpl .pairRelinquish).finish op s = some (s, okReply) := by
  simp [fnImpl, pairRelinquish, h]

/-- UPDATE_VERIFY of a body that hashes as its header says stores the header. -/
theorem updateVerify_finish_of_hash {h : List Byte} (hpending : pendingHeader s = some h) (hhash : sha256 (flashBodyOf s h) = hdrBodyHash h) :
    (fnImpl .updateVerify).finish op s = some (stageEvent (programRecord (flashProgram s flashHeader h) fun r =>
      { r with probation := some { confirmed := false, count := 0 } }) 2, okReply) := by
  simp only [fnImpl, updateVerify, hpending]
  exact if_pos (beq_iff_eq.mpr hhash)

/-- Of any other body it erases the download. -/
theorem updateVerify_finish_of_other_hash {h : List Byte} (hpending : pendingHeader s = some h)
    (hhash : sha256 (flashBodyOf s h) ≠ hdrBodyHash h) :
    (fnImpl .updateVerify).finish op s = some (stageEvent (flashErase s flashDownload 65536) 8, refuse stImageBad) := by
  simp only [fnImpl, updateVerify, hpending]
  exact if_neg fun heq => hhash (beq_iff_eq.mp heq)

/-- UPDATE_ACTIVATE without the hand-over asks for a cold start. -/
theorem updateActivate_finish_of_cold (hcold : argBit op.e 0 = true) :
    (fnImpl .updateActivate).finish op s
      = some (modFw s fun f => { f with coldStart := true }, okFigures [((((storedHeader s).map hdrVersion).getD 0 : Nat) : Int)]) := by
  simp only [fnImpl, updateActivate, hcold, if_true]

/-- UPDATE_CONFIRM on probation confirms the image. -/
theorem updateConfirm_finish_of_probation (hprob : s.fw.onProbation = true) :
    (fnImpl .updateConfirm).finish op s = some (confirmImage s, okReply) := by
  simp only [fnImpl, updateConfirm, hprob, if_true]

/-- CAMPAIGN_START of a campaign being loaded runs it and announces it to the targets that wait. -/
theorem campaignStart_finish_of_loading (hloading : s.cmp.state = .loading) :
    (fnImpl .campaignStart).finish op s
      = some (announceTo (modCmp s fun c =>
          { c with state := .running, startAsn := argBits op.e 39 0, round := none, planRound := none, collecting := false })
          fun t => t.state == 0, okFigures [((argBits op.e 39 0 : Nat) : Int)]) := by
  simp only [fnImpl, campaignStart, hloading]
  exact if_neg (by decide)

end Finish

end Sys2Proof.Proofs
end

section
/-! Settled statements of the ends of long commands. -/

namespace Sys2Proof.Proofs

open Sys2Proof Sys2Proof.Machine Sys2Proof.Laws

/-- Settles O35: each row by what its function's `finish` gives. -/
theorem longCommandsEnd : Obligations.LongCommandsEnd := by
  refine ⟨⟨?reset, ?quiesce, ?resume, ?snapshot, ?restore, ?challenge, ?load, ?port⟩, ?identity, ?advance, ?rawBlock, ?ccm, ?importRaw,
    ?importWrapped, ?blob, ?config, ?relinquish, ?begin_, ?verify, ?activate, ?revert, ?confirm, ?start⟩
  case reset => exact ends_of_finish rfl fun _ _ _ => rfl
  case quiesce => exact ends_of_finish rfl fun _ _ ⟨hpart, hquiescing, hdone⟩ => sysQuiesce_finish hpart hquiescing hdone
  case resume => exact ends_of_finish rfl fun _ _ hpart => sysResume_finish hpart
  case snapshot => exact ends_of_finish rfl fun _ _ hpart => nodeCounterSnapshot_finish hpart
  case restore => exact ends_of_finish rfl fun _ _ hpart => nodeCounterRestore_finish hpart
  case challenge => exact ends_of_finish rfl fun _ _ hpart => nodeColdChallenge_finish hpart
  case load => exact ends_of_finish rfl fun _ _ _ => rfl
  case port => exact ends_of_finish rfl fun _ _ _ => rfl
  case identity => exact ends_of_finish rfl fun _ _ _ => rfl
  case advance => exact fun _ _ _ _ _ hworks htarget => exec_longCommandComplete_of_finish hworks rfl (keyLifecycleAdvance_finish htarget)
  case rawBlock => exact ends_of_finish rfl fun _ _ h => onceMasked_of_masks (masksOut_ended h)
  case ccm => exact ends_of_finish rfl fun _ _ h => onceMasked_of_masks (masksOut_ended h)
  case importRaw =>
    exact ends_of_finish rfl fun _ _ h => onceMasked_of_masks (f := fun e s => (importKey s e (inBuf e), okReply)) (masksOut_ended h)
  case importWrapped => exact ends_of_finish rfl fun _ _ h => onceMasked_of_masks (masksOut_ended h)
  case blob => exact ends_of_finish rfl fun _ _ h => onceMasked_of_masks (masksOut_ended h)
  case config => exact ends_of_finish rfl fun _ _ h => pairConfig_finish h
  case relinquish => exact ends_of_finish rfl fun _ _ h => pairRelinquish_finish h
  case begin_ => exact ends_of_finish rfl fun _ _ _ => rfl
  case verify =>
    intro x tag op s h hworks hpending
    exact ⟨fun hhash => exec_longCommandComplete_of_finish hworks rfl (updateVerify_finish_of_hash hpending hhash),
      fun hhash => exec_longCommandComplete_of_finish hworks rfl (updateVerify_finish_of_other_hash hpending hhash)⟩
  case activate => exact ends_of_finish rfl fun _ _ h => updateActivate_finish_of_cold h
  case revert =>
    exact ends_of_finish rfl fun op _ hlegal => updateRevert_finish_of_revertible op ((revertible_iff _).mpr hlegal)
  case confirm => exact ends_of_finish rfl fun _ _ h => updateConfirm_finish_of_probation h
  case start => exact ends_of_finish rfl fun _ _ h => campaignStart_finish_of_loading h

end Sys2Proof.Proofs
end

section
/-! SUPPORT. The entries and wakes of power domains (R464 to R469), and the events of the keys and the lanes (R330, R336, R341, R365). -/

namespace Sys2Proof.Proofs

open Sys2Proof Sys2Proof.Machine Sys2Proof.Laws

section Domains

variable {d : Nat} {s : State}

/-- A handshake period that passes without an access asks the domain to enter. -/
theorem handshakePeriodOp_of_due (hpolicy : (domOf s d).policy = 1) (hon : (domOf s d).state = .on) (hnone : (domOf s d).request = none)
    (hlocked : lockedDom s d = false) (hdue : (domOf s d).since + (domOf s d).hsPeriodMs * 1000000 ≤ s.upNs)
    (hmay : mayEnter s d (domOf s d).targetOff = true) :
    handshakePeriodOp s d = modDom s d fun x => { x with request := some (x.targetOff, false), since := s.upNs, delaying := [] } := by
  simp [handshakePeriodOp, hpolicy, hon, hnone, hlocked, hdue, hmay]

section Answers

variable {answers : List BlockAnswer} {off cmd : Bool} {a : List BlockAnswer}

/-- No block refuses. -/
theorem findIdx?_refuse_eq_none (h : ∀ x ∈ a, x ≠ .refuse) : a.findIdx? (· == .refuse) = none :=
  List.findIdx?_eq_none_iff.mpr fun x hx => by simpa using h x hx

/-- The blocks that delay, where one does, are some. -/
theorem delaying_ne_nil (h : ∃ x ∈ a, x = .delay) : (List.range a.length).filter (fun i => a[i]? == some .delay) ≠ [] := by
  obtain ⟨_, hmem, rfl⟩ := h
  obtain ⟨i, hi, hget⟩ := List.mem_iff_getElem.mp hmem
  refine List.ne_nil_of_mem (a := i) (List.mem_filter.mpr ⟨List.mem_range.mpr hi, ?_⟩)
  simp [List.getElem?_eq_getElem hi, hget]

/-- Where every block agrees none delays. -/
theorem delaying_eq_nil (h : ∀ x ∈ a, x = .agree) : (List.range a.length).filter (fun i => a[i]? == some .delay) = [] := by
  refine List.filter_eq_nil_iff.mpr fun i hi => ?_
  have hlt : i < a.length := List.mem_range.mp hi
  simp [List.getElem?_eq_getElem hlt, h _ (List.getElem_mem hlt)]

variable (hon : (domOf s d).state = .on) (hrequest : (domOf s d).request = some (off, cmd))
  (ha : a = (List.range (domBlocks d)).map fun i => blockAnswer s d i ((answers[i]?).getD .agree))
include hon hrequest ha

/-- Blocks that all agree let the domain enter. -/
theorem handshakeAnswerOp_of_agree (hagree : ∀ x ∈ a, x = .agree)
    (hmay : mayEnter (modDom s d fun x => { x with answers := a.map answerCode }) d off = true) :
    handshakeAnswerOp s d answers
      = modDom (modDom s d fun x => { x with answers := a.map answerCode }) d fun x =>
          { x with state := .entering, since := s.upNs, delaying := [] } := by
  have hrefuse := findIdx?_refuse_eq_none (a := a) fun x hx => by rw [hagree x hx]; decide
  simp only [handshakeAnswerOp, hon, hrequest, ← ha, hrefuse, delaying_eq_nil hagree, hmay]
  rfl

/-- A block that delays is waited for. -/
theorem handshakeAnswerOp_of_delay (hnone : ∀ x ∈ a, x ≠ .refuse) (hdelay : ∃ x ∈ a, x = .delay) :
    handshakeAnswerOp s d answers
      = modDom (modDom s d fun x => { x with answers := a.map answerCode }) d fun x =>
          { x with delaying := (List.range a.length).filter fun i => a[i]? == some .delay } := by
  simp only [handshakeAnswerOp, hon, hrequest, ← ha, findIdx?_refuse_eq_none hnone]
  exact if_pos (by simpa using delaying_ne_nil hdelay)

/-- The first block that refuses keeps the domain On. -/
theorem handshakeAnswerOp_of_refuse {i : Nat} (hrefuse : a.findIdx? (· == .refuse) = some i) :
    handshakeAnswerOp s d answers = domRefuse (modDom s d fun x => { x with answers := a.map answerCode }) d i 0 := by
  simp only [handshakeAnswerOp, hon, hrequest, ← ha, hrefuse]

end Answers

/-- A delay past its maximum counts as a refusal. -/
theorem delayExpiryOp_of_due {b : Nat} (hon : (domOf s d).state = .on) (hdelaying : b ∈ (domOf s d).delaying)
    (hdue : (domOf s d).since + domDelayUs d * 1000 ≤ s.upNs) : delayExpiryOp s d b = domRefuse s d b 1 := by
  simp [delayExpiryOp, hon, hdelaying, hdue]

/-- An idle timer that ends enters Retention, or runs anew in a locked domain. -/
theorem idleTimerOp_of_due (hpolicy : (domOf s d).policy = 2) (hon : (domOf s d).state = .on) (hnone : (domOf s d).request = none)
    (hdue : (domOf s d).since + (domOf s d).idleUs * 1000 ≤ s.upNs) :
    idleTimerOp s d = if lockedDom s d then modDom s d fun x => { x with since := s.upNs }
      else modDom s d fun x => { x with state := .entering, request := some (false, false), since := s.upNs } := by
  simp [idleTimerOp, hpolicy, hon, hnone, hdue]

/-- An entry that no command asked for and no wake follows ends in the state asked for. -/
theorem entryCompleteOp_of_due {off : Bool} (hentering : (domOf s d).state = .entering) (hrequest : (domOf s d).request = some (off, false))
    (hwake : (domOf s d).wakeNext = false) (hd : d ≠ domRef) (hdue : (domOf s d).since + domEntryNs d ≤ s.upNs) :
    let t := domLose (modDom s d fun x => { x with state := if off then .off else .retention, request := none, wakeNext := false }) d off
    entryCompleteOp s d = if 2 ≤ d && d ≤ 5 && t.queue.ready.any (fun l => !(fifoAll l).isEmpty) then wakeCores t else t := by
  have hwaits : ¬(d = domRef || s.upNs < (domOf s d).since + domEntryNs d) = true := by simpa [hd] using hdue
  simp only [entryCompleteOp, hentering, hrequest, hwake, if_neg hwaits]
  rfl

/-- An access while no command has asked for the domain or its cascade only wakes them. -/
theorem domainWakeOp_of_no_request (h : ∀ x ∈ wakeCascade d ++ [d], (domOf s x).request = none) : domainWakeOp s d = wakeDomain s d := by
  have hhit : (wakeCascade d ++ [d]).filter (fun x => (domOf s x).state == .on && ((domOf s x).request.map (·.2)).getD false) = [] :=
    List.filter_eq_nil_iff.mpr fun x hx => by simp [h x hx]
  rw [domainWakeOp, hhit, List.foldl_nil]

/-- A wake that ends in On lets go on what waited for it. -/
theorem domainWokenOp_of_due (hwaking : (domOf s d).state = .waking) (hd : d ≠ domRef)
    (hdue : (domOf s d).since + domWakeNs d (domOf s d).wasOff ≤ s.upNs) :
    let t := wakeAnswers (domWoken (modDom s d fun x => { x with state := .on, since := s.upNs }) d (domOf s d).wasOff)
    (domOf t d).state = .on → domainWokenOp d s = resumeStalled d (if 2 ≤ d && d ≤ 5 then dispatchWork t else t) := by
  intro t hon
  have hwaits : ¬((domOf s d).state != .waking || d = domRef || s.upNs < (domOf s d).since + domWakeNs d (domOf s d).wasOff) = true := by
    simpa [hd, hwaking] using hdue
  have hcomplete : wakeCompleteOp s d = t := if_neg hwaits
  rw [domainWokenOp, hcomplete]
  exact if_pos (by rw [hwaking, hon]; rfl)

end Domains

section Keys

variable {s : State}

/-- The re-masking pass, due with the domain On and masks to be had. -/
theorem remaskOp_of_due (hon : domState s domKey = .on) (hmasks : masksOut s = false) (hdue : s.key.remaskAt + 100000000 ≤ s.upNs) :
    let t := (List.range 128).foldl remaskSlot s
    remaskOp s = keyCount (modKey t fun k => { k with remaskAt := t.upNs }) kcRemask :=
  if_neg (by simpa [hon, hmasks] using hdue)

/-- While the source runs a mask is drawn from it. -/
theorem drawMask_of_source (h : s.key.entRestart = false) (n : Nat) : drawMask s n = some (drawEntropy s) := by
  simp [drawMask, h]

/-- While it restarts the mask is drawn from the reserve. -/
theorem drawMask_of_reserve {n : Nat} (h : s.key.entRestart = true) (hn : n ≤ s.key.reserve) :
    drawMask s n = some (drawEntropy (modKey s fun k => { k with reserve := k.reserve - n })) := by
  simp [drawMask, h, hn]

/-- Re-masking a slot whose check holds changes both its shares by the same mask. -/
theorem remaskSlot_of_loaded {n : Nat} (hloaded : (slotOf s n).state = .loaded) (hcheck : slotCheck (slotOf s n) = (slotOf s n).check)
    (hsource : s.key.entRestart = false) :
    let m := maskFor (slotOf s n).keyType (drawEntropy s).1
    remaskSlot s n = modSlot (drawEntropy s).2 n fun x =>
      { x with
        share0 := x.share0 ^^^ m, share1 := x.share1 ^^^ m
        check := slotCheck { x with share0 := x.share0 ^^^ m, share1 := x.share1 ^^^ m } } := by
  simp only [remaskSlot, drawMask_of_source hsource]
  rw [if_neg (by rw [hloaded]; decide), if_neg (by simp [hcheck])]

/-- A revoked slot without readers is zeroized and its command answered. -/
theorem revokeDrainOp_of_drained {n : Nat} (hrevoked : (slotOf s n).state = .revoked) (hrefs : (slotOf s n).refs = 0) :
    revokeDrainOp s n = finishWhere
      (clearLanes (modSlot s n fun x => { x with state := .erased, share0 := 0, share1 := 0, check := 0, epoch := x.epoch + 1 })
        fun l => l.slot == some n)
      (fun op => entryCmd op.e == some .keyRevoke && op.ref == n) fun _ => okReply :=
  if_neg (by simp [hrevoked, hrefs])

/-- The restart of the source ends with the reserve full, and what waited for masks goes on. -/
theorem entropyDoneOp_of_restart (h : s.key.entRestart = true) :
    entropyDoneOp s = resumeWalks (modKey s fun k => { k with entRestart := false, reserve := 4096 }) :=
  congrArg resumeWalks (if_pos h)

/-- A lane reseeded takes the mask drawn. -/
theorem reseedLane_of_mask {lane : Nat} {x : BitVec 256 × State} (h : drawMask s 16 = some x) :
    reseedLane s lane = modLane x.2 lane fun l => { l with ops := 0, seededAt := x.2.upNs, seed := x.1.setWidth 128 } := by
  rw [reseedLane, h]

end Keys

end Sys2Proof.Proofs
end

section
/-! Settled statements of the events of power domains, keys and lanes. -/

namespace Sys2Proof.Proofs

open Sys2Proof Sys2Proof.Machine Sys2Proof.Laws

/-- Settles O36. -/
theorem domainRows : Obligations.DomainRows := by
  refine ⟨?period, ?answer, ?delay, ?idle, ?entry, ?wake, ?woken⟩
  case period =>
    intro d s hpolicy hon hnone hlocked hdue hmay
    exact congrArg Host.Outcome.next (handshakePeriodOp_of_due hpolicy hon hnone hlocked hdue hmay)
  case answer =>
    intro d answers s off cmd hon hrequest a t
    exact ⟨fun hagree hmay => congrArg Host.Outcome.next (handshakeAnswerOp_of_agree hon hrequest rfl hagree hmay),
      fun hnone hdelay => congrArg Host.Outcome.next (handshakeAnswerOp_of_delay hon hrequest rfl hnone hdelay),
      fun i hrefuse => congrArg Host.Outcome.next (handshakeAnswerOp_of_refuse hon hrequest rfl hrefuse)⟩
  case delay => exact fun d b s hon hdelaying hdue => congrArg Host.Outcome.next (delayExpiryOp_of_due hon hdelaying hdue)
  case idle =>
    intro d s hpolicy hon hnone hdue
    have hop := idleTimerOp_of_due hpolicy hon hnone hdue
    exact ⟨fun hlocked => congrArg Host.Outcome.next (hop.trans (if_pos hlocked)),
      fun hlocked => congrArg Host.Outcome.next (hop.trans (if_neg (by simp [hlocked])))⟩
  case entry =>
    intro d s off hentering hrequest hwake hd hdue
    exact congrArg Host.Outcome.next (entryCompleteOp_of_due hentering hrequest hwake hd hdue)
  case wake => exact fun d s h => congrArg Host.Outcome.next (domainWakeOp_of_no_request h)
  case woken =>
    intro d s hwaking hd hdue t hon
    exact congrArg Host.Outcome.next (domainWokenOp_of_due hwaking hd hdue hon)

/-- Settles O37. -/
theorem keyRows : Obligations.KeyRows := by
  refine ⟨?pass, ?slot, ?drain, ?failed, ?restarted, ?seeded, ?reserve⟩
  case pass => exact fun s hon hmasks hdue => congrArg Host.Outcome.next (remaskOp_of_due hon hmasks hdue)
  case slot => exact fun n s hloaded hcheck hsource => remaskSlot_of_loaded hloaded hcheck hsource
  case drain => exact fun n s hrevoked hrefs => congrArg Host.Outcome.next (revokeDrainOp_of_drained hrevoked hrefs)
  case failed => exact fun _ => rfl
  case restarted => exact fun s h => congrArg Host.Outcome.next (entropyDoneOp_of_restart h)
  case seeded => exact fun lane s h => congrArg Host.Outcome.next (reseedLane_of_mask (drawMask_of_source h 16))
  case reserve => exact fun lane s h hn => congrArg Host.Outcome.next (reseedLane_of_mask (drawMask_of_reserve h hn))

end Sys2Proof.Proofs
end

section
/-! SUPPORT. Ethernet frames (R305) and the PTP messages (R408, R417, R418). -/

namespace Sys2Proof.Proofs

open Sys2Proof Sys2Proof.Machine Sys2Proof.Laws

section Frames

/-- The frame carries a VLAN tag. -/
def ethTagged (f : List Byte) : Bool := decide (leAt f 12 2 = 0x0081)

/-- Length of its layer-2 header. -/
def ethHeader (f : List Byte) : Nat := if ethTagged f then 18 else 14

/-- Its EtherType. -/
def ethTypeOf (f : List Byte) : Nat := beNat (sliceBytes f (ethHeader f - 2) 2)

/-- The packet that it carries, as long as its IPv6 header says. -/
def ethPacket (f : List Byte) : List Byte := (f.drop (ethHeader f)).take (40 + beNat (sliceBytes (f.drop (ethHeader f)) 4 2))

/-- It carries a whole IPv6 header. -/
def ethIsIp (f : List Byte) : Bool := decide (ethTypeOf f = 0x86DD) && decide (40 ≤ (ethPacket f).length)

/-- Its tag is the port's: none where the port has no VLAN. -/
def ethVlanOk (p : EthPort) (f : List Byte) : Bool :=
  decide (ethTagged f = (p.vlanId != 0)) && (!ethTagged f || decide (beNat (sliceBytes f 14 2) % 4096 = p.vlanId))

/-- The port takes frames: it is up and no test holds it. -/
def EthLive (s : State) (port : Nat) : Prop := (ethOf s port).up = true ∧ (ethOf s port).mode ≠ 0 ∧ resourceTested s port = false

variable {s : State} {port : Nat} {f : List Byte}

/-- What a port that takes frames does with one that is long enough, in the order of R305. -/
theorem ethRxOp_of_live (hlive : EthLive s port) (hlen : 60 ≤ f.length) (good : Bool) :
    let p := ethOf s port
    let t := ethCount s port ecRxFrames
    ethRxOp s port f good =
      if !good then ethCount t port ecRxFcs
      else if ethTypeOf f = 0x88F7 then t
      else if !ethVlanOk p f then ethCount t port ecVlan
      else if !macOurs p (beNat (sliceBytes f 0 6)) then ethCount t port ecNotOurs
      else
        match if ethIsIp f then solicitTarget p (ethPacket f) else none with
        | some x => ethSendOne (ethCount t port ecNsAnswered) port (neighborAdvert p (sliceBytes f 6 6) (ethPacket f) x)
        | none =>
          if !ethIsIp f || ipDst (ethPacket f) / 2 ^ 120 = 0xFF || ownAddress t (ipDst (ethPacket f)) then
            (if p.hostEn then ethToHost t port p.hostRing f else if 2047 < f.length then ethCount t port ecHostLong else t)
          else ethForward t port f (ethPacket f) := by
  obtain ⟨hup, hmode, htested⟩ := hlive
  have hlong : ¬ f.length < 60 := by omega
  have hvlan (p : EthPort) : (!ethVlanOk p f)
      = (ethTagged f != (p.vlanId != 0) || (ethTagged f && beNat (sliceBytes f 14 2) % 4096 != p.vlanId)) := by
    simp only [ethVlanOk, Bool.not_and, Bool.not_or, Bool.not_not, bne]
    rfl
  intro p t
  rw [hvlan]
  simp only [ethRxOp, hup, hmode, htested, hlong, decide_false, Bool.or_false, Bool.not_true, Bool.false_eq_true, if_false]
  simp only [ethTagged, ethHeader, ethTypeOf, ethPacket, ethIsIp, decide_eq_true_eq]
  rfl

variable (hlive : EthLive s port) (hlen : 60 ≤ f.length) (htype : ethTypeOf f ≠ 0x88F7)
include hlive hlen htype

/-- A frame of another VLAN only counts. -/
theorem ethRxOp_of_other_vlan (hvlan : ethVlanOk (ethOf s port) f = false) :
    ethRxOp s port f true = ethCount (ethCount s port ecRxFrames) port ecVlan := by
  simp [ethRxOp_of_live hlive hlen, htype, hvlan]

variable (hvlan : ethVlanOk (ethOf s port) f = true)
include hvlan

/-- A frame for another address only counts. -/
theorem ethRxOp_of_not_ours (hours : macOurs (ethOf s port) (beNat (sliceBytes f 0 6)) = false) :
    ethRxOp s port f true = ethCount (ethCount s port ecRxFrames) port ecNotOurs := by
  simp [ethRxOp_of_live hlive hlen, htype, hvlan, hours]

variable (hours : macOurs (ethOf s port) (beNat (sliceBytes f 0 6)) = true)
include hours

/-- A solicitation of a port address is answered. -/
theorem ethRxOp_of_solicit {x : Nat} (hip : ethIsIp f = true) (htarget : solicitTarget (ethOf s port) (ethPacket f) = some x) :
    ethRxOp s port f true = ethSendOne (ethCount (ethCount s port ecRxFrames) port ecNsAnswered) port
      (neighborAdvert (ethOf s port) (sliceBytes f 6 6) (ethPacket f) x) := by
  simp [ethRxOp_of_live hlive hlen, htype, hvlan, hours, hip, htarget]

/-- A packet that is neither multicast nor for the part goes on its way. -/
theorem ethRxOp_of_forward (hip : ethIsIp f = true) (htarget : solicitTarget (ethOf s port) (ethPacket f) = none)
    (hunicast : ipDst (ethPacket f) / 2 ^ 120 ≠ 0xFF) (hother : ownAddress (ethCount s port ecRxFrames) (ipDst (ethPacket f)) = false) :
    ethRxOp s port f true = ethForward (ethCount s port ecRxFrames) port f (ethPacket f) := by
  have haway : ¬(!ethIsIp f || decide (ipDst (ethPacket f) / 2 ^ 120 = 0xFF)
      || ownAddress (ethCount s port ecRxFrames) (ipDst (ethPacket f))) = true := by
    rw [hip, decide_eq_false hunicast, hother]
    decide
  rw [ethRxOp_of_live hlive hlen, if_neg (by decide), if_neg htype, if_neg (by simp [hvlan]), if_neg (by simp [hours]), if_pos hip, htarget]
  exact if_neg haway

/-- A frame that carries no packet is for the host. -/
theorem ethRxOp_of_host (hip : ethIsIp f = false) (hhost : (ethOf s port).hostEn = true) :
    ethRxOp s port f true = ethToHost (ethCount s port ecRxFrames) port (ethOf s port).hostRing f := by
  simp [ethRxOp_of_live hlive hlen, htype, hvlan, hours, hip, hhost]

end Frames

section Messages

variable {s : State} {port : Nat}

/-- A link that changes on a port that no test holds. -/
theorem ethLinkOp_of_untested (hmode : (ethOf s port).mode ≠ 0) (htested : resourceTested s port = false) (up : Bool) :
    ethLinkOp s port up = if up then modEth s port fun p => { p with up := true }
      else modPtp (modEth s port fun p => { p with up := false }) port fun q => { q with exchange := none } := by
  simp [ethLinkOp, hmode, htested]

/-- A Sync of the followed master opens an exchange, and the port draws its Delay_Req. -/
theorem ptpSyncRxOp_of_master {m : PtpSync} {ms : PtpMaster} (hlive : ptpLive s port = true) (hruns : s.clk.frozen = none)
    (hrole : (ptpOf s port).role = 1) (hmaster : (ptpOf s port).master = some ms) (hkind : m.unsupported = false)
    (hdomain : m.domain.toNat = (ptpOf s port).domain) (hsender : m.sender = ms.announce.sender) :
    let q := ptpOf s port
    let t := modPtp (heardSource (timeCount s tcSyncRx) (port + 1)) port fun x =>
      { x with exchange := some (m.seqId, m.t1, m.t2 - (q.ethRxNs : Int), m.t3 + (q.ethTxNs : Int)) }
    ptpSyncRxOp s port m = ptpReport (ethSend t port [ptpFrame t port 1 m.seqId.toNat 0x7F (ptpStamp 0)]) port m.seqId
      (m.t3 + (q.ethTxNs : Int)).toNat := by
  simp only [ptpSyncRxOp, hlive, hruns, hrole, hmaster, hkind]
  rw [if_neg (by decide), if_neg (by decide), if_neg (by simp [hdomain, hsender])]

/-- The port follows the sender of an Announce; the exchange with another sender ends. -/
def announceFollowed (m : PtpAnnounce) (port : Nat) (s : State) (keep : Bool) : State :=
  modClk (modPtp (timeCount s tcAnnounceRx) port fun q =>
    { q with master := some ⟨m, s.upNs⟩, exchange := if keep then q.exchange else none }) fun c => { c with utcOffset := m.utcOffset }

section Announce

variable {m : PtpAnnounce} (hlive : ptpLive s port = true) (hkind : m.unsupported = false) (hrole : (ptpOf s port).role = 1)
  (hdomain : m.domain.toNat = (ptpOf s port).domain)
include hlive hkind hrole hdomain

/-- A port without a master follows the first sender it hears. -/
theorem ptpAnnounceOp_of_no_master (hmaster : (ptpOf s port).master = none) :
    ptpAnnounceOp s port m = announceFollowed m port s false := by
  simp only [ptpAnnounceOp, hlive, hkind, hrole, hdomain, hmaster]
  rw [if_neg (by decide), if_neg (by decide), if_neg (by simp)]
  rfl

/-- A port with one follows the master's own Announce, and another sender's where it is better. -/
theorem ptpAnnounceOp_of_master {ms : PtpMaster} (hmaster : (ptpOf s port).master = some ms) :
    ptpAnnounceOp s port m
      = if ms.announce.sender == m.sender || listLt (announceKey m) (announceKey ms.announce)
        then announceFollowed m port s (ms.announce.sender == m.sender) else s := by
  simp only [ptpAnnounceOp, hlive, hkind, hrole, hdomain, hmaster]
  rw [if_neg (by decide), if_neg (by decide), if_neg (by simp)]
  cases (ms.announce.sender == m.sender || listLt (announceKey m) (announceKey ms.announce)) <;> rfl

end Announce

/-- A Delay_Resp of the open exchange gives its measurement. -/
theorem ptpDelayRespOp_of_exchange {m : PtpDelayResp} {ms : PtpMaster} {t1 t2 t3 : Int} (hlive : ptpLive s port = true)
    (hruns : s.clk.frozen = none) (hrole : (ptpOf s port).role = 1) (hmaster : (ptpOf s port).master = some ms)
    (hexchange : (ptpOf s port).exchange = some (m.seqId, t1, t2, t3)) (hkind : m.unsupported = false)
    (hdomain : m.domain.toNat = (ptpOf s port).domain) (hsender : m.sender = ms.announce.sender) :
    ptpDelayRespOp s port m = measure
      (timeCount (modPtp s port fun q => { q with exchange := none }) tcDelayDone) (port + 1)
      ((((t2 - t1) - (m.t4 - t3) : Int) : Rat) / 2) 100 := by
  simp only [ptpDelayRespOp, hlive, hruns, hrole, hmaster, hexchange, hkind]
  rw [if_neg (by decide), if_neg (by decide), if_neg (by simp [hdomain, hsender])]

/-- A master port answers a Delay_Req of its domain. -/
theorem ptpDelayReqOp_of_master {m : PtpDelayReq} (hlive : ptpLive s port = true) (hsends : masterSends s port = true)
    (hkind : m.unsupported = false) (hdomain : m.domain.toNat = (ptpOf s port).domain) :
    ptpDelayReqOp s port m = ethSend s port [ptpFrame s port 9 m.seqId.toNat 0x7F
      (ptpStamp (m.ingress - ((ptpOf s port).ethRxNs : Int)).toNat ++ beBytes 10 m.sender.toNat)] := by
  simp only [ptpDelayReqOp, hlive, hkind, hsends]
  rw [if_neg (by decide), if_neg (by decide), if_neg (by simp [hdomain])]

end Messages

end Sys2Proof.Proofs
end

section
/-! Settled statements of Ethernet and PTP. -/

namespace Sys2Proof.Proofs

open Sys2Proof Sys2Proof.Machine Sys2Proof.Laws

/-- Settles O38. -/
theorem ethernetRows : Obligations.EthernetRows := by
  refine ⟨⟨?frame, ?link⟩, ?sync, ?unsupported, ?announce, ?delayResp, ?delayReq, ?syncTx, ?announceTx⟩
  case frame =>
    intro port f s hup hmode htested hlen p t tagged l2 ethType pkt isIp vlan
    have hlive : EthLive s port := ⟨hup, hmode, htested⟩
    refine ⟨congrArg Host.Outcome.next (ethRxOp_of_live hlive hlen false),
      fun htype hvlan => congrArg Host.Outcome.next (ethRxOp_of_other_vlan hlive hlen htype hvlan),
      fun htype hvlan hours => congrArg Host.Outcome.next (ethRxOp_of_not_ours hlive hlen htype hvlan hours),
      fun htype hvlan hours => ⟨fun x hip htarget => ?_, fun hip htarget hunicast hother => ?_, fun hip hhost => ?_⟩⟩
    · exact congrArg Host.Outcome.next (ethRxOp_of_solicit hlive hlen htype hvlan hours hip htarget)
    · exact congrArg Host.Outcome.next (ethRxOp_of_forward hlive hlen htype hvlan hours hip htarget hunicast hother)
    · exact congrArg Host.Outcome.next (ethRxOp_of_host hlive hlen htype hvlan hours hip hhost)
  case link =>
    intro port s hmode htested
    exact ⟨congrArg Host.Outcome.next (ethLinkOp_of_untested hmode htested true),
      congrArg Host.Outcome.next (ethLinkOp_of_untested hmode htested false)⟩
  case sync =>
    intro port m s ms hlive hruns hrole hmaster hkind hdomain hsender
    exact congrArg Host.Outcome.next (ptpSyncRxOp_of_master hlive hruns hrole hmaster hkind hdomain hsender)
  case unsupported =>
    intro port m s hlive hruns hkind
    exact congrArg Host.Outcome.next (by simp [ptpSyncRxOp, hlive, hruns, hkind])
  case announce =>
    intro port m s hlive hkind hrole hdomain follow
    refine ⟨fun hmaster => congrArg Host.Outcome.next (ptpAnnounceOp_of_no_master hlive hkind hrole hdomain hmaster),
      fun ms hmaster hsame => ?_, fun ms hmaster hother => ?_⟩
    · have hop := ptpAnnounceOp_of_master hlive hkind hrole hdomain hmaster
      rw [beq_iff_eq.mpr hsame, Bool.true_or] at hop
      exact congrArg Host.Outcome.next hop
    · have hop := ptpAnnounceOp_of_master hlive hkind hrole hdomain hmaster
      rw [beq_eq_false_iff_ne.mpr hother] at hop
      exact ⟨fun hbetter => congrArg Host.Outcome.next (hop.trans (if_pos hbetter)),
        fun hworse => congrArg Host.Outcome.next (hop.trans (if_neg (by simp [hworse])))⟩
  case delayResp =>
    intro port m s ms t1 t2 t3 hlive hruns hrole hmaster hexchange hkind hdomain hsender
    exact congrArg Host.Outcome.next (ptpDelayRespOp_of_exchange hlive hruns hrole hmaster hexchange hkind hdomain hsender)
  case delayReq =>
    intro port m s hlive hsends hkind hdomain
    exact congrArg Host.Outcome.next (ptpDelayReqOp_of_master hlive hsends hkind hdomain)
  case syncTx =>
    intro port s hsends hdue
    exact congrArg Host.Outcome.next (if_neg (by simp [hsends, hdue]))
  case announceTx =>
    intro port s hsends hdue
    exact congrArg Host.Outcome.next (if_neg (by simp [hsends, hdue]))

end Sys2Proof.Proofs
end

section
/-! SUPPORT. The time base's own events (R408 to R410, R420 to R427, R470). -/

namespace Sys2Proof.Proofs

open Sys2Proof Sys2Proof.Machine Sys2Proof.Laws

section Time

variable {s : State}

/-- A source of PPS_IN that was silent for three seconds falls away. -/
theorem sourceInvalidOp_of_pps (hvalid : (srcOf s.clk 3).valid = true) (hsilent : (srcOf s.clk 3).heardAt + 3000000000 ≤ s.upNs) :
    sourceInvalidOp s 3 = invalidate s 3 :=
  if_pos (by simp [hvalid, hsilent])

/-- A PTP source falls away when either of its messages was missing for three intervals. -/
theorem sourceInvalidOp_of_ptp {k : Nat} {ms : PtpMaster} (hk : k = 1 ∨ k = 2) (hvalid : (srcOf s.clk k).valid = true)
    (hmaster : (ptpOf s (k - 1)).master = some ms)
    (hsilent : (srcOf s.clk k).heardAt + 3 * logInterval (ptpOf s (k - 1)).logSync ≤ s.upNs
      ∨ ms.heardAt + 3 * logInterval (ptpOf s (k - 1)).logAnnounce ≤ s.upNs) :
    sourceInvalidOp s k = invalidate s k := by
  refine if_pos ?_
  rw [if_pos (by simpa using hk), hvalid]
  simpa [hmaster] using hsilent

/-- An edge of PPS_IN measures its distance from the nearest whole second. -/
theorem ppsInOp_of_running (hruns : s.clk.frozen = none) :
    let x := ((nowNs s : Int) - s.clk.ppsInNs) % 1000000000
    ppsInOp s = measure (heardSource (timeCount s tcPpsIn) 3) 3 (((if 500000000 ≤ x then x - 1000000000 else x) : Int) : Rat) 100 := by
  rw [ppsInOp, if_neg (by simp [hruns])]

/-- PPS_OUT rises at a whole second past the last one. -/
theorem ppsOutOp_of_due (hruns : s.clk.frozen = none)
    (hdue : ∀ r, s.clk.ppsOutRise = some r → (r + s.clk.ppsOutNs) / 1000000000 < (nowNs s + s.clk.ppsOutNs) / 1000000000) :
    ppsOutOp s = modClk s fun c =>
      { c with ppsOutRise := some ((nowNs s + s.clk.ppsOutNs) / 1000000000 * 1000000000 - s.clk.ppsOutNs) } := by
  cases hrise : s.clk.ppsOutRise with
  | none => simp [ppsOutOp, hruns, hrise]
  | some r => simp [ppsOutOp, hruns, hrise, hdue r hrise]

/-- What a capture pin does with an edge of its mode: with its FIFO full it counts, else the stamp enters and its triggers fire. -/
theorem captureOp_of_mode {pin : Nat} {rising : Bool} (hruns : s.clk.frozen = none)
    (hmode : (nth PinProg.reset s.clk.pins pin).mode = 3 ∧ rising = true ∨ (nth PinProg.reset s.clk.pins pin).mode = 4 ∧ rising = false
      ∨ (nth PinProg.reset s.clk.pins pin).mode = 5) :
    let p := nth PinProg.reset s.clk.pins pin
    captureOp s pin rising = if 16 ≤ p.fifo.length then timeCount s tcCaptureLost
      else (List.range 14).foldl
        (fun u i => match u.clk.trigs[i]? with | some g => if g.kind = 4 && g.pin = pin then fireTrigger u i else u | none => u)
        (modClk s fun c =>
          { c with pins := modNth c.pins pin fun q => { q with fifo := q.fifo ++ [BitVec.ofInt 64 ((nowNs s : Int) - p.delayNs)] } }) := by
  intro p
  by_cases hfull : 16 ≤ p.fifo.length
  · rw [if_pos hfull]
    obtain ⟨hm, rfl⟩ | ⟨hm, rfl⟩ | hm := hmode <;> simp [captureOp, hruns, hm, hfull, p]
  · rw [if_neg hfull]
    obtain ⟨hm, rfl⟩ | ⟨hm, rfl⟩ | hm := hmode <;> simp only [captureOp, hruns, hm] <;> simp [p, hfull] <;> rfl

/-- An edge of an event pin that falls due. -/
theorem eventPinOp_of_due {pin t : Nat} (hnext : (nth PinProg.reset s.clk.pins pin).nextEdge = some t)
    (hdue : t + (nth PinProg.reset s.clk.pins pin).delayNs ≤ nowNs s) :
    eventPinOp s pin = modClk s fun c => { c with pins := modNth c.pins pin fun p => pinEdge p t } := by
  simp only [eventPinOp, hnext]
  exact if_pos hdue

/-- An internal trigger that falls due fires, and a periodic one is due again. -/
theorem triggerPassed_of_due {i t : Nat} {g : TrigProg} (htrig : s.clk.trigs[i]? = some g) (hnext : g.nextFire = some t) (hdue : t ≤ nowNs s) :
    triggerPassed s i = fireTrigger
      (modClk s fun c => { c with trigs := modNth c.trigs i fun x =>
        { x with nextFire := if g.kind = 2 then some (nextOnGrid g.tNs g.periodNs (nowNs s)) else none } }) i := by
  simp only [triggerPassed, htrig, hnext]
  exact if_pos hdue

/-- A window of the RTC while the reference runs. -/
theorem rtcWindowOp_of_running (hruns : s.clk.frozen = none) (ns : Nat) :
    rtcWindowOp s ns = modClk s fun c =>
      { c with rRtc := ((((ns : Rat) / 32768 * 4294967296).floor : Int) : Rat) / 4294967296, rtcAt := s.upNs } :=
  if_neg (by simp [hruns])

/-- The latch of the uncertainty clears when no source is configured and `unc_free_s` has passed. -/
theorem uncFreeOp_of_due (hsources : sourceList s = []) (hdue : s.clk.uncFrom + s.clk.uncFreeS * 1000000000 ≤ s.upNs)
    (huncertain : s.clk.uncertain = true) :
    uncFreeOp s = modClk s fun c => { c with u0 := some 0, tM := c.timeNs.toNat, uncertain := false } :=
  if_pos (by simp [hsources, hdue, huncertain])

/-- At the RTC edge the reference stops, where it still may. -/
theorem freezeOp_of_free (hentering : (domOf s domRef).state = .entering) (hruns : s.clk.frozen = none)
    (hwake : (domOf s domRef).wakeNext = false) (hmay : mayEnter s domRef true = true) (heth : ethInUse s = false)
    (hbands : bandsNotOff s = false) :
    freezeOp s = domGoOn
      (modDom (modClk s fun c => { c with frozen := some { tFreeze := c.timeNs, fracFreeze := c.timeFrac, atNs := s.upNs } }) domRef
        fun x => { x with state := .off, request := none, wakeNext := false, since := s.upNs }) domRef true := by
  have hfreeze : freezeClock s
      = modClk s fun c => { c with frozen := some { tFreeze := c.timeNs, fracFreeze := c.timeFrac, atNs := s.upNs } } :=
    if_neg (by simp [hruns])
  simp only [freezeOp, hfreeze, hwake]
  rw [if_neg (by rw [hentering, hruns]; decide), if_neg (by rw [hmay, heth, hbands]; decide), if_neg (by decide)]

/-- After the settle time the reference runs again, and what waited for it goes on. -/
theorem ephemerisResumeOp_of_settled {f : Frozen} (hfrozen : s.clk.frozen = some f) (hwaking : (domOf s domRef).state = .waking)
    (hsettled : (domOf s domRef).since + s.pwr.refSettleUs * 1000 ≤ s.upNs) :
    let g := gapPeriods s (s.upNs - f.atNs)
    let t := wakeAnswers (modDom (resumeClock g.2 g.1) domRef fun x => { x with state := .on, since := g.2.upNs })
    t.clk.frozen = none → ephemerisResumeOp s = resumeStalled domRef (flushWake t) := by
  intro g t hruns
  have hwaits : ¬((domOf s domRef).state != .waking || decide (s.upNs < (domOf s domRef).since + s.pwr.refSettleUs * 1000)) = true := by
    simpa [hwaking] using hsettled
  have hresume : resumeOp s = t := by
    simp only [resumeOp, hfrozen]
    exact if_neg hwaits
  rw [ephemerisResumeOp, hresume]
  exact if_pos (by rw [hfrozen, hruns]; rfl)

end Time

end Sys2Proof.Proofs
end

section
/-! Settled statements of the time base. -/

namespace Sys2Proof.Proofs

open Sys2Proof Sys2Proof.Machine Sys2Proof.Laws

/-- Settles O39. -/
theorem timeRows : Obligations.TimeRows := by
  refine ⟨⟨?servo, ?pps, ?ptp, ?ppsIn, ?ppsOut, ?capture, ?edge, ?trigger, ?rtc, ?free⟩, ?freeze, ?resume⟩
  case servo => exact fun s hruns hdue => congrArg Host.Outcome.next (if_pos (by simp [hruns, hdue]))
  case pps => exact fun s hvalid hsilent => congrArg Host.Outcome.next (sourceInvalidOp_of_pps hvalid hsilent)
  case ptp => exact fun k s ms hk hvalid hmaster hsilent => congrArg Host.Outcome.next (sourceInvalidOp_of_ptp hk hvalid hmaster hsilent)
  case ppsIn => exact fun s hruns => congrArg Host.Outcome.next (ppsInOp_of_running hruns)
  case ppsOut => exact fun s hruns hdue => congrArg Host.Outcome.next (ppsOutOp_of_due hruns hdue)
  case capture =>
    intro pin rising s hruns p hmode
    have hop := captureOp_of_mode hruns hmode
    exact ⟨fun hfull => congrArg Host.Outcome.next (hop.trans (if_pos hfull)),
      fun hroom => congrArg Host.Outcome.next (hop.trans (if_neg (Nat.not_le.mpr hroom)))⟩
  case edge => exact fun pin s t hnext hdue => congrArg Host.Outcome.next (eventPinOp_of_due hnext hdue)
  case trigger => exact fun i s g t htrig hnext hdue => congrArg Host.Outcome.next (triggerPassed_of_due htrig hnext hdue)
  case rtc => exact fun ns s hruns => congrArg Host.Outcome.next (rtcWindowOp_of_running hruns ns)
  case free =>
    exact fun s hsources hdue huncertain => congrArg Host.Outcome.next (uncFreeOp_of_due hsources hdue huncertain)
  case freeze =>
    intro s hentering hruns hwake hmay heth hbands
    exact congrArg Host.Outcome.next (freezeOp_of_free hentering hruns hwake hmay heth hbands)
  case resume =>
    intro s f hfrozen hwaking hsettled g t hruns
    exact congrArg Host.Outcome.next (ephemerisResumeOp_of_settled hfrozen hwaking hsettled hruns)

end Sys2Proof.Proofs
end

section
/-! SUPPORT. Boundary scan, resets, watchdogs and tamper alarms (R345, R348, R401, R483, R510 to R513). -/

namespace Sys2Proof.Proofs

open Sys2Proof Sys2Proof.Machine Sys2Proof.Laws

/-- An event goes to the views alone (R81). -/
theorem onlyHost_raiseEvent (s : State) (code a0 a1 a2 a3 : Nat) : OnlyHost s (raiseEvent s code a0 a1 a2 a3) := by
  unfold raiseEvent raiseAt
  split
  · exact (onlyHost_modView s _ _).trans (onlyHost_modView _ _ _)
  · exact onlyHost_modView s _ _

theorem raiseEvent_part (s : State) (code a0 a1 a2 a3 : Nat) : (raiseEvent s code a0 a1 a2 a3).part = s.part := by
  rw [onlyHost_raiseEvent s code a0 a1 a2 a3]

/-- The loader is entered with its event. -/
theorem enterLoader_part (s : State) (stage : Nat) : (enterLoader s stage).part = .loader := raiseEvent_part _ _ _ _ _ _

/-- Zeroized slots hold nothing (R345). -/
theorem slots_zeroizeKeys (s : State) : ∀ x ∈ (zeroizeKeys s).key.slots, x.state = .erased ∧ x.share0 = 0 ∧ x.share1 = 0 := by
  intro x hx
  obtain ⟨y, -, rfl⟩ := List.mem_map.mp (show x ∈ s.key.slots.map _ from hx)
  exact ⟨rfl, rfl, rfl⟩

/-- An instruction that holds the part closes the gate, zeroizes the keys and resets it, with its slots erased. -/
theorem holdOp_eq (s : State) (ir : Byte) :
    let z := zeroizeKeys (closeGate s)
    let r := resetState z z.test.resetCause
    holdOp s ir = { r with key := { r.key with slots := z.key.slots }, test := { r.test with tapIr := ir, held := true } } := rfl

section Boot

variable {s : State}

/-- A tampered part boots into TAMPER_LOCK. -/
theorem boot_of_tampered {alarms : Byte} (h : bootsTampered (sampleTamper s alarms) = true) :
    boot s alarms = { advanceEpochs (sampleTamper s alarms) with part := .tamperLock } :=
  if_pos h

/-- Any other with a boot source loads its keys, advances its epochs and decides what to run. -/
theorem boot_of_source {alarms : Byte} (h : bootsTampered (sampleTamper s alarms) = false)
    (hsource : (sampleTamper s alarms).straps.bootSrc.toNat < 2) :
    boot s alarms = reportFailed (bootDecision (countWatchdog (advanceEpochs (loadKeys (sampleTamper s alarms))))) := by
  rw [boot, if_neg (by simp [h]), if_neg (Nat.not_le.mpr hsource)]

/-- The loader boots a stored image that holds. -/
theorem bootDecision_of_stored {h : List Byte} (hstored : storedHeader s = some h) (hok : headerOk s h = true)
    (hfails : threeFailures s = false) (hbody : bodyMatches s h = true) : bootDecision s = bootImage s h := by
  have hfilter : (storedHeader s).filter (headerOk s) = some h := by rw [hstored, Option.filter_some, if_pos hok]
  simp only [bootDecision, hfilter, hfails, hbody]
  rfl

/-- Without a stored image or a download it waits for one. -/
theorem bootDecision_of_none (hstored : ∀ h, storedHeader s = some h → headerOk s h = false) (hpending : pendingHeader s = none) :
    bootDecision s = enterLoader s 1 := by
  have hfilter : (storedHeader s).filter (headerOk s) = none :=
    Option.filter_eq_none_iff.mpr fun h hh => by simp [hstored h hh]
  simp only [bootDecision, hfilter, hpending]

end Boot

section Watches

variable {s : State}

/-- A failure on probation without the old image cold-starts the part and counts (R483). -/
theorem probationFailureOp_of_no_old (hrun : firmwareRuns s = true) (hprob : s.fw.onProbation = true) (hold : s.fw.old = none) :
    probationFailureOp s = coldStart (modTest s fun t => { t with kwdStarts := t.kwdStarts + 1 }) 1 := by
  rw [probationFailureOp, if_pos (by simp [hrun, hprob]), probationFails, if_neg (by simp [hold]), watchdogStart]

/-- Off probation a core that misses its check-in cold-starts the part, which says so (R513). -/
theorem kernelWatchdogOp_of_confirmed {core : Nat} (hrun : firmwareRuns s = true) (hprob : s.fw.onProbation = false) (hcore : core < 8)
    (hon : domState s (domCore0 + core / 2) = .on) :
    let t := coldStart (modTest s fun t => { t with kwdStarts := t.kwdStarts + 1 }) 1
    kernelWatchdogOp s core = raiseEvent t evWatchdog 1 core t.test.kwdStarts s.test.kwdMs := by
  intro t
  rw [kernelWatchdogOp, if_neg (by simp [hrun, hon, hcore]), if_neg (by simp [hprob])]
  rfl

/-- The owner of a bank that makes no handshake loses its grant, and its function is reset (R401). -/
theorem fabricWatchdogOp_of_owner {owner bank : Nat} (hrun : firmwareRuns s = true) (hon : (domOf s (7 + bank / 4)).state = .on)
    (howner : (nth { owner := none, last := [] } s.queue.banks bank).owner = some owner) :
    let t := modQueue s fun q => { q with banks := modNth q.banks bank fun x => { x with owner := none } }
    let u := queueCount (ownerReset t owner) qcWdResets 1
    fabricWatchdogOp s owner bank = raiseEvent u evWatchdog 0 owner bank u.queue.wdUs :=
  if_neg (by simp [hrun, howner, hon])

end Watches

end Sys2Proof.Proofs
end

section
/-! Settled statements of boundary scan, resets and watchdogs. -/

namespace Sys2Proof.Proofs

open Sys2Proof Sys2Proof.Machine Sys2Proof.Laws

/-- Settles O41. -/
theorem tapInstructions : Obligations.TapInstructions := by
  refine ⟨fun _ => rfl, fun _ => rfl, fun _ => rfl, ?vendor, ?hold, ?free, ?held⟩
  case vendor =>
    intro op s hnone
    rw [exec_vendorInstruction, hnone]
    rfl
  case hold =>
    intro i ir hi s z r
    refine ⟨?_, rfl, slots_zeroizeKeys (closeGate s)⟩
    obtain ⟨rfl, rfl⟩ | ⟨rfl, rfl⟩ | ⟨rfl, rfl⟩ := hi <;> exact congrArg Host.Outcome.next (holdOp_eq s _)
  case free => exact fun s hheld => congrArg Host.Outcome.next (if_neg (by simp [hheld]))
  case held => exact fun s hheld => congrArg Host.Outcome.next (if_pos hheld)

/-- Settles O42. -/
theorem resetRows : Obligations.ResetRows := by
  refine ⟨?priv, ?unpriv, ?released, ?cold, ?tampered, ?source, ?stored, ?none, fun _ => rfl, fun _ => rfl, fun _ => rfl,
    fun _ _ => ⟨rfl, rfl, rfl, rfl, rfl, rfl⟩, ?perst⟩
  case priv => exact fun s hpcie => congrArg Host.Outcome.next (if_neg (by simp [hpcie]))
  case unpriv => exact fun s hpcie => congrArg Host.Outcome.next (if_neg (by simp [hpcie]))
  case released => exact fun straps alarms s hlow => congrArg Host.Outcome.next (if_pos (by simp [hlow]))
  case cold =>
    intro straps alarms s hhigh hcold
    exact congrArg Host.Outcome.next ((if_neg (by simp [hhigh])).trans (if_pos hcold))
  case tampered => exact fun s alarms h => boot_of_tampered h
  case source => exact fun s alarms h hsource => boot_of_source h hsource
  case stored =>
    intro s h hstored hok hfails hbody
    rw [bootDecision_of_stored hstored hok hfails hbody]
    exact ⟨rfl, rfl⟩
  case none =>
    intro s hstored hpending
    rw [bootDecision_of_none hstored hpending]
    exact enterLoader_part s 1
  case perst =>
    intro s hanswers hpcie htested
    exact congrArg Host.Outcome.next (if_pos (by simp [hanswers, hpcie, htested]))

/-- Settles O43. -/
theorem watchRows : Obligations.WatchRows := by
  refine ⟨?probation, ?core, ?owner, ?alarm, fun _ _ _ => rfl⟩
  case probation =>
    intro s hrun hprob
    exact ⟨fun hold => congrArg Host.Outcome.next (probationFailureOp_of_revertible hrun ((revertible_iff s).mpr ⟨hprob, hold⟩)),
      fun hold => congrArg Host.Outcome.next (probationFailureOp_of_no_old hrun hprob hold)⟩
  case core =>
    intro core s hrun hprob hcore hon
    exact congrArg Host.Outcome.next (kernelWatchdogOp_of_confirmed hrun hprob hcore hon)
  case owner =>
    intro owner bank s hrun hon howner
    exact congrArg Host.Outcome.next (fabricWatchdogOp_of_owner hrun hon howner)
  case alarm =>
    intro sources s m mask
    exact ⟨fun hnone => congrArg Host.Outcome.next (if_pos hnone), fun hsome => congrArg Host.Outcome.next (if_neg hsome)⟩

end Sys2Proof.Proofs
end

section
/-! SUPPORT. The slot engine (R36, R214, R217, R248 to R254), the node table at work (R283 to R287) and the bands (R184 to R207). -/

namespace Sys2Proof.Proofs

open Sys2Proof Sys2Proof.Machine Sys2Proof.Laws

/-- Two choices by equivalent conditions between equal results agree. -/
theorem ite_iff_congr {α : Type} {p q : Prop} [Decidable p] [Decidable q] {x y u v : α} (h : p ↔ q) (hx : x = u) (hy : y = v) :
    (if p then x else y) = if q then u else v :=
  ite_congr (propext h) (fun _ => hx) fun _ => hy

section Slots

variable {s : State}

/-- The oldest plan that waits goes to the bands 50 µs before its boundary. -/
theorem planHandOffOp_of_due {p : Plan} (hrole : s.role ≠ .standby) (hradio : radioStopped s = false)
    (hplan : (s.orbit.plans.find? fun p => !p.handed) = some p) (hdue : handOffNs p.t0 ≤ nowNs s) : planHandOffOp s = handPlan s p := by
  simp only [planHandOffOp, hplan]
  rw [if_neg (by simp [hrole, hradio]), if_pos hdue]

/-- A slot begins at its boundary. -/
theorem slotBoundaryOp_of_due (hnumbering : numbering s = true)
    (hdue : slotBoundary (frameInForce s (nextSlot s)) (nextSlot s) ≤ (nowNs s : Int)) :
    let n := nextSlot s
    let begun := slotTriggers (modOrbit (frameInForce s n) fun o => { o with slot := some n }) n
    let framed := if isFrameBoundary begun n then frameBoundary begun else begun
    let gated := modQueue framed fun q => { q with gates := q.gates.all (gatesAt n) }
    let t := bands.foldl (fun s b => bandBoundary s n b) (rollAt gated n)
    slotBoundaryOp s = dropPlans (if quiesceWaits t then radioHalts t else t) n :=
  if_neg (by simpa [hnumbering] using hdue)

/-- At the anchor the numbering starts. -/
theorem anchorReachedOp_of_due (hanchored : s.orbit.anchored = true) (hidle : s.orbit.state = .idle) (hdue : s.orbit.anchorNs ≤ nowNs s) :
    let t := modOrbit s fun o => { o with state := if o.follow then .acquiring else .run }
    anchorReachedOp s = (mapKeys t.node.table).foldl (fun u i =>
      match nodeAt u i with
      | some n => if meetsPart u n && !awaitsJoin u i && !isFiled u i && n.nextWake = 0 then fileFrom u i (u.orbit.anchorAsn + 2) else u
      | none => u) t :=
  if_pos (by simp [hanchored, hidle, hdue])

/-- A contact missed counts; the third puts its node ADRIFT. -/
theorem contactMissOp_of_contact {i asn : Nat} {n : NodeEntry} {c : Contact} (hnode : nodeAt s i = some n)
    (hmissed : missedContact s n.meshAddr = some (asn, c)) :
    let t := orbitCount
      (modNode (modPlan s asn fun p => { p with contacts := p.contacts.map fun x => if x = c then { x with expected := false, dls := [] } else x }) i
        fun n => if n.adrift then n else { n with misses := min 3 (n.misses + 1) }) ocMiss
    contactMissOp s i = if n.misses + 1 = 3 && !n.adrift then sendContact (enterAdrift t i n) i else sendContact t i := by
  simp only [contactMissOp, hnode, hmissed]
  exact apply_ite (sendContact · i) _ _ _

/-- The hold of an ADRIFT node ends with its frames flushed. -/
theorem adriftDeadlineOp_of_due {i : Nat} {n : NodeEntry} (hnode : nodeAt s i = some n) (hadrift : n.adrift = true)
    (hnumbering : numbering s = true) (hdue : n.adriftDeadline ≤ currentAsn s) : adriftDeadlineOp s i = flushNode s n.meshAddr := by
  simp only [adriftDeadlineOp, hnode]
  exact if_pos (by simp [hadrift, hnumbering, hdue])

/-- A PARENT cell that passes without a beacon counts, and the third enters HOLDOVER with the next candidate. -/
theorem parentMissedOp_of_parent {b : Band} {k : Nat} (hparents : s.orbit.parents ≠ []) (hplans : enginePlans s = true)
    (hband : bandState s b = .on) (hnext : s.orbit.parentNext = none) (hparent : s.orbit.parent = some k) :
    let t := orbitCount s ocParentMissed
    parentMissedOp s b = if t.orbit.parentMiss + 1 < 3 then modOrbit t fun o => { o with parentMiss := o.parentMiss + 1 }
      else modOrbit
        (raiseEvent t evTimeParentLost k ((nextCandidate t k).getD 0xFFFFFFFF) (currentAsn t % 2 ^ 32) (currentAsn t / 2 ^ 32)) fun o =>
        { o with
          state := .holdover, parentMiss := 0, parent := if (nextCandidate t k).isSome then o.parent else none, parentNext := nextCandidate t k
          parentDepth := none } := by
  intro t
  have hsame : t.orbit.parent = some k := hparent
  rw [parentMissedOp, if_neg (by simp [hparents, hplans, hband, hnext])]
  change (match t.orbit.parent with | none => _ | some k => _) = _
  rw [hsame]

end Slots

section Table

variable {s : State}

/-- Work that reaches domains of which one is low wakes them instead (R16). -/
theorem worksOn_of_low {doms : List Nat} {f : State → State} (h : anyLow s doms = true) : worksOn doms f s = accessDoms s doms :=
  if_pos h

/-- With every one On it is done. -/
theorem worksOn_of_on {doms : List Nat} {f : State → State} (h : anyLow s doms = false) : worksOn doms f s = f (accessDoms s doms) :=
  if_neg (by simp [h])

/-- The aging scan visits the table unless it rests. -/
theorem agingOp_of_active (hage : s.node.ageS ≠ 0) (hfrozen : tableFrozen s = false) (hrole : s.role ≠ .standby) :
    agingOp s = worksOn tableDoms ageEntry s :=
  if_neg (by simp [hage, hfrozen, hrole])

/-- It rests with `age_s` 0, while the table is frozen and on a standby. -/
theorem agingOp_of_resting (h : s.node.ageS = 0 ∨ tableFrozen s = true ∨ s.role = .standby) : agingOp s = s :=
  if_pos (by simpa [or_assoc] using h)

/-- The compare reads the table with a shadow and no overflow. -/
theorem compareOp_of_shadow (hshadow : s.node.shadowOn = true) (hoverflow : s.node.overflow = false) (sh : List Byte) :
    compareOp s sh = worksOn tableDoms (compareEntry · sh) s :=
  if_neg (by simp [hshadow, hoverflow])

/-- What a visit does with the entry at its position. -/
theorem ageEntry_of_node {n : NodeEntry} (t : State) (ht : t = modNodes s fun d => { d with agePos := (d.agePos + 1) % 262144 })
    (hnode : nodeAt t s.node.agePos = some n) :
    ageEntry s = if agingSkips t s.node.agePos n then t
      else if n.hit then modNode t s.node.agePos fun n => { n with hit := false }
      else commitDeletes (modNodes t fun d =>
        { d with ageDeletes := if d.ageDeletes.contains n.meshAddr then d.ageDeletes else d.ageDeletes ++ [n.meshAddr] }) := by
  subst ht
  simp only [ageEntry, hnode]

/-- A visit of an empty index goes on to the next one. -/
theorem ageEntry_of_empty (hnode : nodeAt (modNodes s fun d => { d with agePos := (d.agePos + 1) % 262144 }) s.node.agePos = none) :
    ageEntry s = modNodes s fun d => { d with agePos := (d.agePos + 1) % 262144 } := by
  simp only [ageEntry, hnode]

/-- The one compare-and-delete that waits commits when its flow is free. -/
theorem commitDeletes_of_one {a : W32} (h : s.node.ageDeletes = [a]) :
    commitDeletes s = if (flowOf s (flowIndex a)).busy then s else commitDelete s a := by
  rw [commitDeletes, h]
  cases hbusy : (flowOf s (flowIndex a)).busy <;> simp [hbusy]

/-- At its commit a hit cancels it, and an entry that the scan leaves alone stays. -/
theorem commitDelete_of_node {a : W32} {i : Nat} {n : NodeEntry} (t : State)
    (ht : t = modNodes s fun d => { d with ageDeletes := d.ageDeletes.filter (· != a) }) (hfound : lookupAddr t a = some i)
    (hnode : nodeAt t i = some n) :
    commitDelete s a = if n.hit then nodeCount t ncAgeCancelled else if agingSkips t i n then t
      else nodeCount (deleteNode t i 4) ncAgeDeleted := by
  subst ht
  simp only [commitDelete, hfound, Option.bind_some, hnode, Option.map_some]

/-- While an entry waits for its repair the scrubber repairs the first one. -/
theorem scrubWord_of_repair {i : Nat} {r : Repair} {rest : List (Nat × Repair)} (h : s.node.repair = (i, r) :: rest) (sh : List Byte) :
    scrubWord s sh = repairEntry s i r.cause r.words sh := by
  rw [scrubWord, h]

/-- Otherwise it reads the word at its position. -/
def scrubRead (s : State) : State :=
  modNodes (readWord s (s.node.scrubPos / 8) (s.node.scrubPos % 8)) fun d => { d with scrubPos := (d.scrubPos + 1) % 2097152 }

/-- A word whose entry the read leaves good. -/
theorem scrubWord_of_good (h : s.node.repair = []) (hgood : mapGet (scrubRead s).node.repair (s.node.scrubPos / 8) = none) (sh : List Byte) :
    scrubWord s sh = scrubRead s := by
  simp only [scrubRead] at hgood
  simp only [scrubWord, h, hgood, scrubRead]

/-- A word whose entry it finds bad: the entry is repaired. -/
theorem scrubWord_of_bad {r : Repair} (h : s.node.repair = []) (hbad : mapGet (scrubRead s).node.repair (s.node.scrubPos / 8) = some r)
    (sh : List Byte) : scrubWord s sh = repairEntry (scrubRead s) (s.node.scrubPos / 8) r.cause r.words sh := by
  simp only [scrubRead] at hbad
  simp only [scrubWord, h, hbad, scrubRead]

/-- The compare reads the entry at its position. -/
def compareRead (s : State) : State := modNodes (readEntryWords s s.node.cmpPos) fun d => { d with cmpPos := (d.cmpPos + 1) % 262144 }

/-- An entry that the read finds bad is repaired. -/
theorem compareEntry_of_bad {r : Repair} (hbad : mapGet (compareRead s).node.repair s.node.cmpPos = some r) (sh : List Byte) :
    compareEntry s sh = repairEntry (compareRead s) s.node.cmpPos r.cause r.words sh := by
  simp only [compareRead] at hbad
  simp only [compareEntry, hbad, compareRead]

section Compare

variable (hgood : mapGet (compareRead s).node.repair s.node.cmpPos = none) {sh : List Byte}
include hgood

/-- One that the read finds good is compared, and repaired unless it agrees or the journal still holds a record of it. -/
theorem compareEntry_of_good :
    compareEntry s sh
      = if shadowDiff (compareRead s) s.node.cmpPos sh = 0
          || (compareRead s).node.journal.any (fun r => r.index == s.node.cmpPos || r.fromIndex == s.node.cmpPos) then compareRead s
        else repairEntry (compareRead s) s.node.cmpPos 1 (shadowDiff (compareRead s) s.node.cmpPos sh ||| 1) sh := by
  simp only [compareRead] at hgood
  simp only [compareEntry, hgood, compareRead]
  rfl

theorem compareEntry_of_same (hsame : shadowDiff (compareRead s) s.node.cmpPos sh = 0) : compareEntry s sh = compareRead s := by
  simp [compareEntry_of_good hgood, hsame]

theorem compareEntry_of_journalled
    (hjournal : ∃ r ∈ (compareRead s).node.journal, r.index = s.node.cmpPos ∨ r.fromIndex = s.node.cmpPos) :
    compareEntry s sh = compareRead s :=
  (compareEntry_of_good hgood).trans (if_pos (Bool.or_eq_true_iff.mpr (.inr (List.any_eq_true.mpr (by simpa using hjournal)))))

theorem compareEntry_of_differing (hdiff : shadowDiff (compareRead s) s.node.cmpPos sh ≠ 0)
    (hjournal : ∀ r ∈ (compareRead s).node.journal, r.index ≠ s.node.cmpPos ∧ r.fromIndex ≠ s.node.cmpPos) :
    compareEntry s sh = repairEntry (compareRead s) s.node.cmpPos 1 (shadowDiff (compareRead s) s.node.cmpPos sh ||| 1) sh := by
  have hnone : (compareRead s).node.journal.any (fun r => r.index == s.node.cmpPos || r.fromIndex == s.node.cmpPos) = false :=
    List.any_eq_false.mpr fun r hr => by simp [hjournal r hr]
  rw [compareEntry_of_good hgood, hnone, Bool.or_false]
  exact if_neg (by simpa using hdiff)

end Compare

end Table

section BandEvents

variable {s : State} {b : Band}

/-- A band goes on at its slotframe boundary. -/
theorem bandOnOp_of_boundary {t : Nat} (hpending : bandState s b = .pendingOn) (hafter : (s.radio.tx.get b).onAfter = some t)
    (hboundary : atFrameBoundary s t = true) : bandOnOp s b = bandGoesOn s b := by
  have hstate : (s.radio.tx.get b).state = .pendingOn := hpending
  simp only [bandOnOp, hstate, hafter]
  exact if_pos hboundary

/-- A draining band goes off with nothing on the air. -/
theorem drainEndOp_of_drained (hdraining : bandState s b = .draining) (hburst : (s.radio.tx.get b).burst = [])
    (hctxs : bandCtxs s b ctxBusy = []) : drainEndOp s b = bandGoesOff s b := by
  have hstate : (s.radio.tx.get b).state = .draining := hdraining
  exact if_pos (by simp [hstate, hburst, hctxs])

/-- A band in service faults. -/
theorem bandFaultOp_of_service (hoff : bandState s b ≠ .off) (hfault : bandState s b ≠ .fault) : bandFaultOp s b = bandFaults s b := by
  rw [bandFaultOp]
  split
  next h => exact absurd h hoff
  next h => exact absurd h hfault
  next => rfl

/-- A FAULT band with attempts left tries to return at its slotframe boundary. -/
theorem faultReturnOp_of_boundary (hfault : bandState s b = .fault) (hattempts : (s.radio.tx.get b).attempts ≠ 0)
    (hboundary : atFrameBoundary s ((s.radio.tx.get b).onAfter.getD 0) = true) (ok : Bool) :
    let t := txCount (modTx s b fun x => { x with attempts := x.attempts - 1, onAfter := some (nowNs s + 1) }) b tcCalFail
    faultReturnOp s b ok = if ok then bandGoesOn (modTx (txCount s b tcCalChan) b fun x => { x with calFails := 0 }) b
      else if (s.radio.tx.get b).attempts = 1 then enableEnds t b stBandBusy else t := by
  have hstate : (s.radio.tx.get b).state = .fault := hfault
  exact if_pos (by simp [hstate, hattempts, hboundary])

/-- A channel calibration that is over locks, repeats or faults the band. -/
theorem channelCalOp_of_over {lo start : Nat} (hneed : calNeed (calStarts s b) b = some (lo, start)) (hover : start + 48000 ≤ nowNs (calStarts s b))
    (locked : Bool) :
    let t := calStarts s b
    channelCalOp s b locked = if locked then
        txCount (modTx t b fun x => { x with lo := some lo, calLo := none, calEnd := some (start + 48000), calFails := 0 }) b tcCalChan
      else if (t.radio.tx.get b).calFails = 0 then modTx
        (txCount (txCount t b tcCalChan) b tcCalFail) b fun x => { x with calLo := some lo, calEnd := some (start + 96000), calFails := 1 }
      else bandFaults (txCount (txCount t b tcCalChan) b tcCalFail) b := by
  simp only [channelCalOp, hneed]
  exact if_neg (Nat.not_lt.mpr hover)

/-- A background calibration that is due runs in a gap. -/
theorem backgroundCalOp_eq (w : BgCal) (tempQ : Int) :
    let t := bgOverdue (calStarts s b) b; let i := bgIndex w
    backgroundCalOp s b w tempQ = if bgIsDue t (t.radio.tx.get b) i tempQ && bgGap t b (bgTimes i).1 then
        calRunAnswers
          (txCount
            (modTx t b fun x =>
              { x with
                calEnd := some (nowNs t + (bgTimes i).1), calLo := none, bgAt := modNth x.bgAt i fun _ => t.upNs
                bgDue := modNth x.bgDue i fun _ => false, bgOver := modNth x.bgOver i fun _ => false
                bgTempQ := if i = 0 then tempQ else x.bgTempQ })
            b tcCalBg) b
      else t := rfl

/-- The grant comes; a launch that it governs is judged before and after. -/
theorem coexGrantOp_of_withheld (h : (s.radio.tx.get b).grant = false) :
    let granted (u : State) : State := modTx u b fun x => { x with grant := true, grantAt := nowNs u }
    coexGrantOp s b = if (s.radio.tx.get b).coexEnable then launchOp (granted (launchOp s b)) b else granted s :=
  if_neg (by simp [h])

/-- The grant goes; a burst that may be aborted is cut. -/
theorem coexWithdrawOp_eq :
    let t := if (s.radio.tx.get b).coexEnable then launchOp s b else s
    let x := inForce (t.radio.tx.get b)
    let u := modTx t b fun x => { x with grant := false }
    coexWithdrawOp s b
      = if x.coexEnable = true ∧ x.coexAbort = true ∧ x.burst ≠ [] then cutBurst u b (some tcCoexAbort) else u :=
  ite_iff_congr (by simp [and_assoc]) rfl rfl

end BandEvents

end Sys2Proof.Proofs
end

section
/-! Settled statements of slots, the node table and bands. -/

namespace Sys2Proof.Proofs

open Sys2Proof Sys2Proof.Machine Sys2Proof.Laws

/-- Settles O44. -/
theorem slotRows : Obligations.SlotRows := by
  refine ⟨?prepare, ?hand, ?stopped, ?boundary, ?anchor, ?miss, ?adrift, ?moving, ?parent⟩
  case prepare =>
    intro s hanchored hruns n view hdue
    exact congrArg Host.Outcome.next (if_neg (by simpa [hanchored, hruns] using hdue))
  case hand => exact fun s p hrole hradio hplan hdue => congrArg Host.Outcome.next (planHandOffOp_of_due hrole hradio hplan hdue)
  case stopped => exact fun s hrole hradio => congrArg Host.Outcome.next (if_pos (by simp [hradio]))
  case boundary =>
    intro s hnumbering n hdue
    exact congrArg Host.Outcome.next (slotBoundaryOp_of_due hnumbering hdue)
  case anchor => exact fun s hanchored hidle hdue => congrArg Host.Outcome.next (anchorReachedOp_of_due hanchored hidle hdue)
  case miss =>
    intro i s n asn c hnode hmissed t
    have hop := contactMissOp_of_contact hnode hmissed
    exact ⟨fun hthird hadrift => congrArg Host.Outcome.next (hop.trans (if_pos (by simp [hthird, hadrift]))),
      fun hother => congrArg Host.Outcome.next (hop.trans (if_neg (by rcases hother with h | h <;> simp [h])))⟩
  case adrift =>
    exact fun i s n hnode hadrift hnumbering hdue => congrArg Host.Outcome.next (adriftDeadlineOp_of_due hnode hadrift hnumbering hdue)
  case moving => exact fun b s hnext => congrArg Host.Outcome.next (if_pos (by simp [hnext]))
  case parent =>
    intro b s k hparents hplans hband hnext hparent t
    have hop := parentMissedOp_of_parent hparents hplans hband hnext hparent
    exact ⟨fun hfew => congrArg Host.Outcome.next (hop.trans (if_pos (Nat.succ_lt_succ hfew))),
      fun hthird => congrArg Host.Outcome.next (hop.trans (if_neg (by simpa using hthird)))⟩

/-- Settles O45. -/
theorem tableRows : Obligations.TableRows := by
  refine ⟨?low, ?resting, ?visit, ?deletes, ?delete, ?scrub, ?repair, ?compare, ?off⟩
  case low =>
    intro s hlow
    exact ⟨fun hage hfrozen hrole => congrArg Host.Outcome.next ((agingOp_of_active hage hfrozen hrole).trans (worksOn_of_low hlow)),
      fun sh => congrArg Host.Outcome.next (worksOn_of_low hlow),
      fun sh hshadow hoverflow => congrArg Host.Outcome.next ((compareOp_of_shadow hshadow hoverflow sh).trans (worksOn_of_low hlow))⟩
  case resting => exact fun s h => congrArg Host.Outcome.next (agingOp_of_resting h)
  case visit =>
    intro s hon hage hfrozen hrole a i t
    have hop : agingOp s = ageEntry a := (agingOp_of_active hage hfrozen hrole).trans (worksOn_of_on hon)
    refine ⟨fun hempty => congrArg Host.Outcome.next (hop.trans (ageEntry_of_empty hempty)), fun n hnode => ?_⟩
    intro children keeps
    have hvisit := hop.trans (ageEntry_of_node t rfl hnode)
    refine ⟨fun hkeeps => congrArg Host.Outcome.next (hvisit.trans (if_pos hkeeps)), fun hkeeps hhit => ?_, fun hkeeps hhit => ?_⟩
    · have hskips : agingSkips t i n = false := hkeeps
      exact congrArg Host.Outcome.next (hvisit.trans ((if_neg (by simp [i, hskips])).trans (if_pos hhit)))
    · have hskips : agingSkips t i n = false := hkeeps
      exact congrArg Host.Outcome.next (hvisit.trans ((if_neg (by simp [i, hskips])).trans (if_neg (by simp [hhit]))))
  case deletes =>
    intro s a hone
    have hop := commitDeletes_of_one hone
    exact ⟨fun hbusy => hop.trans (if_pos hbusy), fun hfree => hop.trans (if_neg (by simp [hfree]))⟩
  case delete =>
    intro s a i n t hfound hnode
    have hop := commitDelete_of_node t rfl hfound hnode
    exact ⟨fun hhit => hop.trans (if_pos hhit), fun hhit hskips => hop.trans (by simp [hhit, hskips]),
      fun hhit hskips => hop.trans (by simp [hhit, hskips])⟩
  case scrub =>
    intro sh s hon hnone a i t
    exact ⟨fun hgood => congrArg Host.Outcome.next ((worksOn_of_on hon).trans (scrubWord_of_good hnone hgood sh)),
      fun r hbad => congrArg Host.Outcome.next ((worksOn_of_on hon).trans (scrubWord_of_bad hnone hbad sh))⟩
  case repair =>
    intro sh s i r rest hon hrepair
    exact congrArg Host.Outcome.next ((worksOn_of_on hon).trans (scrubWord_of_repair hrepair sh))
  case compare =>
    intro sh s hon hshadow hoverflow a i t
    have hop : compareOp s sh = compareEntry a sh := (compareOp_of_shadow hshadow hoverflow sh).trans (worksOn_of_on hon)
    have ht : t = compareRead a := rfl
    clear_value t
    subst ht
    refine ⟨fun r hbad => congrArg Host.Outcome.next (hop.trans (compareEntry_of_bad hbad sh)), fun hgood => ?_⟩
    exact ⟨fun hsame => congrArg Host.Outcome.next (hop.trans (compareEntry_of_same hgood hsame)),
      fun hdiff hjournal => congrArg Host.Outcome.next (hop.trans (compareEntry_of_differing hgood hdiff hjournal)),
      fun _ hjournal => congrArg Host.Outcome.next (hop.trans (compareEntry_of_journalled hgood hjournal))⟩
  case off => exact fun sh s h => congrArg Host.Outcome.next (if_pos (by simpa using h))

/-- Settles O46. -/
theorem bandRows : Obligations.BandRows := by
  refine ⟨?on, ?drain, ?fault, ?return_, ?channel, ?background, ?grant, ?withdrawn⟩
  case on => exact fun b s t hpending hafter hboundary => congrArg Host.Outcome.next (bandOnOp_of_boundary hpending hafter hboundary)
  case drain => exact fun b s hdraining hburst hctxs => congrArg Host.Outcome.next (drainEndOp_of_drained hdraining hburst hctxs)
  case fault => exact fun b s hoff hfault => congrArg Host.Outcome.next (bandFaultOp_of_service hoff hfault)
  case return_ =>
    intro b s hfault hattempts hboundary
    exact ⟨congrArg Host.Outcome.next (faultReturnOp_of_boundary hfault hattempts hboundary true),
      congrArg Host.Outcome.next (faultReturnOp_of_boundary hfault hattempts hboundary false)⟩
  case channel =>
    intro b s lo start t hneed hover
    have hop := channelCalOp_of_over hneed hover
    exact ⟨congrArg Host.Outcome.next (hop true), fun hfirst => congrArg Host.Outcome.next ((hop false).trans (if_pos hfirst)),
      fun hagain => congrArg Host.Outcome.next ((hop false).trans (if_neg hagain))⟩
  case background =>
    intro b w tempQ s t i
    have hop := backgroundCalOp_eq (s := s) (b := b) w tempQ
    refine ⟨fun hdue hgap => congrArg Host.Outcome.next (hop.trans (if_pos ?_)),
      fun hnot => congrArg Host.Outcome.next (hop.trans (if_neg ?_))⟩
    · exact Bool.and_eq_true_iff.mpr ⟨hdue, hgap⟩
    · exact fun hboth => by
        obtain ⟨hdue, hgap⟩ := Bool.and_eq_true_iff.mp hboth
        rcases hnot with h | h
        · exact Bool.false_ne_true (h.symm.trans hdue)
        · exact Bool.false_ne_true (h.symm.trans hgap)
  case grant =>
    intro b s hwithheld granted
    have hop := coexGrantOp_of_withheld hwithheld
    exact ⟨fun hoff => congrArg Host.Outcome.next (hop.trans (if_neg (by simp [hoff]))),
      fun hon => congrArg Host.Outcome.next (hop.trans (if_pos hon))⟩
  case withdrawn =>
    intro b s t x u
    have hop := coexWithdrawOp_eq (s := s) (b := b)
    exact ⟨fun hen habort hburst => congrArg Host.Outcome.next (hop.trans (if_pos ⟨hen, habort, hburst⟩)),
      fun hnot => congrArg Host.Outcome.next (hop.trans (if_neg fun ⟨hen, habort, hburst⟩ => by
        rcases hnot with h | h | h
        · exact Bool.false_ne_true (h.symm.trans hen)
        · exact Bool.false_ne_true (h.symm.trans habort)
        · exact hburst h))⟩

end Sys2Proof.Proofs
end

section
/-! SUPPORT. The transmit chain of a band: encryption (R358), lines (R195, R196), judging a launch (R188 to R193) and the end of a burst. -/

namespace Sys2Proof.Proofs

open Sys2Proof Sys2Proof.Machine Sys2Proof.Laws

/-- A band after a change of it. -/
theorem get_modTx (s : State) (b : Band) (f : TxBand → TxBand) : (modTx s b f).radio.tx.get b = f (s.radio.tx.get b) := by
  cases b <;> rfl

section Encrypt

variable {s : State} {b : Band} {l : Launch}

/-- A launch waits for its encryption (R358). -/
def waitsForLane (s : State) (l : Launch) : Bool :=
  l.psdu.isNone && !isAckLaunch l && decide (l.tL ≤ nowNs s + 40000) && !waitsForTwin s l && !followUntold s l

/-- A launch without a record is encrypted where the pool has room. -/
theorem launchEncryptOp_of_plain (hfound : (s.radio.tx.get b).queue.find? (waitsForLane s) = some l) (hrecord : l.record = none) :
    launchEncryptOp s b = if frameBufferRoom s (plainLen s l) then encryptNow s l else s := by
  rw [launchEncryptOp]
  change (match (s.radio.tx.get b).queue.find? (waitsForLane s) with | none => _ | some l => _) = _
  rw [hfound]
  dsimp only
  rw [hrecord]
  rfl

/-- One with a record is flushed where its bulk cell is bad or it no longer fits, and encrypted where the pool has room. -/
theorem launchEncryptOp_of_record {r : Nat} {f : Frame} (hfound : (s.radio.tx.get b).queue.find? (waitsForLane s) = some l)
    (hrecord : l.record = some r) (hframe : recordOf s r = some f) :
    let len := ((profileOf s l.profile).map fun p => psduLen p (hopsTo s f.dest) f.payload.length).getD 0
    launchEncryptOp s b =
      if bulkBad s (.pending r) then completeFrame (bulkLose s (.pending r)) r fsFlushed false false
      else if f.dest != addrBroadcast && f.ftype != ftJoinRsp && launchTooLong s f then completeFrame (routeCount s rcTooLong) r fsFlushed false true
      else if !frameBufferRoom s len then s else encryptNow s l := by
  intro len
  rw [launchEncryptOp]
  change (match (s.radio.tx.get b).queue.find? (waitsForLane s) with | none => _ | some l => _) = _
  rw [hfound]
  dsimp only
  rw [hrecord, Option.bind_some, hframe]
  rfl

end Encrypt

section Lines

variable {s : State} {b : Band} {l : Launch}

/-- With no burst under way a chain without an acknowledgement queued only sees to its lines. -/
theorem chainActs_of_no_ack (hburst : (s.radio.tx.get b).burst = []) (hack : (s.radio.tx.get b).queue.find? isAckLaunch = none) :
    chainActs s b = linesDue (calStarts (releaseLines s b) b) b := by
  rw [chainActs_idle s b hburst]
  obtain ⟨hqueue, hkept, -⟩ := chainSame_linesTaken s b
  generalize linesDue (calStarts (releaseLines s b) b) b = t at hqueue hkept ⊢
  rw [hburst] at hkept
  have hramp : rampAck t b = t := by rw [rampAck, hqueue, hack]
  rw [hramp, carriersDue_empty t b hkept, carriersEnd_empty t b hkept]

/-- With one queued it is the same ahead of its ramp. -/
theorem chainActs_of_early_ack (hburst : (s.radio.tx.get b).burst = []) (hack : (s.radio.tx.get b).queue.find? isAckLaunch = some l)
    (hearly : nowNs s + rampNs (s.radio.tx.get b) + (s.radio.tx.get b).txPathNs < l.tL) :
    chainActs s b = linesDue (calStarts (releaseLines s b) b) b := by
  rw [chainActs_idle s b hburst]
  obtain ⟨hqueue, hkept, hrampUs, hpath, -, hclk, -⟩ := chainSame_linesTaken s b
  generalize linesDue (calStarts (releaseLines s b) b) b = t at hqueue hkept hrampUs hpath hclk ⊢
  rw [hburst] at hkept
  have hnotDue : rampDue t (t.radio.tx.get b) l.tL = false := by
    rw [rampDue, rampNs, hrampUs, hpath, nowNs, hclk]
    exact decide_eq_false (Nat.not_le.mpr hearly)
  have hramp : rampAck t b = t := by
    rw [rampAck, hqueue, hack]
    exact if_pos (by rw [hnotDue]; rfl)
  rw [hramp, carriersDue_empty t b hkept, carriersEnd_empty t b hkept]

/-- When its ramp is due, with the gate open and the band in service, it ramps up. -/
theorem chainActs_of_due_ack (hburst : (s.radio.tx.get b).burst = []) (hack : (s.radio.tx.get b).queue.find? isAckLaunch = some l)
    (hdue : l.tL ≤ nowNs s + rampNs (s.radio.tx.get b) + (s.radio.tx.get b).txPathNs) (hgate : s.pair.gateOpen = true)
    (hband : bandState s b = .on ∨ bandState s b = .draining) :
    let t := linesDue (calStarts (releaseLines s b) b) b
    chainActs s b = carriersEnd (carriersDue (rampUp t b l l.tL) b) b := by
  intro t
  rw [chainActs_idle s b hburst]
  obtain ⟨hqueue, -, hrampUs, hpath, hstate, hclk, hpair⟩ : ChainSame b s t := chainSame_linesTaken s b
  change carriersEnd (carriersDue (rampAck t b) b) b = _
  clear_value t
  have hrampDue : rampDue t (t.radio.tx.get b) l.tL = true := by
    rw [rampDue, rampNs, hrampUs, hpath, nowNs, hclk]
    exact decide_eq_true hdue
  have hservice : (bandState t b == .on || bandState t b == .draining) = true := by
    rw [bandState, hstate]
    exact Bool.or_eq_true_iff.mpr (hband.imp beq_iff_eq.mpr beq_iff_eq.mpr)
  have hramp : rampAck t b = rampUp t b l l.tL := by
    rw [rampAck, hqueue, hack]
    simp [hrampDue, hpair, hgate, hservice]
  rw [hramp]

/-- More than 20 µs ahead of the first launch only the request line may switch. -/
theorem linesDue_of_early {rest : List Launch} (hqueue : (s.radio.tx.get b).queue = l :: rest) (hlead : (s.radio.tx.get b).paLeadUs ≤ 20)
    (hearly : nowNs s + (s.radio.tx.get b).txPathNs + 20000 < l.tL) :
    linesDue s b = if l.tL ≤ nowNs s + (s.radio.tx.get b).txPathNs + (s.radio.tx.get b).coexLeadUs * 1000 then requestLines s b l else s := by
  simp only [linesDue, hqueue, List.head?_cons]
  have hclk : nowNs (if l.tL ≤ nowNs s + (s.radio.tx.get b).txPathNs + (s.radio.tx.get b).coexLeadUs * 1000 then requestLines s b l else s)
      = nowNs s := by
    have hsame := chainSame_ite (l.tL ≤ nowNs s + (s.radio.tx.get b).txPathNs + (s.radio.tx.get b).coexLeadUs * 1000)
      (chainSame_requestLines s b l) (.refl b s)
    exact congrArg (·.timeNs.toNat) hsame.2.2.2.2.2.1
  generalize (if l.tL ≤ nowNs s + (s.radio.tx.get b).txPathNs + (s.radio.tx.get b).coexLeadUs * 1000 then requestLines s b l else s) = t
    at hclk ⊢
  have hafter {tA : Nat} (h : (if isAckLaunch l then some l.tL else earliest t b l) = some tA) : l.tL ≤ tA := by
    split at h
    · exact Nat.le_of_eq (Option.some.inj h)
    · exact tL_le_earliest h
  have hlines : ¬ l.tL ≤ nowNs s + (s.radio.tx.get b).txPathNs + 20000 := Nat.not_le.mpr hearly
  have hblank : ¬ l.tL ≤ nowNs t + 20000 := by omega
  by_cases htold : followUntold t l = true
  · rw [if_pos htold]
  · rw [if_neg htold]
    simp only [if_neg hlines, if_neg hblank]
    cases hstart : (if isAckLaunch l then some l.tL else earliest t b l) with
    | none => rfl
    | some tA =>
      have hpa : ¬ tA ≤ nowNs s + (s.radio.tx.get b).txPathNs + (s.radio.tx.get b).paLeadUs * 1000 := by
        have := hafter hstart
        omega
      exact if_neg (by simp [hpa])

end Lines

section Judge

variable {s : State} {b : Band} {l : Launch}

/-- A launch of a chain that launches, with what it needs in place, ramps up when its instant is near and is cancelled past its bound. -/
theorem judgeLaunch_of_ready {tA : Nat} (htold : followUntold s l = false) (hchain : chainLaunches s b = true)
    (hready : earliest s b l = some tA) :
    judgeLaunch s b l =
      if l.tL + lateBound l < tA || (l.tL < tA && !endsInSlot s b l tA) then cancelLaunch s l true
      else if rampDue s (s.radio.tx.get b) tA then carriersEnd (carriersDue (rampUp s b l tA) b) b else s := by
  simp [judgeLaunch, htold, hchain, hready]

/-- One whose needs are not met by its bound is cancelled. -/
theorem judgeLaunch_of_unready (htold : followUntold s l = false) (hchain : chainLaunches s b = true) (hready : earliest s b l = none)
    (hbound : l.tL + lateBound l ≤ nowNs s) :
    judgeLaunch s b l =
      if (s.radio.tx.get b).coexEnable && !(s.radio.tx.get b).grant then cancelLaunch (txCount s b tcCoexDenied) l false
      else cancelLaunch s l true := by
  have hpast : ¬ nowNs s < l.tL + lateBound l - rampNs (s.radio.tx.get b) := by omega
  simp only [judgeLaunch, htold, hchain, hready, if_neg hpast]
  rfl

/-- One of a chain that does not launch is cancelled at its instant. -/
theorem judgeLaunch_of_stopped (htold : followUntold s l = false) (hchain : chainLaunches s b = false) :
    judgeLaunch s b l = if l.tL ≤ nowNs s then cancelLaunch s l false else s := by
  simp [judgeLaunch, htold, hchain]

/-- The one carrier whose ramp ends goes on the air, or is an acknowledgement that is committed or abandoned. -/
theorem carriersDue_of_one (h : ((s.radio.tx.get b).burst.filter fun l => l.carrier == .ramping && decide (l.tA ≤ nowNs s)) = [l]) :
    carriersDue s b = if isAckLaunch l then commitAck s b l else launchNow s b l := by
  rw [carriersDue, h, List.foldl_cons, List.foldl_nil]

/-- A burst whose carriers are all over ends with its airtime charged. -/
theorem carriersEnd_of_over (hsome : (s.radio.tx.get b).burst ≠ [])
    (hover : ∀ l ∈ (s.radio.tx.get b).burst, l.carrier = .onAir ∧ carrierEndNs (s.radio.tx.get b) l ≤ nowNs s)
    (hend : burstEndNs (s.radio.tx.get b) ≤ nowNs s) :
    carriersEnd s b = modTx (chargeBurst ((s.radio.tx.get b).burst.foldl (fun t l => carrierOver t b l) s) b none) b fun y =>
      { y with burst := [], quietFrom := burstEndNs (s.radio.tx.get b) + 16000, driveOff := burstEndNs (s.radio.tx.get b) } := by
  have hall : ((s.radio.tx.get b).burst.filter fun l => l.carrier == .onAir && decide (carrierEndNs (s.radio.tx.get b) l ≤ nowNs s))
      = (s.radio.tx.get b).burst :=
    List.filter_eq_self.mpr fun l hl => by simp [hover l hl]
  rw [carriersEnd, hall]
  exact if_neg (by simp [hsome, hend])

/-- None of them has a ramp that ends. -/
theorem carriersDue_of_onAir (hair : ∀ l ∈ (s.radio.tx.get b).burst, l.carrier = .onAir) : carriersDue s b = s := by
  have hnone : ((s.radio.tx.get b).burst.filter fun l => l.carrier == .ramping && decide (l.tA ≤ nowNs s)) = [] :=
    List.filter_eq_nil_iff.mpr fun l hl => by simp [hair l hl]
  rw [carriersDue, hnone, List.foldl_nil]

end Judge

end Sys2Proof.Proofs
end

section
/-! Settled statements of launches. -/

namespace Sys2Proof.Proofs

open Sys2Proof Sys2Proof.Machine Sys2Proof.Laws

/-- Settles O47. -/
theorem launchRows : Obligations.LaunchRows := by
  refine ⟨?encrypt, ?lines, ?early, ?ready, ?stopped, ?unready, ?carriers, ?ended⟩
  case encrypt =>
    intro b s l hfound
    refine ⟨fun hrecord hroom => ?_, fun hrecord hroom => ?_, fun r f hrecord hframe => ?_⟩
    · exact congrArg Host.Outcome.next ((launchEncryptOp_of_plain hfound hrecord).trans (if_pos hroom))
    · exact congrArg Host.Outcome.next ((launchEncryptOp_of_plain hfound hrecord).trans (if_neg (by simp [hroom])))
    · intro fits len
      have hop := launchEncryptOp_of_record hfound hrecord hframe
      have hflush : (f.dest != addrBroadcast && f.ftype != ftJoinRsp && launchTooLong s f) = true ↔ ¬ fits := by
        simp [fits, and_assoc]
      refine ⟨fun hbad => ?_, fun hgood hlong => ?_, fun hgood hfits hroom => ?_, fun hgood hfits hroom => ?_⟩
      · exact congrArg Host.Outcome.next (hop.trans (if_pos hbad))
      · exact congrArg Host.Outcome.next (hop.trans ((if_neg (by simp [hgood])).trans (if_pos (hflush.mpr hlong))))
      · exact congrArg Host.Outcome.next (hop.trans
          ((if_neg (by simp [hgood])).trans ((if_neg fun h => hflush.mp h hfits).trans (if_neg (by simpa using hroom)))))
      · exact congrArg Host.Outcome.next (hop.trans
          ((if_neg (by simp [hgood])).trans ((if_neg fun h => hflush.mp h hfits).trans (if_pos (by simpa using hroom)))))
  case lines =>
    intro b s hburst t
    refine ⟨fun hack => ?_, fun l hack hearly => ?_, fun l hack hdue hgate hband => ?_, fun l hack hfirst => ?_⟩
    · exact congrArg Host.Outcome.next (chainActs_of_no_ack hburst hack)
    · have hop := chainActs_of_early_ack hburst hack hearly
      exact ⟨congrArg Host.Outcome.next hop, congrArg Host.Outcome.next hop⟩
    · exact congrArg Host.Outcome.next (chainActs_of_due_ack hburst hack hdue hgate hband)
    · have hqueue : (t.radio.tx.get b).queue = (s.radio.tx.get b).queue := (chainSame_linesTaken s b).1
      have hop : launchOp s b = judgeLaunch t b l := by
        rw [launchOp, chainActs_of_no_ack hburst hack]
        change (match (t.radio.tx.get b).queue.find? fun l => !isAckLaunch l with | none => _ | some l => _) = _
        rw [hqueue, hfirst]
      exact congrArg Host.Outcome.next hop
  case early =>
    intro b s l rest hqueue x due hlead
    refine ⟨fun hrequest hearly => ?_, fun hearly hrequest => ?_⟩
    · exact (linesDue_of_early hqueue hlead hearly).trans (if_neg (Nat.not_le.mpr hrequest))
    · exact (linesDue_of_early hqueue hlead hearly).trans (if_pos hrequest)
  case ready =>
    intro b s l tA x htold hchain hready
    have hop := judgeLaunch_of_ready htold hchain hready
    refine ⟨fun hlate => hop.trans (if_pos (by simpa using hlate)), fun hbound hslot => ?_⟩
    have hkept : ¬(decide (l.tL + lateBound l < tA) || (decide (l.tL < tA) && !endsInSlot s b l tA)) = true := by
      simp only [Bool.or_eq_true, Bool.and_eq_true, decide_eq_true_eq, Bool.not_eq_true']
      rintro (h | ⟨h, hout⟩)
      · omega
      · rcases hslot with hin | hin
        · omega
        · exact Bool.false_ne_true (hout.symm.trans hin)
    rw [if_neg hkept] at hop
    exact ⟨fun hdue => hop.trans (if_pos (decide_eq_true hdue)), fun hearly => hop.trans (if_neg (by simpa [rampDue] using hearly))⟩
  case stopped =>
    intro b s l htold hchain
    have hop := judgeLaunch_of_stopped htold hchain
    exact ⟨fun hdue => hop.trans (if_pos hdue), fun hearly => hop.trans (if_neg (Nat.not_le.mpr hearly))⟩
  case unready =>
    intro b s l x htold hchain hready hbound
    have hop := judgeLaunch_of_unready htold hchain hready hbound
    refine ⟨fun ⟨hcoex, hgrant⟩ => hop.trans (if_pos ?_), fun h => hop.trans (if_neg ?_)⟩
    · exact Bool.and_eq_true_iff.mpr ⟨hcoex, by simpa using hgrant⟩
    · rcases h with h | h <;> simp [x] at h <;> simp [h]
  case carriers =>
    intro b s l hone
    have hop := carriersDue_of_one hone
    refine ⟨fun hdata => hop.trans (if_neg (by simp [hdata])), fun hack => ?_⟩
    rw [if_pos hack] at hop
    refine ⟨fun hopen => ?_, fun hdecided hpsdu hcoex hgrant => ?_, fun hdecided hpsdu hfree => ?_⟩
    · exact hop.trans (if_pos (by simpa using hopen))
    · exact hop.trans ((if_neg (by simp [hdecided, hpsdu])).trans (if_pos (by simp [hcoex, hgrant])))
    · refine hop.trans ((if_neg (by simp [hdecided, hpsdu])).trans ((if_neg ?_).trans (ite_iff_congr (by simp) rfl rfl)))
      rcases hfree with h | h <;> simp [h]
  case ended =>
    intro b s x hsome hover hend ended t
    have hair := carriersDue_of_onAir fun l hl => (hover l hl).1
    have hop : burstEndOp s b = releaseLines t b := by
      rw [burstEndOp, hair, carriersEnd_of_over hsome hover hend]
      exact if_pos (by rw [get_modTx]; rfl)
    exact congrArg Host.Outcome.next hop

end Sys2Proof.Proofs
end

section
/-! SUPPORT. The receivers: detection (R158 to R161), headers (R163), dropped carriers (R162), pieces (R361), gain (R152), snapshots
(R171, R172) and the wake receiver (R174, R175). -/

namespace Sys2Proof.Proofs

open Sys2Proof Sys2Proof.Machine Sys2Proof.Laws

/-- A receiver after a change of it. -/
theorem get_modRx (s : State) (b : Band) (f : RxBand → RxBand) : (modRx s b f).radio.rx.get b = f (s.radio.rx.get b) := by
  cases b <;> rfl

section Detection

variable {s : State} {i : Nat} {p : AirProfile}

/-- A GFSK detection locks where it meets the thresholds that its context was armed with. -/
theorem syncDetectOp_of_profile (hp : profileOf s (ctxOf s i).profile = some p) (errs pre : Nat) (rssi : Int) :
    let c := ctxOf s i; let b := bandOfD c.band
    syncDetectOp s i errs pre rssi =
      if !listens s i || isOfdm p || beganEarly s c p || pre < c.set.preQual || p.syncTol < errs
        || (c.set.syncRssiMinQ != -520 && rssiOf s b rssi < c.set.syncRssiMinQ) then s
      else lockCtx s i (detection s b (rssiOf s b rssi)) := by
  simp only [syncDetectOp, hp]

/-- A TL-OFDM detection locks above its threshold. -/
theorem ofdmDetectOp_of_profile (hp : profileOf s (ctxOf s i).profile = some p) (corr : Nat) (rssi : Int) :
    let c := ctxOf s i; let b := bandOfD c.band
    ofdmDetectOp s i corr rssi =
      if !listens s i || !isOfdm p || beganEarly s c p || corr ≤ c.set.ofdmThr then s
      else lockCtx s i (detection s b (rssiOf s b rssi)) := by
  simp only [ofdmDetectOp, hp]

/-- A detection that ends inside a retune is lost. -/
theorem lockCtx_of_retuning (d : Detection) (h : retuning s (bandOfD (ctxOf s i).band) = true) :
    lockCtx s i d = rxCount s (bandOfD (ctxOf s i).band) rxRetuneLost :=
  if_pos h

/-- Any other locks its context. -/
theorem lockCtx_of_tuned (d : Detection) (h : retuning s (bandOfD (ctxOf s i).band) = false) :
    lockCtx s i d = rxCount (setCtx s i { ctxOf s i with state := .locked, rx := some (reception d) }) (bandOfD (ctxOf s i).band)
      rxSyncDetect :=
  if_neg (by simp [h])

section Capture

variable {r : Reception} {d : Detection} {strong : Bool} {c : Ctx} (hc : ctxOf s i = c)
include hc

/-- Before the header decision the stronger frame takes over. -/
theorem capturePre_of_strong (h : strong = true) :
    capturePre s i r d strong
      = rxCount (setCtx s i { c with state := .locked, rx := some (reception d) }) (bandOfD c.band) rxCapturePre :=
  hc ▸ if_pos h

/-- The weaker one is held. -/
theorem capturePre_of_weak (h : strong = false) : capturePre s i r d strong = setCtx s i { c with rx := some { r with held := some d } } :=
  hc ▸ if_neg (by simp [h])

/-- After it a stronger frame takes over a GFSK PSDU where the context was set to switch (R161). -/
theorem capturePost_of_switch (bytes : List Byte) (hswitch : c.set.captureSwitch = true) (hstrong : strong = true)
    (hpsdu : c.state = .psdu) (hgfsk : isOfdm p = false) :
    capturePost s i r d p strong bytes = rxCount
      (setCtx (diagEntry s i r fsCaptured none none (dewhiten p r.whiten 0 (bytes.take (arrivedBytes s c r)))) i
        { c with state := .locked, rx := some (reception d) }) (bandOfD c.band) rxCapturePost := by
  subst hc
  exact if_pos (by simp [hswitch, hstrong, hpsdu, hgfsk])

/-- Any other is kept away. -/
theorem capturePost_of_kept (bytes : List Byte)
    (h : c.set.captureSwitch = false ∨ strong = false ∨ c.state ≠ .psdu ∨ isOfdm p = true) :
    capturePost s i r d p strong bytes = rxCount s (bandOfD c.band) rxCaptureIgnored := by
  subst hc
  exact if_neg (by rcases h with h | h | h | h <;> simp [h])

end Capture

variable {r : Reception} (hrx : (ctxOf s i).rx = some r) (hp : profileOf s (ctxOf s i).profile = some p)
include hrx hp

/-- A second frame meets a context at work: captured or held before the header decision, judged by R161 after it. -/
theorem secondaryDetectOp_of_reception (rssi : Int) (bytes : List Byte) :
    let c := ctxOf s i; let b := bandOfD c.band; let t := rxCount s b rxSyncDetect
    let d := detection s b (rssiOf s b rssi)
    let strong := decide (r.det.rssiQ + 4 * (c.set.captureMargin : Int) ≤ rssiOf s b rssi)
    secondaryDetectOp s i rssi bytes =
      if !ctxBusy c || r.stalled.isSome then s
      else if c.state == .locked then capturePre t i r d strong
      else if judgedPre p r d c.band then
        if strong then capturePre (poisonCut t i) i r d true else rxCount t b rxOverlapLost
      else capturePost t i r d p strong bytes := by
  simp only [secondaryDetectOp, hrx, hp]
  rfl

/-- A carrier that drops by more than its margin ends the PSDU as an FCS failure. -/
theorem carrierDropOp_of_reception (bytes : List Byte) (rssi : Int) :
    let c := ctxOf s i; let b := bandOfD c.band
    let u := fcsFails (rxCount s b rxCarrierLost) i r none (dewhiten p r.whiten 0 (bytes.take r.length))
    carrierDropOp s i bytes rssi =
      if c.state != .psdu || r.stalled.isSome || decide (r.det.rssiQ - 4 * (c.set.carrierDrop : Int) ≤ rssiOf s b rssi) then s
      else if c.purpose == .test then setCtx u i (armed u c .armed) else ctxRest u i := by
  simp only [carrierDropOp, hrx, hp]

/-- The bytes of a TL-OFDM frame that arrived join those before them. -/
theorem cutPieceOp_of_reception (bytes : List Byte) :
    let c := ctxOf s i; let all := r.bytes ++ dewhiten p r.whiten r.bytes.length bytes
    let t := setCtx s i { c with rx := some { r with bytes := all } }
    cutPieceOp s i bytes =
      if c.state != .psdu || !isOfdm p || r.length < r.bytes.length + bytes.length then s
      else if masksOut t then t else ctPieces t i all (all.length == r.length) := by
  simp only [cutPieceOp, hrx, hp]

end Detection

section Header

variable {s : State} {i : Nat} {p : AirProfile} {r : Reception}

variable (hrx : (ctxOf s i).rx = some r) (hp : profileOf s (ctxOf s i).profile = some p)
include hrx hp

/-- Off the lock there is no header to decide. -/
theorem headerDecideOp_of_unlocked (hstate : (ctxOf s i).state ≠ .locked) (hdr : BitVec 26) (soft : List Int) :
    headerDecideOp s i hdr soft = s := by
  simp [headerDecideOp, hrx, hp, hstate]

variable (hlocked : (ctxOf s i).state = .locked)
include hlocked

/-- A signal field passes or fails by its copies, ties drawn (R132). -/
theorem headerDecideOp_of_ofdm (hofdm : isOfdm p = true) (hdr : BitVec 26) (soft : List Int) {f : Option HdrFields} {u : Bool}
    (hfield : signalHeader (ctxOf s i) (combineCopies soft (drawNat s).1) = (f, u)) :
    let t := (drawNat s).2
    headerDecideOp s i hdr soft = match f with
      | none => headerFails (if u then airCount t (bandOfD (ctxOf s i).band) 5 else t) i r (combineCopies soft (drawNat s).1)
      | some f => headerPasses t i r f := by
  simp only [headerDecideOp, hrx, hp, hlocked, hofdm]
  rw [if_neg (by decide)]
  simp only [if_true, hfield]
  cases f with
  | none => rfl
  | some f =>
    simp only [headerPasses]
    split
    · simp only [antennaNs_rxCount]
      rfl
    · rfl

end Header

section Receivers

variable {s : State} {i : Nat} {b : Band}

/-- A listen that ends at its instant leaves its context idle. -/
theorem listenEndOp_of_due (hpurpose : (ctxOf s i).purpose ≠ .test) (hfree : ctxReserved s i = false)
    (hstate : (ctxOf s i).state = .armed ∨ (ctxOf s i).state = .blanked) (hdue : (ctxOf s i).listenEnd ≤ nowNs s) :
    listenEndOp s i = setCtx s i { Ctx.idle with frames := (ctxOf s i).frames } := by
  rw [listenEndOp, if_pos (by simpa [hpurpose, hfree, hdue] using hstate), ctxIdle, if_neg (by simp [hfree])]

/-- No other ends one. -/
theorem listenEndOp_of_not_due (h : (ctxOf s i).purpose = .test ∨ ctxReserved s i = true
    ∨ ((ctxOf s i).state ≠ .armed ∧ (ctxOf s i).state ≠ .blanked) ∨ nowNs s < (ctxOf s i).listenEnd) : listenEndOp s i = s := by
  refine if_neg ?_
  rintro hdue
  simp only [Bool.and_eq_true, Bool.or_eq_true, beq_iff_eq, bne_iff_ne, Bool.not_eq_true', decide_eq_true_eq] at hdue
  obtain ⟨⟨⟨hstate, hpurpose⟩, hfree⟩, hend⟩ := hdue
  rcases h with h | h | ⟨harmed, hblanked⟩ | h
  · exact hpurpose h
  · exact Bool.false_ne_true (hfree.symm.trans h)
  · exact hstate.elim harmed hblanked
  · omega

/-- An attack steps the gain down by 6 dB, and counts where there was gain to take. -/
theorem agcAttackOp_eq (clip : Bool) :
    let t := if clip then rxCount s b rxAgcClip else s
    let down := modRx t b fun r => { r with agcGain := r.agcGain - 6, agcAt := s.upNs }
    agcAttackOp s b clip = if !clip && (s.radio.rx.get b).agcMode = 2 then s
      else if (s.radio.rx.get b).agcGain = 0 then down else rxCount down b rxAgcAttack := by
  cases clip
  · rfl
  · have hkept : ((rxCount s b rxAgcClip).radio.rx.get b).agcGain = (s.radio.rx.get b).agcGain := by rw [rxCount, get_modRx]
    simp only [agcAttackOp, if_true, hkept]
    rfl

/-- A snapshot starts at its instant. -/
theorem snapshotStartOp_of_live {x : Snapshot} (hlive : liveSnap s b = some x) :
    snapshotStartOp s b = if x.state == .armed && x.trigger = 1 && x.startNs ≤ nowNs s then
        modRadio s fun r =>
          { r with snapshots := r.snapshots.map fun y => if y.id == x.id then { y with state := .capturing, firstNs := nowNs s } else y }
      else s := by
  simp only [snapshotStartOp, hlive]

/-- A snapshot completes when it has filled its units. -/
theorem snapshotEndOp_of_live {x : Snapshot} (hlive : liveSnap s b = some x) (data : List Byte) :
    let t := modRadio s fun r =>
      { r with snapshots := r.snapshots.map fun y => if y.id == x.id then { y with state := .complete, data := snapContent x data } else y }
    snapshotEndOp s b data = if x.state != .capturing || nowNs s < x.firstNs + captureNs x then s
      else finishWhere (drawNat t).2 (fun op => entryCmd op.e == some .radioSnapshotArm && op.ref == x.id)
        fun _ => okFigures [x.id, x.firstNs, signedOf 16 (drawNat t).1] := by
  simp only [snapshotEndOp, hlive]

/-- The wake receiver has matched within 8 ms. -/
def wakeQuiet (s : State) : Bool := match s.radio.wake.lastAt with | some t => decide (s.upNs < t + 8000000) | none => false

theorem wakeQuiet_eq_true : wakeQuiet s = true ↔ ∃ t, s.radio.wake.lastAt = some t ∧ s.upNs < t + 8000000 := by
  rw [wakeQuiet]
  cases s.radio.wake.lastAt <;> simp

/-- A match of the wake receiver counts, raises its event and wakes its domains. -/
theorem wakeMatchOp_eq (window : W32) :
    let w := s.radio.wake; let miss := diffBits window.toNat w.pattern.toNat
    let c := (drawBelow s (2 ^ 32)).1
    let t := modRadio (rxCount (drawBelow s (2 ^ 32)).2 .bandB rxWakeMatches) fun r =>
      { r with wake := { r.wake with lastRtc := BitVec.ofNat 32 c, lastAt := some (drawBelow s (2 ^ 32)).2.upNs } }
    let u := if w.actEvent = false then t
      else if t.clk.frozen.isSome then modRadio t fun r => { r with wake := { r.wake with held := r.wake.held ++ [(c, miss)] } }
      else raiseEvent t evWakePattern c miss 0 0
    wakeMatchOp s window = if !w.enable || w.tol < miss || wakeQuiet s || !(s.radio.tx.get .bandB).burst.isEmpty then s
      else wakeMask u w.domainMask.toNat := by
  cases hact : s.radio.wake.actEvent <;> simp only [wakeMatchOp, hact] <;> rfl

end Receivers

end Sys2Proof.Proofs
end

section
/-! Settled statements of the receivers. -/

namespace Sys2Proof.Proofs

open Sys2Proof Sys2Proof.Machine Sys2Proof.Laws

/-- Settles O48. -/
theorem detectionRows : Obligations.DetectionRows := by
  refine ⟨?sync, ?ofdm, ?secondary, ?header, ?drop, ?piece, ?noProfile, ?noReception, ?otherState⟩
  case sync =>
    intro i errs pre rssi s p
    dsimp only
    intro hp
    have hop := syncDetectOp_of_profile hp errs pre rssi
    refine ⟨fun hnot => congrArg Host.Outcome.next (hop.trans (if_pos ?_)), fun hlistens hearly hgfsk => ⟨fun hpre herrs hrssi => ?_,
      fun hbelow => congrArg Host.Outcome.next (hop.trans (if_pos ?_))⟩⟩
    · rcases hnot with h | h | h <;> simp [h]
    · have hlocks := hop.trans (if_neg (by
        rcases hrssi with h | h <;> simp [hlistens, hearly, hgfsk, hpre, herrs, h]))
      exact ⟨fun htuned => congrArg Host.Outcome.next (hlocks.trans (lockCtx_of_tuned _ htuned)),
        fun hretunes => congrArg Host.Outcome.next (hlocks.trans (lockCtx_of_retuning _ hretunes))⟩
    · rcases hbelow with h | h | h <;> simp [h]
  case ofdm =>
    intro i corr rssi s p
    dsimp only
    intro hp
    have hop := ofdmDetectOp_of_profile hp corr rssi
    refine ⟨fun hnot => congrArg Host.Outcome.next (hop.trans (if_pos ?_)), fun hlistens hearly hofdm habove => ?_⟩
    · rcases hnot with h | h | h | h <;> simp [h]
    · have hlocks := hop.trans (if_neg (by simp [hlistens, hearly, hofdm, habove]))
      exact ⟨fun htuned => congrArg Host.Outcome.next (hlocks.trans (lockCtx_of_tuned _ htuned)),
        fun hretunes => congrArg Host.Outcome.next (hlocks.trans (lockCtx_of_retuning _ hretunes))⟩
  case secondary =>
    intro i rssi bytes s r p
    dsimp only
    intro hrx hp hfresh
    have hlocked_busy (h : (ctxOf s i).state = .locked) : ctxBusy (ctxOf s i) = true := by simp [ctxBusy, h]
    have hpsdu_busy (h : (ctxOf s i).state = .psdu) : ctxBusy (ctxOf s i) = true := by simp [ctxBusy, h]
    have hop (hbusy : ctxBusy (ctxOf s i) = true) :=
      (secondaryDetectOp_of_reception hrx hp rssi bytes).trans (if_neg (by simp [hbusy, hfresh]))
    have hlate (hbusy : ctxBusy (ctxOf s i) = true) (hpast : (ctxOf s i).state ≠ .locked) := (hop hbusy).trans (if_neg (by simp [hpast]))
    refine ⟨fun hlocked hstrong => ?_, fun hlocked hweak => ?_, fun hpsdu hpost hswitch hstrong hgfsk => ?_, fun hbusy hpast hpost hkept => ?_,
      fun hbusy hpast hpre hstrong => ?_, fun hbusy hpast hpre hweak => ?_⟩
    · exact congrArg Host.Outcome.next ((hop (hlocked_busy hlocked)).trans
        ((if_pos (by simp [hlocked])).trans ((capturePre_of_strong rfl (decide_eq_true hstrong)).trans (by rw [← hlocked]; rfl))))
    · exact congrArg Host.Outcome.next ((hop (hlocked_busy hlocked)).trans
        ((if_pos (by simp [hlocked])).trans (capturePre_of_weak rfl (decide_eq_false hweak))))
    · exact congrArg Host.Outcome.next ((hlate (hpsdu_busy hpsdu) (by simp [hpsdu])).trans
        ((if_neg (by simp [hpost])).trans (capturePost_of_switch rfl bytes hswitch (decide_eq_true hstrong) hpsdu hgfsk)))
    · exact congrArg Host.Outcome.next ((hlate hbusy hpast).trans
        ((if_neg (by simp [hpost])).trans (capturePost_of_kept rfl bytes (hkept.imp_right (.imp_left fun h => decide_eq_false h)))))
    · exact congrArg Host.Outcome.next ((hlate hbusy hpast).trans
        ((if_pos hpre).trans ((if_pos (decide_eq_true hstrong)).trans (capturePre_of_strong rfl rfl))))
    · exact congrArg Host.Outcome.next ((hlate hbusy hpast).trans ((if_pos hpre).trans (if_neg (by simp [hweak]))))
  case header =>
    intro i hdr soft s r p
    dsimp only
    intro hrx hp hlocked
    refine ⟨fun hgfsk => ⟨fun hnone => exec_headerDecide_of_none ⟨hdr, soft⟩ hrx hp hlocked hgfsk hnone, fun f hsome => ?_⟩,
      fun hofdm => ⟨fun u hfield => congrArg Host.Outcome.next (headerDecideOp_of_ofdm hrx hp hlocked hofdm hdr soft hfield),
        fun f u hfield => ?_⟩⟩
    · have hop := exec_headerDecide_of_some ⟨hdr, soft⟩ hrx hp hlocked hgfsk hsome
      exact ⟨fun hfree => hop.trans (by rw [headerPasses, hfree]; rfl),
        fun hheld => hop.trans (by rw [headerPasses, if_pos (Option.isSome_iff_ne_none.mpr hheld)])⟩
    · have hop := headerDecideOp_of_ofdm hrx hp hlocked hofdm hdr soft hfield
      refine congrArg Host.Outcome.next (hop.trans ?_)
      cases hheld : r.held with
      | none => simp only [headerPasses, hheld]; rfl
      | some d => simp only [headerPasses, hheld]; rfl
  case drop =>
    intro i bytes rssi s r p
    dsimp only
    intro hrx hp hpsdu hfresh
    have hop := carrierDropOp_of_reception hrx hp bytes rssi
    refine ⟨fun hheld => congrArg Host.Outcome.next (hop.trans (if_pos (by simp [hheld]))), fun hdrops => ?_⟩
    have hends := hop.trans (if_neg (by simp [hpsdu, hfresh]; omega))
    exact ⟨fun hpurpose => congrArg Host.Outcome.next (hends.trans (if_neg (by simp [hpurpose]))),
      fun hpurpose => congrArg Host.Outcome.next (hends.trans (if_pos (by simp [hpurpose])))⟩
  case piece =>
    intro i bytes s r p
    dsimp only
    intro hrx hp hpsdu hofdm
    have hop := cutPieceOp_of_reception hrx hp bytes
    refine ⟨fun hfits => ?_, fun hover => congrArg Host.Outcome.next (hop.trans (if_pos (by simp [hover])))⟩
    have hjoins := hop.trans (if_neg (by simp [hpsdu, hofdm, hfits]))
    exact ⟨fun hmasks => congrArg Host.Outcome.next (hjoins.trans (if_neg (by simp [hmasks]))),
      fun hnone => congrArg Host.Outcome.next (hjoins.trans (if_pos hnone))⟩
  case noProfile =>
    intro i errs pre corr rssi s hp
    exact ⟨congrArg Host.Outcome.next (by simp [syncDetectOp, hp]), congrArg Host.Outcome.next (by simp [ofdmDetectOp, hp])⟩
  case noReception =>
    intro i rssi bytes hdr soft s hrx
    exact ⟨congrArg Host.Outcome.next (by simp [secondaryDetectOp, hrx]), congrArg Host.Outcome.next (by simp [headerDecideOp, hrx]),
      congrArg Host.Outcome.next (by simp [carrierDropOp, hrx]), congrArg Host.Outcome.next (by simp [cutPieceOp, hrx])⟩
  case otherState =>
    intro i rssi bytes hdr soft s r p
    dsimp only
    intro hrx hp
    refine ⟨fun h => ?_, fun h => ?_, fun h => ?_, fun h => ?_⟩
    · exact congrArg Host.Outcome.next ((secondaryDetectOp_of_reception hrx hp rssi bytes).trans (if_pos (by
        rcases h with h | h <;> simp [h, Option.isSome_iff_ne_none])))
    · exact congrArg Host.Outcome.next (headerDecideOp_of_unlocked hrx hp h hdr soft)
    · exact congrArg Host.Outcome.next ((carrierDropOp_of_reception hrx hp bytes rssi).trans (if_pos (by
        rcases h with h | h <;> simp [h, Option.isSome_iff_ne_none])))
    · exact congrArg Host.Outcome.next ((cutPieceOp_of_reception hrx hp bytes).trans (if_pos (by
        rcases h with h | h <;> simp [h])))

/-- Settles O49. -/
theorem receiverRows : Obligations.ReceiverRows := by
  refine ⟨?listen, ?attack, ?release, ?snapshot, ?noSnapshot, ?wake⟩
  case listen =>
    exact fun i s => ⟨fun hpurpose hfree hstate hdue => congrArg Host.Outcome.next (listenEndOp_of_due hpurpose hfree hstate hdue),
      fun h => congrArg Host.Outcome.next (listenEndOp_of_not_due h)⟩
  case attack =>
    intro b s
    have hclip := agcAttackOp_eq (s := s) (b := b) true
    have hhigh := agcAttackOp_eq (s := s) (b := b) false
    refine ⟨fun hgain => ?_, fun hnone => ?_, fun hmode hgain => ?_, fun hmode hnone => ?_, fun hmode => ?_⟩
    · exact congrArg Host.Outcome.next (hclip.trans (if_neg hgain))
    · exact congrArg Host.Outcome.next (hclip.trans (if_pos hnone))
    · exact congrArg Host.Outcome.next (hhigh.trans ((if_neg (by simp [hmode])).trans (if_neg hgain)))
    · exact congrArg Host.Outcome.next (hhigh.trans ((if_neg (by simp [hmode])).trans (if_pos hnone)))
    · exact congrArg Host.Outcome.next (hhigh.trans (if_pos (by simp [hmode])))
  case release =>
    intro b s
    refine ⟨fun hmode hofdm hquiet => congrArg Host.Outcome.next (if_neg ?_), fun h => congrArg Host.Outcome.next (if_pos ?_)⟩
    · simpa [hmode] using ⟨hofdm, hquiet⟩
    · simpa [or_assoc] using h
  case snapshot =>
    intro b s x hlive
    refine ⟨fun harmed htrigger hdue => ?_, fun hnot => ?_, fun data hcapturing hfull => ?_, fun data hnot => ?_⟩
    · exact congrArg Host.Outcome.next ((snapshotStartOp_of_live hlive).trans (if_pos (by simp [harmed, htrigger, hdue])))
    · exact congrArg Host.Outcome.next ((snapshotStartOp_of_live hlive).trans (if_neg (by rcases hnot with h | h | h <;> simp [h])))
    · exact congrArg Host.Outcome.next ((snapshotEndOp_of_live hlive data).trans (if_neg (by simp [hcapturing, hfull])))
    · exact congrArg Host.Outcome.next ((snapshotEndOp_of_live hlive data).trans (if_pos (by rcases hnot with h | h <;> simp [h])))
  case noSnapshot =>
    intro b data s hnone
    exact ⟨congrArg Host.Outcome.next (by simp [snapshotStartOp, hnone]), congrArg Host.Outcome.next (by simp [snapshotEndOp, hnone])⟩
  case wake =>
    intro window s
    have hop := wakeMatchOp_eq (s := s) window
    refine ⟨fun hon hmatch hlast hburst => congrArg Host.Outcome.next (hop.trans (if_neg ?_)),
      fun hnot => congrArg Host.Outcome.next (hop.trans (if_pos ?_))⟩
    · have hquiet : wakeQuiet s = false := by
        rw [← Bool.not_eq_true, wakeQuiet_eq_true]
        rintro ⟨t, ht, hsoon⟩
        exact absurd (hlast t ht) (Nat.not_le.mpr hsoon)
      simp [hon, hmatch, hquiet, hburst]
    · rw [← wakeQuiet_eq_true] at hnot
      rcases hnot with h | h | h | h <;> simp [h]

end Sys2Proof.Proofs
end

section
/-! SUPPORT. Received frames: the end of a PSDU (R164), classification (R246, R356), delivery and the service threads (R35, R127, R244, R245,
R253, R278, R495). -/

namespace Sys2Proof.Proofs

open Sys2Proof Sys2Proof.Machine Sys2Proof.Laws

section Psdu

variable {s : State} {i : Nat} {r : Reception} {p : AirProfile}

/-- What the end of a PSDU does in a context that receives one. -/
theorem rxPsduEndOp_of_reception (hrx : (ctxOf s i).rx = some r) (hp : profileOf s (ctxOf s i).profile = some p)
    (hpsdu : (ctxOf s i).state = .psdu) (hfresh : r.stalled = none) (psdu : List Byte) (snr : Int) (sh : List Byte) :
    let c := ctxOf s i; let b := bandOfD c.band; let bytes := dewhiten p r.whiten 0 (psdu.take r.length)
    let whole := bytes.length == r.length && fcsOk r.fcsType bytes
    rxPsduEndOp s i psdu snr sh =
      if c.purpose == .test then
        let t := rxCount s b (if whole then rxFcsOkCount else rxFcsFail)
        setCtx (testReceive t b bytes) i (armed t { c with frames := c.frames + natOf whole } .armed)
      else if !frameBufferRoom (setCtx s i { c with rx := none }) bytes.length then ctxRest (poisonCut (rxCount s b rxNoBuffer) i) i
      else if !whole then
        ctxRest (fcsFails (if isOfdm p && !masksOut s then ctPieces s i bytes true else s) i r (some (lqiOf snr)) bytes) i
      else if masksOut (rxCount s b rxFcsOkCount) then
        cryptCount (setCtx (rxCount s b rxFcsOkCount) i { c with rx := some { r with bytes := bytes, stalled := some (snr, sh) } }) xcLaneWait 1
      else walkPsdu (rxCount s b rxFcsOkCount) i c r p bytes snr sh := by
  simp only [rxPsduEndOp, hrx, hp]
  exact if_neg (by simp [hpsdu, hfresh])

end Psdu

section Walk

variable {s : State} {x : Heard} {i : Nat} {n : NodeEntry}

/-- A MAC header that a check turns away ends the frame. -/
theorem walkFrame_of_refused {k : Nat} (h : macCheck (micBytes x.p.micLen) (fcsLen x.r.fcsType) (destOurs s) x.psdu = some k)
    (sh : List Byte) : walkFrame s x sh = cutFails (airCount s x.band k) x := by
  rw [walkFrame, h]

/-- Under a generation that R355 takes and a key that is there, a MIC that holds lets the frame go on. -/
theorem verifyNode_of_mic_holds {join : Bool} {key : List Byte} (go : State → List Byte → GenCase → State)
    (hcase : genCase s n x.h.keyGen join = .normal ∨ genCase s n x.h.keyGen join = .switch)
    (hkey : (resolveKey s (keyEui x n join) x.h.keyGen.toNat).2 = .key key) (hmic : (x.verify key n.eui).2 = true) :
    verifyNode s x i n join go = go (frameLane (resolveKey s (keyEui x n join) x.h.keyGen.toNat).1) (x.verify key n.eui).1
      (genCase s n x.h.keyGen join) := by
  have heui : (if (x.h.dest == addrBroadcast && !join) = true then groupEui else n.eui) = keyEui x n join := by simp [keyEui]
  unfold verifyNode
  dsimp only
  rw [heui]
  generalize resolveKey s (keyEui x n join) x.h.keyGen.toNat = resolved at hkey ⊢
  obtain ⟨t, res⟩ := resolved
  subst hkey
  obtain h | h := hcase <;> simp [h, hmic]

/-- A counter below the last accepted one is a replay. -/
theorem classifyUplink_of_replay {c : GenCase} (payload : List Byte) (hc : c ≠ .switch) (h : x.h.counter.toNat < n.rxCounter.toNat) :
    classifyUplink s x i n payload c = cutFails (reportNode (orbitCount s ocReplay) x i n fsReplay payload) x :=
  if_pos (by simp [hc, h])

/-- The last accepted one again is a duplicate. -/
theorem classifyUplink_of_duplicate {c : GenCase} (payload : List Byte) (hc : c ≠ .switch) (h : x.h.counter = n.rxCounter) :
    classifyUplink s x i n payload c = duplicateUplink (markSounder (nodeHeard s x i n) x payload) x i n payload
      (hdrAckReq x.h.fc && ackable (hdrType x.h.fc)) :=
  (if_neg (by simp [h])).trans (if_pos (by simp [hc, h]))

/-- One above it, or any under a new generation, is accepted. -/
theorem classifyUplink_of_new {c : GenCase} (payload : List Byte) (h : c = .switch ∨ n.rxCounter.toNat < x.h.counter.toNat) :
    classifyUplink s x i n payload c = acceptUplink (markSounder (nodeHeard s x i n) x payload) x i n payload c
      (hdrAckReq x.h.fc && ackable (hdrType x.h.fc)) := by
  have hnew : (c != .switch) = false ∨ n.rxCounter.toNat < x.h.counter.toNat := h.imp (by rintro rfl; rfl) id
  have hreplay : ¬(c != .switch && decide (x.h.counter.toNat < n.rxCounter.toNat)) = true := by
    rcases hnew with h | h
    · simp [h]
    · simp [Nat.le_of_lt h]
  have hduplicate : ¬(c != .switch && x.h.counter == n.rxCounter) = true := by
    rcases hnew with h | h
    · simp [h]
    · have hne : x.h.counter ≠ n.rxCounter := fun heq => by simp [heq] at h
      simp [hne]
  exact (if_neg hreplay).trans (if_neg hduplicate)

end Walk

section Delivery

variable {s : State} {u : Uplink}

/-- The state in which the oldest frame that may proceed has left the path. -/
def uplinkTaken (s : State) (u : Uplink) : State := { s with path := { s.path with uplinks := dropFirst (· == u) s.path.uplinks } }

/-- An uplink whose last piece is due ends its frame in the ring of its node. -/
theorem uplinkDeliverOp_of_whole (hfound : s.path.uplinks.find? (mayProceed s) = some u) (hcut : u.cut = none) :
    let t := uplinkTaken s u
    let ring := (((nodeAt t u.index).filter (·.eui == u.eui)).map (·.rxRing)).getD 0
    uplinkDeliverOp s = if u.ftype = ftData then routeData t u ring else (hostDeliver t u ring fsOk).1 := by
  simp only [uplinkDeliverOp, hfound, hcut]
  rfl

/-- A cut-through frame ends with the entry that closes it. -/
theorem uplinkDeliverOp_of_cut (hfound : s.path.uplinks.find? (mayProceed s) = some u) {id : W32} {pieces : Nat} (hcut : u.cut = some (id, pieces)) :
    let t := uplinkTaken s u
    let ring := (((nodeAt t u.index).filter (·.eui == u.eui)).map (·.rxRing)).getD 0
    uplinkDeliverOp s = (rxWrite t ring fun buf ph =>
      { buf := buf, phase := ph, last := true, frameStatus := fsOk, length := 0, mode := ((profileOf s u.profile).map (·.mode)).getD 0
        context := u.ctx, band := u.band, nodeValid := true, nodeIndex := u.index, tsNs := BitVec.ofNat 64 u.tsNs, tsFrac := u.tsFrac
        keyGen := u.keyGen, lqi := BitVec.ofNat 8 u.lqi, rssi := u.rssiQ, frameCounter := u.counter, srcAddr := u.src
        chunkSeq := pieces, channel := u.channel, frameId := id, data := [] }).1 := by
  simp only [uplinkDeliverOp, hfound, hcut]
  rfl

end Delivery

section Tones

variable {s : State}

/-- A sounding that is whole gives the node its map, or none where the node is gone. -/
theorem soundingEndOp_of_due {i : Nat} {r : Reception} {a : W32} {n : Nat} {p : AirProfile} (hrx : (ctxOf s i).rx = some r)
    (hsounder : r.sounder = some (a, n)) (hp : profileOf s (ctxOf s i).profile = some p) (hstate : (ctxOf s i).state = .sounding)
    (hdue : r.decidedNs + n * ofdmSymbolNs (ctxOf s i).band ≤ antennaNs s (bandOfD (ctxOf s i).band)) (snrs : List Int) :
    let t := modTones (ctxRest s i) a.toNat fun t => { t with wantSounding := false }
    (∀ k, lookupAddr t a = some k → soundingEndOp s i snrs = offerMap t k a
      (if (tonesOf t a.toNat).rxActive < 15 then (tonesOf t a.toNat).rxActive + 1 else 1) (loadMap snrs p.tlMarginDb))
    ∧ (lookupAddr t a = none → soundingEndOp s i snrs = t) := by
  have hwhole : ¬((ctxOf s i).state != .sounding
      || decide (antennaNs s (bandOfD (ctxOf s i).band) < r.decidedNs + n * ofdmSymbolNs (ctxOf s i).band)) = true := by simp [hstate, hdue]
  refine ⟨fun k hk => ?_, fun hnone => ?_⟩
  · simp only [soundingEndOp, hrx, hp, Option.bind_some, hsounder, Option.map_some, if_neg hwhole, hk]
  · simp only [soundingEndOp, hrx, hp, Option.bind_some, hsounder, Option.map_some, if_neg hwhole, hnone]

/-- Receive maps that were replaced go where their time has come. -/
theorem toneMapRetireOp_eq (addr : W32) :
    let gone := (tonesOf s addr.toNat).old.filter fun o => decide (o.2 ≤ s.upNs)
    (gone = [] → toneMapRetireOp s addr = s)
    ∧ (gone ≠ [] → toneMapRetireOp s addr = modTones s addr.toNat fun t => dropMaps t gone) := by
  refine ⟨fun hnone => ?_, fun hsome => ?_⟩
  · rw [toneMapRetireOp, hnone]
  · rw [toneMapRetireOp]
    split
    · contradiction
    · rfl

end Tones

section Threads

variable {s t : State} {u : Uplink}

/-- A JOIN_REQ of a class that the router does not know only counts. -/
theorem joinReqOp_of_bad_class (hthread : takeThread s ftJoinReq = some (u, t)) (hclass : classOf t (leAt u.payload 0 2) = none) :
    joinReqOp s = nodeCount t ncJoinBadClass := by
  simp only [joinReqOp, hthread, hclass]

/-- One of a node that the table holds is a rejoin. -/
theorem joinReqOp_of_known {c : TagClass} {i : Nat} {n : NodeEntry} (hthread : takeThread s ftJoinReq = some (u, t))
    (hclass : classOf t (leAt u.payload 0 2) = some c) (hfound : lookupEui t u.eui = some i) (hnode : nodeAt t i = some n) :
    joinReqOp s = rejoin (touchHit t i) u i n := by
  simp only [joinReqOp, hthread, hclass, hfound, Option.bind_some, hnode, Option.map_some]

/-- One of another is learned where the port allows it. -/
theorem joinReqOp_of_new {c : TagClass} (hthread : takeThread s ftJoinReq = some (u, t)) (hclass : classOf t (leAt u.payload 0 2) = some c)
    (hfound : lookupEui t u.eui = none) (hallowed : (chargePort t u.band).2 = .allowed) :
    joinReqOp s = learnNode (chargePort t u.band).1 u c := by
  simp only [joinReqOp, hthread, hclass, hfound, Option.bind_none]
  generalize chargePort t u.band = charged at hallowed
  obtain ⟨v, answer⟩ := charged
  subst hallowed
  rfl

section Control

variable (hthread : takeThread s ftControl = some (u, t))
include hthread

/-- A tone map of a privileged node is used once its acknowledgement went out, and waits for it before. -/
theorem controlOp_of_map {rest : List Byte} (hkind : u.payload = 0x01 :: rest) (hlen : 42 ≤ u.payload.length)
    (hrole : ((nodeAt t u.index).map (·.role == 2)).getD false = true) (hzero : leAt u.payload 2 1 = 0) (hlow : 1 ≤ leAt u.payload 1 1)
    (hhigh : leAt u.payload 1 1 ≤ 15) (hmap : mapValid (leAt u.payload 3 39) = true) :
    controlOp s = takeToneMap t u (leAt u.payload 1 1) (leAt u.payload 3 39) := by
  have hhead : (u.payload.head?).map BitVec.toNat = some 1 := by rw [hkind]; rfl
  simp only [controlOp, hthread, hhead, hrole, hzero, hmap]
  exact if_neg (by simp; omega)

/-- A request of a sounding is answered with one. -/
theorem controlOp_of_request {rest : List Byte} (hkind : u.payload = 0x02 :: rest)
    (hrole : ((nodeAt t u.index).map (·.role == 2)).getD false = true) (hlow : 4 ≤ leAt u.payload 1 1) (hhigh : leAt u.payload 1 1 ≤ 16) :
    controlOp s = (parkFirmware t (firmwareFrame t u.src ftSounding [BitVec.ofNat 8 (leAt u.payload 1 1)] true)).1 := by
  have hhead : (u.payload.head?).map BitVec.toNat = some 2 := by rw [hkind]; rfl
  simp only [controlOp, hthread, hhead, hrole]
  exact if_neg (by simp; omega)

/-- A subtype that is none of the manual's only counts. -/
theorem controlOp_of_unknown {b : Byte} {rest : List Byte} (hkind : u.payload = b :: rest) (hb : b = 0 ∨ 5 < b.toNat) :
    controlOp s = airCount t (bandOfD u.band) 4 := by
  have hhead : (u.payload.head?).map BitVec.toNat = some b.toNat := by rw [hkind]; rfl
  have hnum : b.toNat = 0 ∨ 5 < b.toNat := hb.imp_left (by rintro rfl; rfl)
  have hnone {k : Nat} (h : some b.toNat = some k) (hlow : 1 ≤ k) (hhigh : k ≤ 5) : False := by
    have := Option.some.inj h
    omega
  simp only [controlOp, hthread, hhead]
  split
  next h => exact (hnone h (by decide) (by decide)).elim
  next h => exact (hnone h (by decide) (by decide)).elim
  next h => exact (hnone h (by decide) (by decide)).elim
  next h => exact (hnone h (by decide) (by decide)).elim
  next h => exact (hnone h (by decide) (by decide)).elim
  next => rfl

end Control

/-- A STATUS of a target of the campaign that runs is counted and taken. -/
theorem statusRxOp_of_target {rest : List Byte} (hthread : takeThread s ftCampaign = some (u, t)) (hkind : u.payload = 0x03 :: rest)
    (hruns : t.cmp.state = .running) (hid : leAt u.payload 1 2 = t.cmp.id) (hwords : leAt u.payload 4 1 ≤ 16)
    (hlen : 5 + 4 * leAt u.payload 4 1 ≤ u.payload.length) (htarget : ∃ x ∈ t.cmp.targets, x.meshAddr = u.src) :
    statusRxOp s = targetStatus (modCmp t fun c => { c with statusRx := c.statusRx + 1 }) u.src u.payload := by
  have hhead : u.payload.head? = some 0x03#8 := by rw [hkind]; rfl
  have hany : t.cmp.targets.any (·.meshAddr == u.src) = true := by simpa using htarget
  simp only [statusRxOp, hthread, hhead]
  exact if_neg (by simp [hruns, hid, hany]; omega)

section Beacon

variable {cand : Nat} {off : Int} (hthread : takeThread s ftBeacon = some (u, t))
  (hcand : (t.orbit.parents.findIdx? fun c => c.addr == u.src && c.band == u.band) = some cand)
  (hoff : beaconOffset t u cand (leAt u.payload 0 5) = some off)
include hthread hcand hoff

/-- While the engine acquires, a beacon of a candidate anchors it anew. -/
theorem beaconOp_of_acquiring (hstate : t.orbit.state = .acquiring) (hpending : t.orbit.runPending = false) :
    beaconOp s = reAnchor t cand (leAt u.payload 0 5) (leAt u.payload 26 1) ((u.tsNs : Int) - off - (nth 0 t.clk.parentDelay cand : Nat)) := by
  simp only [beaconOp, hthread, hcand, hoff, hstate, hpending]
  rfl

/-- Past that the parent's own is followed. -/
theorem beaconOp_of_parent (hstate : t.orbit.state ≠ .acquiring) (hplans : enginePlans t = true) (hnext : t.orbit.parentNext = none)
    (hcell : u.parent.map (·.1) = some cand) (hparent : t.orbit.parent = some cand) :
    beaconOp s = followBeacon t u cand (leAt u.payload 0 5) (leAt u.payload 26 1) off := by
  simp only [beaconOp, hthread, hcand, hoff]
  rw [if_neg (by simp [hstate]), if_neg (by simp [hplans, hnext, hcell]), if_pos (by simp [hparent])]

end Beacon

section Ack

variable {l : Launch} {r : Nat} {f : Frame} (hthread : takeThread s ftAck = some (u, t))
  (hlaunch : ((t.radio.tx.toList.flatMap (·.awaiting)).find? fun l => some l.id == u.launch) = some l) (hrecord : l.record = some r)
include hthread hlaunch hrecord

/-- An acknowledgement of a node that is gone completes its frame. -/
theorem ackOp_of_gone (hgone : lookupAddr (orbitCount (awaitEnds t l) ocAcked) l.addr = none)
    (hframe : recordOf (orbitCount (awaitEnds t l) ocAcked) r = some f) :
    ackOp s = completeFrame (campaignAcked (schedAcked (mapAcked (orbitCount (awaitEnds t l) ocAcked) f) f) f) r fsOk false false := by
  simp only [ackOp, hthread, hlaunch, hgone, Option.bind_none, hrecord, Option.bind_some, hframe, Option.map_some]

/-- One of a node measures its clock too. -/
theorem ackOp_of_node {i : Nat} {n : NodeEntry} {e : Int} (hfound : lookupAddr (orbitCount (awaitEnds t l) ocAcked) l.addr = some i)
    (hnode : nodeAt (orbitCount (awaitEnds t l) ocAcked) i = some n) (he : u.e = some e) (m : State)
    (hm : m = sendContact (if n.adrift then adriftReturn (orbitCount (awaitEnds t l) ocAcked) i (some (e, u.tsNs)) false
      else clockMeasure (orbitCount (awaitEnds t l) ocAcked) i e u.tsNs false false) i)
    (hframe : recordOf m r = some f) :
    ackOp s = completeFrame (campaignAcked (schedAcked (mapAcked m f) f) f) r fsOk false false := by
  subst hm
  simp only [ackOp, hthread, hlaunch, hfound, Option.bind_some, hnode, Option.map_some, he, hrecord, hframe]

end Ack

/-- A context or a listen waits for the acknowledgement of a launch. -/
def isAckOf (id : Nat) (p : Purpose) : Bool := match p with | .ack k _ => k == id | _ => false

theorem isAckOf_iff {id : Nat} {p : Purpose} : isAckOf id p = true ↔ ∃ a, p = .ack id a := by
  cases p <;> simp [isAckOf]

/-- A message held for the twin carries the acknowledgement of a launch. -/
def holdsAckOf (id : Nat) (h : Hold) : Bool := match h with | .uplink u => u.launch == some id | _ => false

theorem holdsAckOf_iff {id : Nat} {h : Hold} : holdsAckOf id h = true ↔ ∃ u, h = .uplink u ∧ u.launch = some id := by
  cases h <;> simp [holdsAckOf]

/-- A window that ends without an acknowledgement sends its frame back, or flushes it past its attempts. -/
theorem ackWindowEndOp_of_silent {id : Nat} {l : Launch} {r : Nat} {f : Frame}
    (hlaunch : ((s.radio.tx.toList.flatMap (·.awaiting)).find? (·.id == id)) = some l)
    (hctxs : ∀ x ∈ s.radio.ctxs, ∀ a, x.2.purpose = .ack id a → ctxBusy x.2 = false ∧ (x.2.state = .idle ∨ x.2.listenEnd ≤ nowNs s))
    (hburst : ∀ q ∈ (s.radio.tx.get (bandOfD l.band)).burst, q.id ≠ id)
    (hplans : ∀ p ∈ s.orbit.plans, p.handed = true ∨ ∀ x ∈ p.listens, ∀ a, x.purpose ≠ .ack id a)
    (hthreads : ∀ u ∈ s.path.threads, u.launch ≠ some id)
    (hwaits : ∀ w ∈ s.pair.waits, ∀ u, w.hold = .uplink u → u.launch ≠ some id) (hrecord : l.record = some r)
    (hframe : recordOf (awaitEnds s l) r = some f) :
    ackWindowEndOp s id = if retryMax (awaitEnds s l) f.dest ≤ f.attempts then completeFrame (awaitEnds s l) r fsFlushed false false
      else returnFrame (awaitEnds s l) l := by
  simp only [ackWindowEndOp, hlaunch, hrecord, Option.bind_some, hframe, Option.map_some]
  have hopen : (s.radio.ctxs.any fun x =>
      isAckOf id x.2.purpose && (ctxBusy x.2 || (x.2.state != .idle && decide (nowNs s < x.2.listenEnd)))) = false := by
    refine List.any_eq_false.mpr fun x hx hwaits => ?_
    obtain ⟨hmine, hlistens⟩ := Bool.and_eq_true_iff.mp hwaits
    obtain ⟨a, ha⟩ := isAckOf_iff.mp hmine
    obtain ⟨hidle, hend⟩ := hctxs x hx a ha
    rcases hend with h | h <;> simp [hidle, h] at hlistens
    omega
  have hcoming : ((s.orbit.plans.filter fun p => !p.handed).any fun p => p.listens.any fun x => isAckOf id x.purpose) = false := by
    refine List.any_eq_false.mpr fun p hp hlistens => ?_
    obtain ⟨hmem, hwaits⟩ := List.mem_filter.mp hp
    obtain ⟨x, hx, hmine⟩ := List.any_eq_true.mp hlistens
    obtain ⟨a, ha⟩ := isAckOf_iff.mp hmine
    rcases hplans p hmem with h | h
    · simp [h] at hwaits
    · exact h x hx a ha
  have hlit : ((s.radio.tx.get (bandOfD l.band)).burst.any (·.id == id)) = false :=
    List.any_eq_false.mpr fun q hq => by simpa using hburst q hq
  have hcame : (s.path.threads.any fun u => u.launch == some id) = false :=
    List.any_eq_false.mpr fun u hu => by simpa using hthreads u hu
  have hheld : (s.pair.waits.any fun w => holdsAckOf id w.hold) = false := by
    refine List.any_eq_false.mpr fun w hw hmine => ?_
    obtain ⟨u, hu, hid⟩ := holdsAckOf_iff.mp hmine
    exact hwaits w hw u hu hid
  exact if_neg (Bool.not_eq_true _ ▸ Bool.or_eq_false_iff.mpr
    ⟨Bool.or_eq_false_iff.mpr ⟨Bool.or_eq_false_iff.mpr ⟨hopen, hcoming⟩, hlit⟩, Bool.or_eq_false_iff.mpr ⟨hcame, hheld⟩⟩)

end Threads

end Sys2Proof.Proofs
end

section
/-! Settled statements of received frames. -/

namespace Sys2Proof.Proofs

open Sys2Proof Sys2Proof.Machine Sys2Proof.Laws

/-- Settles O50. -/
theorem frameRows : Obligations.FrameRows := by
  refine ⟨?psdu, ?walk, ?classify, ?verify, ?none, ?deliver, ?sounding, ?retire, ?join, ?control, ?status, ?beacon, ?ackGone, ?ackNode, ?window⟩
  case psdu =>
    intro i psdu snr sh s r p
    dsimp only
    intro hrx hp hpsdu hfresh
    have hop := rxPsduEndOp_of_reception hrx hp hpsdu hfresh psdu snr sh
    refine ⟨fun htest => congrArg Host.Outcome.next (hop.trans (if_pos (by simp [htest]))), fun htraffic => ?_⟩
    have hframe := hop.trans (if_neg (by simp [htraffic]))
    refine ⟨fun hfull => congrArg Host.Outcome.next (hframe.trans (if_pos (by simp [hfull]))), fun hroom hlen hfcs => ?_, fun hroom hbad => ?_⟩
    · have hwhole := (hframe.trans (if_neg (by simp [hroom]))).trans (if_neg (by simp [hlen, hfcs]))
      exact ⟨fun hmasks => congrArg Host.Outcome.next (hwhole.trans (if_neg (by simp [hmasks]))),
        fun hnone => congrArg Host.Outcome.next (hwhole.trans (if_pos hnone))⟩
    · exact congrArg Host.Outcome.next ((hframe.trans (if_neg (by simp [hroom]))).trans
        (if_pos (by rcases hbad with h | h <;> simp [h])))
  case walk => exact fun s x sh k hrefused => walkFrame_of_refused hrefused sh
  case classify =>
    exact fun s x i n payload c => ⟨classifyUplink_of_replay payload, classifyUplink_of_duplicate payload, classifyUplink_of_new payload⟩
  case verify =>
    intro s x i n join go key hcase eui t hkey
    exact ⟨fun hmic => verifyNode_of_mic_holds go hcase hkey hmic, fun hmic => verifyNode_of_mic_fails i go hcase hkey hmic⟩
  case none => exact fun s hnone => congrArg Host.Outcome.next (by rw [uplinkDeliverOp, hnone])
  case deliver =>
    intro s u hfound t ring
    exact ⟨fun hcut hdata => congrArg Host.Outcome.next ((uplinkDeliverOp_of_whole hfound hcut).trans (if_pos hdata)),
      fun hcut hother => congrArg Host.Outcome.next ((uplinkDeliverOp_of_whole hfound hcut).trans (if_neg hother)),
      fun id pieces hcut => congrArg Host.Outcome.next (uplinkDeliverOp_of_cut hfound hcut)⟩
  case sounding =>
    intro i snrs s a n r p
    dsimp only
    intro hrx hsounder hp hstate hdue
    obtain ⟨hknown, hgone⟩ := soundingEndOp_of_due hrx hsounder hp hstate hdue snrs
    exact ⟨fun k hk => congrArg Host.Outcome.next (hknown k hk), fun hnone => congrArg Host.Outcome.next (hgone hnone)⟩
  case retire =>
    intro addr s gone
    obtain ⟨hkept, hdropped⟩ := toneMapRetireOp_eq (s := s) addr
    exact ⟨fun hnone => congrArg Host.Outcome.next (hkept hnone), fun hsome => congrArg Host.Outcome.next (hdropped hsome)⟩
  case join =>
    intro s u t hthread
    exact ⟨fun hclass => congrArg Host.Outcome.next (joinReqOp_of_bad_class hthread hclass),
      fun c hclass => ⟨fun i n hfound hnode => congrArg Host.Outcome.next (joinReqOp_of_known hthread hclass hfound hnode),
        fun hfound hallowed => congrArg Host.Outcome.next (joinReqOp_of_new hthread hclass hfound hallowed)⟩⟩
  case control =>
    intro s u t hthread priv
    refine ⟨fun rest hkind hlen hrole hzero hlow hhigh hmap => ?_, fun rest hkind hrole hlow hhigh => ?_, fun b rest hkind hb => ?_⟩
    · have hop := controlOp_of_map hthread hkind hlen hrole hzero hlow hhigh hmap
      exact ⟨fun hacked => congrArg Host.Outcome.next (hop.trans (if_pos hacked)),
        fun hwaits => congrArg Host.Outcome.next (hop.trans (if_neg (by simp [hwaits])))⟩
    · exact congrArg Host.Outcome.next (controlOp_of_request hthread hkind hrole hlow hhigh)
    · exact congrArg Host.Outcome.next (controlOp_of_unknown hthread hkind hb)
  case status =>
    intro s u t rest hthread hkind hruns hid hwords hlen htarget
    exact congrArg Host.Outcome.next (statusRxOp_of_target hthread hkind hruns hid hwords hlen htarget)
  case beacon =>
    intro s u t cand off hthread hcand hoff
    exact ⟨fun hstate hpending => congrArg Host.Outcome.next (beaconOp_of_acquiring hthread hcand hoff hstate hpending),
      fun hstate hplans hnext hcell hparent =>
        congrArg Host.Outcome.next (beaconOp_of_parent hthread hcand hoff hstate hplans hnext hcell hparent)⟩
  case ackGone =>
    intro s u t l r f hthread hlaunch hgone hrecord hframe
    exact congrArg Host.Outcome.next (ackOp_of_gone hthread hlaunch hrecord hgone hframe)
  case ackNode =>
    intro s u t l i n e r f hthread hlaunch hfound hnode he a m hrecord hframe
    exact congrArg Host.Outcome.next (ackOp_of_node hthread hlaunch hrecord hfound hnode he m rfl hframe)
  case window =>
    intro s id l r f hlaunch hctxs hburst hplans hthreads hwaits hrecord hframe
    have hop := ackWindowEndOp_of_silent hlaunch hctxs hburst hplans hthreads hwaits hrecord hframe
    exact ⟨fun hlast => congrArg Host.Outcome.next (hop.trans (if_pos hlast)),
      fun hagain => congrArg Host.Outcome.next (hop.trans (if_neg (Nat.not_le.mpr hagain)))⟩

end Sys2Proof.Proofs
end

section
/-! SUPPORT. The accesses of the host: the views' registers (R52, R57 to R60, R78, R552) and the SPI target (R48, R49). -/

namespace Sys2Proof.Proofs

open Sys2Proof Sys2Proof.Machine Sys2Proof.Laws

section Views

variable {s : State} {v : View}

/-- An enable of a ring that is not at work starts it at its first entry, or records that its size is none it can have. -/
theorem ringEnableOp_of_idle {r : RingId} {ctrl : W32} {x : RingRegs} (hanswers : viewsAnswer s = true) (hset : bitOf ctrl.toNat 31 = true)
    (henable : bitOf (ctrl &&& ctrlMask r).toNat 31 = true) (hring : ringRegs s v r = some x) (hidle : ringOn x = false ∨ x.active = false)
    (dma : Option Nat) :
    ringEnableOp s v r ctrl dma = if sizeOk r (bitsOf (ctrl &&& ctrlMask r).toNat 3 0) then startRing s v r (ctrl &&& ctrlMask r) dma
      else modRing s v r fun x => { x with ctrl := (ctrl &&& ctrlMask r) &&& 0x7FFFFFFF, faultSize := true, active := false } := by
  rw [ringEnableOp, if_pos (by simp [hanswers, hset])]
  simp only [ctrlWrite, hring]
  exact if_pos (by rw [henable]; rcases hidle with h | h <;> simp [h])

/-- A cleared enable ends a ring. -/
theorem ringTeardownOp_of_on {r : RingId} {ctrl : W32} {x : RingRegs} (hanswers : viewsAnswer s = true) (hclear : bitOf ctrl.toNat 31 = false)
    (hdisable : bitOf (ctrl &&& ctrlMask r).toNat 31 = false) (hring : ringRegs s v r = some x) (hon : ringOn x = true) :
    ringTeardownOp s v r ctrl = stopRing s v r (ctrl &&& ctrlMask r) := by
  rw [ringTeardownOp, if_pos (by simp [hanswers, hclear])]
  simp only [ctrlWrite, hring]
  rw [if_neg (by simp only [hdisable]; simp), if_pos (by rw [hdisable, hon]; rfl)]

/-- The mailbox takes its command, which is fetched in its turn. -/
theorem mboxGoOp_of_free (hserved : sessionServed s (.mbox v) = true) (hfree : (viewOf s v).mboxBusy = false) :
    let t := modView s v fun w => { w with mboxBusy := true, mboxWaits := true }
    mboxGoOp v s = if turn t = some (.mbox v) then deliver (mboxEntry t v) (fetchMbox v t) else t := by
  intro t
  have htakes : mboxGoOp v s = fetchOp (mboxEntry s v) t := if_pos (by simp [hserved, hfree])
  rw [htakes, fetchOp]
  by_cases hturn : turn t = some (.mbox v)
  · rw [if_pos hturn]
    exact if_neg (by rw [hturn]; simp [mboxEntry, entryOfBytes])
  · rw [if_neg hturn]
    exact if_pos (by simpa [mboxEntry, entryOfBytes] using hturn)

/-- The mirrored event is retired. -/
theorem evtAckOp_of_mirror {e : EventEntry} (h : mirrorEvent s v = some e) :
    evtAckOp s v = modView s v fun w => { w with latches := w.latches.drop 1 } :=
  if_pos (by rw [h]; rfl)

/-- A word of the mailbox takes what is written. -/
theorem plainWrite_of_mbox {i : Nat} (hi : i < 40) (value : W32) :
    plainWrite s v (0x500 + 4 * i) value = modView s v fun w => { w with mbox := mapSet w.mbox i value } := by
  have hindex : (0x500 + 4 * i - 0x500) / 4 = i := by omega
  rw [plainWrite, if_neg (by simp), if_neg (by omega), if_pos (by simp; omega), hindex]

/-- The end of a holdoff signals the vector of a ring with entries not reported. -/
theorem holdoffExpiryOp_of_unreported {r : RingId} {x : RingRegs} (hring : ringRegs s v r = some x) (hentries : x.unreported ≠ 0) :
    holdoffExpiryOp s v r = modRing (modView s v fun w => signalVector w (ringVector x)) v r fun x => { x with unreported := 0 } := by
  simp only [holdoffExpiryOp, hring]
  exact if_neg hentries

variable {e : CmdEntry}

/-- A channel's command is fetched in its turn. -/
theorem fetchOp_of_chan {n : Nat} (hsession : e.session = .chan v n) (hturn : turn s = some (.chan v n)) : fetchOp e s = fetchChan v n e s := by
  rw [fetchOp, if_neg (by rw [hturn, hsession]; simp), hsession]

/-- A mailbox's goes on to its function. -/
theorem fetchOp_of_mbox (hsession : e.session = .mbox v) (hturn : turn s = some (.mbox v)) :
    fetchOp e s = deliver (mboxEntry s v) (fetchMbox v s) := by
  rw [fetchOp, if_neg (by rw [hturn, hsession]; simp), hsession]

/-- The SPI target's goes on with what stands in its window. -/
theorem fetchOp_of_spi {f : CmdEntry} (hsession : e.session = .spi) (hturn : turn s = some .spi) (hwaits : s.host.spi.waits = some f) :
    fetchOp e s = deliver { f with buf := windowBytes s f } (fetchSpi s) := by
  rw [fetchOp, if_neg (by rw [hturn, hsession]; simp), hsession]
  simp only [hwaits]

/-- Out of its turn a session has none fetched. -/
theorem fetchOp_of_other_turn (h : turn s ≠ some e.session) : fetchOp e s = s :=
  if_pos (by simpa using h)

/-- A channel whose memory does not answer stops. -/
theorem fetchChan_of_fault {n : Nat} (h : dmaFails (chanOf s v n).regs = true) :
    fetchChan v n e s = modChan s v n fun c => { c with regs := { c.regs with faultDma := true, active := false } } :=
  if_pos h

/-- A word that names no command is answered, and any other is among those fetched. -/
theorem fetchChan_of_answer {n : Nat} (h : dmaFails (chanOf s v n).regs = false) :
    fetchChan v n e s = if (entryCmd e).isNone then respond (takeSlot (tookTurn s (.chan v n)) v n) e (refuse stBadOpcode) true
      else keepFetched (takeSlot (tookTurn s (.chan v n)) v n) e :=
  if_neg (by simp [h])

end Views

section Spi

variable {s : State}

/-- A transaction whose CRC holds acts, and returns its data with their CRC. -/
theorem spiChecked_of_good {opcode : Byte} {payload : List Byte} {crc : W16} (h : crc16 (opcode :: payload) = crc) (zeros : Nat)
    (go : State → State × List Byte) :
    spiChecked s opcode payload crc zeros go = spiEnd (go s).1 (spiStatus s) (if (go s).2.isEmpty then [] else withCrc (go s).2) false :=
  if_pos (by simp [h])

/-- One whose CRC fails is discarded whole and counted, and returns zeros with the complement of theirs. -/
theorem spiChecked_of_bad {opcode : Byte} {payload : List Byte} {crc : W16} (h : crc16 (opcode :: payload) ≠ crc) (zeros : Nat)
    (go : State → State × List Byte) :
    let z : List Byte := List.replicate zeros 0
    spiChecked s opcode payload crc zeros go = spiEnd (hostCount s hcSpiCrcError) (spiStatus s)
      (if zeros = 0 then [] else z ++ leBytes 2 (crc16 z ^^^ 0xFFFF#16).toNat) true :=
  if_neg (by simp [h])

/-- The SPI target takes one command at a time. -/
theorem takeSpi_of_served {e : CmdEntry} (hserved : sessionServed s .spi = true) (hsession : e.session = .spi) :
    let t := { s with host := { s.host with spi := { s.host.spi with outstanding := true, refused := false, waits := some e } } }
    takeSpi e s = if s.host.spi.outstanding then { s with host := { s.host with spi := { s.host.spi with refused := true } } }
      else if turn t = some .spi then deliver { e with buf := windowBytes t e } (fetchSpi t) else t := by
  intro t
  rw [takeSpi, if_neg (by simp [hserved])]
  refine ite_iff_congr Iff.rfl rfl ?_
  by_cases hturn : turn t = some .spi
  · rw [if_pos hturn]
    exact fetchOp_of_spi hsession hturn rfl
  · rw [if_neg hturn]
    exact fetchOp_of_other_turn (hsession ▸ hturn)

end Spi

end Sys2Proof.Proofs
end

section
/-! Settled statements of the host's accesses. -/

namespace Sys2Proof.Proofs

open Sys2Proof Sys2Proof.Machine Sys2Proof.Laws

/-- Settles O51. -/
theorem hostAccessRows : Obligations.HostAccessRows := by
  refine ⟨?prod, ?rspCons, ?eventCons, ?rxProd, ?txProd, ?tsCons, ?enable, ?teardown, ?mbox, ?ack, ?events, ?words, ?holdoff, ?channel, ?mailbox, ?other⟩
  case prod => exact fun v ch value s hanswers => congrArg Host.Outcome.next (if_pos hanswers)
  case rspCons => exact fun v ch value s hanswers => congrArg Host.Outcome.next (if_neg (by simp [hanswers]))
  case eventCons => exact fun v value s hanswers => congrArg Host.Outcome.next (if_neg (by simp [hanswers]))
  case rxProd => exact fun ring value bufs s hanswers => congrArg Host.Outcome.next (if_neg (by simp [hanswers]))
  case txProd => exact fun ring value s hanswers => congrArg Host.Outcome.next (if_pos hanswers)
  case tsCons => exact fun value s hanswers => congrArg Host.Outcome.next (if_neg (by simp [hanswers]))
  case enable =>
    intro v r ctrl dma s x
    dsimp only
    intro hanswers hset henable hring hidle
    have hop := ringEnableOp_of_idle hanswers hset henable hring hidle dma
    exact ⟨fun hsize => congrArg Host.Outcome.next (hop.trans (if_pos hsize)),
      fun hsize => congrArg Host.Outcome.next (hop.trans (if_neg (by rw [hsize]; decide)))⟩
  case teardown =>
    intro v r ctrl s x
    dsimp only
    intro hanswers hclear hdisable hring hon
    exact congrArg Host.Outcome.next (ringTeardownOp_of_on hanswers hclear hdisable hring hon)
  case mbox =>
    intro v s hserved hfree t
    have hop := mboxGoOp_of_free hserved hfree
    exact ⟨fun hturn => congrArg Host.Outcome.next (hop.trans (if_pos hturn)),
      fun hturn => congrArg Host.Outcome.next (hop.trans (if_neg hturn))⟩
  case ack => exact fun v s e hanswers hmirror => congrArg Host.Outcome.next ((if_pos hanswers).trans (evtAckOp_of_mirror hmirror))
  case events => exact fun v value s hanswers => congrArg Host.Outcome.next (if_pos hanswers)
  case words =>
    intro v i value s
    dsimp only
    intro hanswers hi
    exact congrArg Host.Outcome.next ((if_pos hanswers).trans (plainWrite_of_mbox hi value))
  case holdoff => exact fun v r s x hring hentries => congrArg Host.Outcome.next (holdoffExpiryOp_of_unreported hring hentries)
  case channel =>
    intro e s v n hsession hturn t
    have hop := fetchOp_of_chan hsession hturn
    have ht : t = takeSlot (tookTurn s (.chan v n)) v n := by simp only [t, hsession, tookTurn]
    clear_value t
    subst ht
    refine ⟨fun hgood => ?_, fun hfault => congrArg Host.Outcome.next (hop.trans (fetchChan_of_fault hfault))⟩
    have hanswer := hop.trans (fetchChan_of_answer hgood)
    exact ⟨fun hnone => congrArg Host.Outcome.next (hanswer.trans (if_pos (by simp [hnone]))),
      fun hsome => congrArg Host.Outcome.next (hanswer.trans (if_neg (by simpa using hsome)))⟩
  case mailbox => exact fun e s v hsession hturn => congrArg Host.Outcome.next (fetchOp_of_mbox hsession hturn)
  case other => exact fun e s hturn => congrArg Host.Outcome.next (fetchOp_of_other_turn hturn)

/-- Bytes read past the first are some. -/
theorem memReadBytes_ne_nil {m : Memory} {a n : Nat} (h : 1 ≤ n) : (memReadBytes 0 m a n).isEmpty = false := by
  obtain ⟨k, rfl⟩ := Nat.exists_eq_add_of_le' h
  rfl

/-- Settles O52. -/
theorem spiRows : Obligations.SpiRows := by
  refine ⟨?command, ?take, ?commandBad, ?response, ?event, ?regRead, ?regWrite, ?dataWrite, ?dataRead, ?bad⟩
  case command =>
    intro payload crc s hanswers hcrc
    exact congrArg Host.Outcome.next ((if_neg (by simp [hanswers])).trans (spiChecked_of_good hcrc _ _))
  case take =>
    intro e s hserved hsession
    have hop := takeSpi_of_served hserved hsession
    refine ⟨fun hbusy => hop.trans (if_pos hbusy), fun hfree => ?_⟩
    have htaken := hop.trans (if_neg (by simp [hfree]))
    exact ⟨fun hturn => htaken.trans (if_pos hturn), fun hturn => htaken.trans (if_neg hturn)⟩
  case commandBad =>
    intro payload crc s hanswers hcrc
    exact congrArg Host.Outcome.next ((if_neg (by simp [hanswers])).trans (spiChecked_of_bad hcrc _ _))
  case response =>
    intro s hanswers
    exact ⟨fun hnone => congrArg Host.Outcome.next (by simp [rspReadOp, hanswers, hnone]),
      fun r rest hsome => congrArg Host.Outcome.next (by simp [rspReadOp, hanswers, hsome])⟩
  case event =>
    intro s hanswers
    exact ⟨fun hnone => congrArg Host.Outcome.next (by simp [evtReadOp, hanswers, hnone]),
      fun e hsome => congrArg Host.Outcome.next (by simp [evtReadOp, hanswers, hsome, evtAckOp_of_mirror hsome])⟩
  case regRead =>
    intro payload crc s hanswers z
    exact ⟨fun hcrc => congrArg Host.Outcome.next ((if_neg (by simp [hanswers])).trans (spiChecked_of_good hcrc _ _)),
      fun hcrc => congrArg Host.Outcome.next ((if_neg (by simp [hanswers])).trans (spiChecked_of_bad hcrc _ _))⟩
  case regWrite =>
    intro payload crc s hanswers hcrc off value t
    refine congrArg Host.Outcome.next ((if_neg (by simp [hanswers])).trans ((spiChecked_of_good hcrc _ _).trans ?_))
    exact congrArg (spiEnd · _ _ _) (ite_iff_congr (by simp [off, value]) rfl rfl)
  case dataWrite =>
    intro payload crc s hanswers hcrc
    exact congrArg Host.Outcome.next ((if_neg (by simp [hanswers])).trans (spiChecked_of_good hcrc _ _))
  case dataRead =>
    intro payload crc s hanswers hcrc hlen
    refine congrArg Host.Outcome.next ((if_neg (by simp [hanswers])).trans ((spiChecked_of_good hcrc _ _).trans ?_))
    exact congrArg (spiEnd _ _ · _) (if_neg (by rw [memReadBytes_ne_nil (by omega)]; decide))
  case bad =>
    intro payload crc s hanswers bad z
    refine ⟨fun hcrc => ?_, fun hcrc => ?_, fun hcrc hlen => ?_⟩
    · exact congrArg Host.Outcome.next ((if_neg (by simp [hanswers])).trans (spiChecked_of_bad hcrc _ _))
    · exact congrArg Host.Outcome.next ((if_neg (by simp [hanswers])).trans (spiChecked_of_bad hcrc _ _))
    · refine congrArg Host.Outcome.next ((if_neg (by simp [hanswers])).trans ((spiChecked_of_bad hcrc _ _).trans ?_))
      exact congrArg (spiEnd _ _ · _) (if_neg (by omega))

end Sys2Proof.Proofs
end

section
/-! SUPPORT. The twin pair: the gate (R445), the heartbeats and the lease (R436 to R440), the messages of the link (R433, R443, R446, R447),
the link's states (R432), the takeover (R452) and the return of a unit (R456). -/

namespace Sys2Proof.Proofs

open Sys2Proof Sys2Proof.Machine Sys2Proof.Laws

section Gate

variable {s : State}

/-- An open gate closes: bursts end or are cut, the lines go to their safe levels, and the tests behind the gate stop. -/
theorem closeGate_of_open (hopen : s.pair.gateOpen = true) :
    closeGate s =
      let u := bands.foldl (fun s b => burstEndOp s b) s
      let v := bands.foldl (fun s b => cutBurst s b (some tcEclipseCut)) u
      stopGatedTests { v with pair := { v.pair with gateOpen := false }, radio := { v.radio with tx := v.radio.tx.all safeLines } } :=
  if_neg (by simp [hopen])

/-- A closed gate opens: the frames held behind it go, and each band's bypass line takes its live level. -/
theorem openGate_of_closed (hclosed : s.pair.gateOpen = false) :
    openGate s = bands.foldl (fun s b => modTx s b fun x => { x with lnaByp := linesLive s b && x.lnaStatic })
      (flushHeld (flushHeld { s with pair := { s.pair with gateOpen := true } } 0) 1) :=
  if_neg (by simp [hclosed])

/-- A heartbeat that is due on an enabled pair. -/
theorem heartbeatSendOp_of_due (henabled : s.pair.enabled = true) (hruns : firmwareRuns s = true)
    (hdue : ∀ t, s.pair.hbAt = some t → t + s.pair.hbUs * 1000 ≤ s.upNs) :
    heartbeatSendOp s =
      let l := if s.role = .active ∧ s.pair.noRenew = false then modPair s fun p => { p with leaseEnd := some (s.upNs + s.pair.leaseUs * 1000) }
        else s
      let b := modPair l fun p => { p with lineSent := p.lineSent ++ [hbWord l], hbSeq := (p.hbSeq + 1) % 16, hbAt := some l.upNs }
      gateOpenOp (linkSend b lmHeartbeat (leBytes 8 (hbWord l).toNat)) := by
  have hnow : (match s.pair.hbAt with | some t => decide (t + s.pair.hbUs * 1000 ≤ s.upNs) | none => true) = true := by
    cases hat : s.pair.hbAt with
    | none => rfl
    | some t => exact decide_eq_true (hdue t hat)
  have hrenew : (if s.role == .active && !s.pair.noRenew then
        modPair s fun p => { p with leaseEnd := some (s.upNs + s.pair.leaseUs * 1000) } else s)
      = if s.role = .active ∧ s.pair.noRenew = false then
          modPair s fun p => { p with leaseEnd := some (s.upNs + s.pair.leaseUs * 1000) } else s :=
    ite_iff_congr (by simp) rfl rfl
  rw [← hrenew]
  exact if_neg (by simp [henabled, hruns]; exact hnow)

/-- A heartbeat heard on the lines whose CRC holds is taken of the twin. -/
theorem lineHeartbeatOp_of_crc {w : W64} (hcrc : bitsOf w.toNat 7 0 = hbCrc w.toNat) :
    lineHeartbeatOp s w = hearTwin (pairCount (modPair s fun p => { p with lineAt := some s.upNs }) pcHbLine 1) w :=
  if_neg (by simp [hcrc])

/-- A heartbeat heard on the lines whose CRC fails only counts. -/
theorem lineHeartbeatOp_of_bad_crc {w : W64} (hcrc : bitsOf w.toNat 7 0 ≠ hbCrc w.toNat) :
    lineHeartbeatOp s w = pairCount s pcHbCrc 1 :=
  if_pos (by simpa using hcrc)

end Gate

section Link

variable {s : State} {h : LinkHdr}

/-- The state after a message in order whose tag holds: its number counts, and the link was heard. -/
def linkHeard (s : State) : State :=
  modPair (linkUse s) fun p => { p with rxSeq := p.rxSeq + 1, tagFails := 0, linkAt := some s.upNs }

/-- Over a link that is not up no message is taken. -/
theorem linkTake_of_not_up (hlink : s.pair.link ≠ .up) : linkTake s h = (s, false) :=
  if_pos (by simp [hlink])

/-- A message in order whose tag holds is taken. -/
theorem linkTake_of_in_order (hlink : s.pair.link = .up) (htest : resourceTested s 3 = false) (htag : h.tagOk = true)
    (hseq : h.seq = s.pair.rxSeq) : linkTake s h = (linkHeard s, true) :=
  (if_neg (by simp [hlink, htest])).trans <| (if_neg (by simp [htag])).trans <| if_neg (by simp [hseq])

/-- A message out of order whose tag holds is lost with those before it, and the replica goes stale. -/
theorem linkTake_of_out_of_order (hlink : s.pair.link = .up) (htest : resourceTested s 3 = false) (htag : h.tagOk = true)
    (hseq : h.seq ≠ s.pair.rxSeq) :
    linkTake s h = (replicaStale (pairCount (modPair (linkUse s) fun p => { p with rxSeq := h.seq + 1, tagFails := 0 }) pcTagFail 1), false) :=
  (if_neg (by simp [hlink, htest])).trans <| (if_neg (by simp [htag])).trans <| if_pos (by simpa using hseq)

/-- A record message that is not taken changes nothing further. -/
theorem commitOp_of_not_taken {t : State} (htake : linkTake s h = (t, false)) (recs : List CommitRec) : commitOp s h recs = t := by
  simp only [commitOp, htake]

end Link

section Messages

/-! A message that is taken in the state `t`. -/

variable {s t : State} {h : LinkHdr} (htake : linkTake s h = (t, true))
include htake

/-- A heartbeat over the link whose CRC holds is taken of the twin. -/
theorem heartbeatOp_of_crc {w : W64} (hcrc : bitsOf w.toNat 7 0 = hbCrc w.toNat) :
    heartbeatOp s h w = hearTwin (pairCount t pcHbLink 1) w := by
  simp only [heartbeatOp, htake]
  exact if_neg (by simp [hcrc])

/-- A hello is answered, unless it is an answer itself; one that does not fit is a configuration error. -/
theorem helloOp_of_misfit {m : HelloMsg} {u : State}
    (hu : u = if t.pair.helloAsked then modPair t fun p => { p with helloAsked := false } else sendHello t false)
    (hfits : helloFits u m = false) :
    helloOp s h m = pairCount (modPair u fun p => { p with helloOk := false, helloBad := true }) pcConfigErr 1 := by
  simp only [helloOp, htake]
  rw [← hu]
  exact if_pos (by simp [hfits])

/-- A hello that fits and shows the same keys opens the replication. -/
theorem helloOp_of_same_keys {m : HelloMsg} {u : State}
    (hu : u = if t.pair.helloAsked then modPair t fun p => { p with helloAsked := false } else sendHello t false)
    (hfits : helloFits u m = true) (hkeys : ∀ k, k ∈ keyChecks u ↔ k ∈ m.kcvs) :
    helloOp s h m =
      let v := maybeSync (modPair u fun p => { p with helloOk := true, helloBad := false, kcvDiffer := false })
      if v.role = .active ∧ v.pair.replica = .syncing then nextSync v else v := by
  have hsame : ((keyChecks u).all (fun k => m.kcvs.contains k) && m.kcvs.all fun k => (keyChecks u).contains k) = true := by
    simpa using ⟨fun a b hk => (hkeys (a, b)).mp hk, fun a b hk => (hkeys (a, b)).mpr hk⟩
  simp only [helloOp, htake]
  rw [← hu]
  refine (if_neg (by simp [hfits])).trans ?_
  rw [hsame]
  exact ite_iff_congr (by simp) rfl rfl

/-- A follower applies the records of a commit and acknowledges them. -/
theorem commitOp_of_follows (hfollows : follows t = true) (recs : List CommitRec) :
    commitOp s h recs = sendAck (recs.foldl applyCommit (accessDoms t tableDoms)) h := by
  simp only [commitOp, htake]
  exact if_pos hfollows

/-- A follower applies the records of a journal and acknowledges them. -/
theorem journalOp_of_follows (hfollows : follows t = true) (recs : List JournalMsg) :
    journalOp s h recs = sendAck (recs.foldl applyJournal (accessDoms t tableDoms)) h := by
  simp only [journalOp, htake]
  exact if_pos hfollows

/-- A follower applies a setting of the active unit and acknowledges it. -/
theorem configOp_of_follows (run : CmdEntry → State → State) (hfollows : follows t = true) (m : ConfigMsg) :
    configOp run s h m = sendAck (applyConfig run t m) h := by
  simp only [configOp, htake]
  exact if_pos hfollows

/-- A follower takes what a contact changed of an entry that names the same node. -/
theorem contactOp_of_follows {i : Nat} {e : BitVec 512} {n : NodeEntry} (hfollows : follows t = true) (hnode : nodeAt t i = some n)
    (haddr : n.meshAddr = (entryOf (leBytes 64 e.toNat)).meshAddr) :
    contactOp s h i e = fileAsIs (writeEntry (accessDoms t tableDoms) i (withContact n (entryOf (leBytes 64 e.toNat)))) i := by
  simp only [contactOp, htake, hnode]
  exact if_pos (by simp [hfollows, haddr])

/-- An acknowledgement of commits releases what waited for them. -/
theorem commitAckOp_of_taken (first last : W32) :
    commitAckOp s h first last =
      let u := releaseWaits t fun w => decide ((w.seq - first).toNat ≤ (last - first).toNat)
      if u.role = .active ∧ u.pair.replica = .syncing then nextSync u else u := by
  simp only [commitAckOp, htake]
  exact ite_iff_congr (by simp) rfl rfl

/-- A standby records the epochs of the active unit, each one further, and acknowledges them. -/
theorem epochOp_of_standby (hrole : t.role = .standby) (r : EpochRec) :
    epochOp s h r =
      let up (e : BitVec 12) : BitVec 12 := if e = 0xFFF then e else e + 1
      let r' := { r with epochCur := up r.epochCur, epochPrev := up r.epochPrev }
      sendAck (modCrypt (programRecord t fun x => { x with epochs := some r' }) fun c => { c with flashEpochs := r', epochWrite := none }) h := by
  simp only [epochOp, htake]
  exact if_neg (by simp [hrole])

/-- A standby measures its time against the active unit's by an exchange of times. -/
theorem timeOp_of_standby (hrole : t.role = .standby) (t1 t2 t3 t4 : W64) :
    timeOp s h t1 t2 t3 t4 = measure t 5 (((((t2.toNat : Int) - t1.toNat) - ((t4.toNat : Int) - t3.toNat) : Int) : Rat) / 2) 100 := by
  simp only [timeOp, htake]
  exact if_pos (by simp [hrole])

/-- Any other unit sends the times of an exchange back. -/
theorem timeOp_of_not_standby (hrole : t.role ≠ .standby) (t1 t2 t3 t4 : W64) :
    timeOp s h t1 t2 t3 t4 =
      linkSend t lmTime (leBytes 8 t1.toNat ++ leBytes 8 t2.toNat ++ leBytes 8 t3.toNat ++ leBytes 8 t4.toNat) := by
  simp only [timeOp, htake]
  exact if_neg (by simp [hrole])

/-- A standby applies a piece of the synchronisation and acknowledges it. -/
theorem syncOp_of_standby (run : CmdEntry → State → State) (hrole : t.role = .standby) (p : SyncPiece) :
    syncOp run s h p = sendAck (applySync run (accessDoms t tableDoms) p) h := by
  simp only [syncOp, htake]
  exact if_pos (by simp [hrole])

end Messages

section Roles

variable {s : State}

/-- A link that goes down takes the hello and the replica with it, and the unit works on alone. -/
theorem linkDownOp_of_up (hlink : s.pair.link = .up) :
    linkDownOp s =
      let t := pairCount (modPair s fun p => { p with link := .down, helloOk := false, helloAsked := false, tagFails := 0 }) pcLinkDown 1
      let u := if s.role = .active ∧ s.pair.replica = .syncing then modPair t fun p => { p with replica := .stale, sync := none, delta := [] }
        else t
      goSolo (replicaStale (invalidate u 5)) 4 := by
  refine (if_neg (by simp [hlink])).trans ?_
  exact congrArg (fun u => goSolo (replicaStale (invalidate u 5)) 4) (ite_iff_congr (by simp [pairCount, modPair]) rfl rfl)

/-- A link that comes up numbers its messages from 0 and says hello. -/
theorem linkUpOp_of_down (henabled : s.pair.enabled = true) (hlink : s.pair.link ≠ .up) (htest : resourceTested s 3 = false) :
    linkUpOp s = sendHello (modPair s fun p => { p with link := .up, txSeq := 0, rxSeq := 0, tagFails := 0 }) true :=
  if_neg (by simp [henabled, hlink, htest])

/-- A commit that is not acknowledged in time leaves the active unit alone. -/
theorem replTimeoutOp_of_late {w : Waiting} {rest : List Waiting} (hwaits : s.pair.waits = w :: rest) (hrole : s.role = .active)
    (hlate : w.since + s.pair.replTimeoutUs * 1000 ≤ s.upNs) : replTimeoutOp s = goSolo (pairCount s pcCommitTimeout 1) 4 := by
  simp only [replTimeoutOp, hwaits]
  exact if_pos (by simp [hrole, hlate])

/-- A lease that ends closes the gate. -/
theorem leaseExpiryOp_of_ended {t : Nat} (hlease : s.pair.leaseEnd = some t) (hnow : t ≤ s.upNs) :
    leaseExpiryOp s = closeGate (modPair s fun p => { p with leaseEnd := none }) := by
  simp only [leaseExpiryOp, hlease]
  exact if_pos hnow

/-- An undecided unit that heard no twin takes the active role. -/
theorem startupOp_of_ended {t : Nat} (hend : s.pair.startupEnd = some t) (hrole : s.role = .undecided) (henabled : s.pair.enabled = true)
    (hgood : s.pair.helloBad = false) (hnow : t ≤ s.upNs) (hruns : firmwareRuns s = true) : startupOp s = takeOver s 0 := by
  simp only [startupOp, hend]
  exact if_pos (by simp [hrole, henabled, hgood, hnow, hruns])

/-- A standby takes over at the instant judged, by the cause its twin's role gives. -/
theorem takeoverOp_of_judged {t : Nat} (hend : s.pair.judgedEnd = some t) (hrole : s.role = .standby) (hnow : t ≤ s.upNs) :
    takeoverOp s = takeOver s (if hbRole s.pair.twinHb = 2 then 1 else 0) := by
  simp only [takeoverOp, hend]
  exact (if_pos (by simp [hrole, hnow])).trans (congrArg _ (ite_iff_congr (by simp) rfl rfl))

/-- An active unit that hears its twin on neither path yields, where its policy says so. -/
theorem isolationOp_of_silent (hrole : s.role = .active) (hpolicy : s.pair.yieldPolicy = true)
    (hline : silentFor s s.pair.lineAt (s.pair.leaseUs * 1000) = true) (hlink : silentFor s s.pair.linkAt (s.pair.leaseUs * 1000) = true) :
    isolationOp s = becomeStandby (releaseWaits (modPair (closeGate s) fun p => { p with leaseEnd := none }) fun _ => true) .stale :=
  if_pos (by simp [hrole, hpolicy, hline, hlink])

end Roles

end Sys2Proof.Proofs

/-! Settled statements of the twin pair. -/

namespace Sys2Proof.Proofs

open Sys2Proof Sys2Proof.Machine Sys2Proof.Laws

/-- Settles O53: the gate and the heartbeats by their guards, each message through what the link takes of it, the ends of links, leases and
roles by their instants. -/
theorem pairRows : Obligations.PairRows := by
  unfold Obligations.PairRows
  refine ⟨?gate, ?closes, ?opens, ?heartbeat, ?line, ?messages, ?untaken, ?down, ?up, ?timeout, ?lease, ?startup, ?takeover, ?isolation⟩
  case gate =>
    exact fun s => ⟨fun hmay => congrArg Host.Outcome.next (if_pos hmay), fun hmay => congrArg Host.Outcome.next (if_neg (by simp [hmay]))⟩
  case closes => exact fun s hopen => closeGate_of_open hopen
  case opens => exact fun s hclosed => openGate_of_closed hclosed
  case heartbeat =>
    intro s henabled hruns hdue
    exact congrArg Host.Outcome.next (heartbeatSendOp_of_due henabled hruns hdue)
  case line =>
    exact fun w s => ⟨fun hcrc => congrArg Host.Outcome.next (lineHeartbeatOp_of_crc hcrc),
      fun hcrc => congrArg Host.Outcome.next (lineHeartbeatOp_of_bad_crc hcrc)⟩
  case messages =>
    intro h s hlink htest htag hseq t
    have htake : linkTake s h = (t, true) := linkTake_of_in_order hlink htest htag hseq
    clear_value t
    refine ⟨?heard, ?hello, ?follower, ?acked, ?epoch, ?time, ?sync⟩
    case heard => exact fun w hcrc => congrArg Host.Outcome.next (heartbeatOp_of_crc htake hcrc)
    case hello =>
      intro m u
      exact ⟨fun hfits => congrArg Host.Outcome.next (helloOp_of_misfit htake rfl hfits),
        fun hfits hkeys => congrArg Host.Outcome.next (helloOp_of_same_keys htake rfl hfits hkeys)⟩
    case follower =>
      intro hfollows a
      exact ⟨fun recs => congrArg Host.Outcome.next (commitOp_of_follows htake hfollows recs),
        fun recs => congrArg Host.Outcome.next (journalOp_of_follows htake hfollows recs),
        fun m => congrArg Host.Outcome.next (configOp_of_follows htake runReplicated hfollows m),
        fun i e n hnode haddr => congrArg Host.Outcome.next (contactOp_of_follows htake hfollows hnode haddr)⟩
    case acked => exact fun first last => congrArg Host.Outcome.next (commitAckOp_of_taken htake first last)
    case epoch => exact fun r hrole => congrArg Host.Outcome.next (epochOp_of_standby htake hrole r)
    case time =>
      exact fun t1 t2 t3 t4 => ⟨fun hrole => congrArg Host.Outcome.next (timeOp_of_standby htake hrole t1 t2 t3 t4),
        fun hrole => congrArg Host.Outcome.next (timeOp_of_not_standby htake hrole t1 t2 t3 t4)⟩
    case sync => exact fun p hrole => congrArg Host.Outcome.next (syncOp_of_standby htake runReplicated hrole p)
  case untaken =>
    exact fun h s recs =>
      ⟨fun hlink => congrArg Host.Outcome.next (commitOp_of_not_taken (linkTake_of_not_up hlink) recs),
        fun hlink htest htag hseq => congrArg Host.Outcome.next (commitOp_of_not_taken (linkTake_of_out_of_order hlink htest htag hseq) recs)⟩
  case down =>
    intro s hlink
    exact congrArg Host.Outcome.next (linkDownOp_of_up hlink)
  case up =>
    intro s henabled hlink htest
    exact congrArg Host.Outcome.next (linkUpOp_of_down henabled hlink htest)
  case timeout =>
    intro s w rest hwaits hrole hlate
    exact congrArg Host.Outcome.next (replTimeoutOp_of_late hwaits hrole hlate)
  case lease =>
    intro s t hlease hnow
    exact congrArg Host.Outcome.next (leaseExpiryOp_of_ended hlease hnow)
  case startup =>
    intro s t hend hrole henabled hgood hnow hruns
    exact congrArg Host.Outcome.next (startupOp_of_ended hend hrole henabled hgood hnow hruns)
  case takeover =>
    intro s t hend hrole hnow
    exact congrArg Host.Outcome.next (takeoverOp_of_judged hend hrole hnow)
  case isolation =>
    intro s hrole hpolicy hline hlink
    exact congrArg Host.Outcome.next (isolationOp_of_silent hrole hpolicy hline hlink)

end Sys2Proof.Proofs
end

section
/-! SUPPORT. Work items (R379 to R385), ring entries and lifetimes (R60, R67), queues, their spills and refills (R386 to R391) and the arbiter
(R397, R399). -/

namespace Sys2Proof.Proofs

open Sys2Proof Sys2Proof.Machine Sys2Proof.Laws

section Items

variable {s : State} {item : WorkItem}

/-- An item submitted while the firmware runs is taken or refused, and what is ready is dispatched. -/
theorem workSubmitOp_of_runs (hruns : firmwareRuns s = true) : workSubmitOp s item = dispatchWork (submitWork s item) := if_pos hruns

/-- Without a cell, or behind a producer that is held, the item's producer is held. -/
theorem submitWork_of_held (h : workCellsFree s = 0 ∨ s.queue.held ≠ []) :
    submitWork s item = modQueue s fun q => { q with held := q.held ++ [item] } :=
  if_pos (by simpa using h)

/-- Of the last cells an item of a low priority is refused. -/
theorem submitWork_of_refused (hnone : s.queue.held = []) (hsome : 0 < workCellsFree s) (hfew : workCellsFree s ≤ 1024)
    (hprio : 4 ≤ item.prio.toNat) :
    submitWork s item = loseItem (queueCount s qcRefused 1) { item := item, enqNs := s.clk.timeNs } :=
  (if_neg (by simp [hnone]; omega)).trans (if_pos (by simp [hfew, hprio]))

/-- An item for which there is room enters. -/
theorem submitWork_of_room (hnone : s.queue.held = []) (hroom : 1024 < workCellsFree s ∨ (0 < workCellsFree s ∧ item.prio.toNat < 4)) :
    submitWork s item = enterWork s item :=
  (if_neg (by simp [hnone]; omega)).trans (if_neg (by simp; omega))

/-- An item enters its ready list, or waits where its flow is busy. -/
theorem enterWork_eq : enterWork s item =
    let w : WorkRec := { item := item, enqNs := s.clk.timeNs }
    let t := queueCount s qcSubmitted 1
    let f := flowOf t (flowIndex item.flowKey)
    if (item.isAtomic && (f.busy || !(fifoAll f.deferred).isEmpty)) = true then
      queueCount (setFlow t (flowIndex item.flowKey) { f with deferred := fifoPush f.deferred w }) qcDeferred 1
    else modReady t item.prio.toNat fun l => fifoPush l w := rfl

/-- A core that runs an item completes it, and an atomic one's flow goes on. -/
theorem coreCompleteOp_of_running {n : Nat} {w : WorkRec} (hrun : (coreOf s n).running = some w) :
    coreCompleteOp s n =
      let t := setCore s n { coreOf s n with running := none }
      dispatchWork (if w.item.isAtomic then commitDeletes (releaseFlow t (flowIndex w.item.flowKey)) else t) := by
  simp only [coreCompleteOp, hrun]

end Items

section Frames

variable {s : State}

/-- A transmit ring that has an entry for which the pool has room is fetched from, unless its DMA fails. -/
theorem txFetchOp_of_room {ring : Nat} {e : TxEntry} {payload : List Byte} {r : TxRing} {body : List Byte}
    (hr : r = nth TxRing.reset s.host.tx ring) (hbody : body = sliceBytes payload 0 (bitsOf e.ctl.toNat 10 0)) (hpcie : pcieExists s = true)
    (hrun : inRun s = true) (hradio : radioStopped s = false) (htamper : s.key.tampered = false) (hon : ringOn r.regs = true)
    (hactive : r.regs.active = true) (hentry : r.regs.prod ≠ r.regs.cons) (hroom : poolHasRoom s body.length = true) :
    txFetchOp s ring e payload =
      if dmaFails r.regs = true then { s with host := { s.host with tx := modNth s.host.tx ring fun x => { x with regs := dmaStop x.regs } } }
      else classifyEntry
        (accessDoms { s with host := { s.host with tx := modNth s.host.tx ring fun x =>
          { x with regs := advanceCons (dmaUse x.regs), live := x.live + 1 } } } (lookupDoms ++ shaperDoms))
        ring r.regs.cons.toNat r.era e body := by
  subst hr hbody
  exact if_neg (by simp [hpcie, hrun, hradio, htamper, hon, hactive, hentry, hroom])

/-- A record whose lifetime has ended. -/
theorem lifetimeOp_of_expired {r : Nat} {f : Frame} {t : Nat} (hrecord : recordOf s r = some f) (hends : f.expires = some t)
    (hnow : t ≤ s.upNs) :
    lifetimeOp s r =
      if anyLow s shaperDoms = true then accessDoms s shaperDoms
      else if f.onAir = true then modRecord s r fun f => { f with doomed := true }
      else queueCount (completeFrame s r fsFlushed false false) qcExpired 1 := by
  simp only [lifetimeOp, hrecord, hends]
  exact if_neg (by omega)

end Frames

section Fifos

variable {s : State}

/-- A spill moves entries, and keeps them in their order. -/
theorem fifoAll_fifoSpill {α : Type} (f : Fifo α) : fifoAll (fifoSpill f) = fifoAll f := by
  unfold fifoSpill
  split <;> simp [fifoAll]

/-- A refill moves entries, and keeps them in their order. -/
theorem fifoAll_fifoRefill {α : Type} (f : Fifo α) : fifoAll (fifoRefill f) = fifoAll f := by
  unfold fifoRefill
  split
  · rfl
  · split
    next hempty => simp [fifoAll, List.isEmpty_iff.mp hempty]
    next => simp [fifoAll]

/-- A refill of a list whose cell is bad resets it. -/
theorem refillTail_of_bad {f : FifoId} (hbad : bulkBad s (.tailCell f) = true) : refillTail s f = resetFifo (bulkLose s (.tailCell f)) f 0 :=
  if_pos hbad

/-- A shaping queue whose pointers agree spills. -/
theorem spillTail_shaping {q : Nat} (h : mismatchOf (queueOf s q).fifo = none) :
    spillTail s (.shaping q) = modShape s q fun x => { x with fifo := fifoSpill x.fifo } := by
  simp only [spillTail, h]

/-- A shaping queue whose pointers differ is reset when it should spill. -/
theorem spillTail_shaping_of_mismatch {q k : Nat} (h : mismatchOf (queueOf s q).fifo = some k) :
    spillTail s (.shaping q) = resetFifo s (.shaping q) k := by
  simp only [spillTail, h]

/-- A shaping queue whose pointers agree refills, and its head drops what is gone. -/
theorem refillTail_shaping {q : Nat} (h : mismatchOf (queueOf s q).fifo = none) (hgood : bulkBad s (.tailCell (.shaping q)) = false) :
    refillTail s (.shaping q) = trimHead (modShape s q fun x => { x with fifo := fifoRefill x.fifo }) q := by
  simp only [refillTail, h]
  exact if_neg (by simp [hgood])

/-- A shaping queue whose pointers differ is reset when it should refill. -/
theorem refillTail_shaping_of_mismatch {q k : Nat} (h : mismatchOf (queueOf s q).fifo = some k)
    (hgood : bulkBad s (.tailCell (.shaping q)) = false) : refillTail s (.shaping q) = resetFifo s (.shaping q) k := by
  simp only [refillTail, h]
  exact if_neg (by simp [hgood])

/-- A ready list whose pointers agree spills. -/
theorem spillTail_ready {p : Nat} (h : mismatchOf (readyOf s p) = none) : spillTail s (.ready p) = modReady s p fifoSpill := by
  simp only [spillTail, h]

/-- A ready list whose pointers differ is reset when it should spill. -/
theorem spillTail_ready_of_mismatch {p k : Nat} (h : mismatchOf (readyOf s p) = some k) :
    spillTail s (.ready p) = resetFifo s (.ready p) k := by
  simp only [spillTail, h]

/-- A ready list whose pointers agree refills. -/
theorem refillTail_ready {p : Nat} (h : mismatchOf (readyOf s p) = none) (hgood : bulkBad s (.tailCell (.ready p)) = false) :
    refillTail s (.ready p) = modReady s p fifoRefill := by
  simp only [refillTail, h]
  exact if_neg (by simp [hgood])

/-- A ready list whose pointers differ is reset when it should refill. -/
theorem refillTail_ready_of_mismatch {p k : Nat} (h : mismatchOf (readyOf s p) = some k) (hgood : bulkBad s (.tailCell (.ready p)) = false) :
    refillTail s (.ready p) = resetFifo s (.ready p) k := by
  simp only [refillTail, h]
  exact if_neg (by simp [hgood])

/-- A deferred list whose pointers agree spills. -/
theorem spillTail_deferred {i : Nat} (h : mismatchOf (flowOf s i).deferred = none) :
    spillTail s (.deferred i) = setFlow s i { flowOf s i with deferred := fifoSpill (flowOf s i).deferred } := by
  simp only [spillTail, h]

/-- A deferred list whose pointers differ is reset when it should spill. -/
theorem spillTail_deferred_of_mismatch {i k : Nat} (h : mismatchOf (flowOf s i).deferred = some k) :
    spillTail s (.deferred i) = resetFifo s (.deferred i) k := by
  simp only [spillTail, h]

/-- A deferred list whose pointers agree refills. -/
theorem refillTail_deferred {i : Nat} (h : mismatchOf (flowOf s i).deferred = none) (hgood : bulkBad s (.tailCell (.deferred i)) = false) :
    refillTail s (.deferred i) = setFlow s i { flowOf s i with deferred := fifoRefill (flowOf s i).deferred } := by
  simp only [refillTail, h]
  exact if_neg (by simp [hgood])

/-- A deferred list whose pointers differ is reset when it should refill. -/
theorem refillTail_deferred_of_mismatch {i k : Nat} (h : mismatchOf (flowOf s i).deferred = some k)
    (hgood : bulkBad s (.tailCell (.deferred i)) = false) : refillTail s (.deferred i) = resetFifo s (.deferred i) k := by
  simp only [refillTail, h]
  exact if_neg (by simp [hgood])

end Fifos

section Queues

variable {s : State}

/-- A queue with too many holes is rewritten, or wakes the fabric first. -/
theorem compactionOp_of_holes {q : Nat} (hholes : (queueLive s q).length + 48 < queueHoles s q) :
    compactionOp s q =
      if anyLow s tailDoms = true then accessDoms s tailDoms
      else queueCount (modShape s q fun x => { x with fifo := { x.fifo with middle := x.fifo.middle.filter (entryLive s) } }) qcCompactions 1 :=
  if_neg (by omega)

/-- The queues are sampled when their period ends; what was missed before counts. -/
theorem queueSampleOp_of_due (hperiod : s.queue.sampleMs ≠ 0) (hnow : s.queue.sampleAt ≤ s.upNs) (hruns : firmwareRuns s = true) :
    queueSampleOp s =
      let t := modQueue s fun d =>
        { d with
          samples := (List.range 64).foldl
            (fun m q => mapSet m q ((sampleOf s q (decide (s.queue.sampleAt < s.upNs)) :: mapGetD [] m q).take 256)) s.queue.samples
          sampleLost := false, sampleAt := d.sampleAt + d.sampleMs * 1000000 }
      if s.queue.sampleLost then queueCount t qcSamplesMissed 64 else t :=
  if_neg (by simp [hperiod, hruns]; omega)

/-- A bank grants the winner, and those that ask beside it starve one turn. -/
theorem arbitrationOp_of_winner {bank w : Nat} {req : W16} (hwin : arbWinner s (nth BankArb.reset s.queue.banks bank) req.toNat = some w) :
    arbitrationOp s bank req =
      let x := nth BankArb.reset s.queue.banks bank
      let t := modQueue s fun q =>
        { q with
          banks := modNth q.banks bank fun _ => { owner := some w, last := modNth x.last (arbClass s w) fun _ => w }
          grants := modNth q.grants w (· + 1), starve := modNth q.starve w fun _ => 0 }
      ((List.range 16).filter fun n => bitOf req.toNat n && n != w).foldl (starveOne bank) t := by
  simp only [arbitrationOp, hwin]

end Queues

end Sys2Proof.Proofs

/-! Settled statements of the scheduler, the queues and the memory fabric. -/

namespace Sys2Proof.Proofs

open Sys2Proof Sys2Proof.Machine Sys2Proof.Laws

/-- Settles O54: items by the cells that are free, ring entries and lifetimes by their guards, and the lists by whether their pointers agree. -/
theorem workRows : Obligations.WorkRows := by
  unfold Obligations.WorkRows
  refine ⟨?submit, ?enter, ?complete, ?fetch, ?lifetime, ?works, ?bad, ?shaping, ?ready, ?deferred, ?order, ?compaction, ?sample, ?bank⟩
  case submit => exact fun item s hruns => congrArg Host.Outcome.next (workSubmitOp_of_runs hruns)
  case enter =>
    intro item s w t f waits takes
    refine ⟨fun hnone hroom hfree => ?_, fun hnone hroom hwaits => ?_, fun hheld => submitWork_of_held hheld,
      fun hnone hsome hfew hprio => submitWork_of_refused hnone hsome hfew hprio⟩
    · exact (submitWork_of_room hnone hroom).trans <| enterWork_eq.trans <| if_neg (ne_true_of_eq_false hfree)
    · exact (submitWork_of_room hnone hroom).trans <| enterWork_eq.trans <| if_pos hwaits
  case complete =>
    intro n s w hrun
    exact congrArg Host.Outcome.next (coreCompleteOp_of_running hrun)
  case fetch =>
    intro ring e payload s r body hpcie hrun hradio htamper hon hactive hentry hroom
    have hop := txFetchOp_of_room (r := r) (body := body) rfl rfl hpcie hrun hradio htamper hon hactive hentry hroom
    exact ⟨fun hgood => congrArg Host.Outcome.next (hop.trans (if_neg (ne_true_of_eq_false hgood))),
      fun hfails => congrArg Host.Outcome.next (hop.trans (if_pos hfails))⟩
  case lifetime =>
    intro s r f t hrecord hends hnow
    have hop := lifetimeOp_of_expired hrecord hends hnow
    refine ⟨fun hlow => congrArg Host.Outcome.next (hop.trans (if_pos hlow)), fun hhigh => ?_⟩
    have hawake := hop.trans (if_neg (ne_true_of_eq_false hhigh))
    exact ⟨fun hair => congrArg Host.Outcome.next (hawake.trans (if_pos hair)),
      fun hair => congrArg Host.Outcome.next (hawake.trans (if_neg (ne_true_of_eq_false hair)))⟩
  case works =>
    intro f s a
    exact ⟨fun hlow => ⟨congrArg Host.Outcome.next (worksOn_of_low hlow), congrArg Host.Outcome.next (worksOn_of_low hlow)⟩,
      fun hon => ⟨congrArg Host.Outcome.next (worksOn_of_on hon), congrArg Host.Outcome.next (worksOn_of_on hon)⟩⟩
  case bad => exact fun f s hbad => refillTail_of_bad hbad
  case shaping =>
    exact fun q s => ⟨fun h => ⟨spillTail_shaping h, refillTail_shaping h⟩,
      fun k h => ⟨spillTail_shaping_of_mismatch h, refillTail_shaping_of_mismatch h⟩⟩
  case ready =>
    exact fun p s => ⟨fun h => ⟨spillTail_ready h, refillTail_ready h⟩,
      fun k h => ⟨spillTail_ready_of_mismatch h, refillTail_ready_of_mismatch h⟩⟩
  case deferred =>
    exact fun i s => ⟨fun h => ⟨spillTail_deferred h, refillTail_deferred h⟩,
      fun k h => ⟨spillTail_deferred_of_mismatch h, refillTail_deferred_of_mismatch h⟩⟩
  case order => exact fun f => ⟨fifoAll_fifoSpill f, fifoAll_fifoRefill f⟩
  case compaction =>
    intro q s hholes
    have hop := compactionOp_of_holes hholes
    exact ⟨fun hon => congrArg Host.Outcome.next (hop.trans (if_neg (ne_true_of_eq_false hon))),
      fun hlow => congrArg Host.Outcome.next (hop.trans (if_pos hlow))⟩
  case sample =>
    intro s hperiod hnow hruns
    exact congrArg Host.Outcome.next (queueSampleOp_of_due hperiod hnow hruns)
  case bank =>
    intro bank req s w x hwin
    exact congrArg Host.Outcome.next (arbitrationOp_of_winner hwin)

end Sys2Proof.Proofs
end

section
/-! SUPPORT. The flash records (R475), the hand-over to an image (R482), the pace and telemetry (R514, R516), campaigns (R494, R495) and tests
(R502 to R506). -/

namespace Sys2Proof.Proofs

open Sys2Proof Sys2Proof.Machine Sys2Proof.Laws

section Images

variable {s : State}

/-- The epoch record that waits is written, and goes to the twin. -/
theorem flashRecordOp_of_waiting {r : EpochRec} (hwaits : s.crypt.epochWrite = some r) :
    flashRecordOp s = replicateEpoch
      (modCrypt (programRecord s fun x => { x with epochs := some r }) fun c => { c with flashEpochs := r, epochWrite := none }) r := by
  simp only [flashRecordOp, hwaits]

/-- An image that waits for its hand-over takes over, and its activation is answered. -/
theorem handoverOp_of_waiting {b : CodeBank} (hwaits : s.fw.handover = some b) :
    handoverOp s =
      let t := stageEvent (modFw s fun f =>
        { f with
          running := some b, old := f.running, bankB := !f.bankB
          onProbation := !((s.fw.recs.probation.map (·.confirmed)).getD false), handover := none }) 3
      finishWhere t (fun op => entryCmd op.e == some .updateActivate && !argBit op.e 0) fun _ => okFigures [((runningVersion t : Nat) : Int)] := by
  simp only [handoverOp, hwaits]

end Images

section Monitors

variable {s : State} {pace mv : Nat}

/-- A pace at its floor is noted, and no more. -/
theorem paceOp_of_floor (hfloor : s.test.paceFloor ≤ pace) : paceOp s pace mv = modTest s fun t => { t with pace := pace } :=
  if_pos (by simp only [modTest, hfloor]; rfl)

/-- So is one within a second of the last event. -/
theorem paceOp_of_recent {x : Nat} (hat : s.test.paceEventAt = some x) (hnow : s.upNs < x + 1000000000) :
    paceOp s pace mv = modTest s fun t => { t with pace := pace } :=
  if_pos (by simp [modTest, hat, hnow])

/-- Any other below the floor raises its event. -/
theorem paceOp_of_below (hfloor : pace < s.test.paceFloor) (hdue : ∀ x, s.test.paceEventAt = some x → x + 1000000000 ≤ s.upNs) :
    paceOp s pace mv =
      let t := modTest s fun t => { t with pace := pace }
      raiseEvent (modTest t fun t => { t with paceEventAt := some s.upNs }) evWatchdog 2 pace s.test.paceFloor mv := by
  have hnow : (match s.test.paceEventAt with | some t => decide (t + 1000000000 ≤ s.upNs) | none => true) = true := by
    cases hat : s.test.paceEventAt with
    | none => rfl
    | some x => exact decide_eq_true (hdue x hat)
  have hlow : decide (s.test.paceFloor ≤ pace) = false := decide_eq_false (Nat.not_le.mpr hfloor)
  exact if_neg (by simp [modTest]; exact ⟨hlow, hnow⟩)

/-- Telemetry is sampled when its period ends. -/
theorem telemetryOp_of_due (r : Readings) (hnow : s.test.telemAt ≤ s.upNs) (hruns : firmwareRuns s = true) :
    telemetryOp s r = modTest (accessDoms s [13]) fun t =>
      { t with
        telemetry := (({ timeNs := s.clk.timeNs, pace := r.pace, late := s.test.telemLost || decide (s.test.telemAt < s.upNs)
                         tempMaxQ := r.tempMaxQ, tempMinQ := r.tempMinQ, vcoreMv := r.vcoreMv, vaonMv := r.vaonMv, descInUse := descriptorsInUse s
                         granulesFree := 8192 - granulesInUse s, cmdsOutstanding := s.host.fetched.length + s.host.longOps.length
                         contextsBusy := contextsBusy s } : Telemetry) :: t.telemetry).take 1024
        telemAt := t.telemAt + t.telemMs * 1000000, telemLost := false, pace := r.pace.toNat } :=
  if_neg (by simp [hruns]; omega)

end Monitors

section Campaigns

variable {s : State} {k : Nat}

/-- A round that is reached begins, or ends the campaign past its last. -/
theorem roundStartOp_of_reached (hreached : reachedRound s = some k) (hruns : campaignRuns s = true)
    (hnew : ∀ r, s.cmp.round = some r → r < k) :
    roundStartOp s =
      let t := closeCollection s
      if t.cmp.maxRounds ≤ k then endCampaign t
      else
        let u := modCmp t fun c => { c with round := some k }
        announceTo (if u.cmp.planRound = some k then u else openRound u k) fun t => t.state == 0 := by
  have hfresh : (match s.cmp.round with | some r => decide (k ≤ r) | none => false) = false := by
    cases hround : s.cmp.round with
    | none => rfl
    | some r => exact decide_eq_false (Nat.not_le.mpr (hnew r hround))
  simp only [roundStartOp, hreached]
  exact if_neg (by simp [hruns]; exact hfresh)

/-- The collection of a round begins after its broadcast slots. -/
theorem collectionOp_of_reached (hround : s.cmp.round = some k) (hruns : campaignRuns s = true) (hopen : s.cmp.collecting = false)
    (hslot : s.cmp.startAsn + k * s.cmp.roundSlots + s.cmp.bcastSlots ≤ currentAsn s) :
    collectionOp s = endIfDone (modCmp s fun c =>
      { c with collecting := true, want := [], targets := c.targets.map fun t => { t with heard := false } }) := by
  simp only [collectionOp, hround]
  exact if_neg (by simp [hruns, hopen, hslot])

end Campaigns

section Tests

variable {s : State} {t : TestRun}

/-- A test ends with its duration. -/
theorem testDurationOp_of_ended {r x : Nat} (hrun : runOf s r = some t) (hend : t.endAt = some x) (hnow : x ≤ s.upNs) :
    testDurationOp s r = stopTest s r causeDuration := by
  simp only [testDurationOp, hrun, Option.bind_some, hend]
  exact if_pos hnow

/-- A lane of a running test that checks changes where it meets the condition. -/
theorem checkLane_of_lane {link lane : Nat} {l : LaneCheck} (hrun : runOf s link = some t) (hruns : t.running = true) (hdir : t.dir ≠ 1)
    (hlane : t.lanes[lane]? = some l) {p : LaneCheck → Bool} (hp : p l = true) (f : LaneCheck → LaneCheck) :
    checkLane s link lane p f = modRun s link fun t => { t with lanes := modNth t.lanes lane f } := by
  have hnth : nth none (t.lanes.map some) lane = some l := by simp [nth, hlane]
  simp only [checkLane, hrun]
  exact if_pos (by simp [hruns, hdir, hnth, hp])

/-- The state after a radio test counts the frame it sends. -/
def testSent (s : State) (b : Band) : State :=
  testCount (modRun s (5 + bandNum b) fun t => { t with seqTx := (t.seqTx + 1) % 2 ^ 32, lastTx := some s.upNs }) (5 + bandNum b) 0 1

/-- A radio test whose next frame is due sends it: through the receiver alone, or on the air. -/
theorem testFrameOp_of_due {b : Band} (hrun : runOf s (5 + bandNum b) = some t) (hruns : t.running = true) (hkind : t.kind = 2 ∨ t.kind = 3)
    (hdue : ∀ x, t.lastTx = some x → x + t.intervalUs * 1000 ≤ s.upNs) (hmore : t.count = 0 ∨ nth 0 t.counts 0 < t.count) :
    testFrameOp s b =
      let u := testSent s b
      if t.kind = 2 then u
      else { u with path := { u.path with air := u.path.air ++ [modulate (profileOf u t.profile)
        { band := bandNum b, channel := t.channel, profile := t.profile, kind := 8, tA := nowNs u, counter := 0, phy := 0
          psdu := testPsdu u t.len t.seqTx, wave := .none
          levelQ := outputLevelQ (u.radio.tx.get b) (((profileOf u t.profile).map isOfdm).getD false) 0 } 0 0 mapZero true 0] } } := by
  have hnow : (match t.lastTx with | some x => decide (x + t.intervalUs * 1000 ≤ s.upNs) | none => true) = true := by
    cases hat : t.lastTx with
    | none => rfl
    | some x => exact decide_eq_true (hdue x hat)
  have hsends : (t.kind != 2 && t.kind != 3) = false := by
    rcases hkind with h | h <;> simp [h]
  have hleft : (t.count != 0 && decide (t.count ≤ nth 0 t.counts 0)) = false := by
    rcases hmore with h | h
    · simp [h]
    · simp [Nat.not_le.mpr h]
  simp only [testFrameOp, hrun]
  refine if_neg ?_
  simp only [hruns, hsends, hleft, Bool.not_true, Bool.false_or, Bool.or_false, Bool.not_eq_true, Bool.not_eq_false']
  exact hnow

/-- The frame of a test of kind 3 goes on the air in its profile. -/
theorem testFrameOp_of_air {b : Band} {p : AirProfile} (hrun : runOf s (5 + bandNum b) = some t) (hruns : t.running = true)
    (hkind : t.kind = 3) (hdue : ∀ x, t.lastTx = some x → x + t.intervalUs * 1000 ≤ s.upNs)
    (hmore : t.count = 0 ∨ nth 0 t.counts 0 < t.count) (hp : profileOf (testSent s b) t.profile = some p) :
    testFrameOp s b =
      let u := testSent s b
      { u with path := { u.path with air := u.path.air ++ [modulate (some p)
        { band := bandNum b, channel := t.channel, profile := t.profile, kind := 8, tA := nowNs u, counter := 0, phy := 0
          psdu := testPsdu u t.len t.seqTx, wave := .none
          levelQ := outputLevelQ (u.radio.tx.get b) (isOfdm p) 0 } 0 0 mapZero true 0] } } := by
  have hop := (testFrameOp_of_due hrun hruns (.inr hkind) hdue hmore).trans (if_neg (by simp [hkind]))
  rw [hp] at hop
  exact hop

end Tests

end Sys2Proof.Proofs

/-! Settled statements of flash records, campaigns and tests. -/

namespace Sys2Proof.Proofs

open Sys2Proof Sys2Proof.Machine Sys2Proof.Laws

/-- Settles O55: each event by the record, the round, the run or the instant that makes it due. -/
theorem serviceRows : Obligations.ServiceRows := by
  unfold Obligations.ServiceRows
  refine ⟨?record, ?erase, ?handover, ?pace, ?telemetry, ?round, ?collection, ?duration, ?checker, ?frame⟩
  case record =>
    intro s r hwaits
    exact congrArg Host.Outcome.next (flashRecordOp_of_waiting hwaits)
  case erase => exact fun s => rfl
  case handover =>
    intro s b hwaits
    exact congrArg Host.Outcome.next (handoverOp_of_waiting hwaits)
  case pace =>
    intro pace mv s t
    exact ⟨fun hfloor => congrArg Host.Outcome.next (paceOp_of_floor hfloor),
      fun x hat hnow => congrArg Host.Outcome.next (paceOp_of_recent hat hnow),
      fun hfloor hdue => congrArg Host.Outcome.next (paceOp_of_below hfloor hdue)⟩
  case telemetry =>
    intro r s hnow hruns
    exact congrArg Host.Outcome.next (telemetryOp_of_due r hnow hruns)
  case round =>
    intro s k hreached hruns hnew t
    have hop := roundStartOp_of_reached hreached hruns hnew
    exact ⟨fun hlast => congrArg Host.Outcome.next (hop.trans (if_pos hlast)),
      fun hmore => congrArg Host.Outcome.next (hop.trans (if_neg (Nat.not_le.mpr hmore)))⟩
  case collection =>
    intro s k hround hruns hopen hslot
    exact congrArg Host.Outcome.next (collectionOp_of_reached hround hruns hopen hslot)
  case duration =>
    intro r s t x hrun hend hnow
    exact congrArg Host.Outcome.next (testDurationOp_of_ended hrun hend hnow)
  case checker =>
    intro link lane s t l hrun hruns hdir hlane
    refine ⟨fun hopen => ?_, fun bits hlocked => ?_⟩
    · exact congrArg Host.Outcome.next (checkLane_of_lane hrun hruns hdir hlane (by simp [hopen]) _)
    · exact congrArg Host.Outcome.next (checkLane_of_lane (s := (drawBelow s (bits - 1024 + 1)).2) hrun hruns hdir hlane hlocked _)
  case frame =>
    intro b s t hrun hruns hkind hdue hmore u
    refine ⟨fun hloop => ?_, fun p hair hp => ?_⟩
    · exact congrArg Host.Outcome.next ((testFrameOp_of_due hrun hruns hkind hdue hmore).trans (if_pos hloop))
    · exact congrArg Host.Outcome.next (testFrameOp_of_air hrun hruns hair hdue hmore hp)

end Sys2Proof.Proofs
end
